-- ==== Sys2Proof/Word.lean ====
section
/-! DEFINITION. The word types of the model. Register fields, addresses and message fields are natural numbers that
the operations cut to their width; the data of a memory cell and of a scalar register are bit vectors. -/
namespace Sys2Proof

/-- One byte of memory. -/
abbrev Byte := BitVec 8

/-- A word of the scalar core (RV32IMC, R95). -/
abbrev Word32 := BitVec 32

/-- A 64-bit quantity: the timestamp (R390), a signal word (R212), a tidemark (R21). -/
abbrev Word64 := BitVec 64

end Sys2Proof
end

