-- ==== Sys2Proof/Config.lean ====
section
/-! DEFINITION. The free values of the model: constants without a body, so that nothing can be proved of them. Each
stands for a value that spec/ leaves open, does not publish or that comes from outside the package. -/
namespace Sys2Proof.Config

/-- What an undefined byte of memory reads as: `tag` tells one loss of contents from another (R147, R148, R259). -/
opaque freeByte (tag addr : Nat) : BitVec 8

/-- The published tables of EXP2 and LOG2 (R176) are not part of spec/: a candidate for the FP32 code of a result that no
exact case of R174 and no special case of R175 fixes, which holds where it meets the bound of R174. `fn` is the VOP
code. -/
opaque vectorFunction (fn input : Nat) : BitVec 32

/-- Which of the two FP32 values around the exact result RECIP or RSQRT returns (R174, R176). -/
opaque vectorRounding (fn input : Nat) : Bool

/-- Random words of the porter's entropy source (R437): word `n` drawn since the model began. -/
opaque random (n : Nat) : BitVec 32

/-- Byte `i` of SHAKE256 of a byte string (R404, R426, R432): the hash function is named by spec/, not defined there. -/
opaque shakeByte (data : List Nat) (i : Nat) : BitVec 8

/-- SHAKE256 of a byte string: its first `n` bytes. -/
def shake256 (data : List Nat) (n : Nat) : List Nat := (List.range n).map fun i => (shakeByte data i).toNat

/-- AES-256-GCM (R280): the words of the ciphertext of a group, by the key's bytes, the initialisation vector, and the words
of the additional authenticated data and of the plaintext. The cipher is named by spec/, not defined there. -/
opaque gcmText (key : List Nat) (iv : Nat) (aad plain : List Nat) : List Nat

/-- The 128-bit tag of AES-256-GCM over the additional authenticated data and a ciphertext (R280). -/
opaque gcmTag (key : List Nat) (iv : Nat) (aad text : List Nat) : Nat

/-- Byte `i` of the signature the porter writes over a quote (R434), by the device identity key and the quote's bytes. -/
opaque signatureByte (key data : List Nat) (i : Nat) : BitVec 8

/-- Byte `i` of the public key of the device identity key (R433): the signature scheme is named by spec/, not defined there. -/
opaque publicByte (key : List Nat) (i : Nat) : BitVec 8

/-- Byte `i` of the manufacturing certificate (R433), by the bytes that it signs: Aedryn's key is not part of spec/. -/
opaque certificateByte (data : List Nat) (i : Nat) : BitVec 8

/-- The calibrated value of a reading by the bytes of its calibration record (R444, R446): spec/ names the record's fields and
not the arithmetic, nor how its result is rounded. `type` is the record's. -/
opaque calibrated (type : Nat) (value : List Nat) (reading : Int) : Int

/-- A tile's signature register after a pass of the array self-test (R468), by the pass and what it held before: neither the
operands' LFSR nor the fold is part of spec/. -/
opaque arrayFold (pass signature : Nat) : Nat

/-- The die stepping and Aedryn's JEP106 code in IDCODE (R470), which spec/ does not publish. -/
opaque stepping : Nat
opaque jep106 : Nat

/-- Does the SLH-DSA signature at the end of an image or record verify under a public key (R429)? -/
opaque signed (key data : List Nat) : Bool

/-- The hash of Aedryn's image key in the boot ROM (R426, R429). -/
opaque imageKeyHash : Nat

/-- Byte `a` of Lighthouse's 128 KiB mask boot ROM (R411). -/
opaque bootRom (a : Nat) : BitVec 8

/-- What fixes the ring length R of a Long-ring installation (R319, R327): no register or table of the package holds it when the
ports are formed. -/
opaque ringLength : Nat

/-- A value spec/ does not state for an operand that ordinary data can bring: `site` names the place. -/
opaque unstated (site arg : Nat) : Nat

/-- Does mtval hold the instruction of an illegal-instruction exception (cause 2), or its address at a breakpoint (cause
3), or 0? The RISC-V privileged rules that R96 names leave it to the implementation. -/
opaque trapValue (cause : Nat) : Bool

end Sys2Proof.Config
end

