-- ==== Sys2Proof/Machine/Keyed.lean ====
section
/-! DEFINITION. Bit-field helpers, and the sparse tables that hold everything the package has many of (register
fields, tiles, slots, ports): a list of key and value pairs, keys rising, in which an entry equal to the table's
default value is not listed. `SMap.get` and `SMap.set` are the only ways in and out. -/
namespace Sys2Proof.Machine

/-- Bits `[hi:lo]` of a natural number (R8: bit 0 is the least significant, both end bits included). -/
def bits (v hi lo : Nat) : Nat := v / 2 ^ lo % 2 ^ (hi + 1 - lo)

/-- Bit `i` of a natural number, as a number. -/
def bit (v i : Nat) : Nat := v / 2 ^ i % 2

/-- Is bit `i` of `v` set? -/
def hasBit (v i : Nat) : Bool := v / 2 ^ i % 2 == 1

/-- `v` with bits `[hi:lo]` replaced by the low bits of `x`. -/
def withBits (v hi lo x : Nat) : Nat :=
  v - v / 2 ^ lo % 2 ^ (hi + 1 - lo) * 2 ^ lo + x % 2 ^ (hi + 1 - lo) * 2 ^ lo

/-- `v` with bit `i` set. -/
def setBit (v i : Nat) : Nat := withBits v i i 1

/-- `v` with bit `i` clear. -/
def clearBit (v i : Nat) : Nat := withBits v i i 0

/-- A Boolean as a bit. -/
def b2n (b : Bool) : Nat := if b then 1 else 0

/-- The value `v` reads as in a saturating counter of `w` bits. -/
def satNat (w v : Nat) : Nat := min v (2 ^ w - 1)

/-- `v` as a two's complement number of `w` bits. -/
def toSigned (w v : Nat) : Int := if v % 2 ^ w < 2 ^ (w - 1) then (v % 2 ^ w : Nat) else (v % 2 ^ w : Nat) - (2 ^ w : Nat)

/-- The `w`-bit two's complement code of an integer. -/
def ofSigned (w : Nat) (v : Int) : Nat := (v % (2 ^ w : Nat)).toNat

/-- `v` rounded up to a multiple of `n` (of a positive `n`). -/
def roundUp (v n : Nat) : Nat := (v + n - 1) / n * n

/-- The number of set bits of `v` among bits 0 to `w - 1`. -/
def popcount (w v : Nat) : Nat := (List.range w).foldl (fun n i => n + bit v i) 0

/-- The key of an entry of a sparse table: up to three numbers (a register field, an instance and an index; a tile and
a context; a port). -/
structure Key where
  a : Nat
  b : Nat := 0
  c : Nat := 0
deriving DecidableEq, Repr

/-- The order of the keys: by the first number, then the second, then the third. -/
def Key.lt (x y : Key) : Bool :=
  decide (x.a < y.a) || (decide (x.a = y.a) && (decide (x.b < y.b) || (decide (x.b = y.b) && decide (x.c < y.c))))

/-- A sparse table. -/
abbrev SMap (α : Type) := List (Key × α)

/-- The listed value of a key. -/
def SMap.find {α : Type} : SMap α → Key → Option α
  | [], _ => none
  | (k', v) :: m, k => if k' = k then some v else SMap.find m k

/-- The value of a key: the listed one, or the table's default `d`. -/
def SMap.get {α : Type} (m : SMap α) (k : Key) (d : α) : α := (SMap.find m k).getD d

/-- The table with the entry of one key replaced or added, in the order of the keys. -/
def SMap.insert {α : Type} : SMap α → Key → α → SMap α
  | [], k, v => [(k, v)]
  | (k', v') :: m, k, v =>
    if k' = k then (k, v) :: m
    else if k'.lt k then (k', v') :: SMap.insert m k v
    else (k, v) :: (k', v') :: m

/-- The table without the entry of one key. -/
def SMap.erase {α : Type} (m : SMap α) (k : Key) : SMap α := m.filter fun e => decide (e.1 ≠ k)

/-- The table with the value of one key set, where `d` is the table's default value of that key. -/
def SMap.set {α : Type} [DecidableEq α] (m : SMap α) (k : Key) (d v : α) : SMap α :=
  if v = d then SMap.erase m k else SMap.insert m k v

/-- The table without the entries whose keys `p` names: their values are the default again. -/
def SMap.drop {α : Type} (m : SMap α) (p : Key → Bool) : SMap α := m.filter fun e => !p e.1

/-- Every key rises. -/
def SMap.rising {α : Type} : SMap α → Bool
  | [] => true
  | [_] => true
  | (k, _) :: (k', v') :: m => k.lt k' && SMap.rising ((k', v') :: m)

/-- The list without its first element that satisfies `p`. -/
def removeFirst {α : Type} (p : α → Bool) : List α → List α
  | [] => []
  | x :: xs => if p x then xs else x :: removeFirst p xs

/-- The list with element `i` replaced (unchanged where it has none). -/
def setAt {α : Type} : List α → Nat → α → List α
  | [], _, _ => []
  | _ :: xs, 0, v => v :: xs
  | x :: xs, i + 1, v => x :: setAt xs i v

end Sys2Proof.Machine
end

