-- ==== Sys2Proof/Machine/Numerics.lean ====
section
/-! DEFINITION. Number formats, rounding, group sums and the stochastic-rounding generator (spec/06_numerics.md,
R151 to R176). A value is a NaN, an infinity or an exact dyadic number `± m × 2 ^ e`; every operation is exact until it
rounds once to a format. -/
namespace Sys2Proof.Machine

/-- The format codes of R103. -/
inductive Fmt where
  | fp32 | bf16 | fp16 | e4m3 | e5m2 | mxE4m3 | mxE5m2 | mxE3m2 | mxE2m3 | mxFp4 | mxInt8 | int8 | int4
deriving DecidableEq, Repr

/-- The format a code names; codes 0b1101 to 0b1111 are reserved (R103). -/
def Fmt.ofCode : Nat → Option Fmt
  | 0 => some .fp32 | 1 => some .bf16 | 2 => some .fp16 | 3 => some .e4m3 | 4 => some .e5m2
  | 5 => some .mxE4m3 | 6 => some .mxE5m2 | 7 => some .mxE3m2 | 8 => some .mxE2m3 | 9 => some .mxFp4
  | 10 => some .mxInt8 | 11 => some .int8 | 12 => some .int4 | _ => none

/-- Does the format carry MX scales (R155)? -/
def Fmt.isMx : Fmt → Bool
  | .mxE4m3 | .mxE5m2 | .mxE3m2 | .mxE2m3 | .mxFp4 | .mxInt8 => true
  | .fp32 | .bf16 | .fp16 | .e4m3 | .e5m2 | .int8 | .int4 => false

/-- Bits of one element (R151, R152). -/
def Fmt.width : Fmt → Nat
  | .fp32 => 32 | .bf16 => 16 | .fp16 => 16 | .e4m3 => 8 | .e5m2 => 8 | .mxE4m3 => 8 | .mxE5m2 => 8
  | .mxE3m2 => 6 | .mxE2m3 => 6 | .mxFp4 => 4 | .mxInt8 => 8 | .int8 => 8 | .int4 => 4

/-- What the top exponent field of a floating-point format encodes (R151). -/
inductive TopField where
  | ieee      -- infinity and NaN
  | oneNan    -- only the all-ones code is NaN (FP8 E4M3)
  | finite    -- finite values only (FP6, FP4)
deriving DecidableEq, Repr

/-- The layout of a floating-point element: exponent bits, mantissa bits, bias, top field (R151). -/
structure FpSpec where
  ebits : Nat
  mbits : Nat
  bias : Nat
  top : TopField
deriving DecidableEq, Repr

/-- The layout of a floating-point format, or of the elements of an MX format; integers have none (R151). -/
def Fmt.fp : Fmt → Option FpSpec
  | .fp32 => some ⟨8, 23, 127, .ieee⟩
  | .bf16 => some ⟨8, 7, 127, .ieee⟩
  | .fp16 => some ⟨5, 10, 15, .ieee⟩
  | .e4m3 | .mxE4m3 => some ⟨4, 3, 7, .oneNan⟩
  | .e5m2 | .mxE5m2 => some ⟨5, 2, 15, .ieee⟩
  | .mxE3m2 => some ⟨3, 2, 3, .finite⟩
  | .mxE2m3 => some ⟨2, 3, 1, .finite⟩
  | .mxFp4 => some ⟨2, 1, 1, .finite⟩
  | .mxInt8 | .int8 | .int4 => none

/-- An exact value: NaN, an infinity, or `(-1)^neg × m × 2^e`. -/
inductive Val where
  | nan
  | inf (neg : Bool)
  | fin (neg : Bool) (m : Nat) (e : Int)
deriving DecidableEq, Repr

/-- Zero of a sign. -/
def Val.zero (neg : Bool) : Val := .fin neg 0 0

/-- The value of an integer. -/
def Val.ofInt (n : Int) (e : Int) : Val := .fin (decide (n < 0)) n.natAbs e

/-- The value of an element code; with `ftz`, a subnormal code reads as zero of its sign (R151, R152, R157). -/
def Fmt.decode (f : Fmt) (ftz : Bool) (code : Nat) : Val :=
  match f.fp with
  | none =>
    let w := f.width
    let n := toSigned w code
    Val.ofInt n (if f = .mxInt8 then -6 else 0)
  | some p =>
    let neg := hasBit code (p.ebits + p.mbits)
    let ex := bits code (p.ebits + p.mbits - 1) p.mbits
    let ma := code % 2 ^ p.mbits
    if p.top = .ieee ∧ ex = 2 ^ p.ebits - 1 then (if ma = 0 then .inf neg else .nan)
    else if p.top = .oneNan ∧ ex = 2 ^ p.ebits - 1 ∧ ma = 2 ^ p.mbits - 1 then .nan
    else if ex = 0 then (if ftz then .zero neg else .fin neg ma (1 - (p.bias : Int) - p.mbits))
    else .fin neg (2 ^ p.mbits + ma) ((ex : Int) - p.bias - p.mbits)

/-- The exponent of the leading bit of a non-zero magnitude `m × 2^e`. -/
def leadExp (m : Nat) (e : Int) : Int := (Nat.log2 m : Int) + e

/-- How a conversion rounds: to nearest even, or stochastically with a random word (R166, R171). -/
inductive Rounding where
  | nearestEven
  | stochastic (r : Nat)
deriving DecidableEq, Repr

/-- `m × 2^d` as a multiple of 1: the quotient, the remainder and the divisor. -/
def scaled (m : Nat) (d : Int) : Nat × Nat × Nat :=
  if 0 ≤ d then (m * 2 ^ d.toNat, 0, 1) else (m / 2 ^ (-d).toNat, m % 2 ^ (-d).toNat, 2 ^ (-d).toNat)

/-- Rounding a quotient with its remainder: to nearest even, or up when the random word is below the fraction in units
of 2^-32 (R166, R171). -/
def roundQuot (md : Rounding) (q rem dv : Nat) : Nat :=
  match md with
  | .nearestEven => if 2 * rem > dv ∨ (2 * rem = dv ∧ q % 2 = 1) then q + 1 else q
  | .stochastic r => if rem ≠ 0 ∧ r < rem * 2 ^ 32 / dv then q + 1 else q

/-- The largest finite magnitude code of a floating-point layout (R151). -/
def FpSpec.maxCode (p : FpSpec) : Nat :=
  match p.top with
  | .ieee => (2 ^ p.ebits - 1) * 2 ^ p.mbits - 1
  | .oneNan => 2 ^ (p.ebits + p.mbits) - 2
  | .finite => 2 ^ (p.ebits + p.mbits) - 1

/-- The canonical NaN of a layout (R154); a layout without NaN has none and takes the code of +0. -/
def FpSpec.nanCode (p : FpSpec) : Nat :=
  match p.top with
  | .ieee => (2 ^ p.ebits - 1) * 2 ^ p.mbits + 2 ^ (p.mbits - 1)
  | .oneNan => 2 ^ (p.ebits + p.mbits) - 1
  | .finite => 0

/-- The magnitude code that a value above the largest finite one narrows to: infinity in FP32, BF16 and FP16, the
largest finite value in the 8-bit and smaller formats (R166). -/
def FpSpec.overflowCode (p : FpSpec) : Nat :=
  if p.top = .ieee ∧ 8 < p.ebits + p.mbits then (2 ^ p.ebits - 1) * 2 ^ p.mbits else p.maxCode

/-- The magnitude code of an infinity: infinity where the format has one, NaN in E4M3, the largest finite value in the
formats that have neither (R166). -/
def FpSpec.infCode (p : FpSpec) : Nat :=
  match p.top with
  | .ieee => (2 ^ p.ebits - 1) * 2 ^ p.mbits
  | .oneNan => p.nanCode
  | .finite => p.maxCode

/-- The sign bit of a layout in place. -/
def FpSpec.signBit (p : FpSpec) (neg : Bool) : Nat := if neg then 2 ^ (p.ebits + p.mbits) else 0

/-- Narrowing to a floating-point layout with one rounding (R166, R171). -/
def FpSpec.encode (p : FpSpec) (md : Rounding) : Val → Nat
  | .nan => p.nanCode
  | .inf neg => if p.top = .oneNan then p.infCode else p.signBit neg + p.infCode
  | .fin neg m e =>
    if m = 0 then p.signBit neg
    else
      let emin : Int := 1 - p.bias
      let ex := max (leadExp m e) emin
      let (q, rem, dv) := scaled m (e - (ex - p.mbits))
      let topExp : Int := (p.maxCode / 2 ^ p.mbits : Nat) - p.bias
      let far : Bool := decide (leadExp m e ≥ topExp + 1)
      let n := if rem = 0 then q else roundQuot md q rem dv
      let code := (ex + p.bias - 1).toNat * 2 ^ p.mbits + n
      if far || decide (p.maxCode < code) then p.signBit neg + p.overflowCode
      else p.signBit neg + code

/-- Rounding a value to an integer and saturating it to `w` bits of two's complement; NaN converts to 0 (R166). -/
def encodeInt (w : Nat) (md : Rounding) : Val → Nat
  | .nan => 0
  | .inf neg => if neg then 2 ^ (w - 1) else 2 ^ (w - 1) - 1
  | .fin neg m e =>
    let (q, rem, dv) := scaled m e
    let n := if rem = 0 then q else roundQuot md q rem dv
    if neg then (if n > 2 ^ (w - 1) then 2 ^ (w - 1) else (2 ^ w - n) % 2 ^ w) else min n (2 ^ (w - 1) - 1)

/-- Narrowing to the element format of a code (R166, R167: an MXINT8 element counts sixty-fourths). -/
def Fmt.encode (f : Fmt) (md : Rounding) (v : Val) : Nat :=
  match f.fp with
  | some p => p.encode md v
  | none =>
    match f, v with
    | .mxInt8, .fin neg m e => encodeInt 8 md (.fin neg m (e + 6))
    | .int4, v => encodeInt 4 md v
    | _, v => encodeInt 8 md v

/-- A value times a power of two. -/
def Val.scale (v : Val) (k : Int) : Val :=
  match v with
  | .nan => .nan
  | .inf n => .inf n
  | .fin n m e => .fin n m (e + k)

/-- The exact product (R158, R159: zero times infinity is NaN). -/
def Val.mul : Val → Val → Val
  | .nan, _ => .nan
  | _, .nan => .nan
  | .inf a, .inf b => .inf (a != b)
  | .inf a, .fin b m _ => if m = 0 then .nan else .inf (a != b)
  | .fin a m _, .inf b => if m = 0 then .nan else .inf (a != b)
  | .fin a m e, .fin b n f => .fin (a != b) (m * n) (e + f)

/-- The signed integer that a finite value is in units of `2^e0` (`e0` at or below its exponent). -/
def Val.units (neg : Bool) (m : Nat) (e e0 : Int) : Int :=
  let n : Int := (m * 2 ^ (e - e0).toNat : Nat)
  if neg then -n else n

/-- The exact sum of two values, with the signs of zero and the special cases of R163. -/
def Val.add : Val → Val → Val
  | .nan, _ => .nan
  | _, .nan => .nan
  | .inf a, .inf b => if a = b then .inf a else .nan
  | .inf a, .fin _ _ _ => .inf a
  | .fin _ _ _, .inf b => .inf b
  | .fin a m e, .fin b n f =>
    let e0 := min e f
    let s := Val.units a m e e0 + Val.units b n f e0
    if s = 0 then .zero (a && b) else Val.ofInt s e0

/-- The value with its sign turned. -/
def Val.neg : Val → Val
  | .nan => .nan
  | .inf a => .inf (!a)
  | .fin a m e => .fin (!a) m e

/-- Numerical order of two values that are not NaN, with -0.0 below +0.0 (R173). -/
def Val.le (x y : Val) : Bool :=
  match x, y with
  | .inf true, _ => true
  | _, .inf false => true
  | .inf false, _ => false
  | _, .inf true => false
  | .fin a m e, .fin b n f =>
    let e0 := min e f
    let u := Val.units a m e e0
    let v := Val.units b n f e0
    if u = v then (a || !b) else decide (u < v)
  | _, _ => false

/-- The FP32 code of a value rounded to nearest even: `round_rne_fp32` of R160. -/
def roundFp32 (v : Val) : Nat := Fmt.encode .fp32 .nearestEven v

/-- The value of an FP32 code. -/
def ofFp32 (c : Nat) : Val := Fmt.decode .fp32 false c

/-- One FP32 addition rounded to nearest even (R163). -/
def addFp32 (a b : Nat) : Nat := roundFp32 (Val.add (ofFp32 a) (ofFp32 b))

/-- An FP32 code whose magnitude is below 2^-126 as zero of its sign, with flush-to-zero (R157). -/
def flushFp32 (ftz : Bool) (c : Nat) : Nat := if ftz && bits c 30 23 == 0 then c / 2 ^ 31 * 2 ^ 31 else c

/-- One product of a group with the power of two of its scales (R158, R160); `none` where a scale is NaN. -/
abbrev Product := Val × Option Int

/-- The special values of a group (R159): `some` the FP32 code the group sum then has. -/
def groupSpecial (ps : List Product) : Option Nat :=
  if ps.any fun p => p.1 = .nan ∨ p.2 = none then some 0x7FC00000
  else
    let pos := ps.any fun p => p.1 = .inf false
    let neg := ps.any fun p => p.1 = .inf true
    if pos && neg then some 0x7FC00000
    else if pos then some 0x7F800000
    else if neg then some 0xFF800000
    else none

/-- The code of a group whose finite products sum to exactly zero: -0.0 if every product is a negative zero, +0.0
otherwise (R162). -/
def zeroSum (ps : List Product) : Nat :=
  if ps.all fun p => match p.1 with | .fin true 0 _ => true | _ => false then 0x80000000 else 0

/-- The group sum under the exact rule (R160): the products with their scales summed exactly and rounded once. -/
def groupExact (ps : List Product) : Nat :=
  match groupSpecial ps with
  | some c => c
  | none =>
    let s := ps.foldl (fun acc p => Val.add acc (p.1.scale (p.2.getD 0))) (.zero false)
    match s with
    | .fin _ 0 _ => zeroSum ps
    | v => roundFp32 v

/-- The group sum under the aligned rule (R161): a window of 32 bits below the largest leading bit and a sticky bit. -/
def groupAligned (ps : List Product) : Nat :=
  match groupSpecial ps with
  | some c => c
  | none =>
    let live := ps.filterMap fun p => match p.1 with
      | .fin n m e => if m = 0 then none else some (n, m, e)
      | _ => none
    match live with
    | [] => zeroSum ps
    | (_, m0, e0) :: rest =>
      let top := rest.foldl (fun a (x : Bool × Nat × Int) => max a (leadExp x.2.1 x.2.2)) (leadExp m0 e0)
      let q : Int := top - 31
      let (s, sticky) := live.foldl (fun (acc : Int × Bool) (x : Bool × Nat × Int) =>
        let (k, rem, _) := scaled x.2.1 (x.2.2 - q)
        (acc.1 + (if x.1 then -(k : Int) else (k : Int)), acc.2 || decide (rem ≠ 0))) (0, false)
      if s = 0 then 0
      else if sticky then roundFp32 (Val.ofInt (4 * s + (if s < 0 then -1 else 1)) (q - 2))
      else roundFp32 (Val.ofInt s q)

/-- The E8M0 scale byte as a power of two; 0xFF is NaN (R152). -/
def scaleExp (b : Nat) : Option Int := if b = 0xFF then none else some ((b : Int) - 127)

/-! ### Philox-4×32-10 (R169, R170) -/

/-- One round of Philox-4×32 in its published form. -/
def philoxRound (k : Nat × Nat) (c : Nat × Nat × Nat × Nat) : Nat × Nat × Nat × Nat :=
  let (c0, c1, c2, c3) := c
  let p0 := 0xD2511F53 * c0
  let p1 := 0xCD9E8D57 * c2
  (Nat.xor (Nat.xor (p1 / 2 ^ 32) c1) k.1, p1 % 2 ^ 32, Nat.xor (Nat.xor (p0 / 2 ^ 32) c3) k.2, p0 % 2 ^ 32)

/-- `n` rounds, the key raised between them. -/
def philoxRounds : Nat → Nat × Nat → Nat × Nat × Nat × Nat → Nat × Nat × Nat × Nat
  | 0, _, c => c
  | n + 1, k, c => philoxRounds n ((k.1 + 0x9E3779B9) % 2 ^ 32, (k.2 + 0xBB67AE85) % 2 ^ 32) (philoxRound k c)

/-- Philox-4×32-10. -/
def philox (k : Nat × Nat) (c : Nat × Nat × Nat × Nat) : Nat × Nat × Nat × Nat := philoxRounds 10 k c

/-- The stochastic rounding key of a tensor (R169). -/
def srKey (seed tensor : Nat) : Nat × Nat :=
  let r := philox (bits seed 31 0, bits seed 63 32) (bits seed 95 64, bits seed 127 96, tensor % 2 ^ 20, 0)
  (r.1, r.2.1)

/-- The random word of one rounding (R170). -/
def srWord (seed tensor tidemark e : Nat) : Nat :=
  (philox (srKey seed tensor) (bits tidemark 31 0, bits tidemark 63 32, bits e 31 0, bits e 63 32)).1

/-! ### The adds of a backward lap (R73, R75) -/

/-- The riding add of element `i` of tensor `t` at add-order index `k` (R73): the exact sum of the widened accumulator
entry and the package's FP32 contribution, rounded once, in BF16 stochastically with the counter `k × 2^48 + i` (R172). -/
def ridingAdd (bf16 : Bool) (seed tensor tidemark k i a c : Nat) : Nat :=
  let s := Val.add (Fmt.decode (if bf16 then .bf16 else .fp32) false a) (ofFp32 c)
  if bf16 then Fmt.encode .bf16 (.stochastic (srWord seed tensor tidemark (k * 2 ^ 48 + i))) s else roundFp32 s

/-- The home's last add (R75): rounded once to FP32, whatever the accumulator format. -/
def lastAdd (bf16 : Bool) (a c : Nat) : Nat :=
  roundFp32 (Val.add (Fmt.decode (if bf16 then .bf16 else .fp32) false a) (ofFp32 c))

/-! ### Packed elements and MX blocks -/

/-- Element `i` of `w` bits of a little-endian run of bytes held as one number (R153). -/
def elemAt (run w i : Nat) : Nat := run / 2 ^ (w * i) % 2 ^ w

/-- The number whose elements of `w` bits are the list, element 0 lowest (R153). -/
def packElems (w : Nat) : List Nat → Nat
  | [] => 0
  | x :: xs => x % 2 ^ w + 2 ^ w * packElems w xs

/-- The power of two of the largest binade of an MX element format (R167). -/
def Fmt.emax : Fmt → Int
  | .mxE4m3 => 8 | .mxE5m2 => 15 | .mxE3m2 => 4 | .mxE2m3 => 2 | .mxFp4 => 2
  | .mxInt8 | .fp32 | .bf16 | .fp16 | .e4m3 | .e5m2 | .int8 | .int4 => 0

/-- A block of values converted to an MX format (R167): the scale byte and the element codes; `rnd k` rounds
element `k`. -/
def mxBlock (f : Fmt) (rnd : Nat → Rounding) (vs : List Val) : Nat × List Nat :=
  if vs.any fun v => match v with | .fin _ _ _ => false | _ => true then (0xFF, vs.map fun _ => 0)
  else
    let mags := vs.filterMap fun v => match v with
      | .fin _ m e => if m = 0 then none else some (leadExp m e)
      | _ => none
    let x : Int := match mags with
      | [] => 0
      | m :: ms => max (-127) (min 127 (ms.foldl max m - f.emax))
    ((x + 127).toNat, vs.zipIdx.map fun (v, k) => f.encode (rnd k) (v.scale (-x)))

/-- The value of an MX element under its scale byte (R155), rounded exactly to FP32 range under R165: a magnitude above
the largest finite FP32 value is an infinity. -/
def mxVal (f : Fmt) (scale code : Nat) : Val :=
  match scaleExp scale with
  | none => .nan
  | some x =>
    match (f.decode false code).scale x with
    | .fin n m e => if m ≠ 0 ∧ leadExp m e ≥ 128 then .inf n else .fin n m e
    | v => v

/-! ### The vector unit's functions (R173 to R175) -/

/-- MAX (R173). -/
def maxFp32 (a b : Nat) : Nat :=
  match ofFp32 a, ofFp32 b with
  | .nan, _ => 0x7FC00000
  | _, .nan => 0x7FC00000
  | x, y => if Val.le x y then b else a

/-- MIN (R173). -/
def minFp32 (a b : Nat) : Nat :=
  match ofFp32 a, ofFp32 b with
  | .nan, _ => 0x7FC00000
  | _, .nan => 0x7FC00000
  | x, y => if Val.le x y then a else b

/-- SELECT: a where c is above 0, b otherwise, also where c is NaN (R110, R173). -/
def selectFp32 (a b c : Nat) : Nat :=
  match ofFp32 c with
  | .inf false => a
  | .fin false m _ => if m = 0 then b else a
  | _ => b

/-- The exponent `k` of a power of two `2^k`, if the magnitude is one. -/
def powerOfTwo (m : Nat) (e : Int) : Option Int := if m ≠ 0 ∧ 2 ^ Nat.log2 m = m then some (leadExp m e) else none

/-! ### The bounds of EXP2 and LOG2 (R174) -/

/-- A dyadic number as a multiple of `2^e0` (`e0` at or below its exponent). -/
def inUnits (n : Int) (e e0 : Int) : Int := n * (2 ^ (e - e0).toNat : Nat)

/-- Does an FP32 code lie within `b × 2^eb` of an exact result, wherever that is between `lo` and `hi`, both times `2^q`? -/
def nearEnough (c : Nat) (lo hi q : Int) (b : Nat) (eb : Int) : Bool :=
  match ofFp32 c with
  | .fin neg m e =>
    let e0 := min e (min q eb)
    let v := Val.units neg m e e0
    decide (v - inUnits lo q e0 ≤ inUnits b eb e0) && decide (inUnits hi q e0 - v ≤ inUnits b eb e0)
  | _ => false

/-- The exponent of one ulp of an FP32 code (subnormal codes included). -/
def ulpExp (c : Nat) : Int := (max (bits c 30 23) 1 : Nat) - 150

/-- The result of a function whose tables spec/ does not hold (R174, R176): the free value of the input where the bound of
R174 permits it, else the correctly rounded result `r`. -/
def tabled (fn a r : Nat) (ok : Nat → Bool) : Nat :=
  let c := (Config.vectorFunction fn a).toNat
  if ok c then c else r

/-- `2^(2^-i)` in units of 2^-96, rounded down, for i from 1 on: repeated square roots of 2. -/
def roots : Nat → Nat → List Nat
  | 0, _ => []
  | n + 1, r => let r' := Nat.sqrt (r * 2 ^ 96); r' :: roots n r'

/-- Bounds of `2^(f / 2^80)` in units of 2^-96, for `f` below 2^80. -/
def exp2Frac (f : Nat) : Nat × Nat :=
  ((roots 80 (2 ^ 97)).zipIdx).foldl (fun acc x =>
    if hasBit f (79 - x.2) then (acc.1 * x.1 / 2 ^ 96, acc.2 * (x.1 + 2) / 2 ^ 96 + 1) else acc) (2 ^ 96, 2 ^ 96)

/-- EXP2 of a finite number in range that is no integer: bounds of the result in units of `2^q`. -/
def exp2Bounds (neg : Bool) (m : Nat) (e : Int) : Int × Int × Int :=
  let (q, rem, dv) := scaled m e
  let whole : Int := if neg then -(q : Int) - 1 else q
  let part := if neg then dv - rem else rem
  let f := part * 2 ^ 80 / dv
  let lo := (exp2Frac f).1
  let hi := if f + 1 < 2 ^ 80 then (exp2Frac (f + 1)).2 else 2 ^ 97
  (lo, hi, whole - 96)

/-- `n` binary places of the logarithm to base 2 of `t / 2^256`, for `t` from 2^256 up to twice that, rounded down. -/
def log2Frac : Nat → Nat → Nat
  | 0, _ => 0
  | n + 1, t =>
    let u := t * t / 2 ^ 256
    if 2 ^ 257 ≤ u then 2 ^ n + log2Frac n (u / 2) else log2Frac n u

/-- LOG2 of a positive number that is no power of two: bounds of the result in units of 2^-60. -/
def log2Bounds (m : Nat) (e : Int) : Int × Int :=
  let k := leadExp m e
  let f := log2Frac 60 (m * 2 ^ 256 / 2 ^ Nat.log2 m)
  (inUnits k 0 (-60) + f, inUnits k 0 (-60) + f + 2)

/-- EXP2 (R174, R175): the exact cases, otherwise a result within 2 ulp. -/
def exp2Fp32 (a : Nat) : Nat :=
  match ofFp32 a with
  | .nan => 0x7FC00000
  | .inf neg => if neg then 0 else 0x7F800000
  | .fin neg m e =>
    let (q, rem, _) := scaled m e
    if m = 0 then 0x3F800000
    else if ¬ neg ∧ 128 ≤ q then 0x7F800000
    else if neg ∧ (150 < q ∨ (q = 150 ∧ rem ≠ 0)) then 0
    else if rem = 0 ∧ (neg → q ≤ 149) then roundFp32 (.fin false 1 (if neg then -(q : Int) else (q : Int)))
    else
      let (lo, hi, k) := exp2Bounds neg m e
      let r := roundFp32 (Val.ofInt lo k)
      tabled 0x08 a r fun c => nearEnough c lo hi k 2 (ulpExp r)

/-- LOG2 (R174, R175): the exact cases, otherwise a result within 1 ulp, or within 2^-25 for an input in [0.75, 1.5]. -/
def log2Fp32 (a : Nat) : Nat :=
  match ofFp32 a with
  | .nan => 0x7FC00000
  | .inf neg => if neg then 0x7FC00000 else 0x7F800000
  | .fin neg m e =>
    if m = 0 then 0xFF800000
    else if neg then 0x7FC00000
    else match powerOfTwo m e with
      | some n => roundFp32 (Val.ofInt n 0)
      | none =>
        let (lo, hi) := log2Bounds m e
        let r := roundFp32 (Val.ofInt lo (-60))
        let x := Val.fin false m e
        let near := Val.le (.fin false 3 (-2)) x && Val.le x (.fin false 3 (-1))
        tabled 0x09 a r fun c => nearEnough c lo hi (-60) 1 (if near then -25 else ulpExp r)

/-- One of the two FP32 values around an exact quotient: `lo` the value towards zero, given as a magnitude code, with
the free choice between it and the next (R174). -/
def aroundExact (fn a sign lo : Nat) (exact : Bool) : Nat :=
  sign + (if exact then lo else if Config.vectorRounding fn a then lo + 1 else lo)

/-- The magnitude code of the FP32 value at or next below `n / d × 2^e`, and whether it is exact. -/
def truncQuot (n d : Nat) (e : Int) : Nat × Bool :=
  let sh : Nat := 200
  let q := n * 2 ^ sh / d
  let ex := max (leadExp q (e - sh)) (-126)
  let (k, rem, _) := scaled q (e - sh - (ex - 23))
  ((ex + 126).toNat * 2 ^ 23 + k, decide (rem = 0 ∧ n * 2 ^ sh % d = 0))

/-- RECIP (R174, R175). -/
def recipFp32 (a : Nat) : Nat :=
  match ofFp32 a with
  | .nan => 0x7FC00000
  | .inf neg => if neg then 0x80000000 else 0
  | .fin neg m e =>
    let sign := if neg then 0x80000000 else 0
    if m = 0 then sign + 0x7F800000
    else if leadExp m e < -128 then sign + 0x7F800000
    else
      let (lo, exact) := truncQuot 1 m (-e)
      if lo ≥ 0x7F800000 then sign + 0x7F800000 else aroundExact 0x0A a sign lo exact

/-- RSQRT (R174, R175). -/
def rsqrtFp32 (a : Nat) : Nat :=
  match ofFp32 a with
  | .nan => 0x7FC00000
  | .inf neg => if neg then 0x7FC00000 else 0
  | .fin neg m e =>
    if m = 0 then (if neg then 0xFF800000 else 0x7F800000)
    else if neg then 0x7FC00000
    else
      -- 1/√(m·2^e) = √(2^(2s) / m') · 2^(-s - e'/2), with e' even
      let (m', e') := if e % 2 = 0 then (m, e) else (m * 2, e - 1)
      let sh : Nat := 200
      let r := Nat.sqrt (2 ^ (2 * sh) / m')
      let ex := max (leadExp r (-(sh : Int) - e' / 2)) (-126)
      let (k, rem, _) := scaled r (-(sh : Int) - e' / 2 - (ex - 23))
      aroundExact 0x0B a 0 ((ex + 126).toNat * 2 ^ 23 + k)
        (decide (rem = 0 ∧ r * r * m' = 2 ^ (2 * sh)))

end Sys2Proof.Machine
end

