-- ==== Sys2Proof/Machine/RegNames.lean ====
section
/-! DEFINITION. The names of the register blocks, of the registers and of their fields, as spec/20_register_index.md
(R490, R493 and the index of registers) and the register tables of each chapter give them. Reserved fields carry no
name: they read as 0 and ignore writes (R11). -/
namespace Sys2Proof.Machine

/-- The register blocks of R490. The package-wide registers of TWY, SLU and MEM are blocks of their own here
(`TWYG`, `SLUG`, `MEMG`), CLK and RST share `RST`, `TEL` is the telemetry block and `TSIG` the tile signal unit. -/
inductive Block where
  | GLB | JRN | RST | LHS | SEC | HST | TIDE | TWY | TWYG | SLU | SLUG | MEM | MEMG | SHG | SIG | TST | TEL
  | TILE | ARR | TSIG
deriving DecidableEq, Repr

/-- Every register of the package, by the spec's name. `HST_MSIX` is an entry of the MSI-X table and `HST_PBA` a
64-bit word of the pending-bit array (R343, spec/13_host_jobs.md). -/
inductive Reg where
  | TIDE_CTRL | TIDE_STATUS | TIDE_JOB | TIDE_ATTEMPT | TIDE_DIR_BASE | TIDE_DIR_COUNT | TIDE_STALL_LIMIT
  | TIDE_RELEASE | TIDE_ERR_STATUS | TIDE_INT_EN | TIDE_ERR_INFO | TIDE_DCACHE_MISS | TIDE_SD_CFG
  | TIDE_SD_RING | TIDE_SD_LAPLIST | TIDE_SD_LAPCOUNT | TIDE_SD_WINDOW | TIDE_SD_LB | TIDE_SD_HDR_BASE
  | TIDE_SD_CB_BASE | TIDE_SD_MARKS | TIDE_SD_INJ | TIDE_SD_WANT_MARK | TIDE_SD_STATUS | TIDE_SD_LANDED
  | TIDE_SD_SKIPPED | TIDE_SD_FWD_STALL | TIDE_SD_STALE | TILE_ID | TILE_STATUS | TILE_WATERLINE
  | TILE_ERR_STATUS | TILE_ERR_INFO | TILE_CE_COUNT | TILE_CE_STALL | TILE_STARVE | TILE_ARB_RANK
  | TILE_RESEND_DROP | TILE_RESEND_ARM | TILE_CTX_CTRL | TILE_CTX_PC | TILE_CTX_SP | TILE_CTX_PS
  | TILE_CTX_FAR | TILE_CTX_CAUSE | TILE_CTX_TVAL | ARR_STATUS | ARR_CTRL | ARR_REPAIR | ARR_CUR | ARR_PASSES
  | ARR_ACTIVE | ARR_STALL_A | ARR_STALL_B | ARR_GATED | ARR_WAITING | SHG_STATUS | SHG_ERR_STATUS
  | SHG_INT_EN | SHG_LIMIT | SHG_ERR_INFO | SHG_ERR_LEN | SHG_EXPANDED | SHG_EXP_RAW | SHG_COMPRESSED
  | SHG_CMP_RAW | SHG_SV_CTRL | SHG_SV_STATUS | SHG_SV_BOOK | SHG_SV_FEED | SHG_SV_SIG | SHG_SV_RESULT
  | SHG_RC_CTRL | SHG_RC_STATUS | SHG_RC_BOOK | SHG_RC_DIR | SHG_RC_FEED | SHG_RC_SIG | SIG_CTRL | SIG_STATUS
  | SIG_ERR_STATUS | SIG_INT_EN | SIG_TIDEMARK | SIG_PKN | SIG_GUARD_LIMIT | SIG_ERR_HEAD | SIG_ERR_TAIL
  | SIG_ERR_DROPPED | SIG_STALE | SIG_BAR_CFG | SIG_BAR_STATE | SIG_BAR_LIMIT | SIG_ROUTE | SIG_CNT
  | SIG_CNT_CFG | SIG_CNT_ADDED | SIG_CNT_TAKEN | SIG_TILE_OVER | SIG_TILE_UNDER | SIG_TILE_LIMIT | MEM_STATUS
  | MEM_ERR_STATUS | MEM_INT_EN | MEM_CE_THRESH | MEM_ERR_INFO | MEM_ERR_SYND | MEM_CE_COUNT | MEM_UE_COUNT
  | MEM_REFRESH | MEM_TEMP | MEM_RD_BYTES | MEM_WR_BYTES | MEM_SCRUB_CFG | MEM_SCRUB_POS | MEM_ZERO | MEM_CFG
  | MEM_ARB_RANK | MEM_XTS | MEM_RGN_CTX | MEM_RGN_MIRROR | MEM_MIRROR_SRC | TWY_PORT_CTRL | TWY_PORT_STATUS
  | TWY_PORT_CFG | TWY_PORT_PEER | TWY_PORT_CREDIT | TWY_ERR_STATUS | TWY_INT_EN | TWY_PORT_LIMITS
  | TWY_TIME_OFFSET | TWY_TX_FLITS | TWY_RX_FLITS | TWY_TRANSIT_FLITS | TWY_RETRIES | TWY_CRC_ERR
  | TWY_FEC_CORR | TWY_FEC_UNCORR | TWY_GCM_FAIL | TWY_STALE | TWY_GLB_CTRL | TWY_GLB_STATUS | TWY_PLAN_EPOCH
  | TWY_SELF_LOC | TWY_KEY_TM | TWY_XFER | TWY_XFER_STATUS | TWY_LOC_ROUTE | TWY_PKN_LOC | SLU_CTRL
  | SLU_STATUS | SLU_RANK | SLU_LIMITS | SLU_ERR_STATUS | SLU_INT_EN | SLU_STARVE_CNT | SLU_CLASS_FLITS
  | SLU_SHADOW | SLU_ACTIVE | SLU_STARVE | SLU_GLB_INT_EN | SLU_FAB_STARVE | HST_CTRL | HST_STATUS
  | HST_ERR_STATUS | HST_INT_EN | HST_ERR_INFO | HST_BAR2_MAP | HST_BAR2_DISCARD | HST_JOB_TAG
  | HST_PAUSE_LIMIT | HST_HOST_SIG | HST_SQ_BASE | HST_CQ_BASE | HST_Q_CFG | HST_Q_STATUS | HST_SQ_TAIL
  | HST_CQ_HEAD | HST_FWIN_BASE | HST_FWIN_LIMIT | HST_FERRY_STATUS | HST_RCV_CTRL | HST_RCV_STATUS
  | GLB_VOID_CTRL | GLB_VOID_STATUS | GLB_VOID_COUNT | GLB_HALT_CTRL | GLB_HALT_TM | CLK_DOMAIN | RST_CAUSE
  | RST_CTRL | RST_BOOT | RST_ERR_STATUS | RST_INT_EN | RST_PORT_HOLD | RST_PORT_CLOSED | RST_PORT_PEND
  | RST_MEMC_HOLD | RST_MEMC_CLOSED | RST_MEMC_PEND | RST_FERRY_HOLD | RST_FERRY_CLOSED | RST_FERRY_PEND
  | RST_TILE_HOLD | RST_TILE_CLOSED | RST_TILE_PEND | LHS_STATUS | LHS_ERR_STATUS | LHS_INT_EN | LHS_MB_CTRL
  | LHS_GOV_LIMIT | LHS_GOV_G | LHS_GATE | LHS_CAP | LHS_VALVE | LHS_WDOG | LHS_HEARTBEAT | LHS_CLAMP_INFO
  | TST_TEL_SEQ | TST_TEL_ENERGY | TST_TEL_PIN | TST_TEL_PIN_PEAK | TST_TEL_COOLANT | TST_TEL_FLOW
  | TST_TEL_EVENTS | TST_TEL_RAIL | TST_TEL_DIEMAX | TST_TEL_TEMP | TST_TEL_IOTEMP | TST_TEL_EYE | SEC_STATUS
  | SEC_ERR_STATUS | SEC_INT_EN | SEC_CTRL | SEC_DEBUG | SEC_SVN | SEC_OWNER | SEC_SERIAL | SEC_JOB_SECRET
  | SEC_NONCE | SEC_CHALLENGE | SEC_MEAS | JRN_STATUS | JRN_ERR_STATUS | JRN_INT_EN | JRN_FILL | JRN_SEQ
  | JRN_MAINT_REQ | JRN_EXCL | JRN_MAINT_ST | TST_STATUS | TST_ERR_STATUS | TST_INT_EN | TST_LB_CTRL
  | TST_LB_TIME | TST_LB_STATUS | TST_LB_BITS | TST_LB_ERR | TST_BIST_CTRL | TST_BIST_STATUS | TST_BIST_FAIL
  | GLB_IDENT | GLB_STATUS | GLB_STATUS_ADDR | GLB_BOOT_LOCK | GLB_TILE_RANK | TIDE_LCLASS | TIDE_WANT
  | HST_MSIX | HST_PBA
deriving DecidableEq, Repr

/-- Every field of every register that is not reserved: the register's name and the field's, joined by `_`. -/
inductive Fd where
  | TIDE_CTRL_MODE | TIDE_CTRL_PAUSE | TIDE_CTRL_VOID | TIDE_CTRL_ENABLE | TIDE_STATUS_CTX_ACTIVE
  | TIDE_STATUS_QUIESCENT | TIDE_STATUS_VOIDING | TIDE_STATUS_ERROR | TIDE_STATUS_RUNNING | TIDE_JOB_JOB
  | TIDE_ATTEMPT_ATTEMPT | TIDE_DIR_BASE_BASE | TIDE_DIR_COUNT_COUNT | TIDE_STALL_LIMIT_LIMIT_US
  | TIDE_RELEASE_DIR | TIDE_RELEASE_STRAND | TIDE_RELEASE_LAP_POS | TIDE_ERR_STATUS_LAPLIST
  | TIDE_ERR_STATUS_RESEND | TIDE_ERR_STATUS_CONFIG | TIDE_ERR_STATUS_STALL | TIDE_ERR_STATUS_HEADER
  | TIDE_ERR_STATUS_CODEBOOK | TIDE_ERR_STATUS_DIR | TIDE_ERR_STATUS_RELEASE | TIDE_ERR_STATUS_WINDOW
  | TIDE_INT_EN_EN | TIDE_ERR_INFO_DETAIL | TIDE_ERR_INFO_CTX | TIDE_ERR_INFO_LAP_POS | TIDE_DCACHE_MISS_COUNT
  | TIDE_SD_CFG_VALID | TIDE_SD_CFG_TX_PORT | TIDE_SD_CFG_RX_PORT | TIDE_SD_CFG_DIR | TIDE_SD_CFG_STRAND
  | TIDE_SD_RING_LEN | TIDE_SD_RING_POS | TIDE_SD_LAPLIST_BASE | TIDE_SD_LAPCOUNT_COUNT
  | TIDE_SD_WINDOW_CREDIT_STEP | TIDE_SD_WINDOW_ACC_UNITS | TIDE_SD_WINDOW_LOG2 | TIDE_SD_LB_SIZE
  | TIDE_SD_LB_BASE | TIDE_SD_HDR_BASE_BASE | TIDE_SD_CB_BASE_BASE | TIDE_SD_MARKS_DOWN_MARK
  | TIDE_SD_MARKS_OWN_MARK | TIDE_SD_INJ_NEXT | TIDE_SD_WANT_MARK_MARK | TIDE_SD_STATUS_STATE
  | TIDE_SD_LANDED_COUNT | TIDE_SD_SKIPPED_COUNT | TIDE_SD_FWD_STALL_COUNT | TIDE_SD_STALE_COUNT
  | TILE_ID_PCOL | TILE_ID_PROW | TILE_ID_DIE | TILE_ID_LOGICAL | TILE_STATUS_BUSY | TILE_STATUS_HALTED
  | TILE_STATUS_RUNNING | TILE_WATERLINE_REWRITING | TILE_WATERLINE_LEVEL | TILE_ERR_STATUS_STARVE
  | TILE_ERR_STATUS_WATERLINE | TILE_ERR_STATUS_ARM | TILE_ERR_STATUS_ADDR | TILE_ERR_STATUS_DESC
  | TILE_ERR_STATUS_TRAP | TILE_ERR_STATUS_UE | TILE_ERR_STATUS_SHINGLE | TILE_ERR_INFO_ADDR
  | TILE_CE_COUNT_COMMONS | TILE_CE_COUNT_SCRATCH | TILE_CE_STALL_COUNT | TILE_STARVE_COUNT
  | TILE_ARB_RANK_ORDER | TILE_RESEND_DROP_COUNT | TILE_RESEND_ARM_VALID | TILE_RESEND_ARM_DIR
  | TILE_RESEND_ARM_STRAND | TILE_RESEND_ARM_LAP_POS | TILE_CTX_CTRL_HALTED | TILE_CTX_CTRL_RUN
  | TILE_CTX_PC_PC | TILE_CTX_SP_BOUND | TILE_CTX_SP_BASE | TILE_CTX_PS_BOUND | TILE_CTX_PS_BASE
  | TILE_CTX_FAR_BASE | TILE_CTX_CAUSE_CAUSE | TILE_CTX_TVAL_TVAL | ARR_STATUS_ABORTED | ARR_STATUS_STOPPED
  | ARR_STATUS_GATED | ARR_STATUS_FROZEN | ARR_STATUS_WAITING | ARR_STATUS_PREFETCH | ARR_STATUS_RUNNING
  | ARR_STATUS_BUF1 | ARR_STATUS_BUF0 | ARR_CTRL_ABORT | ARR_CTRL_STOP | ARR_REPAIR_OUT_ROW | ARR_CUR_TICKET
  | ARR_CUR_BLOCK | ARR_PASSES_COUNT | ARR_ACTIVE_COUNT | ARR_STALL_A_COUNT | ARR_STALL_B_COUNT
  | ARR_GATED_COUNT | ARR_WAITING_COUNT | SHG_STATUS_RC_OPEN | SHG_STATUS_SV_OPEN | SHG_STATUS_ERROR
  | SHG_ERR_STATUS_RECODE | SHG_ERR_STATUS_SURVEY | SHG_ERR_STATUS_SHINGLE | SHG_INT_EN_EN
  | SHG_LIMIT_LIMIT_US | SHG_ERR_INFO_SUBCODE | SHG_ERR_INFO_ADDR | SHG_ERR_LEN_DECL_CODED
  | SHG_ERR_LEN_PROD_EXP | SHG_ERR_LEN_DECL_EXP | SHG_EXPANDED_COUNT | SHG_EXP_RAW_COUNT
  | SHG_COMPRESSED_COUNT | SHG_CMP_RAW_COUNT | SHG_SV_CTRL_TENSOR | SHG_SV_CTRL_HOME | SHG_SV_CTRL_EPOCH
  | SHG_SV_CTRL_GRAD | SHG_SV_CTRL_FORMAT | SHG_SV_CTRL_MAXW | SHG_SV_CTRL_FINISH | SHG_SV_CTRL_OPEN
  | SHG_SV_STATUS_OPEN | SHG_SV_STATUS_BUSY | SHG_SV_STATUS_DONE | SHG_SV_STATUS_QUEUED | SHG_SV_STATUS_FED
  | SHG_SV_BOOK_BASE | SHG_SV_FEED_BLOCKS | SHG_SV_FEED_ADDR | SHG_SV_SIG_SIG | SHG_SV_RESULT_SIZE
  | SHG_RC_CTRL_FINISH | SHG_RC_CTRL_OPEN | SHG_RC_STATUS_OPEN | SHG_RC_STATUS_BUSY | SHG_RC_STATUS_DONE
  | SHG_RC_STATUS_QUEUED | SHG_RC_STATUS_RECODED | SHG_RC_BOOK_BASE | SHG_RC_DIR_BASE | SHG_RC_FEED_INDEX
  | SHG_RC_SIG_SIG | SIG_CTRL_CLEAR_BAR | SIG_STATUS_RECORD | SIG_STATUS_STEP_VOID | SIG_STATUS_VOIDED
  | SIG_STATUS_ERROR | SIG_ERR_STATUS_CONFIG | SIG_ERR_STATUS_MSG | SIG_ERR_STATUS_BARRIER
  | SIG_ERR_STATUS_GUARD | SIG_ERR_STATUS_WORD | SIG_ERR_STATUS_DRIFT | SIG_ERR_STATUS_SATURATE
  | SIG_ERR_STATUS_TIMEOUT | SIG_INT_EN_RECORD | SIG_INT_EN_EN | SIG_TIDEMARK_TIDEMARK | SIG_PKN_PKN
  | SIG_GUARD_LIMIT_LIMIT_US | SIG_ERR_HEAD_HEAD | SIG_ERR_TAIL_TAIL | SIG_ERR_DROPPED_COUNT | SIG_STALE_COUNT
  | SIG_BAR_CFG_VALID | SIG_BAR_CFG_STEP | SIG_BAR_CFG_ROOT | SIG_BAR_CFG_PKGS | SIG_BAR_CFG_EXPECT
  | SIG_BAR_STATE_GEN | SIG_BAR_STATE_LAST_ERR | SIG_BAR_STATE_ERR | SIG_BAR_STATE_SENSE
  | SIG_BAR_STATE_ARRIVED | SIG_BAR_LIMIT_LIMIT_US | SIG_ROUTE_VALID | SIG_ROUTE_PORT | SIG_CNT_VALUE
  | SIG_CNT_CFG_MODE | SIG_CNT_CFG_BOUND | SIG_CNT_ADDED_ADDED | SIG_CNT_TAKEN_TAKEN | SIG_TILE_OVER_OVER
  | SIG_TILE_UNDER_UNDER | SIG_TILE_LIMIT_LIMIT_US | MEM_STATUS_ZEROING | MEM_STATUS_SCRUBBING
  | MEM_STATUS_HOT | MEM_STATUS_ERROR | MEM_STATUS_TRAINED | MEM_STATUS_PRESENT | MEM_ERR_STATUS_STARVE
  | MEM_ERR_STATUS_SCRUB | MEM_ERR_STATUS_CE | MEM_ERR_STATUS_REGION | MEM_ERR_STATUS_RANGE
  | MEM_ERR_STATUS_UE | MEM_INT_EN_EN | MEM_CE_THRESH_THRESH | MEM_ERR_INFO_REQ | MEM_ERR_INFO_CHANNEL
  | MEM_ERR_INFO_ADDR | MEM_ERR_SYND_SYND | MEM_CE_COUNT_COUNT | MEM_UE_COUNT_COUNT | MEM_REFRESH_RATE
  | MEM_TEMP_TEMP | MEM_RD_BYTES_COUNT | MEM_WR_BYTES_COUNT | MEM_SCRUB_CFG_EN | MEM_SCRUB_CFG_PERIOD_H
  | MEM_SCRUB_POS_LINE | MEM_ZERO_START | MEM_CFG_SIZE_GIB | MEM_CFG_STACKS | MEM_ARB_RANK_ORDER
  | MEM_XTS_KEYED | MEM_XTS_EN | MEM_RGN_CTX_SIZE_MIB | MEM_RGN_CTX_BASE | MEM_RGN_MIRROR_SIZE
  | MEM_RGN_MIRROR_BASE | MEM_RGN_MIRROR_ARMED | MEM_MIRROR_SRC_VALID | MEM_MIRROR_SRC_PKN
  | TWY_PORT_CTRL_RETRAIN | TWY_PORT_CTRL_EXCUSE | TWY_PORT_CTRL_ENABLE | TWY_PORT_STATUS_REASON
  | TWY_PORT_STATUS_HOLDING | TWY_PORT_STATUS_PENDING_ENABLE | TWY_PORT_STATUS_STATE | TWY_PORT_CFG_IODIE
  | TWY_PORT_CFG_ENTRY | TWY_PORT_PEER_SERIAL | TWY_PORT_PEER_PORT | TWY_PORT_PEER_KIND | TWY_PORT_PEER_LOC
  | TWY_PORT_PEER_QUADS | TWY_PORT_PEER_VALID | TWY_PORT_CREDIT_MGMT | TWY_PORT_CREDIT_MIRROR
  | TWY_PORT_CREDIT_TRANSIT | TWY_PORT_CREDIT_SIGNAL | TWY_PORT_CREDIT_EBB | TWY_PORT_CREDIT_FLOOD
  | TWY_ERR_STATUS_CONFIG | TWY_ERR_STATUS_XFER | TWY_ERR_STATUS_DRAIN | TWY_ERR_STATUS_TRANSIT
  | TWY_ERR_STATUS_NONCE | TWY_ERR_STATUS_GCM | TWY_ERR_STATUS_DOWN | TWY_ERR_STATUS_IDENT
  | TWY_ERR_STATUS_ABSENT | TWY_INT_EN_EN | TWY_PORT_LIMITS_DRAIN | TWY_PORT_LIMITS_TRAIN
  | TWY_PORT_LIMITS_RETRY | TWY_TIME_OFFSET_OFFSET | TWY_TX_FLITS_COUNT | TWY_RX_FLITS_COUNT
  | TWY_TRANSIT_FLITS_COUNT | TWY_RETRIES_COUNT | TWY_CRC_ERR_COUNT | TWY_FEC_CORR_COUNT
  | TWY_FEC_UNCORR_COUNT | TWY_GCM_FAIL_COUNT | TWY_STALE_COUNT | TWY_GLB_CTRL_LINKS_EN
  | TWY_GLB_STATUS_TIME_FREE | TWY_GLB_STATUS_HOLD | TWY_GLB_STATUS_PLAN_ERR | TWY_GLB_STATUS_FORMED
  | TWY_PLAN_EPOCH_EPOCH | TWY_SELF_LOC_KIND | TWY_SELF_LOC_LOC | TWY_KEY_TM_TIDEMARK | TWY_XFER_REQUEST
  | TWY_XFER_STATUS_QUEUED | TWY_LOC_ROUTE_VALID | TWY_LOC_ROUTE_PORT | TWY_PKN_LOC_VALID | TWY_PKN_LOC_LOC
  | SLU_CTRL_COMMIT | SLU_STATUS_CARRY | SLU_STATUS_MGMT_USED | SLU_STATUS_COMMIT_PENDING | SLU_STATUS_HOLDER
  | SLU_STATUS_SLOT | SLU_RANK_ORDER | SLU_LIMITS_STARVE | SLU_ERR_STATUS_STARVE | SLU_ERR_STATUS_PENDING
  | SLU_ERR_STATUS_TABLE | SLU_INT_EN_EN | SLU_STARVE_CNT_COUNT | SLU_CLASS_FLITS_COUNT | SLU_SHADOW_SLOTS
  | SLU_ACTIVE_SLOTS | SLU_STARVE_EGRESS | SLU_STARVE_MEMORY | SLU_STARVE_FABRIC | SLU_STARVE_BANK
  | SLU_GLB_INT_EN_EN | SLU_FAB_STARVE_COUNT | SLU_FAB_STARVE_FLAG | SLU_FAB_STARVE_PORT | SLU_FAB_STARVE_TILE
  | HST_CTRL_ENABLE | HST_STATUS_RECOVERY | HST_STATUS_WIN_STALL | HST_STATUS_JOB_IDLE | HST_STATUS_ERROR
  | HST_STATUS_JOB_STATE | HST_ERR_STATUS_MANIFEST | HST_ERR_STATUS_RECOVER | HST_ERR_STATUS_PAUSE
  | HST_ERR_STATUS_LINK | HST_ERR_STATUS_BAR2 | HST_ERR_STATUS_WINDOW | HST_ERR_STATUS_DOORBELL
  | HST_INT_EN_IDLE | HST_INT_EN_EN | HST_ERR_INFO_HOST | HST_ERR_INFO_ADDR | HST_BAR2_MAP_BASE
  | HST_BAR2_DISCARD_COUNT | HST_JOB_TAG_JOB | HST_PAUSE_LIMIT_LIMIT_US | HST_HOST_SIG_VECTOR
  | HST_SQ_BASE_BASE | HST_CQ_BASE_BASE | HST_Q_CFG_ENABLE | HST_Q_CFG_CQ_INT | HST_Q_CFG_CQ_LOG2
  | HST_Q_CFG_SQ_LOG2 | HST_Q_STATUS_ERROR | HST_Q_STATUS_FULL | HST_Q_STATUS_SQ_HEAD | HST_Q_STATUS_CQ_TAIL
  | HST_SQ_TAIL_TAIL | HST_CQ_HEAD_HEAD | HST_FWIN_BASE_BASE | HST_FWIN_LIMIT_LIMIT | HST_FWIN_LIMIT_VALID
  | HST_FERRY_STATUS_BUSY | HST_FERRY_STATUS_QUEUED | HST_FERRY_STATUS_DONE | HST_RCV_CTRL_GO
  | HST_RCV_CTRL_LAST | HST_RCV_CTRL_TARGET | HST_RCV_CTRL_LEN | HST_RCV_STATUS_READY | HST_RCV_STATUS_DONE
  | HST_RCV_STATUS_FAIL | HST_RCV_STATUS_RECEIVED | GLB_VOID_CTRL_EN | GLB_VOID_CTRL_MAX
  | GLB_VOID_CTRL_REPLAY_BAR | GLB_VOID_CTRL_STEP_BAR | GLB_VOID_STATUS_STATE | GLB_VOID_STATUS_REMOTE
  | GLB_VOID_STATUS_SRC | GLB_VOID_STATUS_CLASS | GLB_VOID_STATUS_INDEX | GLB_VOID_COUNT_COUNT
  | GLB_HALT_CTRL_HALTED | GLB_HALT_CTRL_EN | GLB_HALT_TM_TIDEMARK | CLK_DOMAIN_RUNNING | CLK_DOMAIN_LOCKED
  | CLK_DOMAIN_UNLOCK | CLK_DOMAIN_SEL | CLK_DOMAIN_FREQ | RST_CAUSE_FERRY | RST_CAUSE_MEMC | RST_CAUSE_PORT
  | RST_CAUSE_TILE | RST_CAUSE_COMPUTE | RST_CAUSE_SWPKG | RST_CAUSE_WDOG | RST_CAUSE_TRAY | RST_CAUSE_PERST
  | RST_CAUSE_PWROK | RST_CTRL_COMPUTE | RST_CTRL_PKG | RST_BOOT_COPY | RST_BOOT_FAULT | RST_BOOT_STAGE
  | RST_ERR_STATUS_MIRROR | RST_ERR_STATUS_BOOT | RST_ERR_STATUS_UNLOCK | RST_ERR_STATUS_BLOCK | RST_INT_EN_EN
  | RST_PORT_HOLD_HOLD | RST_PORT_CLOSED_CLOSED | RST_PORT_PEND_PEND | RST_MEMC_HOLD_HOLD
  | RST_MEMC_CLOSED_CLOSED | RST_MEMC_PEND_PEND | RST_FERRY_HOLD_HOLD | RST_FERRY_CLOSED_CLOSED
  | RST_FERRY_PEND_PEND | RST_TILE_HOLD_HOLD | RST_TILE_CLOSED_CLOSED | RST_TILE_PEND_PEND | LHS_STATUS_PSTATE
  | LHS_STATUS_ACTIVE | LHS_STATUS_FW | LHS_ERR_STATUS_MGMT | LHS_ERR_STATUS_MBOX | LHS_ERR_STATUS_FLOW
  | LHS_ERR_STATUS_FLOOR | LHS_ERR_STATUS_CLAMP | LHS_ERR_STATUS_CAP | LHS_ERR_STATUS_THERMTRIP
  | LHS_INT_EN_EN | LHS_MB_CTRL_BUSY | LHS_MB_CTRL_RSP | LHS_MB_CTRL_REQ | LHS_GOV_LIMIT_LIMIT_W | LHS_GOV_G_G
  | LHS_GATE_G | LHS_CAP_CAP_G | LHS_CAP_CAP_W | LHS_VALVE_FORCED | LHS_VALVE_FLOORED | LHS_VALVE_PUMP_REQ
  | LHS_VALVE_PUMP_FORCED | LHS_VALVE_DUTY | LHS_VALVE_REQ | LHS_WDOG_PERIOD_MS | LHS_HEARTBEAT_COUNT
  | LHS_CLAMP_INFO_RAIL | LHS_CLAMP_INFO_REQ_MV | TST_TEL_SEQ_SEQ | TST_TEL_ENERGY_MJ | TST_TEL_PIN_VOLT
  | TST_TEL_PIN_POWER | TST_TEL_PIN_PEAK_POWER | TST_TEL_COOLANT_OUTLET | TST_TEL_COOLANT_INLET
  | TST_TEL_FLOW_ML_MIN | TST_TEL_EVENTS_CLAMPS | TST_TEL_EVENTS_CAPS | TST_TEL_RAIL_VOLT_MV
  | TST_TEL_RAIL_POWER | TST_TEL_DIEMAX_SENSOR | TST_TEL_DIEMAX_TEMP | TST_TEL_TEMP_TEMP | TST_TEL_IOTEMP_TEMP
  | TST_TEL_EYE_LANE | TST_TEL_EYE_HEIGHT | TST_TEL_EYE_WIDTH | SEC_STATUS_QUOTE_READY | SEC_STATUS_CMD_BUSY
  | SEC_STATUS_DEBUG | SEC_STATUS_SECRET_SET | SEC_STATUS_MGMT_KEYED | SEC_STATUS_JOB_KEYED
  | SEC_STATUS_ENTROPY_OK | SEC_STATUS_ERROR | SEC_ERR_STATUS_STATE | SEC_ERR_STATUS_MIRROR
  | SEC_ERR_STATUS_BUSY | SEC_ERR_STATUS_ENTROPY | SEC_ERR_STATUS_ENROL | SEC_ERR_STATUS_TOKEN
  | SEC_ERR_STATUS_NOKEY | SEC_INT_EN_QUOTE | SEC_INT_EN_EN | SEC_CTRL_CLEAR_SECRET | SEC_CTRL_SVN_SHORE
  | SEC_CTRL_SVN_FW | SEC_CTRL_REKEY | SEC_CTRL_ENROL | SEC_CTRL_UNLOCK | SEC_CTRL_QUOTE | SEC_DEBUG_CAPS
  | SEC_SVN_SHORE_RUN | SEC_SVN_SHORE_FUSE | SEC_SVN_FW_RUN | SEC_SVN_FW_FUSE | SEC_OWNER_FW_SIGNER
  | SEC_OWNER_SHORE_SIGNER | SEC_OWNER_FOUNDATION_REVOKED | SEC_OWNER_STATE | SEC_SERIAL_SERIAL
  | SEC_JOB_SECRET_WORD | SEC_NONCE_WORD | SEC_CHALLENGE_WORD | SEC_MEAS_DIGEST | JRN_STATUS_UNCAL
  | JRN_STATUS_FACTORY_OK | JRN_STATUS_HOLD | JRN_STATUS_FULL | JRN_STATUS_COMPACTING | JRN_STATUS_AREA
  | JRN_STATUS_MOUNTED | JRN_STATUS_ERROR | JRN_ERR_STATUS_MIRROR | JRN_ERR_STATUS_FACTORY
  | JRN_ERR_STATUS_FLASH | JRN_ERR_STATUS_QUEUE | JRN_ERR_STATUS_FULL | JRN_ERR_STATUS_CHECK | JRN_INT_EN_EN
  | JRN_FILL_USED | JRN_SEQ_NEXT | JRN_MAINT_REQ_CANCEL | JRN_MAINT_REQ_START | JRN_MAINT_REQ_ACTIVITY
  | JRN_MAINT_REQ_PARAM | JRN_MAINT_REQ_INSTANCE | JRN_EXCL_SCOPE | JRN_MAINT_ST_STATE | JRN_MAINT_ST_LAST
  | JRN_MAINT_ST_REASON | JRN_MAINT_ST_AGE_S | TST_STATUS_SAMPLE | TST_STATUS_BIST_DONE | TST_STATUS_LB_DONE
  | TST_STATUS_ERROR | TST_ERR_STATUS_MIRROR | TST_ERR_STATUS_STATE | TST_ERR_STATUS_ARRAY
  | TST_ERR_STATUS_BIST | TST_ERR_STATUS_LOOPBACK | TST_INT_EN_DONE | TST_INT_EN_EN | TST_LB_CTRL_RUN
  | TST_LB_CTRL_KIND | TST_LB_CTRL_MODE | TST_LB_CTRL_PORT | TST_LB_TIME_TIME_MS | TST_LB_STATUS_BUSY
  | TST_LB_STATUS_PASS | TST_LB_STATUS_FAIL | TST_LB_STATUS_COUNTERS | TST_LB_BITS_COUNT | TST_LB_ERR_COUNT
  | TST_BIST_CTRL_UNITS | TST_BIST_STATUS_FAILED | TST_BIST_STATUS_PASSED | TST_BIST_STATUS_RUNNING
  | TST_BIST_FAIL_COUNT | TST_BIST_FAIL_UNIT | TST_BIST_FAIL_INDEX | TST_BIST_FAIL_ADDR | GLB_IDENT_STACKS
  | GLB_IDENT_STACK_SIZE | GLB_IDENT_IODIES | GLB_IDENT_GRADE | GLB_STATUS_LOCK_WR | GLB_STATUS_RSVD_WR
  | GLB_STATUS_ADDR_MIRROR | GLB_STATUS_ADDR_LH | GLB_STATUS_ADDR_OFFSET | GLB_BOOT_LOCK_LOCK
  | GLB_TILE_RANK_ORDER | TIDE_LCLASS_RELEASES | TIDE_LCLASS_AMOUNT | TIDE_LCLASS_COUNTER | TIDE_LCLASS_COL_HI
  | TIDE_LCLASS_COL_LO | TIDE_LCLASS_ROW_HI | TIDE_LCLASS_ROW_LO | TIDE_LCLASS_DIES | TIDE_WANT_WANT
  | HST_MSIX_MASK | HST_MSIX_DATA | HST_MSIX_ADDR | HST_PBA_PENDING
deriving DecidableEq, Repr

end Sys2Proof.Machine
end

