-- ==== Sys2Proof/Machine/RegTable.lean ====
section
/-! DEFINITION. The register tables of spec/ as data: for every field its place, width, access code (R13) and reset
value, and for every register its block, offset, width and number of entries. A field whose reset value is not a
number (fused, from the plan, straps) stands here with 0; `State.fieldReset` gives its value. -/
namespace Sys2Proof.Machine

/-- The access codes of R13. -/
inductive Access where
  | rw | ro | w1c | w1s | wo | rwl
deriving DecidableEq, Repr

/-- A field: its bits `[hi:lo]` of the register, its access code and its numeric reset value. -/
structure FieldSpec where
  reg : Reg
  hi : Nat
  lo : Nat
  acc : Access
  reset : Nat
deriving DecidableEq, Repr

/-- A register: its block, its offset in an instance of the block, the distance between entries and their number (a
register that is no array has one entry), its width in bits and its fields. -/
structure RegSpec where
  block : Block
  off : Nat
  stride : Nat
  count : Nat
  width : Nat
  fields : List Fd
deriving DecidableEq, Repr

/-- The place, access code and reset value of every field (R13 and the register tables of every chapter). -/
def Fd.spec : Fd → FieldSpec
  | .TIDE_CTRL_MODE => ⟨.TIDE_CTRL, 7, 6, .rw, 0⟩
  | .TIDE_CTRL_PAUSE => ⟨.TIDE_CTRL, 5, 5, .rw, 0⟩
  | .TIDE_CTRL_VOID => ⟨.TIDE_CTRL, 4, 4, .w1s, 0⟩
  | .TIDE_CTRL_ENABLE => ⟨.TIDE_CTRL, 0, 0, .rw, 0⟩
  | .TIDE_STATUS_CTX_ACTIVE => ⟨.TIDE_STATUS, 11, 8, .ro, 0⟩
  | .TIDE_STATUS_QUIESCENT => ⟨.TIDE_STATUS, 3, 3, .ro, 0⟩
  | .TIDE_STATUS_VOIDING => ⟨.TIDE_STATUS, 2, 2, .ro, 0⟩
  | .TIDE_STATUS_ERROR => ⟨.TIDE_STATUS, 1, 1, .ro, 0⟩
  | .TIDE_STATUS_RUNNING => ⟨.TIDE_STATUS, 0, 0, .ro, 0⟩
  | .TIDE_JOB_JOB => ⟨.TIDE_JOB, 31, 0, .rw, 0⟩
  | .TIDE_ATTEMPT_ATTEMPT => ⟨.TIDE_ATTEMPT, 7, 0, .rw, 0⟩
  | .TIDE_DIR_BASE_BASE => ⟨.TIDE_DIR_BASE, 47, 12, .rw, 0⟩
  | .TIDE_DIR_COUNT_COUNT => ⟨.TIDE_DIR_COUNT, 25, 0, .rw, 0⟩
  | .TIDE_STALL_LIMIT_LIMIT_US => ⟨.TIDE_STALL_LIMIT, 25, 0, .rw, 0xf4240⟩
  | .TIDE_RELEASE_DIR => ⟨.TIDE_RELEASE, 27, 27, .wo, 0⟩
  | .TIDE_RELEASE_STRAND => ⟨.TIDE_RELEASE, 26, 25, .wo, 0⟩
  | .TIDE_RELEASE_LAP_POS => ⟨.TIDE_RELEASE, 24, 0, .wo, 0⟩
  | .TIDE_ERR_STATUS_LAPLIST => ⟨.TIDE_ERR_STATUS, 9, 9, .w1c, 0⟩
  | .TIDE_ERR_STATUS_RESEND => ⟨.TIDE_ERR_STATUS, 8, 8, .w1c, 0⟩
  | .TIDE_ERR_STATUS_CONFIG => ⟨.TIDE_ERR_STATUS, 7, 7, .w1c, 0⟩
  | .TIDE_ERR_STATUS_STALL => ⟨.TIDE_ERR_STATUS, 6, 6, .w1c, 0⟩
  | .TIDE_ERR_STATUS_HEADER => ⟨.TIDE_ERR_STATUS, 5, 5, .w1c, 0⟩
  | .TIDE_ERR_STATUS_CODEBOOK => ⟨.TIDE_ERR_STATUS, 4, 4, .w1c, 0⟩
  | .TIDE_ERR_STATUS_DIR => ⟨.TIDE_ERR_STATUS, 3, 3, .w1c, 0⟩
  | .TIDE_ERR_STATUS_RELEASE => ⟨.TIDE_ERR_STATUS, 2, 2, .w1c, 0⟩
  | .TIDE_ERR_STATUS_WINDOW => ⟨.TIDE_ERR_STATUS, 1, 1, .w1c, 0⟩
  | .TIDE_INT_EN_EN => ⟨.TIDE_INT_EN, 9, 1, .rw, 0⟩
  | .TIDE_ERR_INFO_DETAIL => ⟨.TIDE_ERR_INFO, 63, 32, .ro, 0⟩
  | .TIDE_ERR_INFO_CTX => ⟨.TIDE_ERR_INFO, 27, 25, .ro, 0⟩
  | .TIDE_ERR_INFO_LAP_POS => ⟨.TIDE_ERR_INFO, 24, 0, .ro, 0⟩
  | .TIDE_DCACHE_MISS_COUNT => ⟨.TIDE_DCACHE_MISS, 31, 0, .ro, 0⟩
  | .TIDE_SD_CFG_VALID => ⟨.TIDE_SD_CFG, 15, 15, .rw, 0⟩
  | .TIDE_SD_CFG_TX_PORT => ⟨.TIDE_SD_CFG, 13, 9, .rw, 0⟩
  | .TIDE_SD_CFG_RX_PORT => ⟨.TIDE_SD_CFG, 8, 4, .rw, 0⟩
  | .TIDE_SD_CFG_DIR => ⟨.TIDE_SD_CFG, 2, 2, .rw, 0⟩
  | .TIDE_SD_CFG_STRAND => ⟨.TIDE_SD_CFG, 1, 0, .rw, 0⟩
  | .TIDE_SD_RING_LEN => ⟨.TIDE_SD_RING, 19, 10, .rw, 0⟩
  | .TIDE_SD_RING_POS => ⟨.TIDE_SD_RING, 9, 0, .rw, 0⟩
  | .TIDE_SD_LAPLIST_BASE => ⟨.TIDE_SD_LAPLIST, 47, 3, .rw, 0⟩
  | .TIDE_SD_LAPCOUNT_COUNT => ⟨.TIDE_SD_LAPCOUNT, 25, 0, .rw, 0⟩
  | .TIDE_SD_WINDOW_CREDIT_STEP => ⟨.TIDE_SD_WINDOW, 23, 16, .rw, 0x10⟩
  | .TIDE_SD_WINDOW_ACC_UNITS => ⟨.TIDE_SD_WINDOW, 5, 4, .rw, 0⟩
  | .TIDE_SD_WINDOW_LOG2 => ⟨.TIDE_SD_WINDOW, 3, 0, .rw, 0⟩
  | .TIDE_SD_LB_SIZE => ⟨.TIDE_SD_LB, 63, 48, .rw, 0⟩
  | .TIDE_SD_LB_BASE => ⟨.TIDE_SD_LB, 47, 16, .rw, 0⟩
  | .TIDE_SD_HDR_BASE_BASE => ⟨.TIDE_SD_HDR_BASE, 47, 12, .rw, 0⟩
  | .TIDE_SD_CB_BASE_BASE => ⟨.TIDE_SD_CB_BASE, 47, 16, .rw, 0⟩
  | .TIDE_SD_MARKS_DOWN_MARK => ⟨.TIDE_SD_MARKS, 57, 32, .ro, 0⟩
  | .TIDE_SD_MARKS_OWN_MARK => ⟨.TIDE_SD_MARKS, 25, 0, .ro, 0⟩
  | .TIDE_SD_INJ_NEXT => ⟨.TIDE_SD_INJ, 25, 0, .ro, 0⟩
  | .TIDE_SD_WANT_MARK_MARK => ⟨.TIDE_SD_WANT_MARK, 25, 0, .rw, 0⟩
  | .TIDE_SD_STATUS_STATE => ⟨.TIDE_SD_STATUS, 2, 0, .ro, 0⟩
  | .TIDE_SD_LANDED_COUNT => ⟨.TIDE_SD_LANDED, 31, 0, .ro, 0⟩
  | .TIDE_SD_SKIPPED_COUNT => ⟨.TIDE_SD_SKIPPED, 31, 0, .ro, 0⟩
  | .TIDE_SD_FWD_STALL_COUNT => ⟨.TIDE_SD_FWD_STALL, 31, 0, .ro, 0⟩
  | .TIDE_SD_STALE_COUNT => ⟨.TIDE_SD_STALE, 31, 0, .ro, 0⟩
  | .TILE_ID_PCOL => ⟨.TILE_ID, 24, 20, .ro, 0⟩
  | .TILE_ID_PROW => ⟨.TILE_ID, 19, 15, .ro, 0⟩
  | .TILE_ID_DIE => ⟨.TILE_ID, 14, 12, .ro, 0⟩
  | .TILE_ID_LOGICAL => ⟨.TILE_ID, 11, 0, .ro, 0⟩
  | .TILE_STATUS_BUSY => ⟨.TILE_STATUS, 12, 8, .ro, 0⟩
  | .TILE_STATUS_HALTED => ⟨.TILE_STATUS, 7, 4, .ro, 0⟩
  | .TILE_STATUS_RUNNING => ⟨.TILE_STATUS, 3, 0, .ro, 0⟩
  | .TILE_WATERLINE_REWRITING => ⟨.TILE_WATERLINE, 5, 5, .ro, 0⟩
  | .TILE_WATERLINE_LEVEL => ⟨.TILE_WATERLINE, 4, 0, .rw, 0x14⟩
  | .TILE_ERR_STATUS_STARVE => ⟨.TILE_ERR_STATUS, 7, 7, .w1c, 0⟩
  | .TILE_ERR_STATUS_WATERLINE => ⟨.TILE_ERR_STATUS, 6, 6, .w1c, 0⟩
  | .TILE_ERR_STATUS_ARM => ⟨.TILE_ERR_STATUS, 5, 5, .w1c, 0⟩
  | .TILE_ERR_STATUS_ADDR => ⟨.TILE_ERR_STATUS, 4, 4, .w1c, 0⟩
  | .TILE_ERR_STATUS_DESC => ⟨.TILE_ERR_STATUS, 3, 3, .w1c, 0⟩
  | .TILE_ERR_STATUS_TRAP => ⟨.TILE_ERR_STATUS, 2, 2, .w1c, 0⟩
  | .TILE_ERR_STATUS_UE => ⟨.TILE_ERR_STATUS, 1, 1, .w1c, 0⟩
  | .TILE_ERR_STATUS_SHINGLE => ⟨.TILE_ERR_STATUS, 0, 0, .w1c, 0⟩
  | .TILE_ERR_INFO_ADDR => ⟨.TILE_ERR_INFO, 47, 0, .ro, 0⟩
  | .TILE_CE_COUNT_COMMONS => ⟨.TILE_CE_COUNT, 31, 16, .ro, 0⟩
  | .TILE_CE_COUNT_SCRATCH => ⟨.TILE_CE_COUNT, 15, 0, .ro, 0⟩
  | .TILE_CE_STALL_COUNT => ⟨.TILE_CE_STALL, 31, 0, .ro, 0⟩
  | .TILE_STARVE_COUNT => ⟨.TILE_STARVE, 31, 0, .ro, 0⟩
  | .TILE_ARB_RANK_ORDER => ⟨.TILE_ARB_RANK, 20, 0, .ro, 0x1ac688⟩
  | .TILE_RESEND_DROP_COUNT => ⟨.TILE_RESEND_DROP, 31, 0, .ro, 0⟩
  | .TILE_RESEND_ARM_VALID => ⟨.TILE_RESEND_ARM, 63, 63, .ro, 0⟩
  | .TILE_RESEND_ARM_DIR => ⟨.TILE_RESEND_ARM, 27, 27, .ro, 0⟩
  | .TILE_RESEND_ARM_STRAND => ⟨.TILE_RESEND_ARM, 26, 25, .ro, 0⟩
  | .TILE_RESEND_ARM_LAP_POS => ⟨.TILE_RESEND_ARM, 24, 0, .ro, 0⟩
  | .TILE_CTX_CTRL_HALTED => ⟨.TILE_CTX_CTRL, 1, 1, .w1c, 0⟩
  | .TILE_CTX_CTRL_RUN => ⟨.TILE_CTX_CTRL, 0, 0, .rw, 0⟩
  | .TILE_CTX_PC_PC => ⟨.TILE_CTX_PC, 13, 1, .rw, 0⟩
  | .TILE_CTX_SP_BOUND => ⟨.TILE_CTX_SP, 50, 32, .rw, 0⟩
  | .TILE_CTX_SP_BASE => ⟨.TILE_CTX_SP, 18, 0, .rw, 0⟩
  | .TILE_CTX_PS_BOUND => ⟨.TILE_CTX_PS, 29, 16, .rw, 0⟩
  | .TILE_CTX_PS_BASE => ⟨.TILE_CTX_PS, 13, 0, .rw, 0⟩
  | .TILE_CTX_FAR_BASE => ⟨.TILE_CTX_FAR, 17, 0, .rw, 0⟩
  | .TILE_CTX_CAUSE_CAUSE => ⟨.TILE_CTX_CAUSE, 31, 0, .ro, 0⟩
  | .TILE_CTX_TVAL_TVAL => ⟨.TILE_CTX_TVAL, 31, 0, .ro, 0⟩
  | .ARR_STATUS_ABORTED => ⟨.ARR_STATUS, 8, 8, .w1c, 0⟩
  | .ARR_STATUS_STOPPED => ⟨.ARR_STATUS, 7, 7, .ro, 0⟩
  | .ARR_STATUS_GATED => ⟨.ARR_STATUS, 6, 6, .ro, 0⟩
  | .ARR_STATUS_FROZEN => ⟨.ARR_STATUS, 5, 5, .ro, 0⟩
  | .ARR_STATUS_WAITING => ⟨.ARR_STATUS, 4, 4, .ro, 0⟩
  | .ARR_STATUS_PREFETCH => ⟨.ARR_STATUS, 3, 3, .ro, 0⟩
  | .ARR_STATUS_RUNNING => ⟨.ARR_STATUS, 2, 2, .ro, 0⟩
  | .ARR_STATUS_BUF1 => ⟨.ARR_STATUS, 1, 1, .ro, 0⟩
  | .ARR_STATUS_BUF0 => ⟨.ARR_STATUS, 0, 0, .ro, 0⟩
  | .ARR_CTRL_ABORT => ⟨.ARR_CTRL, 1, 1, .w1s, 0⟩
  | .ARR_CTRL_STOP => ⟨.ARR_CTRL, 0, 0, .rw, 0⟩
  | .ARR_REPAIR_OUT_ROW => ⟨.ARR_REPAIR, 5, 0, .ro, 0⟩
  | .ARR_CUR_TICKET => ⟨.ARR_CUR, 31, 16, .ro, 0⟩
  | .ARR_CUR_BLOCK => ⟨.ARR_CUR, 11, 0, .ro, 0⟩
  | .ARR_PASSES_COUNT => ⟨.ARR_PASSES, 31, 0, .ro, 0⟩
  | .ARR_ACTIVE_COUNT => ⟨.ARR_ACTIVE, 31, 0, .ro, 0⟩
  | .ARR_STALL_A_COUNT => ⟨.ARR_STALL_A, 31, 0, .ro, 0⟩
  | .ARR_STALL_B_COUNT => ⟨.ARR_STALL_B, 31, 0, .ro, 0⟩
  | .ARR_GATED_COUNT => ⟨.ARR_GATED, 31, 0, .ro, 0⟩
  | .ARR_WAITING_COUNT => ⟨.ARR_WAITING, 31, 0, .ro, 0⟩
  | .SHG_STATUS_RC_OPEN => ⟨.SHG_STATUS, 2, 2, .ro, 0⟩
  | .SHG_STATUS_SV_OPEN => ⟨.SHG_STATUS, 1, 1, .ro, 0⟩
  | .SHG_STATUS_ERROR => ⟨.SHG_STATUS, 0, 0, .ro, 0⟩
  | .SHG_ERR_STATUS_RECODE => ⟨.SHG_ERR_STATUS, 2, 2, .w1c, 0⟩
  | .SHG_ERR_STATUS_SURVEY => ⟨.SHG_ERR_STATUS, 1, 1, .w1c, 0⟩
  | .SHG_ERR_STATUS_SHINGLE => ⟨.SHG_ERR_STATUS, 0, 0, .w1c, 0⟩
  | .SHG_INT_EN_EN => ⟨.SHG_INT_EN, 2, 0, .rw, 0⟩
  | .SHG_LIMIT_LIMIT_US => ⟨.SHG_LIMIT, 25, 0, .rw, 0xf4240⟩
  | .SHG_ERR_INFO_SUBCODE => ⟨.SHG_ERR_INFO, 51, 48, .ro, 0⟩
  | .SHG_ERR_INFO_ADDR => ⟨.SHG_ERR_INFO, 47, 0, .ro, 0⟩
  | .SHG_ERR_LEN_DECL_CODED => ⟨.SHG_ERR_LEN, 44, 32, .ro, 0⟩
  | .SHG_ERR_LEN_PROD_EXP => ⟨.SHG_ERR_LEN, 28, 16, .ro, 0⟩
  | .SHG_ERR_LEN_DECL_EXP => ⟨.SHG_ERR_LEN, 12, 0, .ro, 0⟩
  | .SHG_EXPANDED_COUNT => ⟨.SHG_EXPANDED, 31, 0, .ro, 0⟩
  | .SHG_EXP_RAW_COUNT => ⟨.SHG_EXP_RAW, 31, 0, .ro, 0⟩
  | .SHG_COMPRESSED_COUNT => ⟨.SHG_COMPRESSED, 31, 0, .ro, 0⟩
  | .SHG_CMP_RAW_COUNT => ⟨.SHG_CMP_RAW, 31, 0, .ro, 0⟩
  | .SHG_SV_CTRL_TENSOR => ⟨.SHG_SV_CTRL, 63, 44, .rw, 0⟩
  | .SHG_SV_CTRL_HOME => ⟨.SHG_SV_CTRL, 43, 34, .rw, 0⟩
  | .SHG_SV_CTRL_EPOCH => ⟨.SHG_SV_CTRL, 33, 26, .rw, 0⟩
  | .SHG_SV_CTRL_GRAD => ⟨.SHG_SV_CTRL, 25, 25, .rw, 0⟩
  | .SHG_SV_CTRL_FORMAT => ⟨.SHG_SV_CTRL, 24, 21, .rw, 0⟩
  | .SHG_SV_CTRL_MAXW => ⟨.SHG_SV_CTRL, 20, 19, .rw, 2⟩
  | .SHG_SV_CTRL_FINISH => ⟨.SHG_SV_CTRL, 1, 1, .w1s, 0⟩
  | .SHG_SV_CTRL_OPEN => ⟨.SHG_SV_CTRL, 0, 0, .w1s, 0⟩
  | .SHG_SV_STATUS_OPEN => ⟨.SHG_SV_STATUS, 31, 31, .ro, 0⟩
  | .SHG_SV_STATUS_BUSY => ⟨.SHG_SV_STATUS, 30, 30, .ro, 0⟩
  | .SHG_SV_STATUS_DONE => ⟨.SHG_SV_STATUS, 29, 29, .w1c, 0⟩
  | .SHG_SV_STATUS_QUEUED => ⟨.SHG_SV_STATUS, 28, 22, .ro, 0⟩
  | .SHG_SV_STATUS_FED => ⟨.SHG_SV_STATUS, 21, 0, .ro, 0⟩
  | .SHG_SV_BOOK_BASE => ⟨.SHG_SV_BOOK, 47, 15, .rw, 0⟩
  | .SHG_SV_FEED_BLOCKS => ⟨.SHG_SV_FEED, 59, 48, .wo, 0⟩
  | .SHG_SV_FEED_ADDR => ⟨.SHG_SV_FEED, 47, 6, .wo, 0⟩
  | .SHG_SV_SIG_SIG => ⟨.SHG_SV_SIG, 63, 0, .rw, 0⟩
  | .SHG_SV_RESULT_SIZE => ⟨.SHG_SV_RESULT, 51, 0, .ro, 0⟩
  | .SHG_RC_CTRL_FINISH => ⟨.SHG_RC_CTRL, 1, 1, .w1s, 0⟩
  | .SHG_RC_CTRL_OPEN => ⟨.SHG_RC_CTRL, 0, 0, .w1s, 0⟩
  | .SHG_RC_STATUS_OPEN => ⟨.SHG_RC_STATUS, 31, 31, .ro, 0⟩
  | .SHG_RC_STATUS_BUSY => ⟨.SHG_RC_STATUS, 30, 30, .ro, 0⟩
  | .SHG_RC_STATUS_DONE => ⟨.SHG_RC_STATUS, 29, 29, .w1c, 0⟩
  | .SHG_RC_STATUS_QUEUED => ⟨.SHG_RC_STATUS, 28, 22, .ro, 0⟩
  | .SHG_RC_STATUS_RECODED => ⟨.SHG_RC_STATUS, 21, 0, .ro, 0⟩
  | .SHG_RC_BOOK_BASE => ⟨.SHG_RC_BOOK, 47, 15, .rw, 0⟩
  | .SHG_RC_DIR_BASE => ⟨.SHG_RC_DIR, 47, 12, .rw, 0⟩
  | .SHG_RC_FEED_INDEX => ⟨.SHG_RC_FEED, 24, 0, .wo, 0⟩
  | .SHG_RC_SIG_SIG => ⟨.SHG_RC_SIG, 63, 0, .rw, 0⟩
  | .SIG_CTRL_CLEAR_BAR => ⟨.SIG_CTRL, 0, 0, .w1s, 0⟩
  | .SIG_STATUS_RECORD => ⟨.SIG_STATUS, 3, 3, .w1c, 0⟩
  | .SIG_STATUS_STEP_VOID => ⟨.SIG_STATUS, 2, 2, .w1c, 0⟩
  | .SIG_STATUS_VOIDED => ⟨.SIG_STATUS, 1, 1, .w1c, 0⟩
  | .SIG_STATUS_ERROR => ⟨.SIG_STATUS, 0, 0, .ro, 0⟩
  | .SIG_ERR_STATUS_CONFIG => ⟨.SIG_ERR_STATUS, 7, 7, .w1c, 0⟩
  | .SIG_ERR_STATUS_MSG => ⟨.SIG_ERR_STATUS, 6, 6, .w1c, 0⟩
  | .SIG_ERR_STATUS_BARRIER => ⟨.SIG_ERR_STATUS, 5, 5, .w1c, 0⟩
  | .SIG_ERR_STATUS_GUARD => ⟨.SIG_ERR_STATUS, 4, 4, .w1c, 0⟩
  | .SIG_ERR_STATUS_WORD => ⟨.SIG_ERR_STATUS, 3, 3, .w1c, 0⟩
  | .SIG_ERR_STATUS_DRIFT => ⟨.SIG_ERR_STATUS, 2, 2, .w1c, 0⟩
  | .SIG_ERR_STATUS_SATURATE => ⟨.SIG_ERR_STATUS, 1, 1, .w1c, 0⟩
  | .SIG_ERR_STATUS_TIMEOUT => ⟨.SIG_ERR_STATUS, 0, 0, .w1c, 0⟩
  | .SIG_INT_EN_RECORD => ⟨.SIG_INT_EN, 8, 8, .rw, 0⟩
  | .SIG_INT_EN_EN => ⟨.SIG_INT_EN, 7, 0, .rw, 0⟩
  | .SIG_TIDEMARK_TIDEMARK => ⟨.SIG_TIDEMARK, 63, 0, .rw, 0⟩
  | .SIG_PKN_PKN => ⟨.SIG_PKN, 9, 0, .rw, 0⟩
  | .SIG_GUARD_LIMIT_LIMIT_US => ⟨.SIG_GUARD_LIMIT, 25, 0, .rw, 0xf4240⟩
  | .SIG_ERR_HEAD_HEAD => ⟨.SIG_ERR_HEAD, 7, 0, .ro, 0⟩
  | .SIG_ERR_TAIL_TAIL => ⟨.SIG_ERR_TAIL, 7, 0, .rw, 0⟩
  | .SIG_ERR_DROPPED_COUNT => ⟨.SIG_ERR_DROPPED, 31, 0, .ro, 0⟩
  | .SIG_STALE_COUNT => ⟨.SIG_STALE, 31, 0, .ro, 0⟩
  | .SIG_BAR_CFG_VALID => ⟨.SIG_BAR_CFG, 46, 46, .rw, 0⟩
  | .SIG_BAR_CFG_STEP => ⟨.SIG_BAR_CFG, 45, 45, .rw, 0⟩
  | .SIG_BAR_CFG_ROOT => ⟨.SIG_BAR_CFG, 44, 35, .rw, 0⟩
  | .SIG_BAR_CFG_PKGS => ⟨.SIG_BAR_CFG, 34, 24, .rw, 0⟩
  | .SIG_BAR_CFG_EXPECT => ⟨.SIG_BAR_CFG, 13, 0, .rw, 0⟩
  | .SIG_BAR_STATE_GEN => ⟨.SIG_BAR_STATE, 63, 32, .ro, 0⟩
  | .SIG_BAR_STATE_LAST_ERR => ⟨.SIG_BAR_STATE, 16, 16, .ro, 0⟩
  | .SIG_BAR_STATE_ERR => ⟨.SIG_BAR_STATE, 15, 15, .ro, 0⟩
  | .SIG_BAR_STATE_SENSE => ⟨.SIG_BAR_STATE, 14, 14, .ro, 0⟩
  | .SIG_BAR_STATE_ARRIVED => ⟨.SIG_BAR_STATE, 13, 0, .ro, 0⟩
  | .SIG_BAR_LIMIT_LIMIT_US => ⟨.SIG_BAR_LIMIT, 25, 0, .rw, 0xf4240⟩
  | .SIG_ROUTE_VALID => ⟨.SIG_ROUTE, 5, 5, .rw, 0⟩
  | .SIG_ROUTE_PORT => ⟨.SIG_ROUTE, 4, 0, .rw, 0⟩
  | .SIG_CNT_VALUE => ⟨.SIG_CNT, 15, 0, .rw, 0⟩
  | .SIG_CNT_CFG_MODE => ⟨.SIG_CNT_CFG, 16, 16, .rw, 0⟩
  | .SIG_CNT_CFG_BOUND => ⟨.SIG_CNT_CFG, 15, 0, .rw, 0⟩
  | .SIG_CNT_ADDED_ADDED => ⟨.SIG_CNT_ADDED, 47, 0, .ro, 0⟩
  | .SIG_CNT_TAKEN_TAKEN => ⟨.SIG_CNT_TAKEN, 47, 0, .ro, 0⟩
  | .SIG_TILE_OVER_OVER => ⟨.SIG_TILE_OVER, 63, 0, .w1c, 0⟩
  | .SIG_TILE_UNDER_UNDER => ⟨.SIG_TILE_UNDER, 63, 0, .w1c, 0⟩
  | .SIG_TILE_LIMIT_LIMIT_US => ⟨.SIG_TILE_LIMIT, 25, 0, .rw, 0xf4240⟩
  | .MEM_STATUS_ZEROING => ⟨.MEM_STATUS, 5, 5, .ro, 0⟩
  | .MEM_STATUS_SCRUBBING => ⟨.MEM_STATUS, 4, 4, .ro, 0⟩
  | .MEM_STATUS_HOT => ⟨.MEM_STATUS, 3, 3, .ro, 0⟩
  | .MEM_STATUS_ERROR => ⟨.MEM_STATUS, 2, 2, .ro, 0⟩
  | .MEM_STATUS_TRAINED => ⟨.MEM_STATUS, 1, 1, .ro, 0⟩
  | .MEM_STATUS_PRESENT => ⟨.MEM_STATUS, 0, 0, .ro, 0⟩
  | .MEM_ERR_STATUS_STARVE => ⟨.MEM_ERR_STATUS, 5, 5, .w1c, 0⟩
  | .MEM_ERR_STATUS_SCRUB => ⟨.MEM_ERR_STATUS, 4, 4, .w1c, 0⟩
  | .MEM_ERR_STATUS_CE => ⟨.MEM_ERR_STATUS, 3, 3, .w1c, 0⟩
  | .MEM_ERR_STATUS_REGION => ⟨.MEM_ERR_STATUS, 2, 2, .w1c, 0⟩
  | .MEM_ERR_STATUS_RANGE => ⟨.MEM_ERR_STATUS, 1, 1, .w1c, 0⟩
  | .MEM_ERR_STATUS_UE => ⟨.MEM_ERR_STATUS, 0, 0, .w1c, 0⟩
  | .MEM_INT_EN_EN => ⟨.MEM_INT_EN, 5, 0, .rw, 0⟩
  | .MEM_CE_THRESH_THRESH => ⟨.MEM_CE_THRESH, 15, 0, .rw, 0x100⟩
  | .MEM_ERR_INFO_REQ => ⟨.MEM_ERR_INFO, 55, 52, .ro, 0⟩
  | .MEM_ERR_INFO_CHANNEL => ⟨.MEM_ERR_INFO, 51, 48, .ro, 0⟩
  | .MEM_ERR_INFO_ADDR => ⟨.MEM_ERR_INFO, 47, 0, .ro, 0⟩
  | .MEM_ERR_SYND_SYND => ⟨.MEM_ERR_SYND, 63, 0, .ro, 0⟩
  | .MEM_CE_COUNT_COUNT => ⟨.MEM_CE_COUNT, 31, 0, .ro, 0⟩
  | .MEM_UE_COUNT_COUNT => ⟨.MEM_UE_COUNT, 31, 0, .ro, 0⟩
  | .MEM_REFRESH_RATE => ⟨.MEM_REFRESH, 1, 0, .ro, 0⟩
  | .MEM_TEMP_TEMP => ⟨.MEM_TEMP, 7, 0, .ro, 0⟩
  | .MEM_RD_BYTES_COUNT => ⟨.MEM_RD_BYTES, 63, 0, .ro, 0⟩
  | .MEM_WR_BYTES_COUNT => ⟨.MEM_WR_BYTES, 63, 0, .ro, 0⟩
  | .MEM_SCRUB_CFG_EN => ⟨.MEM_SCRUB_CFG, 16, 16, .rw, 1⟩
  | .MEM_SCRUB_CFG_PERIOD_H => ⟨.MEM_SCRUB_CFG, 15, 0, .rw, 0x18⟩
  | .MEM_SCRUB_POS_LINE => ⟨.MEM_SCRUB_POS, 36, 6, .ro, 0⟩
  | .MEM_ZERO_START => ⟨.MEM_ZERO, 0, 0, .w1s, 0⟩
  | .MEM_CFG_SIZE_GIB => ⟨.MEM_CFG, 15, 8, .ro, 0⟩
  | .MEM_CFG_STACKS => ⟨.MEM_CFG, 4, 0, .ro, 0⟩
  | .MEM_ARB_RANK_ORDER => ⟨.MEM_ARB_RANK, 20, 0, .rwl, 0x1ac458⟩
  | .MEM_XTS_KEYED => ⟨.MEM_XTS, 1, 1, .ro, 0⟩
  | .MEM_XTS_EN => ⟨.MEM_XTS, 0, 0, .ro, 0⟩
  | .MEM_RGN_CTX_SIZE_MIB => ⟨.MEM_RGN_CTX, 63, 48, .ro, 0x500⟩
  | .MEM_RGN_CTX_BASE => ⟨.MEM_RGN_CTX, 47, 20, .ro, 0⟩
  | .MEM_RGN_MIRROR_SIZE => ⟨.MEM_RGN_MIRROR, 63, 48, .rw, 0⟩
  | .MEM_RGN_MIRROR_BASE => ⟨.MEM_RGN_MIRROR, 47, 24, .rw, 0⟩
  | .MEM_RGN_MIRROR_ARMED => ⟨.MEM_RGN_MIRROR, 0, 0, .rw, 0⟩
  | .MEM_MIRROR_SRC_VALID => ⟨.MEM_MIRROR_SRC, 10, 10, .rw, 0⟩
  | .MEM_MIRROR_SRC_PKN => ⟨.MEM_MIRROR_SRC, 9, 0, .rw, 0⟩
  | .TWY_PORT_CTRL_RETRAIN => ⟨.TWY_PORT_CTRL, 2, 2, .w1s, 0⟩
  | .TWY_PORT_CTRL_EXCUSE => ⟨.TWY_PORT_CTRL, 1, 1, .rw, 0⟩
  | .TWY_PORT_CTRL_ENABLE => ⟨.TWY_PORT_CTRL, 0, 0, .rw, 0⟩
  | .TWY_PORT_STATUS_REASON => ⟨.TWY_PORT_STATUS, 11, 8, .ro, 0⟩
  | .TWY_PORT_STATUS_HOLDING => ⟨.TWY_PORT_STATUS, 6, 6, .ro, 0⟩
  | .TWY_PORT_STATUS_PENDING_ENABLE => ⟨.TWY_PORT_STATUS, 5, 5, .ro, 0⟩
  | .TWY_PORT_STATUS_STATE => ⟨.TWY_PORT_STATUS, 3, 0, .ro, 0⟩
  | .TWY_PORT_CFG_IODIE => ⟨.TWY_PORT_CFG, 34, 33, .ro, 0⟩
  | .TWY_PORT_CFG_ENTRY => ⟨.TWY_PORT_CFG, 32, 0, .ro, 0⟩
  | .TWY_PORT_PEER_SERIAL => ⟨.TWY_PORT_PEER, 63, 32, .ro, 0⟩
  | .TWY_PORT_PEER_PORT => ⟨.TWY_PORT_PEER, 26, 22, .ro, 0⟩
  | .TWY_PORT_PEER_KIND => ⟨.TWY_PORT_PEER, 21, 19, .ro, 0⟩
  | .TWY_PORT_PEER_LOC => ⟨.TWY_PORT_PEER, 18, 9, .ro, 0⟩
  | .TWY_PORT_PEER_QUADS => ⟨.TWY_PORT_PEER, 8, 4, .ro, 0⟩
  | .TWY_PORT_PEER_VALID => ⟨.TWY_PORT_PEER, 0, 0, .ro, 0⟩
  | .TWY_PORT_CREDIT_MGMT => ⟨.TWY_PORT_CREDIT, 47, 40, .rw, 1⟩
  | .TWY_PORT_CREDIT_MIRROR => ⟨.TWY_PORT_CREDIT, 39, 32, .rw, 0⟩
  | .TWY_PORT_CREDIT_TRANSIT => ⟨.TWY_PORT_CREDIT, 31, 24, .rw, 0⟩
  | .TWY_PORT_CREDIT_SIGNAL => ⟨.TWY_PORT_CREDIT, 23, 16, .rw, 1⟩
  | .TWY_PORT_CREDIT_EBB => ⟨.TWY_PORT_CREDIT, 15, 8, .rw, 0⟩
  | .TWY_PORT_CREDIT_FLOOD => ⟨.TWY_PORT_CREDIT, 7, 0, .rw, 0⟩
  | .TWY_ERR_STATUS_CONFIG => ⟨.TWY_ERR_STATUS, 8, 8, .w1c, 0⟩
  | .TWY_ERR_STATUS_XFER => ⟨.TWY_ERR_STATUS, 7, 7, .w1c, 0⟩
  | .TWY_ERR_STATUS_DRAIN => ⟨.TWY_ERR_STATUS, 6, 6, .w1c, 0⟩
  | .TWY_ERR_STATUS_TRANSIT => ⟨.TWY_ERR_STATUS, 5, 5, .w1c, 0⟩
  | .TWY_ERR_STATUS_NONCE => ⟨.TWY_ERR_STATUS, 4, 4, .w1c, 0⟩
  | .TWY_ERR_STATUS_GCM => ⟨.TWY_ERR_STATUS, 3, 3, .w1c, 0⟩
  | .TWY_ERR_STATUS_DOWN => ⟨.TWY_ERR_STATUS, 2, 2, .w1c, 0⟩
  | .TWY_ERR_STATUS_IDENT => ⟨.TWY_ERR_STATUS, 1, 1, .w1c, 0⟩
  | .TWY_ERR_STATUS_ABSENT => ⟨.TWY_ERR_STATUS, 0, 0, .w1c, 0⟩
  | .TWY_INT_EN_EN => ⟨.TWY_INT_EN, 8, 0, .rw, 7⟩
  | .TWY_PORT_LIMITS_DRAIN => ⟨.TWY_PORT_LIMITS, 31, 20, .rw, 0x3e8⟩
  | .TWY_PORT_LIMITS_TRAIN => ⟨.TWY_PORT_LIMITS, 19, 8, .rw, 0x1f4⟩
  | .TWY_PORT_LIMITS_RETRY => ⟨.TWY_PORT_LIMITS, 7, 0, .rw, 0x10⟩
  | .TWY_TIME_OFFSET_OFFSET => ⟨.TWY_TIME_OFFSET, 63, 0, .ro, 0⟩
  | .TWY_TX_FLITS_COUNT => ⟨.TWY_TX_FLITS, 63, 0, .ro, 0⟩
  | .TWY_RX_FLITS_COUNT => ⟨.TWY_RX_FLITS, 63, 0, .ro, 0⟩
  | .TWY_TRANSIT_FLITS_COUNT => ⟨.TWY_TRANSIT_FLITS, 63, 0, .ro, 0⟩
  | .TWY_RETRIES_COUNT => ⟨.TWY_RETRIES, 31, 0, .ro, 0⟩
  | .TWY_CRC_ERR_COUNT => ⟨.TWY_CRC_ERR, 31, 0, .ro, 0⟩
  | .TWY_FEC_CORR_COUNT => ⟨.TWY_FEC_CORR, 31, 0, .ro, 0⟩
  | .TWY_FEC_UNCORR_COUNT => ⟨.TWY_FEC_UNCORR, 31, 0, .ro, 0⟩
  | .TWY_GCM_FAIL_COUNT => ⟨.TWY_GCM_FAIL, 31, 0, .ro, 0⟩
  | .TWY_STALE_COUNT => ⟨.TWY_STALE, 31, 0, .ro, 0⟩
  | .TWY_GLB_CTRL_LINKS_EN => ⟨.TWY_GLB_CTRL, 0, 0, .rwl, 0⟩
  | .TWY_GLB_STATUS_TIME_FREE => ⟨.TWY_GLB_STATUS, 3, 3, .ro, 1⟩
  | .TWY_GLB_STATUS_HOLD => ⟨.TWY_GLB_STATUS, 2, 2, .ro, 1⟩
  | .TWY_GLB_STATUS_PLAN_ERR => ⟨.TWY_GLB_STATUS, 1, 1, .ro, 0⟩
  | .TWY_GLB_STATUS_FORMED => ⟨.TWY_GLB_STATUS, 0, 0, .ro, 0⟩
  | .TWY_PLAN_EPOCH_EPOCH => ⟨.TWY_PLAN_EPOCH, 31, 0, .ro, 0⟩
  | .TWY_SELF_LOC_KIND => ⟨.TWY_SELF_LOC, 12, 10, .ro, 0⟩
  | .TWY_SELF_LOC_LOC => ⟨.TWY_SELF_LOC, 9, 0, .ro, 0⟩
  | .TWY_KEY_TM_TIDEMARK => ⟨.TWY_KEY_TM, 63, 0, .ro, 0⟩
  | .TWY_XFER_REQUEST => ⟨.TWY_XFER, 511, 0, .wo, 0⟩
  | .TWY_XFER_STATUS_QUEUED => ⟨.TWY_XFER_STATUS, 27, 0, .ro, 0⟩
  | .TWY_LOC_ROUTE_VALID => ⟨.TWY_LOC_ROUTE, 5, 5, .rw, 0⟩
  | .TWY_LOC_ROUTE_PORT => ⟨.TWY_LOC_ROUTE, 4, 0, .rw, 0⟩
  | .TWY_PKN_LOC_VALID => ⟨.TWY_PKN_LOC, 10, 10, .rw, 0⟩
  | .TWY_PKN_LOC_LOC => ⟨.TWY_PKN_LOC, 9, 0, .rw, 0⟩
  | .SLU_CTRL_COMMIT => ⟨.SLU_CTRL, 0, 0, .w1s, 0⟩
  | .SLU_STATUS_CARRY => ⟨.SLU_STATUS, 14, 14, .ro, 0⟩
  | .SLU_STATUS_MGMT_USED => ⟨.SLU_STATUS, 13, 13, .ro, 0⟩
  | .SLU_STATUS_COMMIT_PENDING => ⟨.SLU_STATUS, 12, 12, .ro, 0⟩
  | .SLU_STATUS_HOLDER => ⟨.SLU_STATUS, 10, 8, .ro, 7⟩
  | .SLU_STATUS_SLOT => ⟨.SLU_STATUS, 5, 0, .ro, 0⟩
  | .SLU_RANK_ORDER => ⟨.SLU_RANK, 14, 0, .rwl, 0x3842⟩
  | .SLU_LIMITS_STARVE => ⟨.SLU_LIMITS, 19, 0, .rw, 0x10000⟩
  | .SLU_ERR_STATUS_STARVE => ⟨.SLU_ERR_STATUS, 2, 2, .w1c, 0⟩
  | .SLU_ERR_STATUS_PENDING => ⟨.SLU_ERR_STATUS, 1, 1, .w1c, 0⟩
  | .SLU_ERR_STATUS_TABLE => ⟨.SLU_ERR_STATUS, 0, 0, .w1c, 0⟩
  | .SLU_INT_EN_EN => ⟨.SLU_INT_EN, 2, 0, .rw, 5⟩
  | .SLU_STARVE_CNT_COUNT => ⟨.SLU_STARVE_CNT, 31, 0, .ro, 0⟩
  | .SLU_CLASS_FLITS_COUNT => ⟨.SLU_CLASS_FLITS, 63, 0, .ro, 0⟩
  | .SLU_SHADOW_SLOTS => ⟨.SLU_SHADOW, 31, 0, .rw, 0⟩
  | .SLU_ACTIVE_SLOTS => ⟨.SLU_ACTIVE, 31, 0, .ro, 0⟩
  | .SLU_STARVE_EGRESS => ⟨.SLU_STARVE, 3, 3, .ro, 0⟩
  | .SLU_STARVE_MEMORY => ⟨.SLU_STARVE, 2, 2, .ro, 0⟩
  | .SLU_STARVE_FABRIC => ⟨.SLU_STARVE, 1, 1, .ro, 0⟩
  | .SLU_STARVE_BANK => ⟨.SLU_STARVE, 0, 0, .ro, 0⟩
  | .SLU_GLB_INT_EN_EN => ⟨.SLU_GLB_INT_EN, 3, 0, .rw, 0⟩
  | .SLU_FAB_STARVE_COUNT => ⟨.SLU_FAB_STARVE, 63, 32, .ro, 0⟩
  | .SLU_FAB_STARVE_FLAG => ⟨.SLU_FAB_STARVE, 31, 31, .w1c, 0⟩
  | .SLU_FAB_STARVE_PORT => ⟨.SLU_FAB_STARVE, 14, 12, .ro, 0⟩
  | .SLU_FAB_STARVE_TILE => ⟨.SLU_FAB_STARVE, 11, 0, .ro, 0⟩
  | .HST_CTRL_ENABLE => ⟨.HST_CTRL, 0, 0, .rw, 0⟩
  | .HST_STATUS_RECOVERY => ⟨.HST_STATUS, 11, 11, .ro, 0⟩
  | .HST_STATUS_WIN_STALL => ⟨.HST_STATUS, 10, 10, .ro, 1⟩
  | .HST_STATUS_JOB_IDLE => ⟨.HST_STATUS, 9, 9, .w1c, 0⟩
  | .HST_STATUS_ERROR => ⟨.HST_STATUS, 8, 8, .ro, 0⟩
  | .HST_STATUS_JOB_STATE => ⟨.HST_STATUS, 2, 0, .ro, 5⟩
  | .HST_ERR_STATUS_MANIFEST => ⟨.HST_ERR_STATUS, 6, 6, .w1c, 0⟩
  | .HST_ERR_STATUS_RECOVER => ⟨.HST_ERR_STATUS, 5, 5, .w1c, 0⟩
  | .HST_ERR_STATUS_PAUSE => ⟨.HST_ERR_STATUS, 4, 4, .w1c, 0⟩
  | .HST_ERR_STATUS_LINK => ⟨.HST_ERR_STATUS, 3, 3, .w1c, 0⟩
  | .HST_ERR_STATUS_BAR2 => ⟨.HST_ERR_STATUS, 2, 2, .w1c, 0⟩
  | .HST_ERR_STATUS_WINDOW => ⟨.HST_ERR_STATUS, 1, 1, .w1c, 0⟩
  | .HST_ERR_STATUS_DOORBELL => ⟨.HST_ERR_STATUS, 0, 0, .w1c, 0⟩
  | .HST_INT_EN_IDLE => ⟨.HST_INT_EN, 7, 7, .rw, 0⟩
  | .HST_INT_EN_EN => ⟨.HST_INT_EN, 6, 0, .rw, 0x7f⟩
  | .HST_ERR_INFO_HOST => ⟨.HST_ERR_INFO, 63, 63, .ro, 0⟩
  | .HST_ERR_INFO_ADDR => ⟨.HST_ERR_INFO, 47, 0, .ro, 0⟩
  | .HST_BAR2_MAP_BASE => ⟨.HST_BAR2_MAP, 11, 0, .rw, 0⟩
  | .HST_BAR2_DISCARD_COUNT => ⟨.HST_BAR2_DISCARD, 31, 0, .ro, 0⟩
  | .HST_JOB_TAG_JOB => ⟨.HST_JOB_TAG, 31, 0, .ro, 0⟩
  | .HST_PAUSE_LIMIT_LIMIT_US => ⟨.HST_PAUSE_LIMIT, 25, 0, .rw, 0x2710⟩
  | .HST_HOST_SIG_VECTOR => ⟨.HST_HOST_SIG, 10, 0, .wo, 0⟩
  | .HST_SQ_BASE_BASE => ⟨.HST_SQ_BASE, 42, 12, .rw, 0⟩
  | .HST_CQ_BASE_BASE => ⟨.HST_CQ_BASE, 42, 12, .rw, 0⟩
  | .HST_Q_CFG_ENABLE => ⟨.HST_Q_CFG, 31, 31, .rw, 0⟩
  | .HST_Q_CFG_CQ_INT => ⟨.HST_Q_CFG, 8, 8, .rw, 0⟩
  | .HST_Q_CFG_CQ_LOG2 => ⟨.HST_Q_CFG, 7, 4, .rw, 1⟩
  | .HST_Q_CFG_SQ_LOG2 => ⟨.HST_Q_CFG, 3, 0, .rw, 1⟩
  | .HST_Q_STATUS_ERROR => ⟨.HST_Q_STATUS, 31, 31, .w1c, 0⟩
  | .HST_Q_STATUS_FULL => ⟨.HST_Q_STATUS, 30, 30, .ro, 0⟩
  | .HST_Q_STATUS_SQ_HEAD => ⟨.HST_Q_STATUS, 27, 16, .ro, 0⟩
  | .HST_Q_STATUS_CQ_TAIL => ⟨.HST_Q_STATUS, 11, 0, .ro, 0⟩
  | .HST_SQ_TAIL_TAIL => ⟨.HST_SQ_TAIL, 11, 0, .rw, 0⟩
  | .HST_CQ_HEAD_HEAD => ⟨.HST_CQ_HEAD, 11, 0, .rw, 0⟩
  | .HST_FWIN_BASE_BASE => ⟨.HST_FWIN_BASE, 42, 12, .rwl, 0⟩
  | .HST_FWIN_LIMIT_LIMIT => ⟨.HST_FWIN_LIMIT, 42, 12, .rwl, 0⟩
  | .HST_FWIN_LIMIT_VALID => ⟨.HST_FWIN_LIMIT, 0, 0, .rwl, 0⟩
  | .HST_FERRY_STATUS_BUSY => ⟨.HST_FERRY_STATUS, 31, 31, .ro, 0⟩
  | .HST_FERRY_STATUS_QUEUED => ⟨.HST_FERRY_STATUS, 22, 16, .ro, 0⟩
  | .HST_FERRY_STATUS_DONE => ⟨.HST_FERRY_STATUS, 15, 0, .ro, 0⟩
  | .HST_RCV_CTRL_GO => ⟨.HST_RCV_CTRL, 31, 31, .w1s, 0⟩
  | .HST_RCV_CTRL_LAST => ⟨.HST_RCV_CTRL, 30, 30, .rw, 0⟩
  | .HST_RCV_CTRL_TARGET => ⟨.HST_RCV_CTRL, 29, 28, .rw, 0⟩
  | .HST_RCV_CTRL_LEN => ⟨.HST_RCV_CTRL, 19, 0, .rw, 0⟩
  | .HST_RCV_STATUS_READY => ⟨.HST_RCV_STATUS, 31, 31, .ro, 0⟩
  | .HST_RCV_STATUS_DONE => ⟨.HST_RCV_STATUS, 30, 30, .ro, 0⟩
  | .HST_RCV_STATUS_FAIL => ⟨.HST_RCV_STATUS, 29, 29, .ro, 0⟩
  | .HST_RCV_STATUS_RECEIVED => ⟨.HST_RCV_STATUS, 25, 0, .ro, 0⟩
  | .GLB_VOID_CTRL_EN => ⟨.GLB_VOID_CTRL, 31, 31, .rw, 0⟩
  | .GLB_VOID_CTRL_MAX => ⟨.GLB_VOID_CTRL, 25, 18, .rw, 4⟩
  | .GLB_VOID_CTRL_REPLAY_BAR => ⟨.GLB_VOID_CTRL, 17, 9, .rw, 0⟩
  | .GLB_VOID_CTRL_STEP_BAR => ⟨.GLB_VOID_CTRL, 8, 0, .rw, 0⟩
  | .GLB_VOID_STATUS_STATE => ⟨.GLB_VOID_STATUS, 31, 29, .ro, 0⟩
  | .GLB_VOID_STATUS_REMOTE => ⟨.GLB_VOID_STATUS, 28, 28, .ro, 0⟩
  | .GLB_VOID_STATUS_SRC => ⟨.GLB_VOID_STATUS, 27, 18, .ro, 0⟩
  | .GLB_VOID_STATUS_CLASS => ⟨.GLB_VOID_STATUS, 15, 8, .ro, 0⟩
  | .GLB_VOID_STATUS_INDEX => ⟨.GLB_VOID_STATUS, 7, 0, .ro, 0⟩
  | .GLB_VOID_COUNT_COUNT => ⟨.GLB_VOID_COUNT, 31, 0, .ro, 0⟩
  | .GLB_HALT_CTRL_HALTED => ⟨.GLB_HALT_CTRL, 1, 1, .w1c, 0⟩
  | .GLB_HALT_CTRL_EN => ⟨.GLB_HALT_CTRL, 0, 0, .rw, 0⟩
  | .GLB_HALT_TM_TIDEMARK => ⟨.GLB_HALT_TM, 63, 0, .rw, 0⟩
  | .CLK_DOMAIN_RUNNING => ⟨.CLK_DOMAIN, 31, 31, .ro, 0⟩
  | .CLK_DOMAIN_LOCKED => ⟨.CLK_DOMAIN, 30, 30, .ro, 0⟩
  | .CLK_DOMAIN_UNLOCK => ⟨.CLK_DOMAIN, 29, 29, .ro, 0⟩
  | .CLK_DOMAIN_SEL => ⟨.CLK_DOMAIN, 28, 27, .ro, 0⟩
  | .CLK_DOMAIN_FREQ => ⟨.CLK_DOMAIN, 15, 0, .ro, 0xc8⟩
  | .RST_CAUSE_FERRY => ⟨.RST_CAUSE, 9, 9, .w1c, 0⟩
  | .RST_CAUSE_MEMC => ⟨.RST_CAUSE, 8, 8, .w1c, 0⟩
  | .RST_CAUSE_PORT => ⟨.RST_CAUSE, 7, 7, .w1c, 0⟩
  | .RST_CAUSE_TILE => ⟨.RST_CAUSE, 6, 6, .w1c, 0⟩
  | .RST_CAUSE_COMPUTE => ⟨.RST_CAUSE, 5, 5, .w1c, 0⟩
  | .RST_CAUSE_SWPKG => ⟨.RST_CAUSE, 4, 4, .w1c, 0⟩
  | .RST_CAUSE_WDOG => ⟨.RST_CAUSE, 3, 3, .w1c, 0⟩
  | .RST_CAUSE_TRAY => ⟨.RST_CAUSE, 2, 2, .w1c, 0⟩
  | .RST_CAUSE_PERST => ⟨.RST_CAUSE, 1, 1, .w1c, 0⟩
  | .RST_CAUSE_PWROK => ⟨.RST_CAUSE, 0, 0, .w1c, 1⟩
  | .RST_CTRL_COMPUTE => ⟨.RST_CTRL, 1, 1, .rw, 0⟩
  | .RST_CTRL_PKG => ⟨.RST_CTRL, 0, 0, .w1s, 0⟩
  | .RST_BOOT_COPY => ⟨.RST_BOOT, 8, 8, .ro, 0⟩
  | .RST_BOOT_FAULT => ⟨.RST_BOOT, 7, 4, .ro, 0⟩
  | .RST_BOOT_STAGE => ⟨.RST_BOOT, 3, 0, .ro, 0⟩
  | .RST_ERR_STATUS_MIRROR => ⟨.RST_ERR_STATUS, 3, 3, .w1c, 0⟩
  | .RST_ERR_STATUS_BOOT => ⟨.RST_ERR_STATUS, 2, 2, .w1c, 0⟩
  | .RST_ERR_STATUS_UNLOCK => ⟨.RST_ERR_STATUS, 1, 1, .w1c, 0⟩
  | .RST_ERR_STATUS_BLOCK => ⟨.RST_ERR_STATUS, 0, 0, .w1c, 0⟩
  | .RST_INT_EN_EN => ⟨.RST_INT_EN, 3, 0, .rw, 7⟩
  | .RST_PORT_HOLD_HOLD => ⟨.RST_PORT_HOLD, 31, 0, .rw, 0⟩
  | .RST_PORT_CLOSED_CLOSED => ⟨.RST_PORT_CLOSED, 31, 0, .ro, 0⟩
  | .RST_PORT_PEND_PEND => ⟨.RST_PORT_PEND, 31, 0, .ro, 0⟩
  | .RST_MEMC_HOLD_HOLD => ⟨.RST_MEMC_HOLD, 15, 0, .rw, 0⟩
  | .RST_MEMC_CLOSED_CLOSED => ⟨.RST_MEMC_CLOSED, 15, 0, .ro, 0⟩
  | .RST_MEMC_PEND_PEND => ⟨.RST_MEMC_PEND, 15, 0, .ro, 0⟩
  | .RST_FERRY_HOLD_HOLD => ⟨.RST_FERRY_HOLD, 15, 0, .rw, 0⟩
  | .RST_FERRY_CLOSED_CLOSED => ⟨.RST_FERRY_CLOSED, 15, 0, .ro, 0⟩
  | .RST_FERRY_PEND_PEND => ⟨.RST_FERRY_PEND, 15, 0, .ro, 0⟩
  | .RST_TILE_HOLD_HOLD => ⟨.RST_TILE_HOLD, 31, 0, .rw, 0⟩
  | .RST_TILE_CLOSED_CLOSED => ⟨.RST_TILE_CLOSED, 31, 0, .ro, 0⟩
  | .RST_TILE_PEND_PEND => ⟨.RST_TILE_PEND, 31, 0, .ro, 0⟩
  | .LHS_STATUS_PSTATE => ⟨.LHS_STATUS, 7, 5, .ro, 0⟩
  | .LHS_STATUS_ACTIVE => ⟨.LHS_STATUS, 4, 4, .ro, 0⟩
  | .LHS_STATUS_FW => ⟨.LHS_STATUS, 2, 0, .ro, 0⟩
  | .LHS_ERR_STATUS_MGMT => ⟨.LHS_ERR_STATUS, 6, 6, .w1c, 0⟩
  | .LHS_ERR_STATUS_MBOX => ⟨.LHS_ERR_STATUS, 5, 5, .w1c, 0⟩
  | .LHS_ERR_STATUS_FLOW => ⟨.LHS_ERR_STATUS, 4, 4, .w1c, 0⟩
  | .LHS_ERR_STATUS_FLOOR => ⟨.LHS_ERR_STATUS, 3, 3, .w1c, 0⟩
  | .LHS_ERR_STATUS_CLAMP => ⟨.LHS_ERR_STATUS, 2, 2, .w1c, 0⟩
  | .LHS_ERR_STATUS_CAP => ⟨.LHS_ERR_STATUS, 1, 1, .w1c, 0⟩
  | .LHS_ERR_STATUS_THERMTRIP => ⟨.LHS_ERR_STATUS, 0, 0, .w1c, 0⟩
  | .LHS_INT_EN_EN => ⟨.LHS_INT_EN, 6, 0, .rw, 0x13⟩
  | .LHS_MB_CTRL_BUSY => ⟨.LHS_MB_CTRL, 2, 2, .ro, 0⟩
  | .LHS_MB_CTRL_RSP => ⟨.LHS_MB_CTRL, 1, 1, .w1c, 0⟩
  | .LHS_MB_CTRL_REQ => ⟨.LHS_MB_CTRL, 0, 0, .w1s, 0⟩
  | .LHS_GOV_LIMIT_LIMIT_W => ⟨.LHS_GOV_LIMIT, 15, 0, .rw, 0⟩
  | .LHS_GOV_G_G => ⟨.LHS_GOV_G, 31, 0, .ro, 0⟩
  | .LHS_GATE_G => ⟨.LHS_GATE, 31, 0, .ro, 0⟩
  | .LHS_CAP_CAP_G => ⟨.LHS_CAP, 22, 16, .ro, 0⟩
  | .LHS_CAP_CAP_W => ⟨.LHS_CAP, 15, 0, .ro, 0⟩
  | .LHS_VALVE_FORCED => ⟨.LHS_VALVE, 31, 31, .ro, 1⟩
  | .LHS_VALVE_FLOORED => ⟨.LHS_VALVE, 30, 30, .ro, 0⟩
  | .LHS_VALVE_PUMP_REQ => ⟨.LHS_VALVE, 29, 29, .ro, 1⟩
  | .LHS_VALVE_PUMP_FORCED => ⟨.LHS_VALVE, 28, 28, .ro, 1⟩
  | .LHS_VALVE_DUTY => ⟨.LHS_VALVE, 14, 8, .ro, 0x64⟩
  | .LHS_VALVE_REQ => ⟨.LHS_VALVE, 6, 0, .ro, 0x64⟩
  | .LHS_WDOG_PERIOD_MS => ⟨.LHS_WDOG, 13, 0, .ro, 0x3e8⟩
  | .LHS_HEARTBEAT_COUNT => ⟨.LHS_HEARTBEAT, 31, 0, .ro, 0⟩
  | .LHS_CLAMP_INFO_RAIL => ⟨.LHS_CLAMP_INFO, 31, 28, .ro, 0⟩
  | .LHS_CLAMP_INFO_REQ_MV => ⟨.LHS_CLAMP_INFO, 15, 0, .ro, 0⟩
  | .TST_TEL_SEQ_SEQ => ⟨.TST_TEL_SEQ, 63, 0, .ro, 0⟩
  | .TST_TEL_ENERGY_MJ => ⟨.TST_TEL_ENERGY, 63, 0, .ro, 0⟩
  | .TST_TEL_PIN_VOLT => ⟨.TST_TEL_PIN, 31, 16, .ro, 0⟩
  | .TST_TEL_PIN_POWER => ⟨.TST_TEL_PIN, 15, 0, .ro, 0⟩
  | .TST_TEL_PIN_PEAK_POWER => ⟨.TST_TEL_PIN_PEAK, 15, 0, .ro, 0⟩
  | .TST_TEL_COOLANT_OUTLET => ⟨.TST_TEL_COOLANT, 31, 16, .ro, 0⟩
  | .TST_TEL_COOLANT_INLET => ⟨.TST_TEL_COOLANT, 15, 0, .ro, 0⟩
  | .TST_TEL_FLOW_ML_MIN => ⟨.TST_TEL_FLOW, 15, 0, .ro, 0⟩
  | .TST_TEL_EVENTS_CLAMPS => ⟨.TST_TEL_EVENTS, 31, 16, .ro, 0⟩
  | .TST_TEL_EVENTS_CAPS => ⟨.TST_TEL_EVENTS, 15, 0, .ro, 0⟩
  | .TST_TEL_RAIL_VOLT_MV => ⟨.TST_TEL_RAIL, 31, 16, .ro, 0⟩
  | .TST_TEL_RAIL_POWER => ⟨.TST_TEL_RAIL, 15, 0, .ro, 0⟩
  | .TST_TEL_DIEMAX_SENSOR => ⟨.TST_TEL_DIEMAX, 21, 16, .ro, 0⟩
  | .TST_TEL_DIEMAX_TEMP => ⟨.TST_TEL_DIEMAX, 15, 0, .ro, 0⟩
  | .TST_TEL_TEMP_TEMP => ⟨.TST_TEL_TEMP, 15, 0, .ro, 0⟩
  | .TST_TEL_IOTEMP_TEMP => ⟨.TST_TEL_IOTEMP, 15, 0, .ro, 0⟩
  | .TST_TEL_EYE_LANE => ⟨.TST_TEL_EYE, 20, 16, .ro, 0⟩
  | .TST_TEL_EYE_HEIGHT => ⟨.TST_TEL_EYE, 15, 8, .ro, 0⟩
  | .TST_TEL_EYE_WIDTH => ⟨.TST_TEL_EYE, 7, 0, .ro, 0⟩
  | .SEC_STATUS_QUOTE_READY => ⟨.SEC_STATUS, 7, 7, .w1c, 0⟩
  | .SEC_STATUS_CMD_BUSY => ⟨.SEC_STATUS, 6, 6, .ro, 0⟩
  | .SEC_STATUS_DEBUG => ⟨.SEC_STATUS, 5, 5, .ro, 0⟩
  | .SEC_STATUS_SECRET_SET => ⟨.SEC_STATUS, 4, 4, .ro, 0⟩
  | .SEC_STATUS_MGMT_KEYED => ⟨.SEC_STATUS, 3, 3, .ro, 0⟩
  | .SEC_STATUS_JOB_KEYED => ⟨.SEC_STATUS, 2, 2, .ro, 0⟩
  | .SEC_STATUS_ENTROPY_OK => ⟨.SEC_STATUS, 1, 1, .ro, 0⟩
  | .SEC_STATUS_ERROR => ⟨.SEC_STATUS, 0, 0, .ro, 0⟩
  | .SEC_ERR_STATUS_STATE => ⟨.SEC_ERR_STATUS, 6, 6, .w1c, 0⟩
  | .SEC_ERR_STATUS_MIRROR => ⟨.SEC_ERR_STATUS, 5, 5, .w1c, 0⟩
  | .SEC_ERR_STATUS_BUSY => ⟨.SEC_ERR_STATUS, 4, 4, .w1c, 0⟩
  | .SEC_ERR_STATUS_ENTROPY => ⟨.SEC_ERR_STATUS, 3, 3, .w1c, 0⟩
  | .SEC_ERR_STATUS_ENROL => ⟨.SEC_ERR_STATUS, 2, 2, .w1c, 0⟩
  | .SEC_ERR_STATUS_TOKEN => ⟨.SEC_ERR_STATUS, 1, 1, .w1c, 0⟩
  | .SEC_ERR_STATUS_NOKEY => ⟨.SEC_ERR_STATUS, 0, 0, .w1c, 0⟩
  | .SEC_INT_EN_QUOTE => ⟨.SEC_INT_EN, 7, 7, .rw, 0⟩
  | .SEC_INT_EN_EN => ⟨.SEC_INT_EN, 6, 0, .rw, 0xf⟩
  | .SEC_CTRL_CLEAR_SECRET => ⟨.SEC_CTRL, 6, 6, .w1s, 0⟩
  | .SEC_CTRL_SVN_SHORE => ⟨.SEC_CTRL, 5, 5, .w1s, 0⟩
  | .SEC_CTRL_SVN_FW => ⟨.SEC_CTRL, 4, 4, .w1s, 0⟩
  | .SEC_CTRL_REKEY => ⟨.SEC_CTRL, 3, 3, .w1s, 0⟩
  | .SEC_CTRL_ENROL => ⟨.SEC_CTRL, 2, 2, .w1s, 0⟩
  | .SEC_CTRL_UNLOCK => ⟨.SEC_CTRL, 1, 1, .w1s, 0⟩
  | .SEC_CTRL_QUOTE => ⟨.SEC_CTRL, 0, 0, .w1s, 0⟩
  | .SEC_DEBUG_CAPS => ⟨.SEC_DEBUG, 1, 0, .ro, 0⟩
  | .SEC_SVN_SHORE_RUN => ⟨.SEC_SVN, 31, 24, .ro, 0⟩
  | .SEC_SVN_SHORE_FUSE => ⟨.SEC_SVN, 23, 16, .ro, 0⟩
  | .SEC_SVN_FW_RUN => ⟨.SEC_SVN, 15, 8, .ro, 0⟩
  | .SEC_SVN_FW_FUSE => ⟨.SEC_SVN, 7, 0, .ro, 0⟩
  | .SEC_OWNER_FW_SIGNER => ⟨.SEC_OWNER, 22, 20, .ro, 0⟩
  | .SEC_OWNER_SHORE_SIGNER => ⟨.SEC_OWNER, 18, 16, .ro, 0⟩
  | .SEC_OWNER_FOUNDATION_REVOKED => ⟨.SEC_OWNER, 8, 8, .ro, 0⟩
  | .SEC_OWNER_STATE => ⟨.SEC_OWNER, 7, 0, .ro, 0⟩
  | .SEC_SERIAL_SERIAL => ⟨.SEC_SERIAL, 63, 0, .ro, 0⟩
  | .SEC_JOB_SECRET_WORD => ⟨.SEC_JOB_SECRET, 31, 0, .wo, 0⟩
  | .SEC_NONCE_WORD => ⟨.SEC_NONCE, 31, 0, .rw, 0⟩
  | .SEC_CHALLENGE_WORD => ⟨.SEC_CHALLENGE, 31, 0, .ro, 0⟩
  | .SEC_MEAS_DIGEST => ⟨.SEC_MEAS, 255, 0, .ro, 0⟩
  | .JRN_STATUS_UNCAL => ⟨.JRN_STATUS, 7, 7, .ro, 0⟩
  | .JRN_STATUS_FACTORY_OK => ⟨.JRN_STATUS, 6, 6, .ro, 0⟩
  | .JRN_STATUS_HOLD => ⟨.JRN_STATUS, 5, 5, .ro, 0⟩
  | .JRN_STATUS_FULL => ⟨.JRN_STATUS, 4, 4, .ro, 0⟩
  | .JRN_STATUS_COMPACTING => ⟨.JRN_STATUS, 3, 3, .ro, 0⟩
  | .JRN_STATUS_AREA => ⟨.JRN_STATUS, 2, 2, .ro, 0⟩
  | .JRN_STATUS_MOUNTED => ⟨.JRN_STATUS, 1, 1, .ro, 0⟩
  | .JRN_STATUS_ERROR => ⟨.JRN_STATUS, 0, 0, .ro, 0⟩
  | .JRN_ERR_STATUS_MIRROR => ⟨.JRN_ERR_STATUS, 5, 5, .w1c, 0⟩
  | .JRN_ERR_STATUS_FACTORY => ⟨.JRN_ERR_STATUS, 4, 4, .w1c, 0⟩
  | .JRN_ERR_STATUS_FLASH => ⟨.JRN_ERR_STATUS, 3, 3, .w1c, 0⟩
  | .JRN_ERR_STATUS_QUEUE => ⟨.JRN_ERR_STATUS, 2, 2, .w1c, 0⟩
  | .JRN_ERR_STATUS_FULL => ⟨.JRN_ERR_STATUS, 1, 1, .w1c, 0⟩
  | .JRN_ERR_STATUS_CHECK => ⟨.JRN_ERR_STATUS, 0, 0, .w1c, 0⟩
  | .JRN_INT_EN_EN => ⟨.JRN_INT_EN, 5, 0, .rw, 0x1e⟩
  | .JRN_FILL_USED => ⟨.JRN_FILL, 17, 0, .ro, 0⟩
  | .JRN_SEQ_NEXT => ⟨.JRN_SEQ, 47, 0, .ro, 0⟩
  | .JRN_MAINT_REQ_CANCEL => ⟨.JRN_MAINT_REQ, 31, 31, .wo, 0⟩
  | .JRN_MAINT_REQ_START => ⟨.JRN_MAINT_REQ, 30, 30, .wo, 0⟩
  | .JRN_MAINT_REQ_ACTIVITY => ⟨.JRN_MAINT_REQ, 18, 16, .wo, 0⟩
  | .JRN_MAINT_REQ_PARAM => ⟨.JRN_MAINT_REQ, 15, 8, .wo, 0⟩
  | .JRN_MAINT_REQ_INSTANCE => ⟨.JRN_MAINT_REQ, 7, 0, .wo, 0⟩
  | .JRN_EXCL_SCOPE => ⟨.JRN_EXCL, 11, 0, .ro, 0⟩
  | .JRN_MAINT_ST_STATE => ⟨.JRN_MAINT_ST, 31, 30, .ro, 0⟩
  | .JRN_MAINT_ST_LAST => ⟨.JRN_MAINT_ST, 29, 27, .ro, 0⟩
  | .JRN_MAINT_ST_REASON => ⟨.JRN_MAINT_ST, 23, 16, .ro, 0⟩
  | .JRN_MAINT_ST_AGE_S => ⟨.JRN_MAINT_ST, 15, 0, .ro, 0⟩
  | .TST_STATUS_SAMPLE => ⟨.TST_STATUS, 3, 3, .w1c, 0⟩
  | .TST_STATUS_BIST_DONE => ⟨.TST_STATUS, 2, 2, .w1c, 0⟩
  | .TST_STATUS_LB_DONE => ⟨.TST_STATUS, 1, 1, .w1c, 0⟩
  | .TST_STATUS_ERROR => ⟨.TST_STATUS, 0, 0, .ro, 0⟩
  | .TST_ERR_STATUS_MIRROR => ⟨.TST_ERR_STATUS, 4, 4, .w1c, 0⟩
  | .TST_ERR_STATUS_STATE => ⟨.TST_ERR_STATUS, 3, 3, .w1c, 0⟩
  | .TST_ERR_STATUS_ARRAY => ⟨.TST_ERR_STATUS, 2, 2, .w1c, 0⟩
  | .TST_ERR_STATUS_BIST => ⟨.TST_ERR_STATUS, 1, 1, .w1c, 0⟩
  | .TST_ERR_STATUS_LOOPBACK => ⟨.TST_ERR_STATUS, 0, 0, .w1c, 0⟩
  | .TST_INT_EN_DONE => ⟨.TST_INT_EN, 8, 6, .rw, 0⟩
  | .TST_INT_EN_EN => ⟨.TST_INT_EN, 4, 0, .rw, 7⟩
  | .TST_LB_CTRL_RUN => ⟨.TST_LB_CTRL, 15, 15, .w1s, 0⟩
  | .TST_LB_CTRL_KIND => ⟨.TST_LB_CTRL, 14, 12, .rw, 0⟩
  | .TST_LB_CTRL_MODE => ⟨.TST_LB_CTRL, 11, 9, .rw, 0⟩
  | .TST_LB_CTRL_PORT => ⟨.TST_LB_CTRL, 4, 0, .rw, 0⟩
  | .TST_LB_TIME_TIME_MS => ⟨.TST_LB_TIME, 21, 0, .rw, 0x3e8⟩
  | .TST_LB_STATUS_BUSY => ⟨.TST_LB_STATUS, 31, 31, .ro, 0⟩
  | .TST_LB_STATUS_PASS => ⟨.TST_LB_STATUS, 30, 30, .ro, 0⟩
  | .TST_LB_STATUS_FAIL => ⟨.TST_LB_STATUS, 29, 29, .ro, 0⟩
  | .TST_LB_STATUS_COUNTERS => ⟨.TST_LB_STATUS, 6, 0, .ro, 0⟩
  | .TST_LB_BITS_COUNT => ⟨.TST_LB_BITS, 63, 0, .ro, 0⟩
  | .TST_LB_ERR_COUNT => ⟨.TST_LB_ERR, 31, 0, .ro, 0⟩
  | .TST_BIST_CTRL_UNITS => ⟨.TST_BIST_CTRL, 3, 0, .w1s, 0⟩
  | .TST_BIST_STATUS_FAILED => ⟨.TST_BIST_STATUS, 11, 8, .ro, 0⟩
  | .TST_BIST_STATUS_PASSED => ⟨.TST_BIST_STATUS, 7, 4, .ro, 0⟩
  | .TST_BIST_STATUS_RUNNING => ⟨.TST_BIST_STATUS, 3, 0, .ro, 0⟩
  | .TST_BIST_FAIL_COUNT => ⟨.TST_BIST_FAIL, 63, 48, .ro, 0⟩
  | .TST_BIST_FAIL_UNIT => ⟨.TST_BIST_FAIL, 47, 44, .ro, 0⟩
  | .TST_BIST_FAIL_INDEX => ⟨.TST_BIST_FAIL, 43, 32, .ro, 0⟩
  | .TST_BIST_FAIL_ADDR => ⟨.TST_BIST_FAIL, 31, 0, .ro, 0⟩
  | .GLB_IDENT_STACKS => ⟨.GLB_IDENT, 9, 5, .ro, 0⟩
  | .GLB_IDENT_STACK_SIZE => ⟨.GLB_IDENT, 4, 4, .ro, 0⟩
  | .GLB_IDENT_IODIES => ⟨.GLB_IDENT, 3, 1, .ro, 0⟩
  | .GLB_IDENT_GRADE => ⟨.GLB_IDENT, 0, 0, .ro, 0⟩
  | .GLB_STATUS_LOCK_WR => ⟨.GLB_STATUS, 1, 1, .w1c, 0⟩
  | .GLB_STATUS_RSVD_WR => ⟨.GLB_STATUS, 0, 0, .w1c, 0⟩
  | .GLB_STATUS_ADDR_MIRROR => ⟨.GLB_STATUS_ADDR, 31, 31, .ro, 0⟩
  | .GLB_STATUS_ADDR_LH => ⟨.GLB_STATUS_ADDR, 30, 30, .ro, 0⟩
  | .GLB_STATUS_ADDR_OFFSET => ⟨.GLB_STATUS_ADDR, 25, 0, .ro, 0⟩
  | .GLB_BOOT_LOCK_LOCK => ⟨.GLB_BOOT_LOCK, 0, 0, .ro, 0⟩
  | .GLB_TILE_RANK_ORDER => ⟨.GLB_TILE_RANK, 20, 0, .rwl, 0x1ac688⟩
  | .TIDE_LCLASS_RELEASES => ⟨.TIDE_LCLASS, 51, 40, .rw, 0⟩
  | .TIDE_LCLASS_AMOUNT => ⟨.TIDE_LCLASS, 39, 32, .rw, 0⟩
  | .TIDE_LCLASS_COUNTER => ⟨.TIDE_LCLASS, 29, 24, .rw, 0⟩
  | .TIDE_LCLASS_COL_HI => ⟨.TIDE_LCLASS, 23, 19, .rw, 0⟩
  | .TIDE_LCLASS_COL_LO => ⟨.TIDE_LCLASS, 18, 14, .rw, 0⟩
  | .TIDE_LCLASS_ROW_HI => ⟨.TIDE_LCLASS, 13, 9, .rw, 0⟩
  | .TIDE_LCLASS_ROW_LO => ⟨.TIDE_LCLASS, 8, 4, .rw, 0⟩
  | .TIDE_LCLASS_DIES => ⟨.TIDE_LCLASS, 3, 0, .rw, 0⟩
  | .TIDE_WANT_WANT => ⟨.TIDE_WANT, 31, 0, .w1s, 0⟩
  | .HST_MSIX_MASK => ⟨.HST_MSIX, 96, 96, .rw, 1⟩
  | .HST_MSIX_DATA => ⟨.HST_MSIX, 95, 64, .rw, 0⟩
  | .HST_MSIX_ADDR => ⟨.HST_MSIX, 63, 0, .rw, 0⟩
  | .HST_PBA_PENDING => ⟨.HST_PBA, 63, 0, .ro, 0⟩

/-- The number of bits of a field. -/
def Fd.width (f : Fd) : Nat := f.spec.hi + 1 - f.spec.lo

/-- The place and the fields of every register (R490, R493 and the offset tables of every chapter). -/
def Reg.spec : Reg → RegSpec
  | .TIDE_CTRL => ⟨.TIDE, 0x0, 0x0, 1, 32, [.TIDE_CTRL_MODE, .TIDE_CTRL_PAUSE, .TIDE_CTRL_VOID, .TIDE_CTRL_ENABLE]⟩
  | .TIDE_STATUS => ⟨.TIDE, 0x4, 0x0, 1, 32,
      [.TIDE_STATUS_CTX_ACTIVE, .TIDE_STATUS_QUIESCENT, .TIDE_STATUS_VOIDING, .TIDE_STATUS_ERROR,
      .TIDE_STATUS_RUNNING]⟩
  | .TIDE_JOB => ⟨.TIDE, 0x8, 0x0, 1, 32, [.TIDE_JOB_JOB]⟩
  | .TIDE_ATTEMPT => ⟨.TIDE, 0xc, 0x0, 1, 32, [.TIDE_ATTEMPT_ATTEMPT]⟩
  | .TIDE_DIR_BASE => ⟨.TIDE, 0x10, 0x0, 1, 64, [.TIDE_DIR_BASE_BASE]⟩
  | .TIDE_DIR_COUNT => ⟨.TIDE, 0x18, 0x0, 1, 32, [.TIDE_DIR_COUNT_COUNT]⟩
  | .TIDE_STALL_LIMIT => ⟨.TIDE, 0x1c, 0x0, 1, 32, [.TIDE_STALL_LIMIT_LIMIT_US]⟩
  | .TIDE_RELEASE => ⟨.TIDE, 0x20, 0x0, 1, 32, [.TIDE_RELEASE_DIR, .TIDE_RELEASE_STRAND, .TIDE_RELEASE_LAP_POS]⟩
  | .TIDE_ERR_STATUS => ⟨.TIDE, 0x28, 0x0, 1, 32,
      [.TIDE_ERR_STATUS_LAPLIST, .TIDE_ERR_STATUS_RESEND, .TIDE_ERR_STATUS_CONFIG, .TIDE_ERR_STATUS_STALL,
      .TIDE_ERR_STATUS_HEADER, .TIDE_ERR_STATUS_CODEBOOK, .TIDE_ERR_STATUS_DIR, .TIDE_ERR_STATUS_RELEASE,
      .TIDE_ERR_STATUS_WINDOW]⟩
  | .TIDE_INT_EN => ⟨.TIDE, 0x2c, 0x0, 1, 32, [.TIDE_INT_EN_EN]⟩
  | .TIDE_ERR_INFO => ⟨.TIDE, 0x30, 0x0, 1, 64, [.TIDE_ERR_INFO_DETAIL, .TIDE_ERR_INFO_CTX, .TIDE_ERR_INFO_LAP_POS]⟩
  | .TIDE_DCACHE_MISS => ⟨.TIDE, 0x38, 0x0, 1, 32, [.TIDE_DCACHE_MISS_COUNT]⟩
  | .TIDE_SD_CFG => ⟨.TIDE, 0x100, 0x80, 4, 32,
      [.TIDE_SD_CFG_VALID, .TIDE_SD_CFG_TX_PORT, .TIDE_SD_CFG_RX_PORT, .TIDE_SD_CFG_DIR, .TIDE_SD_CFG_STRAND]⟩
  | .TIDE_SD_RING => ⟨.TIDE, 0x104, 0x80, 4, 32, [.TIDE_SD_RING_LEN, .TIDE_SD_RING_POS]⟩
  | .TIDE_SD_LAPLIST => ⟨.TIDE, 0x108, 0x80, 4, 64, [.TIDE_SD_LAPLIST_BASE]⟩
  | .TIDE_SD_LAPCOUNT => ⟨.TIDE, 0x110, 0x80, 4, 32, [.TIDE_SD_LAPCOUNT_COUNT]⟩
  | .TIDE_SD_WINDOW => ⟨.TIDE, 0x114, 0x80, 4, 32, [.TIDE_SD_WINDOW_CREDIT_STEP, .TIDE_SD_WINDOW_ACC_UNITS, .TIDE_SD_WINDOW_LOG2]⟩
  | .TIDE_SD_LB => ⟨.TIDE, 0x118, 0x80, 4, 64, [.TIDE_SD_LB_SIZE, .TIDE_SD_LB_BASE]⟩
  | .TIDE_SD_HDR_BASE => ⟨.TIDE, 0x120, 0x80, 4, 64, [.TIDE_SD_HDR_BASE_BASE]⟩
  | .TIDE_SD_CB_BASE => ⟨.TIDE, 0x128, 0x80, 4, 64, [.TIDE_SD_CB_BASE_BASE]⟩
  | .TIDE_SD_MARKS => ⟨.TIDE, 0x130, 0x80, 4, 64, [.TIDE_SD_MARKS_DOWN_MARK, .TIDE_SD_MARKS_OWN_MARK]⟩
  | .TIDE_SD_INJ => ⟨.TIDE, 0x138, 0x80, 4, 32, [.TIDE_SD_INJ_NEXT]⟩
  | .TIDE_SD_WANT_MARK => ⟨.TIDE, 0x13c, 0x80, 4, 32, [.TIDE_SD_WANT_MARK_MARK]⟩
  | .TIDE_SD_STATUS => ⟨.TIDE, 0x140, 0x80, 4, 32, [.TIDE_SD_STATUS_STATE]⟩
  | .TIDE_SD_LANDED => ⟨.TIDE, 0x144, 0x80, 4, 32, [.TIDE_SD_LANDED_COUNT]⟩
  | .TIDE_SD_SKIPPED => ⟨.TIDE, 0x148, 0x80, 4, 32, [.TIDE_SD_SKIPPED_COUNT]⟩
  | .TIDE_SD_FWD_STALL => ⟨.TIDE, 0x14c, 0x80, 4, 32, [.TIDE_SD_FWD_STALL_COUNT]⟩
  | .TIDE_SD_STALE => ⟨.TIDE, 0x150, 0x80, 4, 32, [.TIDE_SD_STALE_COUNT]⟩
  | .TILE_ID => ⟨.TILE, 0x0, 0x0, 1, 32, [.TILE_ID_PCOL, .TILE_ID_PROW, .TILE_ID_DIE, .TILE_ID_LOGICAL]⟩
  | .TILE_STATUS => ⟨.TILE, 0x4, 0x0, 1, 32, [.TILE_STATUS_BUSY, .TILE_STATUS_HALTED, .TILE_STATUS_RUNNING]⟩
  | .TILE_WATERLINE => ⟨.TILE, 0x8, 0x0, 1, 32, [.TILE_WATERLINE_REWRITING, .TILE_WATERLINE_LEVEL]⟩
  | .TILE_ERR_STATUS => ⟨.TILE, 0xc, 0x0, 1, 32,
      [.TILE_ERR_STATUS_STARVE, .TILE_ERR_STATUS_WATERLINE, .TILE_ERR_STATUS_ARM, .TILE_ERR_STATUS_ADDR,
      .TILE_ERR_STATUS_DESC, .TILE_ERR_STATUS_TRAP, .TILE_ERR_STATUS_UE, .TILE_ERR_STATUS_SHINGLE]⟩
  | .TILE_ERR_INFO => ⟨.TILE, 0x10, 0x0, 1, 64, [.TILE_ERR_INFO_ADDR]⟩
  | .TILE_CE_COUNT => ⟨.TILE, 0x18, 0x0, 1, 32, [.TILE_CE_COUNT_COMMONS, .TILE_CE_COUNT_SCRATCH]⟩
  | .TILE_CE_STALL => ⟨.TILE, 0x1c, 0x0, 1, 32, [.TILE_CE_STALL_COUNT]⟩
  | .TILE_STARVE => ⟨.TILE, 0x20, 0x0, 1, 32, [.TILE_STARVE_COUNT]⟩
  | .TILE_ARB_RANK => ⟨.TILE, 0x24, 0x0, 1, 32, [.TILE_ARB_RANK_ORDER]⟩
  | .TILE_RESEND_DROP => ⟨.TILE, 0x28, 0x0, 1, 32, [.TILE_RESEND_DROP_COUNT]⟩
  | .TILE_RESEND_ARM => ⟨.TILE, 0x40, 0x8, 4, 64,
      [.TILE_RESEND_ARM_VALID, .TILE_RESEND_ARM_DIR, .TILE_RESEND_ARM_STRAND, .TILE_RESEND_ARM_LAP_POS]⟩
  | .TILE_CTX_CTRL => ⟨.TILE, 0x100, 0x40, 4, 32, [.TILE_CTX_CTRL_HALTED, .TILE_CTX_CTRL_RUN]⟩
  | .TILE_CTX_PC => ⟨.TILE, 0x104, 0x40, 4, 32, [.TILE_CTX_PC_PC]⟩
  | .TILE_CTX_SP => ⟨.TILE, 0x108, 0x40, 4, 64, [.TILE_CTX_SP_BOUND, .TILE_CTX_SP_BASE]⟩
  | .TILE_CTX_PS => ⟨.TILE, 0x110, 0x40, 4, 32, [.TILE_CTX_PS_BOUND, .TILE_CTX_PS_BASE]⟩
  | .TILE_CTX_FAR => ⟨.TILE, 0x114, 0x40, 4, 32, [.TILE_CTX_FAR_BASE]⟩
  | .TILE_CTX_CAUSE => ⟨.TILE, 0x118, 0x40, 4, 32, [.TILE_CTX_CAUSE_CAUSE]⟩
  | .TILE_CTX_TVAL => ⟨.TILE, 0x11c, 0x40, 4, 32, [.TILE_CTX_TVAL_TVAL]⟩
  | .ARR_STATUS => ⟨.ARR, 0x0, 0x0, 1, 32,
      [.ARR_STATUS_ABORTED, .ARR_STATUS_STOPPED, .ARR_STATUS_GATED, .ARR_STATUS_FROZEN, .ARR_STATUS_WAITING,
      .ARR_STATUS_PREFETCH, .ARR_STATUS_RUNNING, .ARR_STATUS_BUF1, .ARR_STATUS_BUF0]⟩
  | .ARR_CTRL => ⟨.ARR, 0x4, 0x0, 1, 32, [.ARR_CTRL_ABORT, .ARR_CTRL_STOP]⟩
  | .ARR_REPAIR => ⟨.ARR, 0x8, 0x0, 1, 32, [.ARR_REPAIR_OUT_ROW]⟩
  | .ARR_CUR => ⟨.ARR, 0xc, 0x0, 1, 32, [.ARR_CUR_TICKET, .ARR_CUR_BLOCK]⟩
  | .ARR_PASSES => ⟨.ARR, 0x10, 0x0, 1, 32, [.ARR_PASSES_COUNT]⟩
  | .ARR_ACTIVE => ⟨.ARR, 0x14, 0x0, 1, 32, [.ARR_ACTIVE_COUNT]⟩
  | .ARR_STALL_A => ⟨.ARR, 0x18, 0x0, 1, 32, [.ARR_STALL_A_COUNT]⟩
  | .ARR_STALL_B => ⟨.ARR, 0x1c, 0x0, 1, 32, [.ARR_STALL_B_COUNT]⟩
  | .ARR_GATED => ⟨.ARR, 0x20, 0x0, 1, 32, [.ARR_GATED_COUNT]⟩
  | .ARR_WAITING => ⟨.ARR, 0x24, 0x0, 1, 32, [.ARR_WAITING_COUNT]⟩
  | .SHG_STATUS => ⟨.SHG, 0x0, 0x0, 1, 32, [.SHG_STATUS_RC_OPEN, .SHG_STATUS_SV_OPEN, .SHG_STATUS_ERROR]⟩
  | .SHG_ERR_STATUS => ⟨.SHG, 0x4, 0x0, 1, 32, [.SHG_ERR_STATUS_RECODE, .SHG_ERR_STATUS_SURVEY, .SHG_ERR_STATUS_SHINGLE]⟩
  | .SHG_INT_EN => ⟨.SHG, 0x8, 0x0, 1, 32, [.SHG_INT_EN_EN]⟩
  | .SHG_LIMIT => ⟨.SHG, 0xc, 0x0, 1, 32, [.SHG_LIMIT_LIMIT_US]⟩
  | .SHG_ERR_INFO => ⟨.SHG, 0x10, 0x0, 1, 64, [.SHG_ERR_INFO_SUBCODE, .SHG_ERR_INFO_ADDR]⟩
  | .SHG_ERR_LEN => ⟨.SHG, 0x18, 0x0, 1, 64, [.SHG_ERR_LEN_DECL_CODED, .SHG_ERR_LEN_PROD_EXP, .SHG_ERR_LEN_DECL_EXP]⟩
  | .SHG_EXPANDED => ⟨.SHG, 0x20, 0x0, 1, 32, [.SHG_EXPANDED_COUNT]⟩
  | .SHG_EXP_RAW => ⟨.SHG, 0x24, 0x0, 1, 32, [.SHG_EXP_RAW_COUNT]⟩
  | .SHG_COMPRESSED => ⟨.SHG, 0x28, 0x0, 1, 32, [.SHG_COMPRESSED_COUNT]⟩
  | .SHG_CMP_RAW => ⟨.SHG, 0x2c, 0x0, 1, 32, [.SHG_CMP_RAW_COUNT]⟩
  | .SHG_SV_CTRL => ⟨.SHG, 0x40, 0x0, 1, 64,
      [.SHG_SV_CTRL_TENSOR, .SHG_SV_CTRL_HOME, .SHG_SV_CTRL_EPOCH, .SHG_SV_CTRL_GRAD, .SHG_SV_CTRL_FORMAT,
      .SHG_SV_CTRL_MAXW, .SHG_SV_CTRL_FINISH, .SHG_SV_CTRL_OPEN]⟩
  | .SHG_SV_STATUS => ⟨.SHG, 0x48, 0x0, 1, 32,
      [.SHG_SV_STATUS_OPEN, .SHG_SV_STATUS_BUSY, .SHG_SV_STATUS_DONE, .SHG_SV_STATUS_QUEUED,
      .SHG_SV_STATUS_FED]⟩
  | .SHG_SV_BOOK => ⟨.SHG, 0x50, 0x0, 1, 64, [.SHG_SV_BOOK_BASE]⟩
  | .SHG_SV_FEED => ⟨.SHG, 0x58, 0x0, 1, 64, [.SHG_SV_FEED_BLOCKS, .SHG_SV_FEED_ADDR]⟩
  | .SHG_SV_SIG => ⟨.SHG, 0x60, 0x0, 1, 64, [.SHG_SV_SIG_SIG]⟩
  | .SHG_SV_RESULT => ⟨.SHG, 0x68, 0x0, 1, 64, [.SHG_SV_RESULT_SIZE]⟩
  | .SHG_RC_CTRL => ⟨.SHG, 0x80, 0x0, 1, 32, [.SHG_RC_CTRL_FINISH, .SHG_RC_CTRL_OPEN]⟩
  | .SHG_RC_STATUS => ⟨.SHG, 0x84, 0x0, 1, 32,
      [.SHG_RC_STATUS_OPEN, .SHG_RC_STATUS_BUSY, .SHG_RC_STATUS_DONE, .SHG_RC_STATUS_QUEUED,
      .SHG_RC_STATUS_RECODED]⟩
  | .SHG_RC_BOOK => ⟨.SHG, 0x88, 0x0, 1, 64, [.SHG_RC_BOOK_BASE]⟩
  | .SHG_RC_DIR => ⟨.SHG, 0x90, 0x0, 1, 64, [.SHG_RC_DIR_BASE]⟩
  | .SHG_RC_FEED => ⟨.SHG, 0x98, 0x0, 1, 64, [.SHG_RC_FEED_INDEX]⟩
  | .SHG_RC_SIG => ⟨.SHG, 0xa0, 0x0, 1, 64, [.SHG_RC_SIG_SIG]⟩
  | .SIG_CTRL => ⟨.SIG, 0x0, 0x0, 1, 32, [.SIG_CTRL_CLEAR_BAR]⟩
  | .SIG_STATUS => ⟨.SIG, 0x4, 0x0, 1, 32, [.SIG_STATUS_RECORD, .SIG_STATUS_STEP_VOID, .SIG_STATUS_VOIDED, .SIG_STATUS_ERROR]⟩
  | .SIG_ERR_STATUS => ⟨.SIG, 0x8, 0x0, 1, 32,
      [.SIG_ERR_STATUS_CONFIG, .SIG_ERR_STATUS_MSG, .SIG_ERR_STATUS_BARRIER, .SIG_ERR_STATUS_GUARD,
      .SIG_ERR_STATUS_WORD, .SIG_ERR_STATUS_DRIFT, .SIG_ERR_STATUS_SATURATE, .SIG_ERR_STATUS_TIMEOUT]⟩
  | .SIG_INT_EN => ⟨.SIG, 0xc, 0x0, 1, 32, [.SIG_INT_EN_RECORD, .SIG_INT_EN_EN]⟩
  | .SIG_TIDEMARK => ⟨.SIG, 0x10, 0x0, 1, 64, [.SIG_TIDEMARK_TIDEMARK]⟩
  | .SIG_PKN => ⟨.SIG, 0x18, 0x0, 1, 32, [.SIG_PKN_PKN]⟩
  | .SIG_GUARD_LIMIT => ⟨.SIG, 0x1c, 0x0, 1, 32, [.SIG_GUARD_LIMIT_LIMIT_US]⟩
  | .SIG_ERR_HEAD => ⟨.SIG, 0x20, 0x0, 1, 32, [.SIG_ERR_HEAD_HEAD]⟩
  | .SIG_ERR_TAIL => ⟨.SIG, 0x24, 0x0, 1, 32, [.SIG_ERR_TAIL_TAIL]⟩
  | .SIG_ERR_DROPPED => ⟨.SIG, 0x28, 0x0, 1, 32, [.SIG_ERR_DROPPED_COUNT]⟩
  | .SIG_STALE => ⟨.SIG, 0x2c, 0x0, 1, 32, [.SIG_STALE_COUNT]⟩
  | .SIG_BAR_CFG => ⟨.SIG, 0x1000, 0x20, 512, 64,
      [.SIG_BAR_CFG_VALID, .SIG_BAR_CFG_STEP, .SIG_BAR_CFG_ROOT, .SIG_BAR_CFG_PKGS, .SIG_BAR_CFG_EXPECT]⟩
  | .SIG_BAR_STATE => ⟨.SIG, 0x1008, 0x20, 512, 64,
      [.SIG_BAR_STATE_GEN, .SIG_BAR_STATE_LAST_ERR, .SIG_BAR_STATE_ERR, .SIG_BAR_STATE_SENSE,
      .SIG_BAR_STATE_ARRIVED]⟩
  | .SIG_BAR_LIMIT => ⟨.SIG, 0x1010, 0x20, 512, 32, [.SIG_BAR_LIMIT_LIMIT_US]⟩
  | .SIG_ROUTE => ⟨.SIG, 0x8000, 0x4, 1024, 32, [.SIG_ROUTE_VALID, .SIG_ROUTE_PORT]⟩
  | .SIG_CNT => ⟨.TSIG, 0x0, 0x20, 64, 32, [.SIG_CNT_VALUE]⟩
  | .SIG_CNT_CFG => ⟨.TSIG, 0x4, 0x20, 64, 32, [.SIG_CNT_CFG_MODE, .SIG_CNT_CFG_BOUND]⟩
  | .SIG_CNT_ADDED => ⟨.TSIG, 0x8, 0x20, 64, 64, [.SIG_CNT_ADDED_ADDED]⟩
  | .SIG_CNT_TAKEN => ⟨.TSIG, 0x10, 0x20, 64, 64, [.SIG_CNT_TAKEN_TAKEN]⟩
  | .SIG_TILE_OVER => ⟨.TSIG, 0x800, 0x0, 1, 64, [.SIG_TILE_OVER_OVER]⟩
  | .SIG_TILE_UNDER => ⟨.TSIG, 0x808, 0x0, 1, 64, [.SIG_TILE_UNDER_UNDER]⟩
  | .SIG_TILE_LIMIT => ⟨.TSIG, 0x810, 0x4, 5, 32, [.SIG_TILE_LIMIT_LIMIT_US]⟩
  | .MEM_STATUS => ⟨.MEM, 0x0, 0x0, 1, 32,
      [.MEM_STATUS_ZEROING, .MEM_STATUS_SCRUBBING, .MEM_STATUS_HOT, .MEM_STATUS_ERROR, .MEM_STATUS_TRAINED,
      .MEM_STATUS_PRESENT]⟩
  | .MEM_ERR_STATUS => ⟨.MEM, 0x4, 0x0, 1, 32,
      [.MEM_ERR_STATUS_STARVE, .MEM_ERR_STATUS_SCRUB, .MEM_ERR_STATUS_CE, .MEM_ERR_STATUS_REGION,
      .MEM_ERR_STATUS_RANGE, .MEM_ERR_STATUS_UE]⟩
  | .MEM_INT_EN => ⟨.MEM, 0x8, 0x0, 1, 32, [.MEM_INT_EN_EN]⟩
  | .MEM_CE_THRESH => ⟨.MEM, 0xc, 0x0, 1, 32, [.MEM_CE_THRESH_THRESH]⟩
  | .MEM_ERR_INFO => ⟨.MEM, 0x10, 0x0, 1, 64, [.MEM_ERR_INFO_REQ, .MEM_ERR_INFO_CHANNEL, .MEM_ERR_INFO_ADDR]⟩
  | .MEM_ERR_SYND => ⟨.MEM, 0x18, 0x0, 1, 64, [.MEM_ERR_SYND_SYND]⟩
  | .MEM_CE_COUNT => ⟨.MEM, 0x20, 0x0, 1, 32, [.MEM_CE_COUNT_COUNT]⟩
  | .MEM_UE_COUNT => ⟨.MEM, 0x24, 0x0, 1, 32, [.MEM_UE_COUNT_COUNT]⟩
  | .MEM_REFRESH => ⟨.MEM, 0x28, 0x0, 1, 32, [.MEM_REFRESH_RATE]⟩
  | .MEM_TEMP => ⟨.MEM, 0x2c, 0x0, 1, 32, [.MEM_TEMP_TEMP]⟩
  | .MEM_RD_BYTES => ⟨.MEM, 0x40, 0x0, 1, 64, [.MEM_RD_BYTES_COUNT]⟩
  | .MEM_WR_BYTES => ⟨.MEM, 0x48, 0x0, 1, 64, [.MEM_WR_BYTES_COUNT]⟩
  | .MEM_SCRUB_CFG => ⟨.MEM, 0x30, 0x0, 1, 32, [.MEM_SCRUB_CFG_EN, .MEM_SCRUB_CFG_PERIOD_H]⟩
  | .MEM_SCRUB_POS => ⟨.MEM, 0x38, 0x0, 1, 64, [.MEM_SCRUB_POS_LINE]⟩
  | .MEM_ZERO => ⟨.MEM, 0x50, 0x0, 1, 32, [.MEM_ZERO_START]⟩
  | .MEM_CFG => ⟨.MEMG, 0x0, 0x0, 1, 32, [.MEM_CFG_SIZE_GIB, .MEM_CFG_STACKS]⟩
  | .MEM_ARB_RANK => ⟨.MEMG, 0x4, 0x0, 1, 32, [.MEM_ARB_RANK_ORDER]⟩
  | .MEM_XTS => ⟨.MEMG, 0x8, 0x0, 1, 32, [.MEM_XTS_KEYED, .MEM_XTS_EN]⟩
  | .MEM_RGN_CTX => ⟨.MEMG, 0x10, 0x0, 1, 64, [.MEM_RGN_CTX_SIZE_MIB, .MEM_RGN_CTX_BASE]⟩
  | .MEM_RGN_MIRROR => ⟨.MEMG, 0x18, 0x0, 1, 64, [.MEM_RGN_MIRROR_SIZE, .MEM_RGN_MIRROR_BASE, .MEM_RGN_MIRROR_ARMED]⟩
  | .MEM_MIRROR_SRC => ⟨.MEMG, 0x20, 0x0, 1, 32, [.MEM_MIRROR_SRC_VALID, .MEM_MIRROR_SRC_PKN]⟩
  | .TWY_PORT_CTRL => ⟨.TWY, 0x0, 0x0, 1, 32, [.TWY_PORT_CTRL_RETRAIN, .TWY_PORT_CTRL_EXCUSE, .TWY_PORT_CTRL_ENABLE]⟩
  | .TWY_PORT_STATUS => ⟨.TWY, 0x4, 0x0, 1, 32,
      [.TWY_PORT_STATUS_REASON, .TWY_PORT_STATUS_HOLDING, .TWY_PORT_STATUS_PENDING_ENABLE,
      .TWY_PORT_STATUS_STATE]⟩
  | .TWY_PORT_CFG => ⟨.TWY, 0x8, 0x0, 1, 64, [.TWY_PORT_CFG_IODIE, .TWY_PORT_CFG_ENTRY]⟩
  | .TWY_PORT_PEER => ⟨.TWY, 0x10, 0x0, 1, 64,
      [.TWY_PORT_PEER_SERIAL, .TWY_PORT_PEER_PORT, .TWY_PORT_PEER_KIND, .TWY_PORT_PEER_LOC,
      .TWY_PORT_PEER_QUADS, .TWY_PORT_PEER_VALID]⟩
  | .TWY_PORT_CREDIT => ⟨.TWY, 0x18, 0x0, 1, 64,
      [.TWY_PORT_CREDIT_MGMT, .TWY_PORT_CREDIT_MIRROR, .TWY_PORT_CREDIT_TRANSIT, .TWY_PORT_CREDIT_SIGNAL,
      .TWY_PORT_CREDIT_EBB, .TWY_PORT_CREDIT_FLOOD]⟩
  | .TWY_ERR_STATUS => ⟨.TWY, 0x20, 0x0, 1, 32,
      [.TWY_ERR_STATUS_CONFIG, .TWY_ERR_STATUS_XFER, .TWY_ERR_STATUS_DRAIN, .TWY_ERR_STATUS_TRANSIT,
      .TWY_ERR_STATUS_NONCE, .TWY_ERR_STATUS_GCM, .TWY_ERR_STATUS_DOWN, .TWY_ERR_STATUS_IDENT,
      .TWY_ERR_STATUS_ABSENT]⟩
  | .TWY_INT_EN => ⟨.TWY, 0x24, 0x0, 1, 32, [.TWY_INT_EN_EN]⟩
  | .TWY_PORT_LIMITS => ⟨.TWY, 0x28, 0x0, 1, 32, [.TWY_PORT_LIMITS_DRAIN, .TWY_PORT_LIMITS_TRAIN, .TWY_PORT_LIMITS_RETRY]⟩
  | .TWY_TIME_OFFSET => ⟨.TWY, 0x30, 0x0, 1, 64, [.TWY_TIME_OFFSET_OFFSET]⟩
  | .TWY_TX_FLITS => ⟨.TWY, 0x40, 0x0, 1, 64, [.TWY_TX_FLITS_COUNT]⟩
  | .TWY_RX_FLITS => ⟨.TWY, 0x48, 0x0, 1, 64, [.TWY_RX_FLITS_COUNT]⟩
  | .TWY_TRANSIT_FLITS => ⟨.TWY, 0x50, 0x0, 1, 64, [.TWY_TRANSIT_FLITS_COUNT]⟩
  | .TWY_RETRIES => ⟨.TWY, 0x58, 0x0, 1, 32, [.TWY_RETRIES_COUNT]⟩
  | .TWY_CRC_ERR => ⟨.TWY, 0x5c, 0x0, 1, 32, [.TWY_CRC_ERR_COUNT]⟩
  | .TWY_FEC_CORR => ⟨.TWY, 0x60, 0x0, 1, 32, [.TWY_FEC_CORR_COUNT]⟩
  | .TWY_FEC_UNCORR => ⟨.TWY, 0x64, 0x0, 1, 32, [.TWY_FEC_UNCORR_COUNT]⟩
  | .TWY_GCM_FAIL => ⟨.TWY, 0x68, 0x0, 1, 32, [.TWY_GCM_FAIL_COUNT]⟩
  | .TWY_STALE => ⟨.TWY, 0x6c, 0x0, 1, 32, [.TWY_STALE_COUNT]⟩
  | .TWY_GLB_CTRL => ⟨.TWYG, 0x0, 0x0, 1, 32, [.TWY_GLB_CTRL_LINKS_EN]⟩
  | .TWY_GLB_STATUS => ⟨.TWYG, 0x4, 0x0, 1, 32,
      [.TWY_GLB_STATUS_TIME_FREE, .TWY_GLB_STATUS_HOLD, .TWY_GLB_STATUS_PLAN_ERR, .TWY_GLB_STATUS_FORMED]⟩
  | .TWY_PLAN_EPOCH => ⟨.TWYG, 0x8, 0x0, 1, 32, [.TWY_PLAN_EPOCH_EPOCH]⟩
  | .TWY_SELF_LOC => ⟨.TWYG, 0xc, 0x0, 1, 32, [.TWY_SELF_LOC_KIND, .TWY_SELF_LOC_LOC]⟩
  | .TWY_KEY_TM => ⟨.TWYG, 0x10, 0x0, 1, 64, [.TWY_KEY_TM_TIDEMARK]⟩
  | .TWY_XFER => ⟨.TWYG, 0x40, 0x0, 1, 512, [.TWY_XFER_REQUEST]⟩
  | .TWY_XFER_STATUS => ⟨.TWYG, 0x80, 0x0, 1, 32, [.TWY_XFER_STATUS_QUEUED]⟩
  | .TWY_LOC_ROUTE => ⟨.TWYG, 0x1000, 0x4, 1024, 32, [.TWY_LOC_ROUTE_VALID, .TWY_LOC_ROUTE_PORT]⟩
  | .TWY_PKN_LOC => ⟨.TWYG, 0x2000, 0x4, 1024, 32, [.TWY_PKN_LOC_VALID, .TWY_PKN_LOC_LOC]⟩
  | .SLU_CTRL => ⟨.SLU, 0x0, 0x0, 1, 32, [.SLU_CTRL_COMMIT]⟩
  | .SLU_STATUS => ⟨.SLU, 0x4, 0x0, 1, 32,
      [.SLU_STATUS_CARRY, .SLU_STATUS_MGMT_USED, .SLU_STATUS_COMMIT_PENDING, .SLU_STATUS_HOLDER,
      .SLU_STATUS_SLOT]⟩
  | .SLU_RANK => ⟨.SLU, 0x8, 0x0, 1, 32, [.SLU_RANK_ORDER]⟩
  | .SLU_LIMITS => ⟨.SLU, 0xc, 0x0, 1, 32, [.SLU_LIMITS_STARVE]⟩
  | .SLU_ERR_STATUS => ⟨.SLU, 0x10, 0x0, 1, 32, [.SLU_ERR_STATUS_STARVE, .SLU_ERR_STATUS_PENDING, .SLU_ERR_STATUS_TABLE]⟩
  | .SLU_INT_EN => ⟨.SLU, 0x14, 0x0, 1, 32, [.SLU_INT_EN_EN]⟩
  | .SLU_STARVE_CNT => ⟨.SLU, 0x18, 0x0, 1, 32, [.SLU_STARVE_CNT_COUNT]⟩
  | .SLU_CLASS_FLITS => ⟨.SLU, 0x80, 0x8, 6, 64, [.SLU_CLASS_FLITS_COUNT]⟩
  | .SLU_SHADOW => ⟨.SLU, 0x40, 0x4, 8, 32, [.SLU_SHADOW_SLOTS]⟩
  | .SLU_ACTIVE => ⟨.SLU, 0x60, 0x4, 8, 32, [.SLU_ACTIVE_SLOTS]⟩
  | .SLU_STARVE => ⟨.SLUG, 0x0, 0x0, 1, 32, [.SLU_STARVE_EGRESS, .SLU_STARVE_MEMORY, .SLU_STARVE_FABRIC, .SLU_STARVE_BANK]⟩
  | .SLU_GLB_INT_EN => ⟨.SLUG, 0x4, 0x0, 1, 32, [.SLU_GLB_INT_EN_EN]⟩
  | .SLU_FAB_STARVE => ⟨.SLUG, 0x8, 0x0, 1, 64, [.SLU_FAB_STARVE_COUNT, .SLU_FAB_STARVE_FLAG, .SLU_FAB_STARVE_PORT, .SLU_FAB_STARVE_TILE]⟩
  | .HST_CTRL => ⟨.HST, 0x0, 0x0, 1, 32, [.HST_CTRL_ENABLE]⟩
  | .HST_STATUS => ⟨.HST, 0x4, 0x0, 1, 32,
      [.HST_STATUS_RECOVERY, .HST_STATUS_WIN_STALL, .HST_STATUS_JOB_IDLE, .HST_STATUS_ERROR,
      .HST_STATUS_JOB_STATE]⟩
  | .HST_ERR_STATUS => ⟨.HST, 0x8, 0x0, 1, 32,
      [.HST_ERR_STATUS_MANIFEST, .HST_ERR_STATUS_RECOVER, .HST_ERR_STATUS_PAUSE, .HST_ERR_STATUS_LINK,
      .HST_ERR_STATUS_BAR2, .HST_ERR_STATUS_WINDOW, .HST_ERR_STATUS_DOORBELL]⟩
  | .HST_INT_EN => ⟨.HST, 0xc, 0x0, 1, 32, [.HST_INT_EN_IDLE, .HST_INT_EN_EN]⟩
  | .HST_ERR_INFO => ⟨.HST, 0x20, 0x0, 1, 64, [.HST_ERR_INFO_HOST, .HST_ERR_INFO_ADDR]⟩
  | .HST_BAR2_MAP => ⟨.HST, 0x10, 0x0, 1, 32, [.HST_BAR2_MAP_BASE]⟩
  | .HST_BAR2_DISCARD => ⟨.HST, 0x28, 0x0, 1, 32, [.HST_BAR2_DISCARD_COUNT]⟩
  | .HST_JOB_TAG => ⟨.HST, 0x14, 0x0, 1, 32, [.HST_JOB_TAG_JOB]⟩
  | .HST_PAUSE_LIMIT => ⟨.HST, 0x18, 0x0, 1, 32, [.HST_PAUSE_LIMIT_LIMIT_US]⟩
  | .HST_HOST_SIG => ⟨.HST, 0x1c, 0x0, 1, 32, [.HST_HOST_SIG_VECTOR]⟩
  | .HST_SQ_BASE => ⟨.HST, 0x1000, 0x20, 64, 64, [.HST_SQ_BASE_BASE]⟩
  | .HST_CQ_BASE => ⟨.HST, 0x1008, 0x20, 64, 64, [.HST_CQ_BASE_BASE]⟩
  | .HST_Q_CFG => ⟨.HST, 0x1010, 0x20, 64, 32, [.HST_Q_CFG_ENABLE, .HST_Q_CFG_CQ_INT, .HST_Q_CFG_CQ_LOG2, .HST_Q_CFG_SQ_LOG2]⟩
  | .HST_Q_STATUS => ⟨.HST, 0x1014, 0x20, 64, 32, [.HST_Q_STATUS_ERROR, .HST_Q_STATUS_FULL, .HST_Q_STATUS_SQ_HEAD, .HST_Q_STATUS_CQ_TAIL]⟩
  | .HST_SQ_TAIL => ⟨.HST, 0x2000, 0x8, 64, 32, [.HST_SQ_TAIL_TAIL]⟩
  | .HST_CQ_HEAD => ⟨.HST, 0x2004, 0x8, 64, 32, [.HST_CQ_HEAD_HEAD]⟩
  | .HST_FWIN_BASE => ⟨.HST, 0x3000, 0x10, 8, 64, [.HST_FWIN_BASE_BASE]⟩
  | .HST_FWIN_LIMIT => ⟨.HST, 0x3008, 0x10, 8, 64, [.HST_FWIN_LIMIT_LIMIT, .HST_FWIN_LIMIT_VALID]⟩
  | .HST_FERRY_STATUS => ⟨.HST, 0x3100, 0x4, 16, 32, [.HST_FERRY_STATUS_BUSY, .HST_FERRY_STATUS_QUEUED, .HST_FERRY_STATUS_DONE]⟩
  | .HST_RCV_CTRL => ⟨.HST, 0x4000, 0x0, 1, 32, [.HST_RCV_CTRL_GO, .HST_RCV_CTRL_LAST, .HST_RCV_CTRL_TARGET, .HST_RCV_CTRL_LEN]⟩
  | .HST_RCV_STATUS => ⟨.HST, 0x4004, 0x0, 1, 32,
      [.HST_RCV_STATUS_READY, .HST_RCV_STATUS_DONE, .HST_RCV_STATUS_FAIL, .HST_RCV_STATUS_RECEIVED]⟩
  | .GLB_VOID_CTRL => ⟨.GLB, 0x100, 0x0, 1, 32,
      [.GLB_VOID_CTRL_EN, .GLB_VOID_CTRL_MAX, .GLB_VOID_CTRL_REPLAY_BAR, .GLB_VOID_CTRL_STEP_BAR]⟩
  | .GLB_VOID_STATUS => ⟨.GLB, 0x104, 0x0, 1, 32,
      [.GLB_VOID_STATUS_STATE, .GLB_VOID_STATUS_REMOTE, .GLB_VOID_STATUS_SRC, .GLB_VOID_STATUS_CLASS,
      .GLB_VOID_STATUS_INDEX]⟩
  | .GLB_VOID_COUNT => ⟨.GLB, 0x108, 0x0, 1, 32, [.GLB_VOID_COUNT_COUNT]⟩
  | .GLB_HALT_CTRL => ⟨.GLB, 0x10c, 0x0, 1, 32, [.GLB_HALT_CTRL_HALTED, .GLB_HALT_CTRL_EN]⟩
  | .GLB_HALT_TM => ⟨.GLB, 0x110, 0x0, 1, 64, [.GLB_HALT_TM_TIDEMARK]⟩
  | .CLK_DOMAIN => ⟨.RST, 0x0, 0x4, 40, 32,
      [.CLK_DOMAIN_RUNNING, .CLK_DOMAIN_LOCKED, .CLK_DOMAIN_UNLOCK, .CLK_DOMAIN_SEL, .CLK_DOMAIN_FREQ]⟩
  | .RST_CAUSE => ⟨.RST, 0x8000, 0x0, 1, 32,
      [.RST_CAUSE_FERRY, .RST_CAUSE_MEMC, .RST_CAUSE_PORT, .RST_CAUSE_TILE, .RST_CAUSE_COMPUTE,
      .RST_CAUSE_SWPKG, .RST_CAUSE_WDOG, .RST_CAUSE_TRAY, .RST_CAUSE_PERST, .RST_CAUSE_PWROK]⟩
  | .RST_CTRL => ⟨.RST, 0x8004, 0x0, 1, 32, [.RST_CTRL_COMPUTE, .RST_CTRL_PKG]⟩
  | .RST_BOOT => ⟨.RST, 0x8008, 0x0, 1, 32, [.RST_BOOT_COPY, .RST_BOOT_FAULT, .RST_BOOT_STAGE]⟩
  | .RST_ERR_STATUS => ⟨.RST, 0x800c, 0x0, 1, 32,
      [.RST_ERR_STATUS_MIRROR, .RST_ERR_STATUS_BOOT, .RST_ERR_STATUS_UNLOCK, .RST_ERR_STATUS_BLOCK]⟩
  | .RST_INT_EN => ⟨.RST, 0x8010, 0x0, 1, 32, [.RST_INT_EN_EN]⟩
  | .RST_PORT_HOLD => ⟨.RST, 0x8020, 0x0, 1, 32, [.RST_PORT_HOLD_HOLD]⟩
  | .RST_PORT_CLOSED => ⟨.RST, 0x8024, 0x0, 1, 32, [.RST_PORT_CLOSED_CLOSED]⟩
  | .RST_PORT_PEND => ⟨.RST, 0x8028, 0x0, 1, 32, [.RST_PORT_PEND_PEND]⟩
  | .RST_MEMC_HOLD => ⟨.RST, 0x8030, 0x0, 1, 32, [.RST_MEMC_HOLD_HOLD]⟩
  | .RST_MEMC_CLOSED => ⟨.RST, 0x8034, 0x0, 1, 32, [.RST_MEMC_CLOSED_CLOSED]⟩
  | .RST_MEMC_PEND => ⟨.RST, 0x8038, 0x0, 1, 32, [.RST_MEMC_PEND_PEND]⟩
  | .RST_FERRY_HOLD => ⟨.RST, 0x8040, 0x0, 1, 32, [.RST_FERRY_HOLD_HOLD]⟩
  | .RST_FERRY_CLOSED => ⟨.RST, 0x8044, 0x0, 1, 32, [.RST_FERRY_CLOSED_CLOSED]⟩
  | .RST_FERRY_PEND => ⟨.RST, 0x8048, 0x0, 1, 32, [.RST_FERRY_PEND_PEND]⟩
  | .RST_TILE_HOLD => ⟨.RST, 0x8100, 0x4, 96, 32, [.RST_TILE_HOLD_HOLD]⟩
  | .RST_TILE_CLOSED => ⟨.RST, 0x8300, 0x4, 96, 32, [.RST_TILE_CLOSED_CLOSED]⟩
  | .RST_TILE_PEND => ⟨.RST, 0x8500, 0x4, 96, 32, [.RST_TILE_PEND_PEND]⟩
  | .LHS_STATUS => ⟨.LHS, 0x0, 0x0, 1, 32, [.LHS_STATUS_PSTATE, .LHS_STATUS_ACTIVE, .LHS_STATUS_FW]⟩
  | .LHS_ERR_STATUS => ⟨.LHS, 0x4, 0x0, 1, 32,
      [.LHS_ERR_STATUS_MGMT, .LHS_ERR_STATUS_MBOX, .LHS_ERR_STATUS_FLOW, .LHS_ERR_STATUS_FLOOR,
      .LHS_ERR_STATUS_CLAMP, .LHS_ERR_STATUS_CAP, .LHS_ERR_STATUS_THERMTRIP]⟩
  | .LHS_INT_EN => ⟨.LHS, 0x8, 0x0, 1, 32, [.LHS_INT_EN_EN]⟩
  | .LHS_MB_CTRL => ⟨.LHS, 0xc, 0x0, 1, 32, [.LHS_MB_CTRL_BUSY, .LHS_MB_CTRL_RSP, .LHS_MB_CTRL_REQ]⟩
  | .LHS_GOV_LIMIT => ⟨.LHS, 0x10, 0x0, 1, 32, [.LHS_GOV_LIMIT_LIMIT_W]⟩
  | .LHS_GOV_G => ⟨.LHS, 0x14, 0x0, 1, 32, [.LHS_GOV_G_G]⟩
  | .LHS_GATE => ⟨.LHS, 0x18, 0x0, 1, 32, [.LHS_GATE_G]⟩
  | .LHS_CAP => ⟨.LHS, 0x1c, 0x0, 1, 32, [.LHS_CAP_CAP_G, .LHS_CAP_CAP_W]⟩
  | .LHS_VALVE => ⟨.LHS, 0x20, 0x0, 1, 32,
      [.LHS_VALVE_FORCED, .LHS_VALVE_FLOORED, .LHS_VALVE_PUMP_REQ, .LHS_VALVE_PUMP_FORCED, .LHS_VALVE_DUTY,
      .LHS_VALVE_REQ]⟩
  | .LHS_WDOG => ⟨.LHS, 0x24, 0x0, 1, 32, [.LHS_WDOG_PERIOD_MS]⟩
  | .LHS_HEARTBEAT => ⟨.LHS, 0x28, 0x0, 1, 32, [.LHS_HEARTBEAT_COUNT]⟩
  | .LHS_CLAMP_INFO => ⟨.LHS, 0x2c, 0x0, 1, 32, [.LHS_CLAMP_INFO_RAIL, .LHS_CLAMP_INFO_REQ_MV]⟩
  | .TST_TEL_SEQ => ⟨.TEL, 0x0, 0x0, 1, 64, [.TST_TEL_SEQ_SEQ]⟩
  | .TST_TEL_ENERGY => ⟨.TEL, 0x8, 0x0, 1, 64, [.TST_TEL_ENERGY_MJ]⟩
  | .TST_TEL_PIN => ⟨.TEL, 0x10, 0x0, 1, 32, [.TST_TEL_PIN_VOLT, .TST_TEL_PIN_POWER]⟩
  | .TST_TEL_PIN_PEAK => ⟨.TEL, 0x14, 0x0, 1, 32, [.TST_TEL_PIN_PEAK_POWER]⟩
  | .TST_TEL_COOLANT => ⟨.TEL, 0x18, 0x0, 1, 32, [.TST_TEL_COOLANT_OUTLET, .TST_TEL_COOLANT_INLET]⟩
  | .TST_TEL_FLOW => ⟨.TEL, 0x1c, 0x0, 1, 32, [.TST_TEL_FLOW_ML_MIN]⟩
  | .TST_TEL_EVENTS => ⟨.TEL, 0x20, 0x0, 1, 32, [.TST_TEL_EVENTS_CLAMPS, .TST_TEL_EVENTS_CAPS]⟩
  | .TST_TEL_RAIL => ⟨.TEL, 0x40, 0x4, 12, 32, [.TST_TEL_RAIL_VOLT_MV, .TST_TEL_RAIL_POWER]⟩
  | .TST_TEL_DIEMAX => ⟨.TEL, 0x80, 0x4, 8, 32, [.TST_TEL_DIEMAX_SENSOR, .TST_TEL_DIEMAX_TEMP]⟩
  | .TST_TEL_TEMP => ⟨.TEL, 0x400, 0x4, 256, 32, [.TST_TEL_TEMP_TEMP]⟩
  | .TST_TEL_IOTEMP => ⟨.TEL, 0x800, 0x4, 32, 32, [.TST_TEL_IOTEMP_TEMP]⟩
  | .TST_TEL_EYE => ⟨.TEL, 0xc00, 0x4, 32, 32, [.TST_TEL_EYE_LANE, .TST_TEL_EYE_HEIGHT, .TST_TEL_EYE_WIDTH]⟩
  | .SEC_STATUS => ⟨.SEC, 0x0, 0x0, 1, 32,
      [.SEC_STATUS_QUOTE_READY, .SEC_STATUS_CMD_BUSY, .SEC_STATUS_DEBUG, .SEC_STATUS_SECRET_SET,
      .SEC_STATUS_MGMT_KEYED, .SEC_STATUS_JOB_KEYED, .SEC_STATUS_ENTROPY_OK, .SEC_STATUS_ERROR]⟩
  | .SEC_ERR_STATUS => ⟨.SEC, 0x4, 0x0, 1, 32,
      [.SEC_ERR_STATUS_STATE, .SEC_ERR_STATUS_MIRROR, .SEC_ERR_STATUS_BUSY, .SEC_ERR_STATUS_ENTROPY,
      .SEC_ERR_STATUS_ENROL, .SEC_ERR_STATUS_TOKEN, .SEC_ERR_STATUS_NOKEY]⟩
  | .SEC_INT_EN => ⟨.SEC, 0x8, 0x0, 1, 32, [.SEC_INT_EN_QUOTE, .SEC_INT_EN_EN]⟩
  | .SEC_CTRL => ⟨.SEC, 0xc, 0x0, 1, 32,
      [.SEC_CTRL_CLEAR_SECRET, .SEC_CTRL_SVN_SHORE, .SEC_CTRL_SVN_FW, .SEC_CTRL_REKEY, .SEC_CTRL_ENROL,
      .SEC_CTRL_UNLOCK, .SEC_CTRL_QUOTE]⟩
  | .SEC_DEBUG => ⟨.SEC, 0x10, 0x0, 1, 32, [.SEC_DEBUG_CAPS]⟩
  | .SEC_SVN => ⟨.SEC, 0x14, 0x0, 1, 32, [.SEC_SVN_SHORE_RUN, .SEC_SVN_SHORE_FUSE, .SEC_SVN_FW_RUN, .SEC_SVN_FW_FUSE]⟩
  | .SEC_OWNER => ⟨.SEC, 0x18, 0x0, 1, 32,
      [.SEC_OWNER_FW_SIGNER, .SEC_OWNER_SHORE_SIGNER, .SEC_OWNER_FOUNDATION_REVOKED, .SEC_OWNER_STATE]⟩
  | .SEC_SERIAL => ⟨.SEC, 0x20, 0x0, 1, 64, [.SEC_SERIAL_SERIAL]⟩
  | .SEC_JOB_SECRET => ⟨.SEC, 0x40, 0x4, 8, 32, [.SEC_JOB_SECRET_WORD]⟩
  | .SEC_NONCE => ⟨.SEC, 0x60, 0x4, 8, 32, [.SEC_NONCE_WORD]⟩
  | .SEC_CHALLENGE => ⟨.SEC, 0x80, 0x4, 8, 32, [.SEC_CHALLENGE_WORD]⟩
  | .SEC_MEAS => ⟨.SEC, 0x100, 0x20, 5, 256, [.SEC_MEAS_DIGEST]⟩
  | .JRN_STATUS => ⟨.JRN, 0x0, 0x0, 1, 32,
      [.JRN_STATUS_UNCAL, .JRN_STATUS_FACTORY_OK, .JRN_STATUS_HOLD, .JRN_STATUS_FULL, .JRN_STATUS_COMPACTING,
      .JRN_STATUS_AREA, .JRN_STATUS_MOUNTED, .JRN_STATUS_ERROR]⟩
  | .JRN_ERR_STATUS => ⟨.JRN, 0x4, 0x0, 1, 32,
      [.JRN_ERR_STATUS_MIRROR, .JRN_ERR_STATUS_FACTORY, .JRN_ERR_STATUS_FLASH, .JRN_ERR_STATUS_QUEUE,
      .JRN_ERR_STATUS_FULL, .JRN_ERR_STATUS_CHECK]⟩
  | .JRN_INT_EN => ⟨.JRN, 0x8, 0x0, 1, 32, [.JRN_INT_EN_EN]⟩
  | .JRN_FILL => ⟨.JRN, 0xc, 0x0, 1, 32, [.JRN_FILL_USED]⟩
  | .JRN_SEQ => ⟨.JRN, 0x10, 0x0, 1, 64, [.JRN_SEQ_NEXT]⟩
  | .JRN_MAINT_REQ => ⟨.JRN, 0x18, 0x0, 1, 32,
      [.JRN_MAINT_REQ_CANCEL, .JRN_MAINT_REQ_START, .JRN_MAINT_REQ_ACTIVITY, .JRN_MAINT_REQ_PARAM,
      .JRN_MAINT_REQ_INSTANCE]⟩
  | .JRN_EXCL => ⟨.JRN, 0x40, 0x4, 6, 32, [.JRN_EXCL_SCOPE]⟩
  | .JRN_MAINT_ST => ⟨.JRN, 0x100, 0x4, 192, 32, [.JRN_MAINT_ST_STATE, .JRN_MAINT_ST_LAST, .JRN_MAINT_ST_REASON, .JRN_MAINT_ST_AGE_S]⟩
  | .TST_STATUS => ⟨.TST, 0x0, 0x0, 1, 32, [.TST_STATUS_SAMPLE, .TST_STATUS_BIST_DONE, .TST_STATUS_LB_DONE, .TST_STATUS_ERROR]⟩
  | .TST_ERR_STATUS => ⟨.TST, 0x4, 0x0, 1, 32,
      [.TST_ERR_STATUS_MIRROR, .TST_ERR_STATUS_STATE, .TST_ERR_STATUS_ARRAY, .TST_ERR_STATUS_BIST,
      .TST_ERR_STATUS_LOOPBACK]⟩
  | .TST_INT_EN => ⟨.TST, 0x8, 0x0, 1, 32, [.TST_INT_EN_DONE, .TST_INT_EN_EN]⟩
  | .TST_LB_CTRL => ⟨.TST, 0x10, 0x0, 1, 32, [.TST_LB_CTRL_RUN, .TST_LB_CTRL_KIND, .TST_LB_CTRL_MODE, .TST_LB_CTRL_PORT]⟩
  | .TST_LB_TIME => ⟨.TST, 0x14, 0x0, 1, 32, [.TST_LB_TIME_TIME_MS]⟩
  | .TST_LB_STATUS => ⟨.TST, 0x18, 0x0, 1, 32, [.TST_LB_STATUS_BUSY, .TST_LB_STATUS_PASS, .TST_LB_STATUS_FAIL, .TST_LB_STATUS_COUNTERS]⟩
  | .TST_LB_BITS => ⟨.TST, 0x20, 0x0, 1, 64, [.TST_LB_BITS_COUNT]⟩
  | .TST_LB_ERR => ⟨.TST, 0x100, 0x4, 72, 32, [.TST_LB_ERR_COUNT]⟩
  | .TST_BIST_CTRL => ⟨.TST, 0x300, 0x0, 1, 32, [.TST_BIST_CTRL_UNITS]⟩
  | .TST_BIST_STATUS => ⟨.TST, 0x304, 0x0, 1, 32, [.TST_BIST_STATUS_FAILED, .TST_BIST_STATUS_PASSED, .TST_BIST_STATUS_RUNNING]⟩
  | .TST_BIST_FAIL => ⟨.TST, 0x308, 0x0, 1, 64, [.TST_BIST_FAIL_COUNT, .TST_BIST_FAIL_UNIT, .TST_BIST_FAIL_INDEX, .TST_BIST_FAIL_ADDR]⟩
  | .GLB_IDENT => ⟨.GLB, 0x0, 0x0, 1, 32, [.GLB_IDENT_STACKS, .GLB_IDENT_STACK_SIZE, .GLB_IDENT_IODIES, .GLB_IDENT_GRADE]⟩
  | .GLB_STATUS => ⟨.GLB, 0x4, 0x0, 1, 32, [.GLB_STATUS_LOCK_WR, .GLB_STATUS_RSVD_WR]⟩
  | .GLB_STATUS_ADDR => ⟨.GLB, 0x8, 0x0, 1, 32, [.GLB_STATUS_ADDR_MIRROR, .GLB_STATUS_ADDR_LH, .GLB_STATUS_ADDR_OFFSET]⟩
  | .GLB_BOOT_LOCK => ⟨.GLB, 0xc, 0x0, 1, 32, [.GLB_BOOT_LOCK_LOCK]⟩
  | .GLB_TILE_RANK => ⟨.GLB, 0x10, 0x0, 1, 32, [.GLB_TILE_RANK_ORDER]⟩
  | .TIDE_LCLASS => ⟨.TIDE, 0x1000, 0x10, 256, 128,
      [.TIDE_LCLASS_RELEASES, .TIDE_LCLASS_AMOUNT, .TIDE_LCLASS_COUNTER, .TIDE_LCLASS_COL_HI,
      .TIDE_LCLASS_COL_LO, .TIDE_LCLASS_ROW_HI, .TIDE_LCLASS_ROW_LO, .TIDE_LCLASS_DIES]⟩
  | .TIDE_WANT => ⟨.TIDE, 0x10000, 0x4, 2048, 32, [.TIDE_WANT_WANT]⟩
  | .HST_MSIX => ⟨.HST, 0x8000, 0x10, 2048, 128, [.HST_MSIX_MASK, .HST_MSIX_DATA, .HST_MSIX_ADDR]⟩
  | .HST_PBA => ⟨.HST, 0x10000, 0x8, 32, 64, [.HST_PBA_PENDING]⟩

/-- The registers of a block, in the order of the spec's tables. -/
def Block.regs : Block → List Reg
  | .GLB =>
      [.GLB_VOID_CTRL, .GLB_VOID_STATUS, .GLB_VOID_COUNT, .GLB_HALT_CTRL, .GLB_HALT_TM, .GLB_IDENT,
      .GLB_STATUS, .GLB_STATUS_ADDR, .GLB_BOOT_LOCK, .GLB_TILE_RANK]
  | .JRN =>
      [.JRN_STATUS, .JRN_ERR_STATUS, .JRN_INT_EN, .JRN_FILL, .JRN_SEQ, .JRN_MAINT_REQ, .JRN_EXCL,
      .JRN_MAINT_ST]
  | .RST =>
      [.CLK_DOMAIN, .RST_CAUSE, .RST_CTRL, .RST_BOOT, .RST_ERR_STATUS, .RST_INT_EN, .RST_PORT_HOLD,
      .RST_PORT_CLOSED, .RST_PORT_PEND, .RST_MEMC_HOLD, .RST_MEMC_CLOSED, .RST_MEMC_PEND, .RST_FERRY_HOLD,
      .RST_FERRY_CLOSED, .RST_FERRY_PEND, .RST_TILE_HOLD, .RST_TILE_CLOSED, .RST_TILE_PEND]
  | .LHS =>
      [.LHS_STATUS, .LHS_ERR_STATUS, .LHS_INT_EN, .LHS_MB_CTRL, .LHS_GOV_LIMIT, .LHS_GOV_G, .LHS_GATE,
      .LHS_CAP, .LHS_VALVE, .LHS_WDOG, .LHS_HEARTBEAT, .LHS_CLAMP_INFO]
  | .SEC =>
      [.SEC_STATUS, .SEC_ERR_STATUS, .SEC_INT_EN, .SEC_CTRL, .SEC_DEBUG, .SEC_SVN, .SEC_OWNER, .SEC_SERIAL,
      .SEC_JOB_SECRET, .SEC_NONCE, .SEC_CHALLENGE, .SEC_MEAS]
  | .HST =>
      [.HST_CTRL, .HST_STATUS, .HST_ERR_STATUS, .HST_INT_EN, .HST_ERR_INFO, .HST_BAR2_MAP, .HST_BAR2_DISCARD,
      .HST_JOB_TAG, .HST_PAUSE_LIMIT, .HST_HOST_SIG, .HST_SQ_BASE, .HST_CQ_BASE, .HST_Q_CFG, .HST_Q_STATUS,
      .HST_SQ_TAIL, .HST_CQ_HEAD, .HST_FWIN_BASE, .HST_FWIN_LIMIT, .HST_FERRY_STATUS, .HST_RCV_CTRL,
      .HST_RCV_STATUS, .HST_MSIX, .HST_PBA]
  | .TIDE =>
      [.TIDE_CTRL, .TIDE_STATUS, .TIDE_JOB, .TIDE_ATTEMPT, .TIDE_DIR_BASE, .TIDE_DIR_COUNT, .TIDE_STALL_LIMIT,
      .TIDE_RELEASE, .TIDE_ERR_STATUS, .TIDE_INT_EN, .TIDE_ERR_INFO, .TIDE_DCACHE_MISS, .TIDE_SD_CFG,
      .TIDE_SD_RING, .TIDE_SD_LAPLIST, .TIDE_SD_LAPCOUNT, .TIDE_SD_WINDOW, .TIDE_SD_LB, .TIDE_SD_HDR_BASE,
      .TIDE_SD_CB_BASE, .TIDE_SD_MARKS, .TIDE_SD_INJ, .TIDE_SD_WANT_MARK, .TIDE_SD_STATUS, .TIDE_SD_LANDED,
      .TIDE_SD_SKIPPED, .TIDE_SD_FWD_STALL, .TIDE_SD_STALE, .TIDE_LCLASS, .TIDE_WANT]
  | .TWY =>
      [.TWY_PORT_CTRL, .TWY_PORT_STATUS, .TWY_PORT_CFG, .TWY_PORT_PEER, .TWY_PORT_CREDIT, .TWY_ERR_STATUS,
      .TWY_INT_EN, .TWY_PORT_LIMITS, .TWY_TIME_OFFSET, .TWY_TX_FLITS, .TWY_RX_FLITS, .TWY_TRANSIT_FLITS,
      .TWY_RETRIES, .TWY_CRC_ERR, .TWY_FEC_CORR, .TWY_FEC_UNCORR, .TWY_GCM_FAIL, .TWY_STALE]
  | .TWYG =>
      [.TWY_GLB_CTRL, .TWY_GLB_STATUS, .TWY_PLAN_EPOCH, .TWY_SELF_LOC, .TWY_KEY_TM, .TWY_XFER,
      .TWY_XFER_STATUS, .TWY_LOC_ROUTE, .TWY_PKN_LOC]
  | .SLU =>
      [.SLU_CTRL, .SLU_STATUS, .SLU_RANK, .SLU_LIMITS, .SLU_ERR_STATUS, .SLU_INT_EN, .SLU_STARVE_CNT,
      .SLU_CLASS_FLITS, .SLU_SHADOW, .SLU_ACTIVE]
  | .SLUG =>
      [.SLU_STARVE, .SLU_GLB_INT_EN, .SLU_FAB_STARVE]
  | .MEM =>
      [.MEM_STATUS, .MEM_ERR_STATUS, .MEM_INT_EN, .MEM_CE_THRESH, .MEM_ERR_INFO, .MEM_ERR_SYND, .MEM_CE_COUNT,
      .MEM_UE_COUNT, .MEM_REFRESH, .MEM_TEMP, .MEM_RD_BYTES, .MEM_WR_BYTES, .MEM_SCRUB_CFG, .MEM_SCRUB_POS,
      .MEM_ZERO]
  | .MEMG =>
      [.MEM_CFG, .MEM_ARB_RANK, .MEM_XTS, .MEM_RGN_CTX, .MEM_RGN_MIRROR, .MEM_MIRROR_SRC]
  | .SHG =>
      [.SHG_STATUS, .SHG_ERR_STATUS, .SHG_INT_EN, .SHG_LIMIT, .SHG_ERR_INFO, .SHG_ERR_LEN, .SHG_EXPANDED,
      .SHG_EXP_RAW, .SHG_COMPRESSED, .SHG_CMP_RAW, .SHG_SV_CTRL, .SHG_SV_STATUS, .SHG_SV_BOOK, .SHG_SV_FEED,
      .SHG_SV_SIG, .SHG_SV_RESULT, .SHG_RC_CTRL, .SHG_RC_STATUS, .SHG_RC_BOOK, .SHG_RC_DIR, .SHG_RC_FEED,
      .SHG_RC_SIG]
  | .SIG =>
      [.SIG_CTRL, .SIG_STATUS, .SIG_ERR_STATUS, .SIG_INT_EN, .SIG_TIDEMARK, .SIG_PKN, .SIG_GUARD_LIMIT,
      .SIG_ERR_HEAD, .SIG_ERR_TAIL, .SIG_ERR_DROPPED, .SIG_STALE, .SIG_BAR_CFG, .SIG_BAR_STATE, .SIG_BAR_LIMIT,
      .SIG_ROUTE]
  | .TST =>
      [.TST_STATUS, .TST_ERR_STATUS, .TST_INT_EN, .TST_LB_CTRL, .TST_LB_TIME, .TST_LB_STATUS, .TST_LB_BITS,
      .TST_LB_ERR, .TST_BIST_CTRL, .TST_BIST_STATUS, .TST_BIST_FAIL]
  | .TEL =>
      [.TST_TEL_SEQ, .TST_TEL_ENERGY, .TST_TEL_PIN, .TST_TEL_PIN_PEAK, .TST_TEL_COOLANT, .TST_TEL_FLOW,
      .TST_TEL_EVENTS, .TST_TEL_RAIL, .TST_TEL_DIEMAX, .TST_TEL_TEMP, .TST_TEL_IOTEMP, .TST_TEL_EYE]
  | .TILE =>
      [.TILE_ID, .TILE_STATUS, .TILE_WATERLINE, .TILE_ERR_STATUS, .TILE_ERR_INFO, .TILE_CE_COUNT,
      .TILE_CE_STALL, .TILE_STARVE, .TILE_ARB_RANK, .TILE_RESEND_DROP, .TILE_RESEND_ARM, .TILE_CTX_CTRL,
      .TILE_CTX_PC, .TILE_CTX_SP, .TILE_CTX_PS, .TILE_CTX_FAR, .TILE_CTX_CAUSE, .TILE_CTX_TVAL]
  | .ARR =>
      [.ARR_STATUS, .ARR_CTRL, .ARR_REPAIR, .ARR_CUR, .ARR_PASSES, .ARR_ACTIVE, .ARR_STALL_A, .ARR_STALL_B,
      .ARR_GATED, .ARR_WAITING]
  | .TSIG =>
      [.SIG_CNT, .SIG_CNT_CFG, .SIG_CNT_ADDED, .SIG_CNT_TAKEN, .SIG_TILE_OVER, .SIG_TILE_UNDER,
      .SIG_TILE_LIMIT]

end Sys2Proof.Machine
end

