-- ==== Sys2Proof/Machine/RegMap.lean ====
section
/-! DEFINITION. Where the register blocks lie in BAR0 and in the register mirror (R490), and which register an offset
names. -/
namespace Sys2Proof.Machine

/-- The base of a block's instance 0, the distance between its instances and their number (R490; the registers of the
clock and reset blocks share one window). -/
def Block.place : Block → Nat × Nat × Nat
  | .GLB => (0x0000000, 0, 1)
  | .JRN => (0x0008000, 0, 1)
  | .RST => (0x0010000, 0, 1)
  | .LHS => (0x0020000, 0, 1)
  | .SEC => (0x0030000, 0, 1)
  | .HST => (0x0100000, 0, 1)
  | .TIDE => (0x0200000, 0x40000, 4)
  | .TWY => (0x0300000, 0x8000, 32)
  | .TWYG => (0x0304000, 0, 1)
  | .SLU => (0x0400000, 0x400, 32)
  | .SLUG => (0x0408000, 0, 1)
  | .MEM => (0x0500000, 0x10000, 16)
  | .MEMG => (0x0504000, 0, 1)
  | .SHG => (0x0508000, 0x10000, 16)
  | .SIG => (0x0600000, 0, 1)
  | .TST => (0x0700000, 0, 1)
  | .TEL => (0x0708000, 0, 1)
  | .TILE => (0x1000000, 0x4000, 3072)
  | .ARR => (0x1001000, 0x4000, 3072)
  | .TSIG => (0x1002000, 0x4000, 3072)

/-- A register as an access names it: its instance and its entry. -/
structure RegRef where
  reg : Reg
  inst : Nat
  idx : Nat
deriving DecidableEq, Repr

/-- The BAR0 offset of a register. -/
def RegRef.offset (r : RegRef) : Nat :=
  let p := r.reg.spec.block.place
  p.1 + r.inst * p.2.1 + r.reg.spec.off + r.idx * r.reg.spec.stride

/-- The instance of a block that an offset can lie in. -/
def Block.instAt (b : Block) (off : Nat) : Option Nat :=
  let (base, stride, n) := b.place
  if off < base then none
  else
    let i := if stride = 0 then 0 else (off - base) / stride
    if i < n then some i else none

/-- The entry of a register that holds a byte at `rel` in its block. -/
def Reg.entryAt (r : Reg) (rel : Nat) : Option Nat :=
  let q := r.spec
  if rel < q.off then none
  else
    let d := rel - q.off
    let i := if q.stride = 0 then 0 else d / q.stride
    if i < q.count ∧ d - i * q.stride < q.width / 8 then some i else none

/-- The blocks whose windows an offset can lie in, by the address map (R490). -/
def blocksAt (off : Nat) : List Block :=
  if off < 0x8000 then [.GLB] else if off < 0x10000 then [.JRN] else if off < 0x20000 then [.RST]
  else if off < 0x30000 then [.LHS] else if off < 0x40000 then [.SEC] else if off < 0x100000 then []
  else if off < 0x200000 then [.HST] else if off < 0x300000 then [.TIDE] else if off < 0x400000 then [.TWYG, .TWY]
  else if off < 0x500000 then [.SLUG, .SLU] else if off < 0x600000 then [.MEMG, .SHG, .MEM]
  else if off < 0x700000 then [.SIG] else if off < 0x800000 then [.TEL, .TST]
  else if off < 0x1000000 then [] else [.TSIG, .ARR, .TILE]

/-- The register that holds the byte at an offset, and the byte's place in it. -/
def regAt (off : Nat) : Option (RegRef × Nat) :=
  (blocksAt off).findSome? fun b =>
    match b.instAt off with
    | none => none
    | some i =>
      let rel := off - (b.place.1 + i * b.place.2.1)
      b.regs.findSome? fun r => (r.entryAt rel).map fun e =>
        (⟨r, i, e⟩, rel - r.spec.off - e * r.spec.stride)

end Sys2Proof.Machine
end

