-- ==== Sys2Proof/Machine/Parts.lean ====
section
/-! DEFINITION. The plain-data records that State is made of: what the chapters of spec/ give the package beside its
registers. -/
namespace Sys2Proof.Machine

/-! ### Where accesses and signals come from -/

/-- The sources of register accesses, each with a write stage and a read latch (R10). -/
inductive Source where
  | host
  | lighthouse
  | ctx (tile c : Nat)
  | engine (tile e : Nat)
deriving DecidableEq, Repr

/-- What a register write carries (R494, R496): its value, and the byte lanes that the byte enables of a host request leave
out. -/
structure Written where
  value : Nat
  out : List Nat
deriving DecidableEq, Repr

/-- A write of SIG_CNT (R207): its value, and which signals on their way reach the counter in the same tile cycle (R209). -/
structure CntWrite where
  value : Nat
  picks : List Nat
deriving DecidableEq, Repr

/-- What a source has staged for, or latched from, one register wider than 32 bits (R10). -/
structure Part where
  src : Source
  reg : Reg
  inst : Nat
  idx : Nat
  value : Nat
deriving DecidableEq, Repr

/-- The origin of a signal word (R214, R216). -/
inductive SigSrc where
  | ctx (tile c : Nat)
  | engine (tile e : Nat)
  | tide (iodie ctx : Nat)
  | message (pkn : Nat)
  | guard (tag : Nat)
  | host
  | codec (stack : Nat)
  | link
deriving DecidableEq, Repr

/-- A signal on its way to the signal unit of a tile (R215): the word, the amount it carries (R214), its origin, whether it
waits to leave for another package (R216, R218), and whether earlier stores of its context waited when it was posted (R216). -/
structure Flight where
  word : Nat
  tile : Nat
  amount : Nat
  src : SigSrc
  remote : Bool := false
  behind : Bool := false
deriving DecidableEq, Repr

/-- A unit that the package has handed to a port, oldest first: the port, its traffic class (R272), for a TRANSIT unit
its DEST_LOC and ICLASS (R269), the guard words of a guarded packet (R286), the 64-bit words of its bodies, and the ORIGIN
and NONCE under which it is encrypted (R281). The words of a unit in TRANSIT are ciphertext. -/
structure Sent where
  port : Nat
  cls : Nat
  dest : Option (Nat × Nat)
  guard : List Nat
  words : List Nat
  origin : Nat := 0
  nonce : Nat := 0
deriving DecidableEq, Repr

/-- A data flit on the wire, oldest first: its port, the four words of its header (R269), and its body. -/
structure WireFlit where
  port : Nat
  header : List Nat
  body : List Nat
deriving DecidableEq, Repr

/-! ### Ports (spec/10_tideway.md) -/

/-- What waits for a unit to be acknowledged by the first hop: nothing, a transfer (R285), or the later posts of a context
(R216). -/
inductive TxOwner where
  | nobody
  | xfer (tag : Nat)
  | post (tile c : Nat)
deriving DecidableEq, Repr

/-- A unit queued at a port's egress: the unit, the flits not sent yet and all its flits, whether it passes through in
TRANSIT, who waits for it, its source (R313), TM0 and AT (R269), its bodies and tags as they go on the wire (R280), and which
of its flits came with PAD. -/
structure TxUnit where
  unit : Sent
  left : Nat
  size : Nat
  transit : Bool := false
  owner : TxOwner := .nobody
  src : Nat := 48
  tm0 : Nat := 0
  att : Nat := 0
  bodies : List Nat := []
  tags : List Nat := []
  pads : List Nat := []
deriving DecidableEq, Repr

/-- The class of a queued unit (R272). -/
def TxUnit.cls (u : TxUnit) : Nat := u.unit.cls

/-- A data flit in the replay buffer (R277): its SEQ, who waits for it, and the flit. -/
structure TxFlit where
  seq : Nat
  owner : TxOwner := .nobody
  header : List Nat := []
  body : List Nat := []
deriving DecidableEq, Repr

/-- A TRANSIT unit as it arrives (R291): its TM0 and AT, its ORIGIN and NONCE, its guard words, its bodies, still
encrypted, the tags of its groups, and the numbers of its flits that have PAD. -/
structure Transit where
  tm0 : Nat
  att : Nat
  origin : Nat
  nonce : Nat
  guard : List Nat
  words : List Nat
  tags : List Nat
  pads : List Nat
deriving DecidableEq, Repr

/-- The sixteen flit times of a slot at a port, `idle` of them for control and idle flits (R309, R310). -/
structure SlotTime where
  port : Nat
  idle : Nat
deriving DecidableEq, Repr

/-- A group whose tag is verified (R280, R283): its unit's class, ORIGIN and NONCE, its index in the unit, its additional
authenticated data, its bodies as they came, and the tag it came with. -/
structure Sealed where
  cls : Nat
  origin : Nat
  nonce : Nat
  index : Nat
  aad : List Nat
  words : List Nat
  tag : Nat
deriving DecidableEq, Repr

/-- A unit held at its SOP: its class, AT, the flits that have arrived of it, and whether its EOP has (R282, R375). -/
structure HeldUnit where
  cls : Nat
  tm0 : Nat
  att : Nat
  flits : Nat
  ended : Bool
deriving DecidableEq, Repr

/-- What becomes of the unit that a class is receiving (R282). -/
inductive RxUnit where
  | idle
  | taken
  | stale
  | held
deriving DecidableEq, Repr

/-- A flit as it arrives (R269): the codewords of it that the FEC has corrected and those it could not correct (R298), the
four words of its header, and its body. -/
structure Flit where
  corrected : Nat
  uncorrected : Nat
  header : List Nat
  body : List Nat
deriving DecidableEq, Repr

/-- A guarded transfer: a queued request (R285), with the tag it will carry. -/
structure XferReq where
  src : Nat
  cls : Nat
  dst : Nat
  dest : Nat
  len : Nat
  sig : Nat
  lsig : Nat
  tag : Nat
deriving DecidableEq, Repr

/-- A transfer that has been sent and waits for the first hop's acknowledgement (R285). -/
structure XferLive where
  tag : Nat
  port : Nat
  lsig : Nat
deriving DecidableEq, Repr

/-- What a group that has verified, or failed to, belongs to (R283). -/
inductive Group where
  | none
  | slot (d c p : Nat)
  | packet (i : Nat)
  | mgmt
deriving DecidableEq, Repr

/-- How a training stage ends (R287). -/
inductive Training where
  | done | lane | skew
deriving DecidableEq, Repr

/-- A port beside its registers: the sender's and the receiver's side of the link (R274 to R279), its arbiter (R302 to
R314), and the last TIME record (R290). Totals count since the port came UP; the link carries them modulo 4,096. -/
structure Link where
  nextSeq : Nat
  replay : List TxFlit
  replayRun : Nat             -- consecutive replays from the same SEQ (R278)
  queue : List TxUnit
  granted : List Nat          -- credit totals received, by class
  used : List Nat             -- flits sent, by class
  expSeq : Nat
  nakSent : Bool
  recv : List Nat             -- flits accepted, by class
  freed : List Nat            -- flits that have left the receive buffer, by class
  adv : List Nat              -- credit totals due to the sender, by class
  told : List Nat             -- credit totals that flits and records have carried to it, by class (R276)
  owed : List Nat             -- the classes whose return has not been carried yet, oldest first
  rx : List RxUnit
  held : List HeldUnit
  pcs : Bool                  -- TRAINING has completed its PMD stage (R287)
  lastTime : Nat × Nat        -- t1 of the last TIME record received, and its arrival
  holder : Option Nat         -- the class that holds the grant (R302)
  claim : Option Nat          -- a claim carried over (R311)
  served : Bool               -- the owner of this slot has held the grant in it (R311)
  turns : List Nat            -- the source whose unit each class sent last (R313)
deriving DecidableEq, Repr

/-- A port's link before it has trained. -/
def Link.init : Link :=
  let z := List.replicate 6 0
  ⟨0, [], 0, [], z, z, 0, false, z, z, z, z, [], List.replicate 6 .idle, [], false, (0, 0),
    none, none, false, List.replicate 6 48⟩

/-! ### Memory -/

/-- A region whose contents a rule leaves undefined: a stack after a reset of its controller during a fill (R259) or of
its shutter, an accumulator buffer after ABORT (R148) or rows of it after R147. -/
inductive Region where
  | stack (n s : Nat)
  | span (lo hi : Nat)
deriving DecidableEq, Repr

/-- A region that has lost its contents, with the tag that tells one loss from another; without a tag, a region that has
been filled with zeros since (R112, R258). -/
structure Zone where
  region : Region
  tag : Option Nat
deriving DecidableEq, Repr

/-- An error that the environment places in a command's reads (R113, R246): an address of the ECC word, the syndrome, how
many of the word's bits (in tile SRAM) or 16-bit symbols (in a stack) are in error, whether the data comes from the wrong
location, and whether the delay of a correction freezes the tile (R114). -/
structure Flaw where
  addr : Nat
  synd : Nat
  errs : Nat
  moved : Bool
  stall : Bool
deriving DecidableEq, Repr

/-- An ECC word that holds an uncorrectable error: its first byte, its bytes, and the syndrome (R114, R248). -/
structure BadWord where
  addr : Nat
  size : Nat
  synd : Nat
deriving DecidableEq, Repr

/-- Why an access ends without data (R105, R243, R248, R254). -/
inductive Fail where
  | tileUe | memUe | isolated | tileAddr | range | region
deriving DecidableEq, Repr

/-- The status code of R105 that a tile engine reports for a failed access. -/
def Fail.code : Fail → Nat
  | .tileUe => 0x02 | .memUe => 0x03 | .isolated => 0x04 | .tileAddr => 0x05 | .range => 0x05 | .region => 0x05

/-- The requester of an access: its number at the controllers (R260), how a record names it (R236), whether it may write
the context area (R254), and the package a MIRROR-class write comes from (R255). -/
structure Req where
  num : Nat
  waiterKind : Nat
  waiter : Nat
  saver : Bool := false
  mirrorFrom : Option Nat := none
deriving DecidableEq, Repr

/-- What lies at a device address (R340, R118, R119, R243). -/
inductive Target where
  | stack
  | hole
  | tile (id off : Nat)
  | noTile
  | register (bar : Nat)
  | host (addr : Nat)
  | nothing
deriving DecidableEq, Repr

/-! ### The tile (spec/04_tile.md, spec/05_matrix_array.md) -/

/-- What a context is blocked on (R95). -/
inductive Wait where
  | none
  | counter (n amount rd : Nat)        -- SIG.WAIT
  | barrier (b sense : Nat) (reported : Bool)   -- BAR.WAIT; has its limit been reported (R234)?
  | arrive (b err rd : Nat)            -- BAR.ARRIVE, not counted yet
  | queue (e rd desc : Nat)            -- TQ.ISSUE to a full queue
  | fence (e ticket : Nat)             -- TQ.FENCE
  | load (addr size rd : Nat) (signed pair : Bool) (pc core : BitVec 32)   -- a remote load outstanding, at a device address;
                                     -- the load's own address and the core address it names
  | served (rd value : Nat)            -- satisfied: CONTEXT_WAKE writes rd and runs on
deriving DecidableEq, Repr

/-- A task context of a scalar core (R95, R499): its registers, program counter, machine CSRs and latches. -/
structure Ctx where
  x : SMap (BitVec 32)
  pc : BitVec 32
  mie : Bool
  mpie : Bool
  mtvec : BitVec 32
  mepc : BitVec 32
  mcause : BitVec 32
  mtval : BitVec 32
  mcycle : BitVec 64
  minstret : BitVec 64
  tmarkHi : BitVec 32
  timeHi : BitVec 32
  wait : Wait
  ran : Bool := false         -- it has been started since its tile was reset (R359)
deriving DecidableEq, Repr

/-- A context as it leaves reset: registers and CSRs at 0 (R375 and R358 name this start state). -/
def Ctx.init : Ctx := ⟨[], 0x00200000#32, false, false, 0, 0, 0, 0, 0, 0, 0, 0, .none, false⟩

/-- A descriptor in an engine's queue (R101): its 512 bits, the context that issued it and its ticket. -/
structure QEntry where
  desc : Nat
  ctx : Nat
  ticket : Nat
deriving DecidableEq, Repr

/-- How the descriptor at the head of a queue ended (R105, R106): the status code, the block index or address of the
failure, and the further tiles of a rectangle that its signal goes to (R104). -/
structure Done where
  code : Nat
  detail : Nat
  addr : Nat
  tiles : List Nat
deriving DecidableEq, Repr

/-- An engine of a tile (R100, R101): its queue of up to 16 descriptors, its tickets, the result of the head that is
waiting for its completion, and the contexts blocked on a full queue in the order in which they blocked. -/
structure Engine where
  queue : List QEntry
  issued : Nat
  completed : Nat
  done : Option Done
  blocked : List Nat
deriving DecidableEq, Repr

def Engine.init : Engine := ⟨[], 0, 0, none, []⟩

/-- The matrix array beside its registers (R138, R141, R144 to R146). -/
structure MatArray where
  started : Bool       -- the head pass has started
  waiting : Bool       -- the head pass waits under R138
  prefetch : Bool      -- a prefetch under R141 is held
  frozen : Bool        -- frozen under R144
  gated : Bool         -- the die's gating depth has been above 0 since the pass started (R145)
  reported : Bool      -- the wait's limit has been reported (R234)
deriving DecidableEq, Repr

def MatArray.init : MatArray := ⟨false, false, false, false, false, false⟩

/-! ### The tide (spec/02_tide.md, spec/03_home_update.md) -/

/-- A segment or codebook frame as it travels (R26, R67): the 32 words of its header flit, its payload flits and its
accumulator flits; and what a cut-through passes on unchanged (R281): the ORIGIN and NONCE it came with, its ciphertext and the
tags of its groups. -/
structure Seg where
  head : List Nat
  payload : List (BitVec 8)
  acc : List (BitVec 8)
  origin : Nat := 0
  nonce : Nat := 0
  cipher : List Nat := []
  tags : List Nat := []
deriving DecidableEq, Repr

/-- The states of a landing slot that is not FREE (R45). -/
inductive SlotState where
  | arriving | heldWant | signalled | draining
deriving DecidableEq, Repr

/-- Where a segment's onward sending stands: none is due, it is due, or it has been sent in full (R39). -/
inductive Onward where
  | none | due | sent
deriving DecidableEq, Repr

/-- The want decision of a segment (R56). -/
inductive Want where
  | yes | open | no
deriving DecidableEq, Repr

/-- A landing slot that holds a lap position (R38, R45): the header words, and what has happened to the segment so
far. -/
structure Slot where
  p : Nat
  state : SlotState
  head : List Nat
  addr : Nat                  -- where its payload lies
  home : Bool                 -- injected here
  back : Bool                 -- the return of a backward lap has arrived here (R78)
  lands : Bool                -- it is landed, or read in place
  landed : Bool               -- its writes are acknowledged
  bad : Bool                  -- a group failed, or a write was refused: it never reaches SIGNALLED (R48)
  want : Want
  onward : Onward
  releases : Nat
  refs : List Nat             -- store entries it refers to (R54)
  asked : List (Bool × Nat)   -- blocks asked for again (R60): accumulator or weight block, and its number
  again : Nat                 -- resent copies that have landed and whose signals are due (R60)
  installed : Bool            -- a frame's book is installed (R39)
deriving DecidableEq, Repr

/-- What a context can send at a segment boundary (R46): the head of its cut-through queue, its next lap-list entry, or
a waiting slot. -/
inductive Candidate where
  | cut
  | walk (entry : Nat)
  | slot (p : Nat)
deriving DecidableEq, Repr

/-- A lap injected in this step: its header, and where its payload lies (R60). -/
structure Injected where
  p : Nat
  head : List Nat
  addr : Nat
deriving DecidableEq, Repr

/-- An installed book of a codebook store: what R54 and R192 compare. -/
structure StoreBook where
  home : Nat
  tensor : Nat
  plane : Nat
  epoch : Nat
  format : Nat
  grad : Nat
deriving DecidableEq, Repr

/-- A strand-direction context beside its registers (R34 to R63). -/
structure TideCtx where
  slots : SMap Slot           -- by slot number
  done : List Nat             -- finished lap positions at or above OWN_MARK
  last : Option Nat           -- LAP_POS of the lap-list entry taken last
  stopped : Bool              -- its walker has met a fault, or the engine has been voided
  voided : Bool               -- voided and not restarted: nothing is forwarded (R63)
  reported : Nat              -- the mark last reported upstream
  heldCredit : Nat            -- the greatest next-step mark held (R44)
  cut : List Seg              -- the cut-through queue
  held : List Seg             -- segments of the next step in the receive buffer (R52)
  laps : List Injected
deriving DecidableEq, Repr

def TideCtx.init : TideCtx := ⟨[], [], .none, false, false, 0, 0, [], [], []⟩

/-! ### Survey and recode (spec/07_shingle_codec.md) -/

/-- A stack's survey unit and recoder beside their registers (R186, R203, R205): feeds queued (address and blocks, or
directory indices), the values written while the queue was full, each with its source, the survey's sets and the vectors fed of
each plane, whether FINISH is pending, and whether a recode waits for its books to be read (R258). -/
structure Shingle where
  feeds : List (Nat × Nat)
  waitFeeds : List (Source × Nat)
  table : SMap (List (Option (Nat × Nat)))
  fed : List Nat
  svFinish : Bool
  recodes : List Nat
  waitRecodes : List (Source × Nat)
  rcFinish : Bool
  rcOpening : Bool
deriving DecidableEq, Repr

def Shingle.init : Shingle := ⟨[], [], [], [0, 0, 0, 0], false, [], [], false, false⟩

/-! ### Signals and barriers (spec/08_signals_barriers.md) -/

/-- A waiter on a signal counter (R210): a context 0 to 3 or the array (4), and its amount. -/
structure Waiter where
  who : Nat
  amount : Nat
deriving DecidableEq, Repr

/-- A barrier's phase beside SIG_BAR_STATE (R225): the arrival mask at the root, the OR of the members' flags, whether
this package's part is complete, and whether its limit has been reported (R228). -/
structure BarPhase where
  mask : Nat
  flag : Bool
  done : Bool
  reported : Bool
  sent : Bool                 -- the flag with which the package's own part has completed (R375)
deriving DecidableEq, Repr

def BarPhase.init : BarPhase := ⟨0, false, false, false, false⟩

/-- An entry of the guard table of an I/O die (R220). -/
structure Guard where
  die : Nat
  tag : Nat
  count : Nat
  written : Nat
  sig : Option Nat
deriving DecidableEq, Repr

/-- A guarded packet that has arrived (R219): its port, its guard fields, its class, where its data goes, the data, whether
its writes have been made, whether its group has verified, whether its writes wait for a zero fill or a pass (R134, R258),
and whether they were refused or its group failed, so that it never counts (R220, R283). -/
structure Packet where
  port : Nat
  tag : Nat
  count : Nat
  last : Bool
  sig : Nat
  cls : Nat
  addr : Nat
  data : List (BitVec 8)
  stored : Bool
  verified : Bool
  waits : Bool := false
  failed : Bool := false
deriving DecidableEq, Repr

/-! ### Arbitration (spec/11_arbitration.md) -/

/-- A shared resource that R300 lists, and its unit. -/
inductive Point where
  | bank (tile b : Nat)
  | fabric (tile port : Nat)
  | memory (stack : Nat)
  | egress (port : Nat)
deriving DecidableEq, Repr

/-- The bank of a row of working SRAM, and its index there (R116). -/
def rowBank (r : Nat) : Nat × Nat :=
  let q := r / 10
  ((r % 10 + (Nat.xor (Nat.xor (q % 16) (q / 16 % 16)) (q / 256 % 2)) % 10) % 10, q)

/-- Is a point a bank of a tile? -/
def Point.bankOf : Point → Nat → Bool
  | .bank t _, u => t == u
  | _, _ => false

/-- Does a point lie in the tiles or the die fabrics, which a compute reset clears (R393)? -/
def Point.compute : Point → Bool
  | .bank _ _ | .fabric _ _ => true
  | _ => false

/-- A refused requester in back-off (R304): the point, its number there, and its consecutive refusals. -/
structure Backoff where
  point : Point
  who : Nat
  refusals : Nat
deriving DecidableEq, Repr

/-- The grant of a point other than an egress port, and the requester that holds it (R302). -/
structure Hold where
  point : Point
  who : Nat
deriving DecidableEq, Repr

/-- A cycle of a point's clock (R302): the other requesters that present, whether the holder is at a break point, the row of
working SRAM that is presented for (R116), and the packets that reach a router's input buffers, by input, with the outputs that
each needs (R301). -/
structure ArbCycle where
  present : List Nat
  brk : Bool
  row : Nat
  packets : List (Nat × List Nat)
deriving DecidableEq, Repr

/-- A fabric packet in an input buffer of a router, with the outputs it has not been sent to (R301): inputs and outputs are
0 north, 1 east, 2 south, 3 west, 4 local. -/
structure FabPacket where
  tile : Nat
  input : Nat
  outs : List Nat
deriving DecidableEq, Repr

/-- Where a write of MEM_ZERO.START comes from (R259). -/
inductive ZeroSource where
  | scour | porter | other
deriving DecidableEq, Repr

/-- What a scrub read finds (R246, R251): no error, symbols in error, or data from the wrong location. -/
inductive Found where
  | clean
  | symbols (errs synd : Nat)
  | moved (synd : Nat)
deriving DecidableEq, Repr

/-! ### Telemetry (spec/16_lighthouse_security.md) -/

/-- What the TELEM hardware measures over a sample period (R415, R439), in the units of the TST_TEL registers; and the
gating depths that the governor's firmware chooses for the four compute dies at this sample (R417). -/
structure Sample where
  volt : Nat
  power : Nat
  peak : Nat
  energy : Nat
  rails : List (Nat × Nat)
  temps : List Int
  ioTemps : List Int
  stackTemps : List Int
  outlet : Int
  inlet : Int
  gov : List Nat
deriving DecidableEq, Repr

end Sys2Proof.Machine
end

