-- ==== Sys2Proof/Machine/Memory.lean ====
section
/-! DEFINITION. The one memory of the package: the 48-bit device address space of R340 (stack memory, tile SRAM) as a
sparse list of bytes in canonical form, and the placement of stack memory (R244, R245). An address that is not listed
reads as 0, or, inside a region whose contents a rule leaves undefined, as a free byte. -/
namespace Sys2Proof.Machine

/-- The memory: the listed bytes (addresses rising, a zero listed only where an unlisted byte would be free), the regions
that have lost their contents or been filled since (newest first), and the ECC words that hold an uncorrectable error
(R114, R248). -/
structure Memory where
  cells : List Host.Cell
  zones : List Zone
  bad : List BadWord
deriving DecidableEq, Repr

/-- The stack that holds a stack memory address (R244): granules of 4 KiB, permuted by the fold of their index. -/
def stackOf (n a : Nat) : Nat :=
  let g := bits a 40 12
  let q := g / n
  let s := Nat.xor (bits q 3 0) (Nat.xor (bits q 7 4) (Nat.xor (bits q 11 8) (Nat.xor (bits q 15 12)
    (Nat.xor (bits q 19 16) (Nat.xor (bits q 23 20) (bit q 24)))))) % n
  (g % n + s) % n

/-- The stack-local address of a stack memory address (R244). -/
def stackLocal (n a : Nat) : Nat := bits a 40 12 / n * 4096 + a % 4096

/-- The channel of a stack memory address (R245). -/
def stackChannel (n a : Nat) : Nat := (bits a 11 6 + bits (bits a 40 12 / n) 3 0) % 16

/-- Is an address inside a region? A stack holds addresses below the tile range only. -/
def Region.holds : Region → Nat → Bool
  | .stack n s, a => decide (a < 0x200000000000) && stackOf n a == s
  | .span lo hi, a => decide (lo ≤ a ∧ a < hi)

/-- Does the first region contain the whole of the second? -/
def Region.covers : Region → Region → Bool
  | .span lo hi, .span lo' hi' => decide (lo ≤ lo' ∧ hi' ≤ hi)
  | r, r' => decide (r = r')

/-- Can two regions share an address? Two stacks of one assembly cannot, nor can a stack and a span of tile memory. -/
def Region.meets : Region → Region → Bool
  | .span lo hi, .span lo' hi' => decide (lo < hi' ∧ lo' < hi)
  | .stack n s, .stack n' s' => decide (n ≠ n' ∨ s = s')
  | .stack _ _, .span lo _ => decide (lo < 0x200000000000)
  | .span lo _, .stack _ _ => decide (lo < 0x200000000000)

namespace Memory

/-- The memory with nothing in it. -/
def empty : Memory := ⟨[], [], []⟩

/-- The newest region an address lies in. -/
def zoneOf (m : Memory) (a : Nat) : Option Zone := m.zones.find? fun z => z.region.holds a

/-- The tag of the loss that an address has suffered, where no fill has followed it. -/
def lostAt (m : Memory) (a : Nat) : Option Nat := (m.zoneOf a).bind (·.tag)

/-- What an address that is not listed reads as. -/
def unlisted (m : Memory) (a : Nat) : Byte :=
  match m.lostAt a with
  | none => 0
  | some k => Config.freeByte k a

/-- The listed byte of an address. -/
def lookup : List Host.Cell → Nat → Option Byte
  | [], _ => none
  | (k, v) :: cs, a => if k = a then some v else lookup cs a

/-- One byte read. -/
def read (m : Memory) (a : Nat) : Byte := (lookup m.cells a).getD (m.unlisted a)

/-- The cells with one address set, in rising order. -/
def insert : List Host.Cell → Nat → Byte → List Host.Cell
  | [], a, v => [(a, v)]
  | (k, w) :: cs, a, v =>
    if k = a then (a, v) :: cs else if k < a then (k, w) :: insert cs a v else (a, v) :: (k, w) :: cs

/-- The cells without one address. -/
def erase (cs : List Host.Cell) (a : Nat) : List Host.Cell := cs.filter fun c => decide (c.1 ≠ a)

/-- One byte written; a zero where an unlisted byte is zero removes the entry. -/
def write (m : Memory) (a : Nat) (v : Byte) : Memory :=
  if v = 0 ∧ m.lostAt a = none then { m with cells := erase m.cells a }
  else { m with cells := insert m.cells a v }

/-- Consecutive bytes read. -/
def readN (m : Memory) (a : Nat) : Nat → List Byte
  | 0 => []
  | n + 1 => m.read a :: readN m (a + 1) n

/-- Consecutive bytes written, lowest address first. -/
def writeN (m : Memory) (a : Nat) : List Byte → Memory
  | [] => m
  | v :: vs => writeN (m.write a v) (a + 1) vs

/-- A region filled with zeros (R112, R258): nothing listed in it, no error, and every loss that reaches into it
ended there. -/
def clear (m : Memory) (r : Region) : Memory where
  zones :=
    let rest := m.zones.filter fun z => !(r.covers z.region)
    if rest.any fun z => z.tag.isSome && r.meets z.region then ⟨r, none⟩ :: rest else rest
  cells := m.cells.filter fun c => !(r.holds c.1)
  bad := m.bad.filter fun w => !(r.holds w.addr)

/-- A region whose contents are lost: every byte of it reads as a free value until it is written. -/
def lose (m : Memory) (r : Region) (tag : Nat) : Memory where
  zones := ⟨r, some tag⟩ :: m.zones
  cells := m.cells.filter fun c => !(r.holds c.1)
  bad := m.bad

/-- The syndrome of an ECC word among `n` bytes that holds an uncorrectable error. -/
def badIn (m : Memory) (a n : Nat) : Option Nat :=
  (m.bad.find? fun w => decide (w.addr < a + n ∧ a < w.addr + w.size)).map (·.synd)

/-- The syndrome of the ECC word of an address, if it holds an uncorrectable error. -/
def badAt (m : Memory) (a : Nat) : Option Nat := m.badIn a 1

/-- An ECC word marked as holding an uncorrectable error. -/
def mark (m : Memory) (w : BadWord) : Memory :=
  if (m.badIn w.addr w.size).isSome then m else { m with bad := w :: m.bad }

/-- The ECC words inside `n` bytes repaired by a write of new check bits (R115, R248). -/
def heal (m : Memory) (a n : Nat) : Memory :=
  { m with bad := m.bad.filter fun w => !decide (a ≤ w.addr ∧ w.addr + w.size ≤ a + n) }

/-- Bytes written but for those of ECC words that hold an uncorrectable error (R115). -/
def writeGood (m : Memory) (a : Nat) : List Byte → Memory
  | [] => m
  | v :: vs => writeGood (if (m.badAt a).isSome then m else m.write a v) (a + 1) vs

/-- Addresses rise. -/
def rising : List Host.Cell → Bool
  | [] => true
  | [_] => true
  | (a, _) :: (b, v) :: cs => decide (a < b) && rising ((b, v) :: cs)

/-- The canonical form: addresses rise, and a zero is listed only where an unlisted byte would be free. -/
def wf (m : Memory) : Bool :=
  rising m.cells && m.cells.all fun c => decide (c.2 ≠ 0) || (m.lostAt c.1).isSome

end Memory

/-- The number whose bytes are the list, the first lowest (R8). -/
def leNat : List Byte → Nat
  | [] => 0
  | b :: bs => b.toNat + 256 * leNat bs

/-- The `n` bytes of a number, the lowest first (R8). -/
def leBytes : Nat → Nat → List Byte
  | 0, _ => []
  | n + 1, v => BitVec.ofNat 8 v :: leBytes n (v / 256)

end Sys2Proof.Machine
end

