-- ==== Sys2Proof/Machine/Units.lean ====
section
/-! DEFINITION. Plain-data records of the units at the package's edge: the host interface, the reset controller and the
boot, Lighthouse, the porter, the journal and the test logic (spec/13, spec/15 to spec/18). -/
namespace Sys2Proof.Machine

/-! ### Host interface (spec/13_host_jobs.md) -/

/-- A submission entry that has been fetched: its queue, its eight words (R346), and its number in the order of fetch (R348). -/
structure HostCmd where
  q : Nat
  words : List Nat
  num : Nat := 0
deriving DecidableEq, Repr

/-- A FERRY on its channel (R350): the command, the errors and the host link's failure that the environment places in
it, and its completion STATUS and DETAIL once its data has moved. -/
structure Ferry where
  cmd : HostCmd
  flaws : List Flaw
  link : Bool
  done : Option (Nat × Nat)
deriving DecidableEq, Repr

/-- What the host receives back: the answer to a configuration request (R338), or the data of a BAR2 read. -/
inductive Reply where
  | config (retry : Bool)
  | bytes (bs : List (BitVec 8))
deriving DecidableEq, Repr

/-- An access of the host through BAR2 that waits: its device address and length, and the data of a write (R134, R342). -/
structure Bar2 where
  addr : Nat
  len : Nat
  data : Option (List (BitVec 8))
deriving DecidableEq, Repr

/-- What the context area holds beside the images of tile SRAM and the header (R362, R382). -/
structure Saved where
  regs : SMap Nat
  ctxs : SMap Ctx
  engines : SMap Engine
  arrays : SMap MatArray
  current : SMap Nat
  waiters : SMap (List Waiter)
  nonces : SMap Nat
  xferSeqs : SMap Nat
  tctxs : SMap TideCtx
  books : SMap (Option StoreBook)
  shingles : SMap Shingle
  guards : List Guard
  packets : List Packet
  heldPackets : List Packet
  bars : SMap BarPhase
  senses : Nat
  tileSenses : SMap Nat
  holdQueue : List (List Nat)
  entry : SMap Nat
  seqReleased : Bool
  cause : Option (Nat × Nat)
  voidGate : Bool
  errRing : SMap (List Nat)
deriving DecidableEq, Repr

/-- The host interface beside its registers: commands fetched and not started yet, the ferry channels, the job
sequencer's commands with the running one first, kills that joined a scour, the PHASE of each completion ring and its
entries that the host has not freed, the manifest of the open job, how far a pause or scour has come (the order of R360 or
R364), the saved state, BAR2 accesses that wait, what has gone back to the host, and the number of entries fetched. -/
structure Hst where
  started : List HostCmd
  ferries : SMap (List Ferry)
  jobs : List HostCmd
  active : Bool
  kills : List HostCmd
  phases : SMap Nat
  cqUsed : SMap Nat
  manifest : List Nat
  order : Nat
  saved : Option Saved
  stalled : List Bar2
  replies : List Reply
  fetched : Nat
deriving DecidableEq, Repr

def Hst.init : Hst := ⟨[], [], [], false, [], [], [], [], 0, none, [], [], 0⟩

/-! ### Reset and boot (spec/15_clocks_reset_boot.md) -/

/-- The reset controller and the boot: the levels of the pins (a reset source is `true` while it is asserted), the two
pulses, the last order of R407 that is finished, whether the boot ROM is done, whether configuration requests are
answered with Request Retry Status, the strap pins as sampled, HS_EN's default, production access (R473), and the option block
as the boot has read it (R387, R404). -/
structure Boot where
  pwrok : Bool
  perst : Bool
  tray : Bool
  wdog : Bool
  pkg : Bool
  fuseDone : Bool
  order : Nat
  romDone : Bool
  retry : Bool
  pins : Nat
  hsEnDef : Bool
  production : Bool
  option : List Nat
deriving DecidableEq, Repr

/-- The package while PWROK is low. -/
def Boot.init : Boot := ⟨false, false, false, false, false, false, 0, false, true, 0, true, false, []⟩

/-! ### Lighthouse (spec/16_lighthouse_security.md) -/

/-- The scalar core of Lighthouse (R411): its registers, the program counter, and its 32 MiB of SRAM, which holds the firmware
image that the boot ROM has verified and copied there. -/
structure LhCore where
  x : SMap (BitVec 32)
  pc : BitVec 32
  sram : Memory
deriving DecidableEq, Repr

def LhCore.init : LhCore := ⟨[], 0, Memory.empty⟩

/-- Lighthouse and the limits beside their registers: the governor's and the valve loop's targets in °C, the loop's
integral term in 1/160 %, the last input samples in 0.1 W, the cap's run count, when the cap and each rail wrote a record
last, a latched trip, a sensor at or above 100 °C not yet below 95 °C, flow windows below and above the threshold and
whether the firmware holds for flow, whether TRAY_FAULT_N is low for the input voltage, the voltage each rail was sent in
mV, the level of HS_EN and a POWER_OFF that is due, pulses per litre, the receive queue, the core, and the outputs that the
firmware configures: LED0 to LED2 (bit i: LEDi is on), and whether the package drives I3C SCL and SDA low (R409). -/
structure Lhs where
  tjTarget : Nat
  valveTarget : Nat
  integral : Int
  samples : List Nat
  capRun : Nat
  capAt : Option Nat
  clampAt : SMap Nat
  tripped : Bool
  hot : Bool
  flowLow : Nat
  flowOk : Nat
  flowHold : Bool
  voltFault : Bool
  rails : SMap Nat
  hsEn : Bool
  offDue : Bool
  flowK : Nat
  inbox : List (List Nat)
  core : LhCore
  leds : Nat
  i3c : Nat
deriving DecidableEq, Repr

def Lhs.init : Lhs :=
  ⟨95, 75, 0, [], 0, none, [], false, false, 0, 0, false, false, [], true, false, 500, [], LhCore.init, 1, 0⟩

/-! ### The porter -/

/-- A porter command that runs (R430, R431, R434, R437): the quote it signs, or the fuses it blows. -/
inductive SecCmd where
  | quote (fields : List Nat)
  | enrol (op slot : Nat) (hash secret : List Nat)
  | svn (shore : Bool)
deriving DecidableEq, Repr

/-- The porter beside its registers: the keys it has loaded (R426; empty where none is), the running command, the
capabilities that an accepted token grants once its scour has ended (R436), the OWNER_STATE that governs since the
last reset of warm reach or wider (R431), and the device identity key of 72 bytes (R426). -/
structure Sec where
  linkKey : List Nat
  memKey : List Nat
  mgmtKey : List Nat
  cmd : Option SecCmd
  unlock : Option Nat
  owners : Nat
  identity : List Nat
deriving DecidableEq, Repr

def Sec.init : Sec := ⟨[], [], [], none, none, 0, []⟩

/-! ### The journal (spec/17_journal_calibration.md) -/

/-- A journal record (R443). -/
structure JRec where
  seq : Nat
  type : Nat
  key : Nat
  value : List Nat
deriving DecidableEq, Repr

/-- Where a flash command comes from (R442). -/
inductive FlashSource where
  | bootRom | firmware | tap
deriving DecidableEq, Repr

/-- A flash command: bytes programmed, or the sector of its address erased (R441). -/
inductive FlashOp where
  | program (data : List Nat)
  | erase
deriving DecidableEq, Repr

/-- Lighthouse's side of the journal: the phase of a compaction (R450; 0: none), the SEQ h of its AREA record, the
appends held (R451), each with whether the mailbox waits for its acknowledgement, the option block staged in SRAM (R454),
the PARAM of each instance's request, and when each instance entered its state. -/
structure Jrn where
  phase : Nat
  mark : Nat
  held : List (JRec × Bool)
  staged : SMap Nat
  params : SMap Nat
  since : SMap Nat
deriving DecidableEq, Repr

def Jrn.init : Jrn := ⟨0, 0, [], [], [], []⟩

/-! ### Test (spec/18_test.md) -/

/-- An SRAM of an I/O die or of a memory controller that SRAM_DIRECT writes, by what State keeps in it (R467, R472): a slot
of the error record ring, the guard table, a port's replay buffer, a book of a codebook store, or a set of a survey table.
Where in an SRAM each of them lies is not part of spec/ (assumption 38). -/
inductive DieSram where
  | record (slot : Nat) (words : List Nat)
  | guards (entries : List Guard)
  | replay (port : Nat) (flits : List TxFlit)
  | book (die ctx entry : Nat) (b : Option StoreBook)
  | survey (stack plane set : Nat) (ways : List (Option (Nat × Nat)))
deriving DecidableEq, Repr

/-- The instruments of the IEEE 1687 network (R472), with what they do to the package: PCIE_LB selects a PCIe loopback
(0 none, 1 PIPE, 2 ANALOG), starts its run, and the run ends with the bits compared on each of its 16 counters and the errors
of each; SRAM_DIRECT writes bytes of a tile's SRAM, or what an SRAM of an I/O die or controller holds; SCAN shifts values into
register fields, each with its instance and index. -/
inductive Instrument where
  | temp | clocks | flash
  | pcieLb (mode : Nat)
  | pcieRun
  | pcieEnd (bits : Nat) (errs : List Nat)
  | sramDirect (addr : Nat) (data : List Nat)
  | sramDie (x : DieSram)
  | scan (values : List (Nat × Nat × Nat × Nat))
  | analog
deriving DecidableEq, Repr

/-- What the debug module asks of Lighthouse (R435). -/
inductive DebugOp where
  | halt | resume | step
deriving DecidableEq, Repr

/-- The test access port (R470 to R473): its instruction, whether the last EXTEST, CLAMP or HIGHZ was refused, the
boundary register (bit n: cell n), the PCIe loopback that the PCIE_LB instrument selects, and what the last scan of the
instruction register and of the selected data register has shifted out on TDO. -/
structure Tap where
  ir : Nat
  refused : Bool
  boundary : Nat
  pcieLb : Nat
  irOut : Nat
  drOut : Nat
deriving DecidableEq, Repr

def Tap.init : Tap := ⟨0x01, false, 0, 0, 0, 0⟩

end Sys2Proof.Machine
end

