-- ==== Sys2Proof/Syntax.lean ====
section
/-! DEFINITION. The commands of the package: one constructor for each row of spec/opcode_table.json, in its order. A
command is one event: a write of a register, an operation of the host, a step that an engine takes, a record that a link
brings, a pin, or the end of something that takes time (DESIGN CHOICE, assumption 1). `src` is the source of a register
write, `t` a tile's logical ID, `c` a context, `e` an engine, `d` an I/O die, `st` a stack, `p` a port, `q` a queue pair,
`b` a barrier, `words` 64-bit words, and `flaws` the memory errors that the environment places in the command's reads.
What the environment decides (an error, a measurement, the outcome of a training) is an operand. -/
namespace Sys2Proof

open Sys2Proof.Machine

inductive Instr where
  /-- REGISTER_WRITE (R13). A write to a register field that has no row of its own takes effect under its access code,
  with the staging, narrow-access, reserved-encoding and lock rules applied, to the byte lanes that it names (R496). -/
  | registerWrite (src : Source) (addr size : Nat) (w : Written)
  /-- CORE_EXECUTE (R95). The scalar core executes one RV32IMC instruction of the running context. -/
  | coreExecute (t : Nat) (flaws : List Flaw)
  /-- CORE_LOAD (R498). A context issues a load; failures found at issue raise a precise exception and remote loads
  block the context. -/
  | coreLoad (t : Nat) (flaws : List Flaw)
  /-- CORE_STORE (R498). A context issues a store; failures at issue trap and failures at the target set
  TILE_ERR_STATUS without an exception. -/
  | coreStore (t : Nat) (flaws : List Flaw)
  /-- LOAD_COMPLETE (R498). An outstanding load returns its data, or raises a load access fault when it failed at its
  target. -/
  | loadComplete (t c : Nat) (flaws : List Flaw)
  /-- CSR_ACCESS (R499). A CSR instruction reads or writes a listed machine CSR, or raises an illegal-instruction
  exception for any other CSR. -/
  | csrAccess (t : Nat)
  /-- FENCE_I (R499). FENCE.I raises an illegal-instruction exception. -/
  | fenceI (t : Nat)
  /-- WFI (R499). WFI completes at once as a no-op. -/
  | wfi (t : Nat)
  /-- MRET (R499). MRET returns from a trap under the RISC-V privileged rules. -/
  | mret (t : Nat)
  /-- ECALL (R96). ECALL raises its exception, trapping to mtvec or halting the context when mtvec is 0. -/
  | ecall (t : Nat)
  /-- EBREAK (R96). EBREAK raises its exception, trapping to mtvec or halting the context when mtvec is 0. -/
  | ebreak (t : Nat)
  /-- CONTEXT_WAKE (R95). A blocked context becomes runnable when the signal, barrier, queue space, ticket, arrival
  count or load it waited for arrives. -/
  | contextWake (t c : Nat)
  /-- TQ_ISSUE (R101). A context copies a 64-byte descriptor into an engine queue and receives its ticket, blocking
  while the queue is full. -/
  | tqIssue (t : Nat) (flaws : List Flaw)
  /-- TQ_FENCE (R100). A context blocks until the engine has completed the named ticket. -/
  | tqFence (t : Nat)
  /-- TQ_STAT (R99). A context reads an engine's last completed ticket and queue occupancy. -/
  | tqStat (t : Nat)
  /-- SIG_WAIT (R210). A context consumes an amount from a signal counter, blocking in waiter order until it can. -/
  | sigWait (t : Nat)
  /-- SIG_TRY (R210). A context consumes an amount from a counter only if no waiter is blocked and the value suffices,
  without blocking. -/
  | sigTry (t : Nat)
  /-- SIG_POST (R216). A context posts a signal word after its earlier stores are acknowledged, locally or as a SIGNAL
  message. -/
  | sigPost (t : Nat)
  /-- BAR_ARRIVE (R224). A context arrives at a barrier and blocks until the arrival is counted, then receives the
  awaited sense. -/
  | barArrive (t : Nat)
  /-- BAR_WAIT (R224). A context blocks until its tile's copy of a barrier's sense equals the operand. -/
  | barWait (t : Nat)
  /-- TILE_HALT (R99). A context clears RUN and sets HALTED. -/
  | tileHalt (t : Nat)
  /-- TILE_YIELD (R99). A context gives the core to the next runnable context. -/
  | tileYield (t : Nat)
  /-- TILE_ID (R99). A context reads its tile's logical ID. -/
  | tileId (t : Nat)
  /-- TILE_CTX (R99). A context reads its own context number. -/
  | tileCtx (t : Nat)
  /-- TILE_TMARK (R99). A context reads the low tidemark word and latches the high word. -/
  | tileTmark (t : Nat)
  /-- TILE_TMARKH (R99). A context reads the latched high tidemark word. -/
  | tileTmarkh (t : Nat)
  /-- TILE_TIME (R99). A context reads the low timestamp word and latches the high word. -/
  | tileTime (t : Nat)
  /-- TILE_TIMEH (R99). A context reads the latched high timestamp word. -/
  | tileTimeh (t : Nat)
  /-- TIDE_REL (R99). A context stores a release to TIDE_RELEASE of I/O die 0 through the register mirror. -/
  | tideRel (t : Nat)
  /-- TILE_LD (R98). A context loads 8 bytes in one aligned access into an even register pair. -/
  | tileLd (t : Nat) (flaws : List Flaw)
  /-- TILE_SD (R98). A context stores 8 bytes from a register pair in one aligned access. -/
  | tileSd (t : Nat) (flaws : List Flaw)
  /-- COPY (R103). A feeder or drain engine copies runs of bytes from source to destination. -/
  | copy (t e : Nat) (flaws : List Flaw)
  /-- MCAST (R103). A feeder copies runs into the same offset of every tile of a rectangle. -/
  | mcast (t e : Nat) (flaws : List Flaw)
  /-- EXPAND_W (R103). Feeder B expands the selected weight blocks of a landed segment and multicasts them into the
  consumer tiles. -/
  | expandW (t : Nat) (flaws : List Flaw)
  /-- EXPAND_ACC (R103). Feeder B expands a range of accumulator blocks into the issuing tile's SRAM. -/
  | expandAcc (t : Nat) (flaws : List Flaw)
  /-- CONVERT (R103). The drain engine converts elements between formats with the chosen rounding. -/
  | convert (t : Nat) (flaws : List Flaw)
  /-- COMPRESS (R202). The drain engine codes 4 KiB runs with the gradient books and writes them, updating ACC_RAW and
  ACC_WRITTEN in an accumulator slot. -/
  | compress (t : Nat) (flaws : List Flaw)
  /-- DESCRIPTOR_COMPLETE (R101). A descriptor's writes are acknowledged; its status record, completion signal and
  ticket advance follow, or the error path of R106. -/
  | descriptorComplete (t e : Nat)
  /-- VOP_CONVERT (R110). The vector unit converts operand A to the result format. -/
  | vopConvert (t : Nat) (flaws : List Flaw)
  /-- VOP_ADD (R110). The vector unit adds A and B per element. -/
  | vopAdd (t : Nat) (flaws : List Flaw)
  /-- VOP_SUB (R110). The vector unit subtracts B from A per element. -/
  | vopSub (t : Nat) (flaws : List Flaw)
  /-- VOP_MUL (R110). The vector unit multiplies A and B per element. -/
  | vopMul (t : Nat) (flaws : List Flaw)
  /-- VOP_FMA (R110). The vector unit computes A times B plus C with one rounding. -/
  | vopFma (t : Nat) (flaws : List Flaw)
  /-- VOP_MAX (R110). The vector unit takes the maximum of A and B. -/
  | vopMax (t : Nat) (flaws : List Flaw)
  /-- VOP_MIN (R110). The vector unit takes the minimum of A and B. -/
  | vopMin (t : Nat) (flaws : List Flaw)
  /-- VOP_SCALE (R110). The vector unit computes A times s plus t with one rounding. -/
  | vopScale (t : Nat) (flaws : List Flaw)
  /-- VOP_EXP2 (R110). The vector unit computes 2 to the power A. -/
  | vopExp2 (t : Nat) (flaws : List Flaw)
  /-- VOP_LOG2 (R110). The vector unit computes log2 of A. -/
  | vopLog2 (t : Nat) (flaws : List Flaw)
  /-- VOP_RECIP (R110). The vector unit computes the reciprocal of A. -/
  | vopRecip (t : Nat) (flaws : List Flaw)
  /-- VOP_RSQRT (R110). The vector unit computes the reciprocal square root of A. -/
  | vopRsqrt (t : Nat) (flaws : List Flaw)
  /-- VOP_ROWSUM (R111). The vector unit sums each row of 32 lanes by a fixed tree into lane 0. -/
  | vopRowsum (t : Nat) (flaws : List Flaw)
  /-- VOP_ROWMAX (R111). The vector unit takes the maximum of each row into lane 0. -/
  | vopRowmax (t : Nat) (flaws : List Flaw)
  /-- VOP_SELECT (R110). The vector unit selects A where C is positive and B otherwise. -/
  | vopSelect (t : Nat) (flaws : List Flaw)
  /-- GEMM (R139). A pass starts once its wait amount is consumed or its checks pass, and runs its blocks into the
  accumulator buffer. -/
  | gemm (t : Nat) (flaws : List Flaw) (frozen : Bool)
  /-- ARRAY_RESUME (R144). A frozen array resumes in exactly its frozen state when the missing operand or fill
  arrives. -/
  | arrayResume (t : Nat)
  /-- PASS_COMPLETE (R139). A pass's last accumulator write is done; status record, completion signal and ticket
  advance follow. -/
  | passComplete (t : Nat)
  /-- ARR_STOP (R146). Writing ARR_CTRL.STOP prevents further passes from starting, ends a pending wait and discards a
  prefetch. -/
  | arrStop (src : Source) (t : Nat) (on : Bool)
  /-- ABORT (R148). Writing ARR_CTRL.ABORT stops any pass, discards the queue and completes every ticket without
  signals. -/
  | abort (src : Source) (t : Nat)
  /-- WATERLINE_WRITE (R112). A write of TILE_WATERLINE.LEVEL is accepted only with the tile idle, else discarded with
  ERR_TILE_WATERLINE. -/
  | waterlineWrite (src : Source) (t level : Nat)
  /-- WATERLINE_REWRITE_DONE (R112). The rewrite of rows that changed region ends and the tile takes working SRAM
  accesses again. -/
  | waterlineRewriteDone (t : Nat)
  /-- RESEND_SIGNAL_APPLY (R108). A resend landing signal is applied if it matches an armed slot, disarming it, or
  discarded and counted otherwise. -/
  | resendSignalApply (pick : Nat)
  /-- CTX_RUN_WRITE (R123). Writing TILE_CTX_CTRL.RUN to 1 starts a context at TILE_CTX_PC unless HALTED is set. -/
  | ctxRunWrite (src : Source) (t c value : Nat)
  /-- GLB_TILE_RANK_WRITE (R122). An accepted write of GLB_TILE_RANK is copied into every tile's TILE_ARB_RANK in the
  next cycle. -/
  | glbTileRankWrite (src : Source) (value : Nat)
  /-- SEGMENT_INJECT (R497). The walker reads the next lap-list and directory entry and injects a segment or codebook
  frame when the window allows. -/
  | segmentInject (d c : Nat)
  /-- CONTEXT_SEND_NEXT (R46). At a segment boundary a context sends the candidate with the lowest lap position,
  including forwarding from a slot when credit allows. -/
  | contextSendNext (d c : Nat)
  /-- SEGMENT_ARRIVE (R47). A header flit is accepted and the engine decides landing, cut-through forwarding, skipping
  and signalling for the segment. -/
  | segmentArrive (d c : Nat) (seg : Seg)
  /-- LANDING_COMPLETE (R48). All landing and header-array writes are acknowledged and every GCM group verified; the
  landing signal is raised to the landing class. -/
  | landingComplete (d c p : Nat)
  /-- CODEBOOK_INSTALL (R54). A landed codebook frame is checked and installed once its store entry's reference count
  is zero, releasing deferred landing signals. -/
  | codebookInstall (d c p : Nat)
  /-- TIDE_RELEASE (R50). A write of TIDE_RELEASE counts a release for a slot; reaching the release count finishes
  consumption or sends a backward segment on. -/
  | tideRelease (src : Source) (d value : Nat)
  /-- CREDIT_TIMER (R41). 1 µs after an unreported mark advance the receiver sends a CREDIT message. -/
  | creditTimer (d c : Nat)
  /-- CREDIT (R41). A received CREDIT message raises DOWN_MARK if greater, or is held or discarded as stale. -/
  | credit (d c : Nat) (words : List Nat)
  /-- RESEND (R60). A received RESEND message makes the sender send a resent copy of the named blocks addressed to the
  requester. -/
  | resend (d c : Nat) (words : List Nat) (target : Nat)
  /-- TIDE_ENABLE (R38). Writing TIDE_CTRL.ENABLE from 0 to 1 checks every valid context and starts the walkers, or
  refuses with ERR_TIDE_CONFIG. -/
  | tideEnable (src : Source) (d : Nat)
  /-- TIDE_PAUSE (R62). Setting TIDE_CTRL.PAUSE stops injection while laps in flight complete; clearing it resumes
  injection. -/
  | tidePause (src : Source) (d : Nat) (on : Bool)
  /-- TIDE_QUIESCENT (R62). No job flit remains in flight on the engine's contexts and TIDE_STATUS.QUIESCENT is set.
  -/
  | tideQuiescent (d : Nat)
  /-- TIDE_VOID (R63). Writing TIDE_CTRL.VOID stops injection and forwarding and frees slots, marks, stores, want bits
  and the directory cache. -/
  | tideVoid (src : Source) (d : Nat)
  /-- TIDE_STALL_TIMEOUT (R61). No mark or injection of a running context advances for TIDE_STALL_LIMIT and
  ERR_TIDE_STALL is reported. -/
  | tideStallTimeout (d c : Nat)
  /-- WANT_MARK_WRITE (R56). A raise of TIDE_SD_WANT_MARK takes open want decisions, signalling wanted held segments
  and draining unwanted ones. -/
  | wantMarkWrite (src : Source) (d c mark : Nat)
  /-- TIDE_WANT_SET (R55). A W1S write to TIDE_WANT sets expert want bits in all four instances. -/
  | tideWantSet (src : Source) (idx value : Nat)
  /-- SIGNAL_APPLY (R207). An add or subtract signal reaches a counter, updating VALUE and ADDED and serving waiters
  in order. -/
  | signalApply (picks : List Nat)
  /-- SIG_CNT_WRITE (R207). A write of SIG_CNT.VALUE sets the counter and makes ADDED equal TAKEN plus the value. -/
  | sigCntWrite (src : Source) (t n : Nat) (w : CntWrite)
  /-- SIG_CNT_CFG_WRITE (R241). A write of SIG_CNT_CFG changes mode and bound, or is discarded while a waiter is
  blocked. -/
  | sigCntCfgWrite (src : Source) (t n value : Nat)
  /-- WAIT_TIMEOUT (R234). A blocked SIG.WAIT, BAR.WAIT or pass wait reaches its limit and writes an ERR_SIG_TIMEOUT
  record. -/
  | waitTimeout (t who : Nat)
  /-- SIGNAL (R218). A received SIGNAL message is checked and applied, forwarded towards its package, or discarded. -/
  | signal (words : List Nat)
  /-- GUARD_PACKET_ARRIVE (R220). A guarded packet arrives, opens or matches a guard entry, deposits its signal word
  and has its data written. -/
  | guardPacketArrive (packet : Packet)
  /-- GUARD_HELD_PACKET_ACCEPT (R221). A packet held for a full guard table is taken when an entry closes. -/
  | guardHeldPacketAccept
  /-- GUARD_PACKET_WRITTEN (R220). A packet's writes are acknowledged and its group verified; WRITTEN rises and the
  signal is applied when it reaches COUNT. -/
  | guardPacketWritten (i : Nat)
  /-- GUARD_TIMEOUT (R221). An open guard entry receives no packet for SIG_GUARD_LIMIT and voids the step with
  ERR_SIG_GUARD. -/
  | guardTimeout (die tag : Nat)
  /-- BAR_ARRIVAL_COUNT (R217). A BAR.ARRIVE is counted once the context's earlier posts are applied and stores
  acknowledged. -/
  | barArrivalCount (t c : Nat)
  /-- BAR_ARRIVE_MSG (R225). The root counts a member's BAR_ARRIVE message in its arrival mask. -/
  | barArriveMsg (words : List Nat)
  /-- BAR_RELEASE_MSG (R225). A member applies a BAR_RELEASE message from the root. -/
  | barReleaseMsg (words : List Nat)
  /-- BARRIER_TIMEOUT (R228). A barrier's limit expires at the root or a member and an ERR_SIG_TIMEOUT record names
  the missing package. -/
  | barrierTimeout (b : Nat)
  /-- SIG_BAR_CFG_WRITE (R227). A write of SIG_BAR_CFG configures a barrier, or is discarded with
  SIG_ERR_STATUS.CONFIG while ARRIVED is not 0. -/
  | sigBarCfgWrite (src : Source) (b value : Nat)
  /-- CLEAR_BAR (R240). Writing SIG_CTRL.CLEAR_BAR clears every barrier's state, broadcasts sense 0, closes guard
  entries and empties the hold queue. -/
  | clearBar (src : Source)
  /-- SIG_TIDEMARK_WRITE (R21). A host write of SIG_TIDEMARK sets the job's tidemark at load or restart. -/
  | sigTidemarkWrite (src : Source) (value : Nat)
  /-- MEM_ACCESS (R245). A memory controller serves a 64-byte access, correcting, refusing or failing it under ECC and
  region rules. -/
  | memAccess (req : Req) (addr len : Nat) (data : Option (List Byte)) (flaws : List Flaw)
  /-- REFRESH (R250). A controller refreshes a bank of one channel on its refresh schedule. -/
  | refresh (st channel bank : Nat)
  /-- REFRESH_RATE_CHANGE (R250). A stack temperature crossing a threshold changes the refresh window. -/
  | refreshRateChange (st : Nat) (temp : Int)
  /-- SCRUB_READ (R251). Patrol scrub reads the next line, writing back a corrected error or recording ERR_MEM_SCRUB.
  -/
  | scrubRead (st : Nat) (found : Found)
  /-- MEM_ZERO_START (R259). A write of MEM_ZERO.START from the scour or porter starts a zero fill; from any other
  source it is discarded. -/
  | memZeroStart (who : ZeroSource) (st : Nat)
  /-- ZERO_FILL_DONE (R258). A stack's zero fill ends and its accesses resume. -/
  | zeroFillDone (st : Nat)
  /-- MEM_RGN_MIRROR_WRITE (R255). A write of MEM_RGN_MIRROR sets or arms the mirror region, refusing a change of base
  or size while armed. -/
  | memRgnMirrorWrite (src : Source) (value : Nat)
  /-- MIRROR_DISARM (R255). Clearing ARMED takes effect once every accepted MIRROR write has completed. -/
  | mirrorDisarm
  /-- DATA_FLIT_RECEIVE (R277). A data flit is accepted in sequence or discarded with a NAK, its credits applied and
  its unit handled by class. -/
  | dataFlitReceive (p : Nat) (flit : Flit)
  /-- GCM_GROUP_VERIFY (R283). A group's tag is verified at its GEND flit, or fails and voids the step with
  ERR_TWY_GCM. -/
  | gcmGroupVerify (group : Group) (p : Nat) (x : Sealed)
  /-- ACK (R279). A received ACK record advances acknowledgement and applies credit totals. -/
  | ack (p seq : Nat) (totals : List Nat)
  /-- NAK (R277). A received NAK makes the sender replay from the first unacknowledged flit, counting toward the retry
  limit. -/
  | nak (p seq : Nat)
  /-- TIME (R290). A received TIME record yields an offset that steps or slews the timestamp towards the parent. -/
  | time (p sent arrived mine : Nat)
  /-- IDENT (R288). A received IDENT record is compared with the plan entry and the port goes UP or QUARANTINED. -/
  | ident (p loc kind port quads serial epoch : Nat) (totals : List Nat)
  /-- OFF (R294). A received OFF record stops new units on the port and starts its drain. -/
  | off (p : Nat)
  /-- REPLAY_TIMEOUT (R277). No ACK progress for 2 µs with flits unacknowledged makes the sender replay. -/
  | replayTimeout (p : Nat)
  /-- ACK_SEND_TIMER (R275). An owed credit return not carried by a data flit within 64 flit times is sent as an ACK
  record. -/
  | ackSendTimer (p : Nat)
  /-- IDENT_REPEAT (R287). An IDENT record is repeated every 10 µs until the peer's record is received. -/
  | identRepeat (p : Nat)
  /-- TIME_SEND (R290). A TIME record is sent every 1 ms on the time-parent port. -/
  | timeSend (p : Nat)
  /-- TRAINING_STAGE_DONE (R287). A port completes its PMD or PCS stage and advances, or enters DOWN for lane or skew
  faults. -/
  | trainingStageDone (p : Nat) (stage : Training)
  /-- TRAIN_TIMEOUT (R287). No lane detects a signal within the training limit and the port enters ABSENT. -/
  | trainTimeout (p : Nat)
  /-- SIGNAL_DETECT (R287). An ABSENT port detects a signal and starts training again. -/
  | signalDetect (p : Nat)
  /-- LANE_LOCK_LOSS (R297). Loss of lock on a lane takes an UP port DOWN and voids the step with ERR_TWY_DOWN. -/
  | laneLockLoss (p : Nat)
  /-- PORT_ENABLE_WRITE (R293). A write of TWY_PORT_CTRL.ENABLE starts training, drains the port, sets or cancels a
  pending enable, or is discarded under R296. -/
  | portEnableWrite (src : Source) (p : Nat) (on : Bool)
  /-- RETRAIN (R293). Writing TWY_PORT_CTRL.RETRAIN takes an UP port through DRAINING and trains it again. -/
  | retrain (src : Source) (p : Nat)
  /-- DRAIN_COMPLETE (R294). A draining port's replay buffer empties and it enters OFF, applying any pending enable.
  -/
  | drainComplete (p : Nat)
  /-- DRAIN_TIMEOUT (R294). A drain exceeds its limit, remaining flits are discarded and ERR_TWY_DRAIN is recorded. -/
  | drainTimeout (p : Nat)
  /-- CREDIT_ALLOT_WRITE (R276). A write of TWY_PORT_CREDIT raises allotments at once or lowers them by withholding
  returns. -/
  | creditAllotWrite (src : Source) (p value : Nat)
  /-- TWY_XFER_REQUEST (R285). Writing word 7 of TWY_XFER queues a guarded transfer request, or discards it with
  ERR_TWY_XFER. -/
  | twyXferRequest (src : Source) (words : List Nat)
  /-- XFER_SEND (R286). An I/O die takes a queued transfer and sends it as guarded packets. -/
  | xferSend (d : Nat)
  /-- XFER_LSIG (R285). Every flit of a transfer is acknowledged by the first hop and LSIG is posted. -/
  | xferLsig (tag : Nat)
  /-- TRANSIT_FORWARD (R291). A TRANSIT unit is forwarded cut-through on its route, or discarded with ERR_TWY_TRANSIT
  when unroutable. -/
  | transitForward (p loc icls flits : Nat) (x : Transit)
  /-- SLOT_ADVANCE (R309). A port's sluice slot pointer advances every 16 flit times, exchanging tables at a wrap when
  a commit is pending. -/
  | slotAdvance (slot : SlotTime)
  /-- BACKOFF_EXPIRY (R304). A refused requester's back-off expires and it presents its request again. -/
  | backoffExpiry (point : Point) (who : Nat) (cycle : ArbCycle)
  /-- ARB_STARVATION (R306). A requester waits for its point's starvation limit and sets the starvation flag and
  counter. -/
  | arbStarvation (point : Point)
  /-- COMMIT (R314). Writing SLU_CTRL.COMMIT checks the shadow table and sets COMMIT_PENDING, or refuses with
  ERR_SLU_TABLE. -/
  | commit (src : Source) (p : Nat)
  /-- SLU_RANK_WRITE (R316). A write of SLU_RANK takes effect at the next break point of the port. -/
  | sluRankWrite (src : Source) (p value : Nat)
  /-- SLU_SHADOW_WRITE (R314). A write of SLU_SHADOW sets shadow slots, or is discarded while a commit is pending. -/
  | sluShadowWrite (src : Source) (p i value : Nat)
  /-- CONFIG_REQUEST (R338). A PCIe configuration request is answered, or answered with Request Retry Status until
  boot is done. -/
  | configRequest
  /-- FUNCTION_LEVEL_RESET (R338). A Function Level Reset acts as JOB_KILL, disables every queue and resets HST
  registers except RWL fields. -/
  | functionLevelReset
  /-- BAR2_ACCESS (R341). A host access through BAR2 reaches device memory, stalls, is discarded, or is refused with
  ERR_HST_BAR2. -/
  | bar2Access (off len : Nat) (data : Option (List Byte))
  /-- BAR2_STALLED_READ_COMPLETE (R342). A stalled BAR2 read completes when the zero fill or scour ends. -/
  | bar2StalledReadComplete
  /-- HOST_SIG_WRITE (R344). A write of HST_HOST_SIG.VECTOR raises a program MSI-X vector. -/
  | hostSigWrite (src : Source) (vector : Nat)
  /-- SQ_TAIL_WRITE (R349). A submission doorbell announces new entries, or disables the queue with ERR_HST_DOORBELL
  when out of range. -/
  | sqTailWrite (src : Source) (q value : Nat)
  /-- CQ_HEAD_WRITE (R345). A completion doorbell frees completion entries so fetching may resume. -/
  | cqHeadWrite (src : Source) (q value : Nat)
  /-- QUEUE_CFG_WRITE (R369). A write of HST_Q_CFG enables or configures a queue pair, restarting its ring indices on
  enable. -/
  | queueCfgWrite (src : Source) (q value : Nat)
  /-- SUBMISSION_FETCH (R348). The queue engine fetches the next submission entry and starts its command in ring
  order. -/
  | submissionFetch (q : Nat)
  /-- NOP (R346). A NOP command completes. -/
  | nop (q : Nat)
  /-- FERRY (R350). A FERRY command is checked and queued on its ferry channel, which moves the data. -/
  | ferry (q : Nat) (flaws : List Flaw) (link : Bool)
  /-- FERRY_COMPLETE (R353). A ferry's writes are acknowledged, its signal applied and its completion entry written.
  -/
  | ferryComplete (ch : Nat)
  /-- JOB_OPEN (R356). JOB_OPEN reads the manifest, installs keys and seed, runs any zero fill and enters LOADING. -/
  | jobOpen (link : Bool)
  /-- JOB_START (R358). JOB_START checks the variant, measures the image, enables the tide, starts every context and
  enters RUNNING. -/
  | jobStart
  /-- JOB_PAUSE (R360). JOB_PAUSE sets PAUSE and STOP, stops the cores and enters PAUSING. -/
  | jobPause
  /-- PAUSE_DRAINED (R360). Engines, array, tide and transfers quiesce; the gate closes and units past SOP are
  completed. -/
  | pauseDrained
  /-- PAUSE_UNITS_DONE (R360). Units past SOP complete and the save to the context area begins. -/
  | pauseUnitsDone
  /-- PAUSE_SAVE_DONE (R362). Every save write is acknowledged, the state becomes PAUSED and the command completes. -/
  | pauseSaveDone
  /-- PAUSE_TIMEOUT (R361). The pause limit expires before draining ends; the pause is undone with ERR_HST_PAUSE and
  the state returns to RUNNING. -/
  | pauseTimeout
  /-- JOB_RESUME (R363). JOB_RESUME restores state, opens the gate, restarts the cores and enters RUNNING. -/
  | jobResume
  /-- JOB_KILL (R364). JOB_KILL enters SCOURING, aborts and voids everything, destroys the job keys and resets the
  tiles. -/
  | jobKill
  /-- SCOUR_TILES_DONE (R364). Every tile's SRAM rewrite ends and zero fill starts on every stack. -/
  | scourTilesDone
  /-- SCOUR_COMPLETE (R364). The zero fills end; job registers and the error ring reset, the state becomes EMPTY and
  kills complete. -/
  | scourComplete
  /-- RECOVERY_CHUNK (R368). Writing HST_RCV_CTRL.GO takes the chunk in the recovery window into flash. -/
  | recoveryChunk (src : Source) (value : Nat)
  /-- RECOVERY_VERIFY_DONE (R368). After the last chunk the stored image is verified and DONE or FAIL is set. -/
  | recoveryVerifyDone
  /-- VOID_SEQ_QUIESCE (R375). VOIDED rises and the void sequencer stops every context, engine, array, tide and
  transfer and sends void notices. -/
  | voidSeqQuiesce
  /-- VOID_NOTICE (R376). A received VOID_NOTICE is accepted to start QUIESCE or discarded. -/
  | voidNotice (words : List Nat)
  /-- VOID_QUIESCE_DONE (R375). Every quiesce write is acknowledged and the package completes the step barrier with
  the flag set. -/
  | voidQuiesceDone
  /-- HALT_RESUME (R384). Writing 1 to GLB_HALT_CTRL.HALTED clears it and broadcasts the withheld sense. -/
  | haltResume (src : Source)
  /-- VOID_CTRL_WRITE (R385). A write of GLB_VOID_CTRL configures the sequencer, or is discarded while it is not IDLE.
  -/
  | voidCtrlWrite (src : Source) (value : Nat)
  /-- PWROK_FALL (R393). PWROK falls and a reset of power-on reach holds every domain with outputs in their safe
  states. -/
  | pwrokFall
  /-- PWROK_RISE (R407). PWROK rises; straps are sampled and the fuse load starts the boot sequence. -/
  | pwrokRise (pins : Nat) (hsEnDef prodtest : Bool)
  /-- PERST_ASSERT (R393). PERST# falls and a warm reset is asserted. -/
  | perstAssert
  /-- PERST_RELEASE (R396). PERST# rises and, if no wider source holds, the boot runs from order 2. -/
  | perstRelease
  /-- TRAY_RST_ASSERT (R393). TRAY_RST_N falls and a warm reset is asserted. -/
  | trayRstAssert
  /-- TRAY_RST_RELEASE (R396). TRAY_RST_N rises and, if no wider source holds, the boot runs from order 2. -/
  | trayRstRelease
  /-- PKG (R393). Writing RST_CTRL.PKG asserts the software package reset for 1,024 reference cycles. -/
  | pkg (src : Source)
  /-- COMPUTE (R397). A write of RST_CTRL.COMPUTE holds or releases the compute reset, entering SCOURING when a job is
  present. -/
  | compute (src : Source) (on : Bool)
  /-- HOLD_WRITE (R401). A write to an RST hold register starts a block's shutter closing, or releases it or sets a
  pending release. -/
  | holdWrite (src : Source) (kind i : Nat) (on : Bool)
  /-- SHUTTER_CLOSED (R399). A closing shutter's transfers end or 4,096 cycles pass; the block's reset is asserted and
  ERR_RST_BLOCK may be recorded. -/
  | shutterClosed (kind i isolated : Nat)
  /-- SHUTTER_OPENED (R400). A released block finishes its initialisation and its shutter opens. -/
  | shutterOpened (kind i : Nat)
  /-- FUSE_LOAD_DONE (R407). The fuse load ends and the sequencer reads and checks the option block copies. -/
  | fuseLoadDone
  /-- CLOCKS_LOCKED (R407). The PLLs lock and switch; I/O domains leave reset, the assembly is checked and ports are
  formed. -/
  | clocksLocked
  /-- PLL_UNLOCK (R389). A PLL loses lock and its domain falls back to the reference input with ERR_CLK_UNLOCK. -/
  | pllUnlock (domain : Nat)
  /-- MEM_TRAIN_DONE (R243). A stack's channels finish training and TRAINED rises, or a failure stops the boot with
  FAULT STACK. -/
  | memTrainDone (st : Nat) (ok : Bool)
  /-- ROM_VERIFY_DONE (R429). The boot ROM finishes verifying the firmware and shore images, loading the management
  key or entering recovery. -/
  | romVerifyDone
  /-- TILES_RELEASE (R407). With training and verification done, TILE and FAB leave reset and the scour starts. -/
  | tilesRelease
  /-- SHORE_CONFIG_APPLY (R407). Firmware applies the shore configuration, mounts the journal, sets LINKS_EN and then
  GLB_BOOT_LOCK. -/
  | shoreConfigApply
  /-- WATCHDOG_EXPIRY (R412). The Lighthouse watchdog expires and asserts the watchdog reset of warm reach. -/
  | watchdogExpiry
  /-- MB_REQUEST (R413). Writing LHS_MB_CTRL.REQ posts a mailbox request, or is discarded with LHS_ERR_STATUS.MBOX. -/
  | mbRequest (src : Source)
  /-- GET_VERSION (R414). The firmware returns its SVN, signer and build identifier. -/
  | getVersion
  /-- GET_TELEMETRY (R414). The firmware returns a consistent copy of the telemetry registers. -/
  | getTelemetry
  /-- SET_TJ_TARGET (R414). The firmware sets the governor's junction target. -/
  | setTjTarget (target : Nat)
  /-- SET_VALVE_TARGET (R414). The firmware sets the valve loop's target. -/
  | setValveTarget (target : Nat)
  /-- POWER_OFF (R414). The firmware responds and arranges to drive HS_EN low 1 s later. -/
  | powerOff
  /-- POWER_OFF_DELAY (R414). One second after POWER_OFF the firmware drives HS_EN to its off level. -/
  | powerOffDelay
  /-- MGMT_SEND (R424). The firmware sends an LH_MSG management packet. -/
  | mgmtSend (loc len : Nat) (payload : List Nat)
  /-- MGMT_PACKET_RECEIVE (R424). A MGMT packet at its destination goes to the void sequencer or Lighthouse queue, or
  is discarded. -/
  | mgmtPacketReceive (words : List Nat) (x : Sealed)
  /-- TELEMETRY_SAMPLE (R415). At each 1 ms sample the telemetry registers are published together and TST_TEL_SEQ
  increments. -/
  | telemetrySample (sample : Sample)
  /-- GOV_LIMIT_WRITE (R417). A write of LHS_GOV_LIMIT sets the governor limit, storing the maximum for larger values.
  -/
  | govLimitWrite (src : Source) (value : Nat)
  /-- CAP_SAMPLE (R418). At each input sample the hardware cap raises, holds or steps down cap_g from the 2 µs
  average. -/
  | capSample (power : Nat)
  /-- THERMAL_TRIP (R419). A sensor reaches 105 °C; arrays stop, THERMTRIP_N goes low and the valve opens, latched
  until PWROK falls. -/
  | thermalTrip (die sensor : Nat)
  /-- VOLTAGE_REQUEST (R420). A regulator voltage request passes the clamp, being clamped with ERR_LHS_CLAMP if
  outside the fused window. -/
  | voltageRequest (rail mv : Nat)
  /-- VALVE_LOOP (R421). Every 100 ms the firmware computes and writes the valve request. -/
  | valveLoop
  /-- FLOW_WINDOW (R422). At the end of each 1 s flow window low flow while ACTIVE for three windows raises
  ERR_LHS_FLOW. -/
  | flowWindow (pulses : Nat)
  /-- INPUT_UNDERVOLTAGE (R485). Input voltage below 44 V for 10 ms drives TRAY_FAULT_N low until it recovers for 10
  ms. -/
  | inputUndervoltage (low : Bool)
  /-- SEC_JOB_SECRET_WRITE (R427). A write of SEC_JOB_SECRET stages the job secret while EMPTY, or is refused with
  SEC_ERR_STATUS.STATE. -/
  | secJobSecretWrite (src : Source) (i value : Nat)
  /-- QUOTE (R434). Writing SEC_CTRL.QUOTE latches the quote fields and starts signing. -/
  | quote (src : Source)
  /-- QUOTE_READY (R434). The porter finishes the quote, writes it and sets QUOTE_READY. -/
  | quoteReady
  /-- UNLOCK (R436). Writing SEC_CTRL.UNLOCK checks the debug token and on success scours and enters DEBUG. -/
  | unlock (src : Source)
  /-- ENROL (R431). Writing SEC_CTRL.ENROL checks an enrolment record and blows the owner fuses, or sets
  ERR_SEC_ENROL. -/
  | enrol (src : Source)
  /-- REKEY (R427). Writing SEC_CTRL.REKEY in PAUSED replaces the job link key from the new secret. -/
  | rekey (src : Source)
  /-- SVN_FW (R430). Writing SEC_CTRL.SVN_FW raises the firmware SVN fuse count to the running image's SVN. -/
  | svnFw (src : Source)
  /-- SVN_SHORE (R430). Writing SEC_CTRL.SVN_SHORE raises the shore SVN fuse count to the applied image's SVN. -/
  | svnShore (src : Source)
  /-- CLEAR_SECRET (R440). Writing SEC_CTRL.CLEAR_SECRET discards a waiting job secret. -/
  | clearSecret (src : Source)
  /-- ENTROPY_FAIL (R437). The entropy source fails a health test; ERR_SEC_ENTROPY is recorded and signed inputs are
  refused. -/
  | entropyFail
  /-- JRN_READ (R454). The firmware returns the effective value and source of a journal key. -/
  | jrnRead
  /-- JRN_WRITE (R454). The firmware appends a calibration or owner record. -/
  | jrnWrite
  /-- JRN_DELETE (R454). The firmware appends a zero-length record that deletes a key. -/
  | jrnDelete
  /-- RESTORE_FACTORY (R453). The firmware appends a FACTORY_EPOCH record, returning calibration keys to factory
  values. -/
  | restoreFactory
  /-- JRN_COMPACT (R454). The firmware requests the journal compaction activity. -/
  | jrnCompact
  /-- MAINT_START (R454). The firmware requests a maintenance instance through the mailbox. -/
  | maintStart
  /-- MAINT_CANCEL (R454). The firmware cancels a maintenance instance through the mailbox. -/
  | maintCancel
  /-- OPTION_WRITE (R454). The firmware stages part of an option block in SRAM. -/
  | optionWrite
  /-- OPTION_COMMIT (R455). The staged option block is written to the unused copy if valid and newer. -/
  | optionCommit
  /-- MAINT_LOG_READ (R454). The firmware returns the live MAINT_LOG record of an instance. -/
  | maintLogRead
  /-- FLASH_COMMAND (R442). A flash program or erase command is performed, or refused with ERR_JRN_FLASH for protected
  areas. -/
  | flashCommand (who : FlashSource) (addr : Nat) (op : FlashOp)
  /-- START (R458). A JRN_MAINT_REQ write with START requests a maintenance instance, starting or queuing it. -/
  | start (src : Source) (a i param : Nat)
  /-- CANCEL (R460). A JRN_MAINT_REQ write with CANCEL cancels a queued or running instance where allowed. -/
  | cancel (src : Source) (a i param : Nat)
  /-- MAINT_SCHEDULE (R459). When an instance ends or a request arrives the scheduler starts every queued instance not
  excluded. -/
  | maintSchedule
  /-- MAINT_END (R456). A maintenance instance ends DONE, FAILED or CANCELLED and appends its MAINT_LOG record. -/
  | maintEnd (a i last reason : Nat) (recs : List (Nat × List Nat)) (vals : List Nat)
  /-- MAINT_QUEUE_TIMEOUT (R459). An instance queued for 60 s returns to IDLE with LAST TIMEOUT and ERR_JRN_QUEUE. -/
  | maintQueueTimeout (a i : Nat)
  /-- EYE_SCAN_TIMER (R461). Every 600 s the firmware requests an eye scan of every UP port. -/
  | eyeScanTimer
  /-- COMPACTION_START (R450). A compaction begins, erasing the target, writing the AREA record and copying live
  records. -/
  | compactionStart
  /-- COMPACTION_COMMIT (R450). The COMMIT record is written, the target becomes active and held appends are written.
  -/
  | compactionCommit
  /-- LOOPBACK_SELECT (R464). A write of KIND and MODE in TST_LB_CTRL selects or deselects a loopback, scouring on
  deselecting memory or bridges. -/
  | loopbackSelect (src : Source) (kind mode port : Nat)
  /-- RUN (R465). Writing TST_LB_CTRL.RUN starts the loopback generator and checker. -/
  | run (src : Source)
  /-- LOOPBACK_END (R465). A loopback run ends after TST_LB_TIME and sets PASS or FAIL. -/
  | loopbackEnd (bits : Nat) (errs : List Nat)
  /-- BIST_START (R467). Writing TST_BIST_CTRL.UNITS starts the selected self-tests, or is refused. -/
  | bistStart (src : Source) (units : Nat)
  /-- BIST_END (R469). Every started self-test ends, marked PASSED or FAILED. -/
  | bistEnd (fails : List (Nat × Nat × Nat))
  /-- TAP_RESET (R470). The test access port enters test-logic reset. -/
  | tapReset
  /-- IDCODE (R470). The TAP selects the IDCODE register. -/
  | idcode
  /-- SAMPLE_PRELOAD (R470). The TAP samples and preloads the boundary register. -/
  | samplePreload (cells : Nat)
  /-- EXTEST (R471). The TAP drives the boundary pins, or is refused outside permitted job states. -/
  | extest
  /-- CLAMP (R471). The TAP clamps the boundary pins, or is refused outside permitted job states. -/
  | clamp
  /-- HIGHZ (R471). The TAP places the boundary pins in high impedance, or is refused outside permitted job states. -/
  | highz
  /-- IJTAG (R472). The TAP reaches the IEEE 1687 instruments open to its access. -/
  | ijtag (x : Instrument)
  /-- DEBUG (R470). The TAP reaches the Lighthouse debug module when a token grants LH_DEBUG. -/
  | debug (op : DebugOp)
  /-- BYPASS (R470). The TAP selects the bypass register. -/
  | bypass
  /-- SURVEY_OPEN (R186). Writing SHG_SV_CTRL.OPEN clears the survey tables and opens a survey. -/
  | surveyOpen (src : Source) (st value : Nat)
  /-- SURVEY_FEED (R186). A write to SHG_SV_FEED queues a feed, waits while 64 are queued, or is discarded with
  ERR_SHG_SURVEY when no survey is open. -/
  | surveyFeed (src : Source) (st value : Nat)
  /-- SURVEY_FEED_DONE (R187). The survey unit finishes processing one queued feed, updating its tables and FED and
  freeing a queue place. -/
  | surveyFeedDone (st : Nat)
  /-- SURVEY_FINISH (R188). Writing SHG_SV_CTRL.FINISH asks for book selection after the last queued feed, or reports
  ERR_SHG_SURVEY. -/
  | surveyFinish (src : Source) (st : Nat)
  /-- SURVEY_BOOKS_WRITTEN (R188). Book selection ends, the books and SHG_SV_RESULT are written, DONE is set,
  SHG_SV_SIG is posted and the survey closes. -/
  | surveyBooksWritten (st : Nat)
  /-- SURVEY_PROGRESS_TIMEOUT (R190). No feed makes progress for SHG_LIMIT while feeds are queued, and ERR_SHG_SURVEY
  voids the step. -/
  | surveyProgressTimeout (st : Nat)
  /-- RECODE_OPEN (R203). Writing SHG_RC_CTRL.OPEN checks the books and opens a recode, or reports ERR_SHG_RECODE. -/
  | recodeOpen (src : Source) (st : Nat)
  /-- RECODE_FEED (R203). A write to SHG_RC_FEED queues a directory index, waits while 64 are queued, or is discarded
  with ERR_SHG_RECODE. -/
  | recodeFeed (src : Source) (st value : Nat)
  /-- RECODE_SEGMENT_DONE (R203). The recoder finishes one segment, writing its blocks, block map and directory EPOCH
  and LENGTH, and posts SHG_RC_SIG if FINISH is pending and the queue is empty. -/
  | recodeSegmentDone (st : Nat)
  /-- RECODE_FINISH (R203). Writing SHG_RC_CTRL.FINISH closes the recode and posts SHG_RC_SIG once every queued feed
  is done. -/
  | recodeFinish (src : Source) (st : Nat)
  /-- RESET_PULSE_END (R393). The 1,024 reference cycles of a watchdog or software package reset end, the source is
  released and the boot runs from order 2. -/
  | resetPulseEnd (pkg : Bool)
  /-- ENTROPY_PASS (R437). The entropy source passes its health tests again, ENTROPY_OK rises and tokens and signed
  records are accepted once more. -/
  | entropyPass
  /-- SEC_COMMAND_DONE (R437). A running porter command such as an enrolment's fuse blow or an SVN fuse write ends,
  and CMD_BUSY clears. -/
  | secCommandDone
  /-- RECOVERY_CHUNK_WRITTEN (R368). The boot ROM finishes writing a chunk into flash and sets HST_RCV_STATUS.READY
  for the next chunk. -/
  | recoveryChunkWritten
  /-- RRS_WINDOW_END (R338). One second after PERST# release the endpoint stops answering with Request Retry Status
  even if boot has not completed. -/
  | rrsWindowEnd
deriving DecidableEq, Repr

end Sys2Proof
end

