-- ==== Sys2Proof/Machine/Codec.lean ====
section
/-! DEFINITION. The shingle codec on bytes (spec/07_shingle_codec.md, R177 to R196): planes and vectors, books, coded
blocks, and the survey's tables and selection. -/
namespace Sys2Proof.Machine

/-! ### CRC-32C (R270) -/

/-- One bit step of the reflected CRC-32C. -/
def crcBit (c : Nat) : Nat := if c % 2 = 1 then Nat.xor (c / 2) 0x82F63B78 else c / 2

/-- One byte taken into the CRC register. -/
def crcByte (c b : Nat) : Nat := (List.range 8).foldl (fun c _ => crcBit c) (Nat.xor c b)

/-- The CRC register after a byte string; the case split has each byte evaluated before the next. -/
def crcBytes (c : Nat) : List Nat → Nat
  | [] => c
  | b :: bs =>
    match crcByte c b with
    | 0 => crcBytes 0 bs
    | n + 1 => crcBytes (n + 1) bs

/-- CRC-32C of a byte string: reflected, initial value and final XOR of ones (R270). -/
def crc32c (bs : List Nat) : Nat := Nat.xor (crcBytes 0xFFFFFFFF bs) 0xFFFFFFFF

/-- The bytes of a list of 64-bit words, little-endian (R8). -/
def wordsBytes (ws : List Nat) : List Nat := ws.flatMap fun w => (List.range 8).map fun i => bits w (8 * i + 7) (8 * i)

/-- The numbers of a byte string. -/
def byteNats (bs : List Byte) : List Nat := bs.map (·.toNat)

/-- The bytes of a list of 64-bit words. -/
def wordBytes (ws : List Nat) : List Byte := ws.flatMap fun w => leBytes 8 w

/-- The 64-bit words of a byte string (of whole words). -/
def bytesWords : List Byte → List Nat
  | a :: b :: c :: d :: e :: f :: g :: h :: bs => leNat [a, b, c, d, e, f, g, h] :: bytesWords bs
  | _ => []

/-- Zero bytes. -/
def zeroBytes (n : Nat) : List Byte := List.replicate n 0

/-- A byte string filled with zeros up to a multiple of `n` bytes. -/
def padTo (n : Nat) (bs : List Byte) : List Byte := bs ++ zeroBytes (roundUp bs.length n - bs.length)

/-! ### Planes and vectors (R177, R178) -/

namespace Codec

/-- The plane count P of a format code; 0 for a reserved code (R177). -/
def planes (fmt : Nat) : Nat := if fmt = 0 then 4 else if fmt ≤ 2 then 2 else if fmt ≤ 12 then 1 else 0

/-- The PLANES code of a plane count (R191). -/
def planesCode (p : Nat) : Nat := if p = 4 then 3 else if p = 2 then 1 else 0

/-- The bytes of a byte string cut into groups of four, each as a little-endian word. -/
def words32 : List Byte → List Nat
  | a :: b :: c :: d :: bs => leNat [a, b, c, d] :: words32 bs
  | _ => []

/-- Every byte of a string, with its place. -/
def plane (p j : Nat) (bs : List Byte) : List Byte := (bs.zipIdx.filter fun x => x.2 % p == j).map (·.1)

/-- The vectors of a block, plane by plane (R178). -/
def vectors (p : Nat) (bs : List Byte) : List (List Nat) := (List.range p).map fun j => words32 (plane p j bs)

/-- The first byte of each string in turn, `n` times. -/
def interleave : Nat → List (List Byte) → List Byte
  | 0, _ => []
  | n + 1, ps => ps.map (fun l => l.headD 0) ++ interleave n (ps.map List.tail)

/-- The block whose planes hold the vectors (R178). -/
def unplane (p : Nat) (vs : List Nat) : List Byte :=
  let n := 1024 / p
  interleave (4096 / p) ((List.range p).map fun j => ((vs.drop (j * n)).take n).flatMap fun x => leBytes 4 x)

/-! ### Books (R179, R180) -/

/-- The fields of a book header. -/
structure Head where
  version : Nat
  width : Nat
  size : Nat
  format : Nat
  grad : Nat
  epoch : Nat
  plane : Nat
  tensor : Nat
  home : Nat
  bcheck : Nat
deriving DecidableEq, Repr

/-- The header of a book from its bytes (R179). -/
def head (bs : List Byte) : Head :=
  let ws := bytesWords (bs.take 64)
  let w0 := ws.getD 0 0
  ⟨bits w0 63 60, bits w0 50 49, bits w0 48 36, bits w0 35 32, bit w0 31, bits w0 30 23, bits w0 22 20, bits w0 19 0,
    bits (ws.getD 1 0) 9 0, bits (ws.getD 7 0) 63 32⟩

/-- The WIDTH code that a SIZE takes (R180). -/
def widthCode (size : Nat) : Nat := if size ≤ 256 then 0 else if size ≤ 1024 then 1 else 2

/-- The bits of a code, by WIDTH (R179). -/
def codeBits (width : Nat) : Nat := 8 + 2 * width

/-- A book: what R192 asks of its header, and its vectors. -/
structure Book where
  head : Head
  vecs : List Nat
deriving DecidableEq, Repr

/-- A book from its bytes. -/
def book (bs : List Byte) : Book :=
  let h := head bs
  ⟨h, (words32 (bs.drop 64)).take h.size⟩

/-- The span of BCHECK: bytes 0 to 59 and the vectors (R179). -/
def bookCrc (bs : List Byte) (size : Nat) : Nat :=
  crc32c (byteNats (bs.take 60 ++ (bs.drop 64).take (4 * size)))

/-- Do a book's own fields pass the checks of R182 (order as there; the frame's own checks stand with the frame)? -/
def fieldsOk (h : Head) : Bool :=
  h.version == 1 && decide (planes h.format ≠ 0) && decide (h.width < 3) && decide (1 ≤ h.size ∧ h.size ≤ 4096) &&
  h.width == widthCode h.size && decide (h.plane < planes h.format) && h.epoch != 0

/-- Does a whole book pass the checks of R182 for its own fields? -/
def bookOk (bs : List Byte) : Bool :=
  let h := head bs
  fieldsOk h && decide (64 + 4 * h.size ≤ bs.length) && bookCrc bs h.size == h.bcheck

/-- The bytes of a book: its header with BCHECK, and its vectors (R179, R188). -/
def bookBytes (h : Head) (vs : List Nat) : List Byte :=
  let w0 := 2 ^ 60 + h.width * 2 ^ 49 + h.size * 2 ^ 36 + h.format * 2 ^ 32 + h.grad * 2 ^ 31 + h.epoch * 2 ^ 23 +
    h.plane * 2 ^ 20 + h.tensor
  let vb := vs.flatMap fun x => leBytes 4 x
  let hb := wordBytes [w0, h.home, 0, 0, 0, 0, 0]
  let crc := crc32c (byteNats (hb ++ zeroBytes 4 ++ vb))
  hb ++ leBytes 8 (crc * 2 ^ 32) ++ vb

/-! ### Coded blocks (R191 to R194) -/

/-- The header of a coded block (R191). -/
structure Block where
  reserved : Nat
  literals : Nat
  codedLen : Nat
  expLen : Nat
  epoch : Nat
  raw : Nat
  planes : Nat
  version : Nat
  format : Nat
  hchk : Nat
  low : Nat
deriving DecidableEq, Repr

/-- The header of a coded block from its bytes. -/
def blockHead (bs : List Byte) : Block :=
  let ws := bytesWords (bs.take 16)
  let w0 := ws.getD 0 0
  let w1 := ws.getD 1 0
  ⟨bits w0 63 59, bits w0 58 48, bits w0 47 35, bits w0 34 22, bits w0 21 14, bits w0 13 10, bits w0 9 8, bits w0 7 4,
    bits w0 3 0, bits w1 63 32, bits w1 31 0⟩

/-- The bits a plane takes coded: a flag and a code, or a flag and a literal, for each vector (R194). -/
def planeBits (b : Book) (vs : List Nat) : Nat :=
  vs.foldl (fun n x => n + if b.vecs.contains x then 1 + codeBits b.head.width else 33) 0

/-- The lowest code of a vector (R195). -/
def code (b : Book) (x : Nat) : Option Nat := b.vecs.findIdx? fun y => y == x

/-- One vector added to a stream of `pos` bits (R193): the stream, its length and the literals so far. -/
def putVector (b : Option Book) (acc : Nat × Nat × Nat) (x : Nat) : Nat × Nat × Nat :=
  let (st, pos, lits) := acc
  match b with
  | none => (st + x * 2 ^ pos, pos + 32, lits)
  | some b =>
    match code b x with
    | some c => (st + c * 2 ^ (pos + 1), pos + 1 + codeBits b.head.width, lits)
    | none => (st + 2 ^ pos + x * 2 ^ (pos + 1), pos + 33, lits + 1)

/-- A block coded with one book for each plane at an epoch, or `none` where it is stored raw (R194). -/
def encode (fmt epoch : Nat) (books : List Book) (bs : List Byte) : Option (List Byte) :=
  let p := planes fmt
  let vs := vectors p bs
  if epoch = 0 ∨ p = 0 then none
  else
    let choice := (vs.zip books).map fun x =>
      let n := planeBits x.2 x.1
      if 32 * 1024 / p ≤ n then (32 * 1024 / p, none) else (n, some x.2)
    let total := choice.foldl (fun n c => n + c.1) 0
    if choice.all (fun c => c.2.isNone) || decide (4080 < 16 + (total + 7) / 8) then none
    else
      let (st, pos, lits) := (vs.zip choice).foldl (fun acc x => x.1.foldl (putVector x.2.2) acc) (0, 0, 0)
      let len := (pos + 7) / 8
      let raw := choice.zipIdx.foldl (fun n c => n + if c.1.2.isNone then 2 ^ c.2 else 0) 0
      let w0 := lits * 2 ^ 48 + len * 2 ^ 35 + 4096 * 2 ^ 22 + epoch * 2 ^ 14 + raw * 2 ^ 10 +
        planesCode p * 2 ^ 8 + 0x10 + fmt
      let hb := leBytes 8 w0 ++ zeroBytes 4
      some (leBytes 8 w0 ++ leBytes 8 (crc32c (byteNats hb) * 2 ^ 32) ++ leBytes len st)

/-! ### Expansion (R196) -/

/-- Why an expansion fails: the subcode of R196 and the bytes produced. -/
structure Failure where
  subcode : Nat
  produced : Nat
deriving DecidableEq, Repr

/-- Where the decoding of a stream stands. -/
structure Cursor where
  pos : Nat
  out : Nat
  lits : Nat
  vecs : List Nat     -- staged vectors, the last first
deriving DecidableEq, Repr

/-- One vector decoded, or the end of the loop (`none`), or a failed check (R196). -/
def decodeVector (st fin p : Nat) (books : List (Option Book)) (c : Cursor) : Except Failure (Option Cursor) :=
  let j := min (c.out / 4 / (1024 / p)) (p - 1)
  let stage (pos lits x : Nat) : Except Failure (Option Cursor) :=
    .ok (some ⟨pos, c.out + 4, lits, if c.out < 4096 then x :: c.vecs else c.vecs⟩)
  let field (pos n : Nat) : Nat := st / 2 ^ pos % 2 ^ n
  match books.getD j none with
  | none => if fin < c.pos + 32 then .ok none else stage (c.pos + 32) c.lits (field c.pos 32)
  | some b =>
    let w := codeBits b.head.width
    if fin < c.pos + 1 + w then .ok none
    else if field c.pos 1 = 0 then
      match b.vecs[field (c.pos + 1) w]? with
      | none => .error ⟨5, c.out⟩
      | some x => stage (c.pos + 1 + w) c.lits x
    else if fin < c.pos + 33 then .error ⟨6, c.out⟩
    else stage (c.pos + 33) (c.lits + 1) (field (c.pos + 1) 32)

/-- The decoding loop; every vector takes at least nine bits of at most 32,512. -/
def decodeLoop (st fin p : Nat) (books : List (Option Book)) : Nat → Cursor → Except Failure Cursor
  | 0, c => .ok c
  | n + 1, c =>
    match decodeVector st fin p books c with
    | .error e => .error e
    | .ok none => .ok c
    | .ok (some c') => decodeLoop st fin p books n c'

/-- Are the books of every coded plane the ones R192 asks for? `books` gives the installed book of a plane. -/
def booksOk (h : Block) (grad : Nat) (books : Nat → Option Book) : Bool :=
  (List.range (planes h.format)).all fun j =>
    hasBit h.raw j ||
    match books j with
    | none => false
    | some b => b.head.format == h.format && b.head.plane == j && b.head.epoch == h.epoch && b.head.grad == grad

/-- The first check of R196 that a block's header fails by itself, before any book is looked at. -/
def headFault (bs : List Byte) (stored : Option Nat) : Option Nat :=
  let h := blockHead bs
  let p := planes h.format
  if crc32c (byteNats (bs.take 12)) ≠ h.hchk then some 1
  else if h.version ≠ 1 ∨ p = 0 ∨ h.planes ≠ planesCode p ∨ 2 ^ p ≤ h.raw + 1 ∨ h.expLen ≠ 4096 ∨ h.codedLen = 0 ∨
      4064 < h.codedLen ∨ h.reserved ≠ 0 ∨ h.low ≠ 0 then some 2
  else if stored.any (fun n => n != 16 + h.codedLen) then some 3
  else if h.epoch = 0 then some 4
  else none

/-- The planes of a block whose books its expansion needs: the coded ones, where its header is sound. -/
def bookPlanes (bs : List Byte) (stored : Option Nat) : List Nat :=
  let h := blockHead bs
  if (headFault bs stored).isSome then [] else (List.range (planes h.format)).filter fun j => !hasBit h.raw j

/-- A coded block expanded: the checks of R196 in their order. `stored` is the STORED_LEN of the block map, where the
block has one. -/
def expand (bs : List Byte) (stored : Option Nat) (grad : Nat) (books : Nat → Option Book) : Except Failure (List Byte) :=
  let h := blockHead bs
  let p := planes h.format
  match headFault bs stored with
  | some n => .error ⟨n, 0⟩
  | none =>
  if ¬ booksOk h grad books then .error ⟨4, 0⟩
  else
    let used := (List.range p).map fun j => if hasBit h.raw j then none else books j
    let st := leNat ((bs.drop 16).take h.codedLen)
    let fin := 8 * h.codedLen
    match decodeLoop st fin p used 4096 ⟨0, 0, 0, []⟩ with
    | .error e => .error e
    | .ok c =>
      if 7 < fin - c.pos ∨ st / 2 ^ c.pos ≠ 0 then .error ⟨6, c.out⟩
      else if c.out ≠ h.expLen then .error ⟨7, c.out⟩
      else if c.lits ≠ h.literals then .error ⟨8, c.out⟩
      else .ok (unplane p c.vecs.reverse)

/-! ### The survey (R187, R188) -/

/-- One way of a set: its vector and count, or empty. -/
abbrev Way := Option (Nat × Nat)

/-- A set that takes one vector (R187). -/
def setTake (ws : List Way) (x : Nat) : List Way :=
  match ws.findIdx? fun w => (w.map (·.1)) == some x with
  | some i => setAt ws i ((ws.getD i none).map fun v => (v.1, min (v.2 + 1) 0xFFFFFFFF))
  | none =>
    match ws.findIdx? fun w => w.isNone with
    | some i => setAt ws i (some (x, 1))
    | none => ws.map fun w => w.bind fun v => if v.2 ≤ 1 then none else some (v.1, v.2 - 1)

/-- The set of a vector (R187). -/
def setOf (x : Nat) : Nat := x * 0x9E3779B1 % 2 ^ 32 / 2 ^ 20

/-- Four empty ways. -/
def emptySet : List Way := [none, none, none, none]

/-- A plane's table that takes one vector: sets keyed by plane and set number. -/
def tableTake (t : SMap (List Way)) (j x : Nat) : SMap (List Way) :=
  let k : Key := ⟨j, setOf x, 0⟩
  SMap.set t k emptySet (setTake (SMap.get t k emptySet) x)

/-- The vectors held for a plane, by descending count, ties by ascending vector (R188). -/
def ranked (t : SMap (List Way)) (j : Nat) : List (Nat × Nat) :=
  let held := (t.filter fun e => e.1.a == j).flatMap fun e => e.2.filterMap id
  held.mergeSort fun x y => decide (y.2 < x.2) || (x.2 == y.2 && decide (x.1 ≤ y.1))

/-- The cost of keeping the first `n` of the ranked vectors (R188). -/
def keepCost (fed : Nat) (vs : List (Nat × Nat)) (n : Nat) : Nat :=
  let kept := vs.take n
  let w := codeBits (widthCode kept.length)
  let hits := kept.foldl (fun a v => a + v.2) 0
  hits * (1 + w) + (fed - hits) * 33

/-- The book of a plane: the cheapest of the sizes that MAXW allows, the smaller on a tie (R188). -/
def select (maxw fed : Nat) (vs : List (Nat × Nat)) : List Nat :=
  let sizes := [256, 1024, 4096].take (min maxw 2 + 1)
  let best := sizes.tail.foldl (fun b n => if keepCost fed vs n < keepCost fed vs b then n else b) 256
  (vs.take best).map (·.1)

end Codec

end Sys2Proof.Machine
end

