-- ==== Sys2Proof/Machine/Segment.lean ====
section
/-! DEFINITION. The formats the tide engines read and write: segment headers and block maps (R26 to R29), directory and
lap-list entries (R31, R34), accumulator maps (R67), control messages (R44, R81). -/
namespace Sys2Proof.Machine

/-! ### The header flit (R27, R28) -/

/-- Word `n` of a header flit. -/
def hw (h : List Nat) (n : Nat) : Nat := h.getD n 0

namespace Hdr
def kind (h : List Nat) : Nat := bits (hw h 0) 3 0
def version (h : List Nat) : Nat := bits (hw h 0) 7 4
def strand (h : List Nat) : Nat := bits (hw h 0) 9 8
def dir (h : List Nat) : Nat := bit (hw h 0) 10
def landPass (h : List Nat) : Nat := bit (hw h 0) 11
def expert (h : List Nat) : Bool := hasBit (hw h 0) 12
def trainable (h : List Nat) : Bool := hasBit (hw h 0) 13
def resend (h : List Nat) : Bool := hasBit (hw h 0) 14
def accZero (h : List Nat) : Bool := hasBit (hw h 0) 15
def accFmt (h : List Nat) : Nat := bits (hw h 0) 17 16
def home (h : List Nat) : Nat := bits (hw h 0) 27 18
def target (h : List Nat) : Nat := bits (hw h 0) 37 28
def lap (h : List Nat) : Nat := bits (hw h 1) 24 0
def dirIndex (h : List Nat) : Nat := bits (hw h 1) 49 25
def lclass (h : List Nat) : Nat := bits (hw h 1) 57 50
def cbSlot (h : List Nat) : Nat := bits (hw h 1) 63 58
def tensor (h : List Nat) : Nat := bits (hw h 2) 19 0
def tag (h : List Nat) : Nat := bits (hw h 2) 35 20
def epoch (h : List Nat) : Nat := bits (hw h 2) 43 36
def accEpoch (h : List Nat) : Nat := bits (hw h 2) 51 44
def accCbSlot (h : List Nat) : Nat := bits (hw h 2) 57 52
def plane (h : List Nat) : Nat := bits (hw h 2) 60 58
def tidemark (h : List Nat) : Nat := hw h 3
def job (h : List Nat) : Nat := bits (hw h 4) 31 0
def payloadFlits (h : List Nat) : Nat := bits (hw h 4) 39 32 + 1
def accFlits (h : List Nat) : Nat := bits (hw h 4) 50 40
def attempt (h : List Nat) : Nat := bits (hw h 4) 58 51
def resendMask (h : List Nat) : Nat := bits (hw h 5) 15 0
def accBlocks (h : List Nat) : Nat := bits (hw h 5) 22 16

/-- The kinds of segment (R27). -/
def forward : Nat := 1
def backward : Nat := 2
def frame : Nat := 3

/-- A header of KIND 0b0010. -/
def isBackward (h : List Nat) : Bool := kind h == backward
def isFrame (h : List Nat) : Bool := kind h == frame

/-- HCHECK as it should be: over bytes 0 to 59 and 64 to 191 (R27). -/
def check (h : List Nat) : Nat :=
  crc32c (wordsBytes (h.take 7) ++ (wordsBytes [hw h 7]).take 4 ++ wordsBytes ((h.drop 8).take 16))

/-- Does a header pass HCHECK, VERSION and KIND (R30)? -/
def sound (h : List Nat) : Bool :=
  bits (hw h 7) 63 32 == check h && version h == 1 && (kind h == forward || kind h == backward || kind h == frame)

/-- The header flit that goes out: the words given, HCHECK filled in, and a landing record of zeros (R29, R497). -/
def sealWords (ws map : List Nat) : List Nat :=
  let h := ws.take 7 ++ List.replicate (7 - ws.length) 0 ++ [0] ++ map.take 16
  h.take 7 ++ [check h * 2 ^ 32] ++ (h.drop 8) ++ List.replicate 8 0

/-- Block map entry `n` (R28). -/
def mapEntry (h : List Nat) (n : Nat) : Nat := hw h (8 + n)
end Hdr

namespace MapEntry
def offset (e : Nat) : Nat := bits e 27 16
def present (e : Nat) : Bool := hasBit e 14
def raw (e : Nat) : Bool := hasBit e 13
def stored (e : Nat) : Nat := bits e 12 0
/-- The bytes a block takes in the payload, its padding not included (R26, R28). -/
def bytes (e : Nat) : Nat := if raw e then 4096 else stored e
end MapEntry

/-- The landing record in words 24 to 31 of a header-array entry (R29, R68). -/
def landingRecord (payload acc raw blocks written : Nat) : List Nat := [payload, acc, raw, blocks, written, 0, 0, 0]

/-! ### Accumulator maps (R67) -/

namespace AccEntry
def offset (e : Nat) : Nat := bits e 47 32
def present (e : Nat) : Bool := hasBit e 14
def raw (e : Nat) : Bool := hasBit e 13
def stored (e : Nat) : Nat := bits e 12 0
/-- The extent of a block: a coded block with its padding (R69). -/
def extent (e : Nat) : Nat := if raw e then 4096 else roundUp (stored e) 16
def bytes (e : Nat) : Nat := if raw e then 4096 else stored e
end AccEntry

/-- The map flits of an accumulator of `a` blocks (R67). -/
def mapFlits (a : Nat) : Nat := (a + 31) / 32

/-- The map entries of the accumulator flits, every entry of the map flits included. -/
def accMap (a : Nat) (acc : List Byte) : List Nat := bytesWords (acc.take (256 * mapFlits a))

/-- The accumulator data of the accumulator flits. -/
def accData (a : Nat) (acc : List Byte) : List Byte := acc.drop (256 * mapFlits a)

/-- The first fault of R69 in an accumulator map: the block index to report. A resent copy (`copy`) carries what it was
asked for, and gaps in its map are none (R82). -/
def accMapFault (copy : Bool) (a flits : Nat) (acc : List Byte) : Option Nat :=
  let es := accMap a acc
  let room := 256 * (flits - mapFlits a)
  match (List.range es.length).find? fun j => !copy && AccEntry.present (es.getD j 0) != decide (j < a) with
  | some j => some j
  | none =>
    let carried := (List.range es.length).filter fun j => AccEntry.present (es.getD j 0)
    let extents := carried.map fun j => let e := es.getD j 0; (j, 16 * AccEntry.offset e, AccEntry.extent e)
    let bad := fun (j : Nat) =>
      let e := es.getD j 0
      (AccEntry.raw e && AccEntry.stored e != 4096) ||
      (!AccEntry.raw e && (decide (4080 < AccEntry.stored e) || decide (AccEntry.stored e < 17))) ||
      decide (room < 16 * AccEntry.offset e + AccEntry.extent e) ||
      extents.any fun x => decide (x.1 < j) && decide (x.2.1 < 16 * AccEntry.offset e + AccEntry.extent e) &&
        decide (16 * AccEntry.offset e < x.2.1 + x.2.2)
    carried.find? bad

/-- Header faults of R69, for a job whose accumulators have ACC_UNITS `u`. -/
def backwardFault (h : List Nat) (u : Nat) : Bool :=
  let fmt := if u = 3 then 1 else if u = 2 then 2 else 0
  !Hdr.trainable h || fmt == 0 || Hdr.accFmt h != fmt || (Hdr.accZero h != (Hdr.accFlits h == 0)) ||
  Hdr.accBlocks h == 0 || decide ((if Hdr.accFmt h = 1 then 64 else 32) < Hdr.accBlocks h)

/-! ### Directory and lap list (R31, R34, R184) -/

namespace DirEntry
def trainable (e : Nat) : Bool := hasBit e 126
def expert (e : Nat) : Bool := hasBit e 125
def valid (e : Nat) : Bool := hasBit e 124
def home (e : Nat) : Nat := bits e 123 114
def dir (e : Nat) : Nat := bit e 113
def strand (e : Nat) : Nat := bits e 112 111
def lap (e : Nat) : Nat := bits e 110 86
def tensor (e : Nat) : Nat := bits e 85 66
def tag (e : Nat) : Nat := bits e 65 50
def epoch (e : Nat) : Nat := bits e 49 42
def length (e : Nat) : Nat := bits e 41 34
/-- The device address of the stored header flit. -/
def addr (e : Nat) : Nat := bits e 33 0 * 256
end DirEntry

namespace LapEntry
def reserved (e : Nat) : Nat := bits e 63 61
def lclass (e : Nat) : Nat := bits e 60 53
def landPass (e : Nat) : Nat := bit e 52
def kind (e : Nat) : Nat := bits e 51 50
def lap (e : Nat) : Nat := bits e 49 25
def index (e : Nat) : Nat := bits e 24 0
end LapEntry

namespace BookRecord
def valid (w0 : Nat) : Bool := hasBit w0 48
def book (w0 : Nat) : Nat := bits w0 47 0
def dir (w1 : Nat) : Nat := bit w1 40
def strand (w1 : Nat) : Nat := bits w1 39 38
def cbSlot (w1 : Nat) : Nat := bits w1 37 32
def epoch (w1 : Nat) : Nat := bits w1 30 23
def plane (w1 : Nat) : Nat := bits w1 22 20
def tensor (w1 : Nat) : Nat := bits w1 19 0
/-- The fields that the book header repeats: GRAD, EPOCH, PLANE and TENSOR. -/
def ident (w1 : Nat) : Nat := bits w1 31 0
end BookRecord

/-! ### Messages of 32 bytes (R44, R229) -/

namespace Msg
def type (ws : List Nat) : Nat := bits (hw ws 0) 7 0
def strand (ws : List Nat) : Nat := bits (hw ws 0) 9 8
def dir (ws : List Nat) : Nat := bit (hw ws 0) 10
def tideDest (ws : List Nat) : Nat := bits (hw ws 0) 31 16
def mark (ws : List Nat) : Nat := bits (hw ws 0) 57 32
def lap (ws : List Nat) : Nat := bits (hw ws 1) 24 0
def blocks (ws : List Nat) : Nat := bits (hw ws 1) 47 32
def acc (ws : List Nat) : Nat := bits (hw ws 1) 63 48
def dest (ws : List Nat) : Nat := bits (hw ws 0) 25 16
def src (ws : List Nat) : Nat := bits (hw ws 0) 41 32
def barrier (ws : List Nat) : Nat := bits (hw ws 0) 56 48
def tidemark (ws : List Nat) : Nat := hw ws 2
def attempt (ws : List Nat) : Nat := bits (hw ws 3) 7 0
/-- CHECK over bytes 0 to 27. -/
def checkOk (ws : List Nat) : Bool :=
  bits (hw ws 3) 63 32 == crc32c ((wordsBytes (ws.take 4)).take 28)
/-- The four words with CHECK filled in. -/
def close (w0 w1 tidemark attempt : Nat) : List Nat :=
  [w0, w1, tidemark, attempt + crc32c ((wordsBytes [w0, w1, tidemark, attempt]).take 28) * 2 ^ 32]
end Msg

/-- The ACC field of a RESEND message (R81). -/
def accRequest (first last : Nat) : Nat := 0x8000 + last * 64 + first

end Sys2Proof.Machine
end

