-- ==== Sys2Proof/Machine/Operands.lean ====
section
/-! DEFINITION. The operand forms of the tile: transfer descriptors (R102), vector descriptors (R109), pass descriptors
(R136), and which bits of each are reserved. A descriptor is one number of 512 bits, word 0 lowest. -/
namespace Sys2Proof.Machine

/-- Word `n` of a descriptor. -/
def dw (d n : Nat) : Nat := bits d (64 * n + 63) (64 * n)

/-! ### Transfer descriptors (R102) -/
namespace Xd
def op (d : Nat) : Nat := bits (dw d 0) 3 0
def srcFmt (d : Nat) : Nat := bits (dw d 0) 7 4
def dstFmt (d : Nat) : Nat := bits (dw d 0) 11 8
def round (d : Nat) : Nat := bits (dw d 0) 13 12
def sigEn (d : Nat) : Bool := hasBit (dw d 0) 14
def statusEn (d : Nat) : Bool := hasBit (dw d 0) 15
def tensor (d : Nat) : Nat := bits (dw d 0) 35 16
def epoch (d : Nat) : Nat := bits (dw d 0) 43 36
def cbSlot (d : Nat) : Nat := bits (dw d 0) 49 44
def strand (d : Nat) : Nat := bits (dw d 0) 51 50
def dir (d : Nat) : Nat := bit (dw d 0) 52
def src (d : Nat) : Nat := bits (dw d 1) 47 0
def dst (d : Nat) : Nat := bits (dw d 2) 47 0
def inner (d : Nat) : Nat := bits (dw d 3) 19 0
def runs (d : Nat) : Nat := bits (dw d 3) 35 20 + 1
def statusOff (d : Nat) : Nat := bits (dw d 3) 51 36
def amount (d : Nat) : Nat := bits (dw d 3) 59 52
def srcStride (d : Nat) : Nat := bits (dw d 4) 31 0
def dstStride (d : Nat) : Nat := bits (dw d 4) 63 32
def rect (d : Nat) : Nat := bits (dw d 5) 23 0
def blocks (d : Nat) : Nat := bits (dw d 5) 39 24
def accFirst (d : Nat) : Nat := bits (dw d 5) 45 40
def accLast (d : Nat) : Nat := bits (dw d 5) 51 46
def elemBase (d : Nat) : Nat := bits (dw d 6) 47 0
def sig (d : Nat) : Nat := dw d 7

def oCopy : Nat := 1
def oMcast : Nat := 2
def oExpandW : Nat := 3
def oExpandAcc : Nat := 4
def oConvert : Nat := 5
def oCompress : Nat := 6

/-- A bit that R102 leaves unlisted is set. -/
def reserved (d : Nat) : Bool :=
  bits (dw d 0) 63 53 != 0 || bits (dw d 1) 63 48 != 0 || bits (dw d 2) 63 48 != 0 || bits (dw d 3) 63 60 != 0 ||
  bits (dw d 5) 63 52 != 0 || bits (dw d 6) 63 48 != 0

/-- Does engine `e` accept the operation (R103)? -/
def accepted (e op : Nat) : Bool :=
  if op = oCopy then decide (e ≤ 2) else if op = oMcast then decide (e ≤ 1)
  else if op = oExpandW ∨ op = oExpandAcc then e == 1 else if op = oConvert ∨ op = oCompress then e == 2 else false

/-- Does the operation move runs of INNER bytes? -/
def usesRuns (op : Nat) : Bool := op == oCopy || op == oMcast || op == oConvert || op == oCompress

/-- A field that the operation uses lies outside its range (R102, R103). -/
def badField (d : Nat) : Bool :=
  let o := op d
  (sigEn d && amount d == 0) ||
  (usesRuns o && (inner d % 64 != 0 || inner d == 0 || srcStride d % 64 != 0)) ||
  ((o == oCopy || o == oMcast || o == oConvert) && dstStride d % 64 != 0) ||
  (o == oConvert && decide (2 ≤ round d)) ||
  (o == oConvert && ((Fmt.ofCode (srcFmt d)).isNone || (Fmt.ofCode (dstFmt d)).isNone)) ||
  (o == oCompress && (Fmt.ofCode (srcFmt d)).isNone)

/-- Is a descriptor refused by its engine with ERR_TILE_DESC before it starts (R103)? -/
def refused (e d : Nat) : Bool := reserved d || !accepted e (op d) || badField d
end Xd

/-! ### Vector descriptors (R109) -/
namespace Vd
def vop (d : Nat) : Nat := bits (dw d 0) 5 0
def fmtA (d : Nat) : Nat := bits (dw d 0) 9 6
def fmtB (d : Nat) : Nat := bits (dw d 0) 13 10
def fmtC (d : Nat) : Nat := bits (dw d 0) 17 14
def fmtD (d : Nat) : Nat := bits (dw d 0) 21 18
def round (d : Nat) : Nat := bits (dw d 0) 23 22
def sigEn (d : Nat) : Bool := hasBit (dw d 0) 24
def tensor (d : Nat) : Nat := bits (dw d 0) 44 25
def a (d : Nat) : Nat := bits (dw d 1) 19 0
def b (d : Nat) : Nat := bits (dw d 1) 39 20
def c (d : Nat) : Nat := bits (dw d 1) 59 40
def dst (d : Nat) : Nat := bits (dw d 2) 19 0
def rows (d : Nat) : Nat := bits (dw d 2) 35 20 + 1
def s (d : Nat) : Nat := bits (dw d 3) 31 0
def t (d : Nat) : Nat := bits (dw d 3) 63 32
def elemBase (d : Nat) : Nat := bits (dw d 4) 47 0
def amount (d : Nat) : Nat := bits (dw d 5) 7 0
def sig (d : Nat) : Nat := dw d 7

/-- A bit that R109 does not list is set. -/
def reserved (d : Nat) : Bool :=
  bits (dw d 0) 63 45 != 0 || bits (dw d 1) 63 60 != 0 || bits (dw d 2) 63 36 != 0 || bits (dw d 4) 63 48 != 0 ||
  bits (dw d 5) 63 8 != 0 || dw d 6 != 0

/-- The formats of R110. -/
def fmtOk (c : Nat) : Bool := [0, 1, 2, 3, 4, 11].contains c

/-- Which of the operands A, B and C an operation reads (R110). -/
def operands (v : Nat) : Nat :=
  if [0x01, 0x02, 0x03, 0x05, 0x06].contains v then 2 else if v = 0x04 ∨ v = 0x0E then 3 else 1

/-- Is a vector descriptor refused with ERR_TILE_DESC (R109, R110)? All four format codes are judged. DESIGN CHOICE
(assumption 40): R109 states no range for AMOUNT; an AMOUNT of 0 with SIG_EN is refused as R103 refuses it in a transfer
descriptor. -/
def refused (d : Nat) : Bool :=
  reserved d || decide (0x0E < vop d) || !(fmtOk (fmtA d) && fmtOk (fmtB d) && fmtOk (fmtC d) && fmtOk (fmtD d)) ||
  decide (2 ≤ round d) || (sigEn d && amount d == 0)
end Vd

/-! ### Pass descriptors (R136) -/
namespace Pd
def op (d : Nat) : Nat := bits (dw d 0) 3 0
def split (d : Nat) : Bool := hasBit (dw d 0) 4
def accBuf (d : Nat) : Nat := bit (dw d 0) 5
def accInit (d : Nat) : Bool := hasBit (dw d 0) 6
def aTrans (d : Nat) : Bool := hasBit (dw d 0) 7
def bTrans (d : Nat) : Bool := hasBit (dw d 0) 8
def ftz (d : Nat) : Bool := hasBit (dw d 0) 9
def aFmt (d : Nat) : Nat := bits (dw d 0) 13 10
def bFmt (d : Nat) : Nat := bits (dw d 0) 17 14
def sigEn (d : Nat) : Bool := hasBit (dw d 0) 18
def statusEn (d : Nat) : Bool := hasBit (dw d 0) 19
def waitEn (d : Nat) : Bool := hasBit (dw d 0) 20
def waitCtr (d : Nat) : Nat := bits (dw d 0) 26 21
def waitAmt (d : Nat) : Nat := bits (dw d 0) 34 27
def amount (d : Nat) : Nat := bits (dw d 0) 42 35
def statusOff (d : Nat) : Nat := bits (dw d 0) 58 43
def aAddr (d : Nat) : Nat := bits (dw d 1) 19 0
def aScale (d : Nat) : Nat := bits (dw d 1) 39 20
def bAddr (d : Nat) : Nat := bits (dw d 1) 59 40
def bScale (d : Nat) : Nat := bits (dw d 2) 19 0
def aKstride (d : Nat) : Nat := bits (dw d 2) 39 20
def bKstride (d : Nat) : Nat := bits (dw d 2) 59 40
def aMstride (d : Nat) : Nat := bits (dw d 3) 15 0
def aSkstride (d : Nat) : Nat := bits (dw d 3) 27 16
def tokens (d : Nat) : Nat := bits (dw d 3) 35 28 + 1
def blocks (d : Nat) : Nat := bits (dw d 3) 47 36 + 1
def accRow (d : Nat) : Nat := bits (dw d 3) 55 48
def sig (d : Nat) : Nat := dw d 7

/-- A bit that R136 does not list is set. -/
def reserved (d : Nat) : Bool :=
  bits (dw d 0) 63 59 != 0 || bits (dw d 1) 63 60 != 0 || bits (dw d 2) 63 60 != 0 || bits (dw d 3) 63 56 != 0 ||
  dw d 4 != 0 || dw d 5 != 0 || dw d 6 != 0

/-- The class of an array format (R125). -/
inductive Class where
  | e | s | h
deriving DecidableEq, Repr

def Class.of : Fmt → Option Class
  | .e4m3 | .e5m2 | .mxE4m3 | .mxE5m2 | .mxInt8 | .int8 => some .e
  | .mxE3m2 | .mxE2m3 | .mxFp4 | .int4 => some .s
  | .bf16 | .fp16 => some .h
  | .fp32 => none

/-- How a pair of formats computes (R125): whether at density 2, at density one half, whether the exact rule, whether the
split mode is permitted. -/
structure Pair where
  dense : Bool
  half : Bool
  exact : Bool
  splitOk : Bool
deriving DecidableEq, Repr

/-- The row of R125 for a stationary and a streaming format. -/
def pair (b a : Fmt) : Option Pair :=
  match Class.of b, Class.of a with
  | some .e, some .e | some .e, some .s =>
    some ⟨false, false, true, !b.isMx && !a.isMx⟩
  | some .s, some .e | some .s, some .s => some ⟨true, false, true, false⟩
  | some .h, some .h => some ⟨false, true, false, true⟩
  | some .h, some .e => if a.isMx then none else some ⟨false, true, false, true⟩
  | some .e, some .h => if b.isMx then none else some ⟨false, true, false, true⟩
  | _, _ => none
end Pd

end Sys2Proof.Machine
end

