-- ==== Sys2Proof/Machine/Fuses.lean ====
section
/-! DEFINITION. The fuses of R425, and what they fix: the assembly, the grade and the shape of the package (R1, R2, R92,
R242). -/
namespace Sys2Proof.Machine

/-- The fuses (R425). `ident` is laid out as GLB_IDENT (R493); `rowsOut` lists the physical rows of a column of a die
that are not enabled (R92) and `arrayOut` the repaired row of a tile's array (R149), each listed only where it differs
from the default; `railWin` gives the window of a rail in mV (R420). -/
structure Fuses where
  deviceSeed : Nat
  serial : Nat
  ident : Nat
  rowsOut : SMap (List Nat)
  arrayOut : SMap Nat
  railWin : SMap (Nat × Nat)
  capW : Nat
  ownerHash : SMap Nat
  ownerSecret : SMap Nat
  ownerState : Nat
  foundationRevoked : Bool
  fwSvn : Nat
  shoreSvn : Nat
deriving DecidableEq, Repr

namespace Fuses

/-- Memory stacks N: 8, 12 or 16 (R242). -/
def nStacks (f : Fuses) : Nat := bits f.ident 9 5

/-- Usable GiB of a stack: 64 or 96 (R242). -/
def stackGib (f : Fuses) : Nat := if hasBit f.ident 4 then 96 else 64

/-- I/O dies: 2 or 4 (R2). -/
def ioDies (f : Fuses) : Nat := bits f.ident 3 1

/-- Grade B (R2)? -/
def gradeB (f : Fuses) : Bool := hasBit f.ident 0

/-- Is I/O die `d` fitted? X2 assemblies carry dies 0 and 2 (R16). -/
def dieFitted (f : Fuses) (d : Nat) : Bool := if f.ioDies = 4 then d < 4 else d == 0 || d == 2

/-- Tiles enabled on a die, E of R92. -/
def tilesPerDie (f : Fuses) : Nat := if f.gradeB then 672 else 768

/-- Logical rows of a die (R92). -/
def logicalRows (f : Fuses) : Nat := if f.gradeB then 21 else 24

/-- Enabled tiles of the package: 3,072 or 2,688. -/
def tiles (f : Fuses) : Nat := 4 * f.tilesPerDie

/-- Stacks of a compute die, D of R242. -/
def stacksPerDie (f : Fuses) : Nat := f.nStacks / 4

/-- Usable memory M in bytes (R242). -/
def memory (f : Fuses) : Nat := f.nStacks * f.stackGib * 2 ^ 30

/-- The base of the context area: M - 1,280 MiB (R253, R254). -/
def ctxBase (f : Fuses) : Nat := f.memory - 1280 * 2 ^ 20

/-- The maximum power of the assembly in W (R24). -/
def maxPower (f : Fuses) : Nat :=
  if f.nStacks = 16 then 1600 else if f.nStacks = 8 then 1230 else if f.ioDies = 2 then 1250 else 1480

/-- The physical rows of a column out of service: one in grade A, four in grade B, the topmost unless the fuses name
others (R92). -/
def outRows (f : Fuses) (die col : Nat) : List Nat :=
  SMap.get f.rowsOut ⟨die, col, 0⟩ (if f.gradeB then [21, 22, 23, 24] else [24])

/-- The die, logical row and column of a logical ID (R92). -/
def place (f : Fuses) (id : Nat) : Nat × Nat × Nat :=
  (id / f.tilesPerDie, id % f.tilesPerDie / 32, id % f.tilesPerDie % 32)

/-- The physical row of a logical ID: the enabled rows of its column in ascending order (R92). -/
def physRow (f : Fuses) (id : Nat) : Nat :=
  let (die, row, col) := f.place id
  ((List.range 25).filter fun r => !(f.outRows die col).contains r).getD row 0

/-- The logical ID of die, row and column (R92). -/
def logical (f : Fuses) (die row col : Nat) : Nat := die * f.tilesPerDie + row * 32 + col

/-- The boot voltage and the fused window of a rail in mV (R420); a rail above 11 does not exist. -/
def rail (f : Fuses) (r : Nat) : Nat × Nat × Nat :=
  let (boot, lo, hi) := match r with
    | 0 | 1 | 2 | 3 => (750, 600, 900) | 4 => (800, 700, 950) | 5 => (750, 700, 900) | 6 => (850, 800, 900)
    | 7 => (1050, 1010, 1120) | 8 => (500, 480, 570) | 9 => (1800, 1700, 1950) | 10 => (1200, 1140, 1260)
    | _ => (1800, 1710, 1890)
  (boot, SMap.get f.railWin ⟨r, 0, 0⟩ (lo, hi))

/-- OWNER_STATE of a slot in a field of all four (R425, R440). -/
def slotState (owners slot : Nat) : Nat := bits owners (2 * slot - 1) (2 * slot - 2)

/-- Is every owner slot blank (R425, R473)? -/
def blank (f : Fuses) : Bool := [1, 2, 3, 4].all fun i => slotState f.ownerState i == 0

/-- The tiles of a rectangle in the layout of bits [23:0] of R49, on every die it names, in ascending logical ID. DESIGN
CHOICE (assumption 40): a rectangle that names none is no error, and nothing is written (R102). -/
def rectTiles (f : Fuses) (rect : Nat) : List Nat :=
  let rows := (List.range f.logicalRows).filter fun row => decide (bits rect 8 4 ≤ row ∧ row ≤ bits rect 13 9)
  let cols := (List.range 32).filter fun col => decide (bits rect 18 14 ≤ col ∧ col ≤ bits rect 23 19)
  ((List.range 4).filter fun die => hasBit (bits rect 3 0) die).flatMap fun die =>
    rows.flatMap fun row => cols.map fun col => f.logical die row col

/-- M16H-X4, grade A, no repair, no owner: the fuses the model starts with (DESIGN CHOICE, assumption 4). -/
def default : Fuses where
  deviceSeed := 0
  serial := 0
  ident := 16 * 32 + 16 + 4 * 2
  rowsOut := []
  arrayOut := []
  railWin := []
  capW := 1700
  ownerHash := []
  ownerSecret := []
  ownerState := 0
  foundationRevoked := false
  fwSvn := 0
  shoreSvn := 0

end Fuses

end Sys2Proof.Machine
end

