-- ==== Sys2Proof/Machine/State.lean ====
section
/-! DEFINITION. The state of the package as plain data, the reasons a command can stop, and the state right after
reset. -/
namespace Sys2Proof.Machine

/-- Why a command ends in a fault: no command does. The package reports errors by records and goes on (R236). -/
inductive Fault
deriving DecidableEq, Repr

/-- Why a command has no outcome in this model. -/
inductive Refusal where
  /-- Raised by the arms of exec that have no meaning yet. Safe: nothing goes on from it. -/
  | notModelled (mnemonic : String)
deriving DecidableEq, Repr

/-- The port formation table as applied (R265, R266): its header word and the entries of the ports. -/
structure Plan where
  header : Nat
  entries : SMap Nat
deriving DecidableEq, Repr

structure State where
  -- registers
  regs : SMap Nat
  stages : List Part
  latches : List Part
  -- what fuses, straps and the option block fix
  fuses : Fuses
  straps : Nat
  plan : Plan
  -- time, free values
  time : BitVec 64
  fresh : Nat
  -- memory
  mem : Memory
  hostMem : Memory
  disarm : Bool
  -- arbitration: refused requesters, holders of points other than egress ports, packets in router buffers
  backoffs : List Backoff
  holders : List Hold
  fabric : List FabPacket
  -- error records and interrupts
  errRing : SMap (List Nat)
  errSeq : Nat
  cause : Option (Nat × Nat)
  irqs : List Nat
  -- tiles
  ctxs : SMap Ctx
  engines : SMap Engine
  arrays : SMap MatArray
  current : SMap Nat
  -- signals and barriers
  waiters : SMap (List Waiter)
  flights : List Flight
  -- ports: links, nonce counters by class, transfers with the requests that wait for a full queue (R285), what has been
  -- handed to the ports and what has gone onto the wire
  links : SMap Link
  nonces : SMap Nat
  xferSeqs : SMap Nat
  xferQueues : SMap (List XferReq)
  xfers : List XferLive
  waitXfers : List (Source × List Nat)
  jobGate : Bool
  voidGate : Bool
  timeStepped : Bool
  slew : Int
  slewTick : Nat
  outbox : List Sent
  wire : List WireFlit
  -- the tide: contexts, installed books, directory caches; surveys and recodes
  tctxs : SMap TideCtx
  books : SMap (Option StoreBook)
  dcache : SMap (Option (Nat × Nat))
  -- the equalisation presets with which each lane has trained (R446; empty: the built-in default)
  presets : SMap (List Nat)
  -- the signatures of the array self-test by tile (R468), and the records held while the I/O dies' test has the ring (R467)
  signatures : SMap Nat
  errHeld : List (List Nat)
  tideInfo : List Nat         -- the dies whose TIDE_ERR_INFO holds an error (R64)
  shingles : SMap Shingle
  -- guards
  guards : List Guard
  packets : List Packet
  heldPackets : List Packet
  bars : SMap BarPhase
  senses : Nat
  tileSenses : SMap Nat
  holdQueue : List (List Nat)
  entry : SMap Nat
  seqReleased : Bool
  -- packets sent under the management key
  mgmtSeq : Nat
  -- shutters: 0 open, 1 closing, 2 closed, 3 opening (one that is not listed)
  shutters : SMap Nat
  -- the open job
  seed : Nat
  -- the units at the package's edge
  hst : Hst
  boot : Boot
  lhs : Lhs
  sec : Sec
  jrn : Jrn
  tap : Tap
  -- byte buffers of BAR0 by offset, and the flash (each byte complemented, so that an erased one is 0)
  bufs : Memory
  flash : Memory
  -- commands waiting, first in, first out
  pending : List Instr
deriving DecidableEq, Repr

/-- Memory whose every stack holds nothing that a rule fixes, and whose tiles are zero. -/
def Memory.unfilled (n tag : Nat) : Memory where
  cells := []
  zones := (List.range n).map fun i => ⟨.stack n i, some tag⟩
  bad := []

/-- The package under a reset of power-on reach (R393): PWROK is low, nothing has been loaded, every register is at its
reset value, and the stacks hold nothing that a rule fixes. Fuses, flash and host memory are those of assumption 4. -/
def State.reset : State where
  regs := []
  stages := []
  latches := []
  fuses := Fuses.default
  straps := 0
  plan := ⟨0, []⟩
  time := 0
  fresh := 1
  mem := Memory.unfilled 16 0
  hostMem := Memory.empty
  disarm := false
  backoffs := []
  holders := []
  fabric := []
  errRing := []
  errSeq := 0
  cause := none
  irqs := []
  ctxs := []
  engines := []
  arrays := []
  current := []
  waiters := []
  flights := []
  links := []
  nonces := []
  xferSeqs := []
  xferQueues := []
  xfers := []
  waitXfers := []
  jobGate := false
  voidGate := false
  timeStepped := false
  slew := 0
  slewTick := 0
  outbox := []
  wire := []
  tctxs := []
  books := []
  dcache := []
  presets := []
  signatures := []
  errHeld := []
  tideInfo := []
  shingles := []
  guards := []
  packets := []
  heldPackets := []
  bars := []
  senses := 0
  tileSenses := []
  holdQueue := []
  entry := []
  seqReleased := false
  mgmtSeq := 0
  shutters := []
  seed := 0
  hst := Hst.init
  boot := Boot.init
  lhs := Lhs.init
  sec := Sec.init
  jrn := Jrn.init
  tap := Tap.init
  bufs := Memory.empty
  flash := Memory.empty
  pending := []

end Sys2Proof.Machine
end

