-- ==== Sys2Proof/Machine/Ops.lean ====
section
/-! DEFINITION. The named operations every meaning is built from: fields of registers, interrupts, error records and
voids, shutters and accesses to memory. -/
namespace Sys2Proof.Machine

namespace State

/-! ### Register fields -/

/-- The stored key of a field of an instance and entry of its register. -/
def key (f : Fd) (inst idx : Nat) : Key := ⟨f.ctorIdx, inst, idx⟩

/-- The entry of port `p` in the applied plan (R266). -/
def portEntry (s : State) (p : Nat) : Nat := SMap.get s.plan.entries ⟨p, 0, 0⟩ 0

/-- Quads of a port (R266). -/
def portQuads (s : State) (p : Nat) : Nat := bits (s.portEntry p) 10 6 + 1

/-- The scopes of JRN_EXCL at reset (R462). -/
def exclReset : Nat → Nat
  | 0 => 0x400 | 1 => 0x018 | 2 => 0x004 | 3 => 0x3C0 | 4 => 0x3C0 | 5 => 0x001 | _ => 0

/-- The value of a field that nothing has written since its block was reset: the reset value of its table, or what
fuses, straps and the plan fix. TILE_ARB_RANK is the copy of GLB_TILE_RANK that R122 describes. -/
def fieldReset (s : State) (f : Fd) (inst idx : Nat) : Nat :=
  if f.spec.reset ≠ 0 ∧ f ≠ .TILE_ARB_RANK_ORDER then f.spec.reset
  else match f.spec.reg with
    | .GLB_IDENT => bits s.fuses.ident f.spec.hi f.spec.lo
    | .TILE_ID =>
      let (die, _, col) := s.fuses.place inst
      if f = .TILE_ID_PCOL then col else if f = .TILE_ID_PROW then s.fuses.physRow inst
      else if f = .TILE_ID_DIE then die else inst
    | .TILE_ARB_RANK => SMap.get s.regs (key .GLB_TILE_RANK_ORDER 0 0) 0x1AC688
    | .ARR_REPAIR => SMap.get s.fuses.arrayOut ⟨inst, 0, 0⟩ 32
    | .MEM_STATUS => if f = .MEM_STATUS_PRESENT then b2n (decide (inst < s.fuses.nStacks)) else 0
    | .MEM_CFG => if f = .MEM_CFG_STACKS then s.fuses.nStacks else s.fuses.stackGib
    | .MEM_RGN_CTX => s.fuses.ctxBase / 2 ^ 20
    | .LHS_CAP => if f = .LHS_CAP_CAP_W then s.fuses.capW else 0
    | .LHS_GOV_LIMIT => s.fuses.maxPower
    | .SEC_SVN =>
      if f = .SEC_SVN_FW_FUSE then popcount 64 s.fuses.fwSvn
      else if f = .SEC_SVN_SHORE_FUSE then popcount 64 s.fuses.shoreSvn else 0
    | .SEC_OWNER =>
      if f = .SEC_OWNER_STATE then s.fuses.ownerState
      else if f = .SEC_OWNER_FOUNDATION_REVOKED then b2n s.fuses.foundationRevoked else 0
    | .SEC_SERIAL => s.fuses.serial
    | .SEC_CHALLENGE => (Config.random idx).toNat
    | .TWY_PORT_CTRL => if f = .TWY_PORT_CTRL_ENABLE then b2n (decide (bits (s.portEntry inst) 13 11 ≠ 0)) else 0
    | .TWY_PORT_CFG =>
      if f = .TWY_PORT_CFG_IODIE then bits (s.portEntry inst) 5 0 / 9 else bits (s.portEntry inst) 32 0
    | .TWY_PORT_CREDIT =>
      if f = .TWY_PORT_CREDIT_EBB ∨ f = .TWY_PORT_CREDIT_FLOOD then 3 * s.portQuads inst else s.portQuads inst
    | .TWY_PLAN_EPOCH => bits s.plan.header 63 32
    | .TWY_SELF_LOC => bits s.straps f.spec.hi f.spec.lo
    | .SLU_SHADOW | .SLU_ACTIVE => if idx = 7 then 0x57777777 else 0x77777777
    | .JRN_EXCL => exclReset idx
    | _ => 0

/-- The value of a field. -/
def rd (s : State) (f : Fd) (inst : Nat := 0) (idx : Nat := 0) : Nat :=
  SMap.get s.regs (key f inst idx) (s.fieldReset f inst idx)

/-- The state with a field set, cut to the field's width. -/
def wr (s : State) (f : Fd) (inst idx v : Nat) : State :=
  { s with regs := SMap.set s.regs (key f inst idx) (s.fieldReset f inst idx) (v % 2 ^ f.width) }

/-- A counter field raised by `n`, saturating at its width. -/
def bump (s : State) (f : Fd) (inst idx n : Nat) : State := s.wr f inst idx (satNat f.width (s.rd f inst idx + n))

/-- A counter field raised by `n`, modulo its width. -/
def count (s : State) (f : Fd) (inst idx n : Nat) : State := s.wr f inst idx (s.rd f inst idx + n)

/-- Is a one-bit field set? -/
def flag (s : State) (f : Fd) (inst : Nat := 0) (idx : Nat := 0) : Bool := s.rd f inst idx != 0

/-- The stored value of a whole register: its fields in place. -/
def regVal (s : State) (r : Reg) (inst idx : Nat) : Nat :=
  r.spec.fields.foldl (fun v f => v + s.rd f inst idx * 2 ^ f.spec.lo) 0

/-- Every field of the named blocks, in the instances `p` names, back at its reset value (R15: "after a reset of the
block's own reach"). -/
def resetBlocks (s : State) (bs : List Block) (p : Nat → Bool) : State :=
  let gone (r : Reg) (inst : Nat) : Bool := bs.contains r.spec.block && p inst
  { s with
    regs := SMap.drop s.regs fun k => match Fd.ofNat k.a with
      | f => f.ctorIdx == k.a && gone f.spec.reg k.b
    stages := s.stages.filter fun x => !gone x.reg x.inst
    latches := s.latches.filter fun x => !gone x.reg x.inst }

/-! ### Discarded writes (R12, R15, R494) -/

/-- Does a write come through the register mirror (R9)? -/
def throughMirror : Source → Bool
  | .ctx _ _ | .engine _ _ => true
  | .host | .lighthouse => false

/-- A write at BAR0 offset `off` that R12 or R15 discards: its bit of GLB_STATUS set, and the first of them captured
(R494). GLB_STATUS_ADDR keeps what it holds after both bits are clear, until the next capture (DESIGN CHOICE, assumption
42). -/
def offend (s : State) (f : Fd) (src : Source) (off : Nat) : State :=
  let clear := s.regVal .GLB_STATUS 0 0 == 0
  let s := s.wr f 0 0 1
  if clear then
    ((s.wr .GLB_STATUS_ADDR_MIRROR 0 0 (b2n (throughMirror src))).wr .GLB_STATUS_ADDR_LH 0 0
      (b2n (decide (src = .lighthouse)))).wr .GLB_STATUS_ADDR_OFFSET 0 0 off
  else s

/-- A write that places a reserved encoding (R12). -/
def reservedWrite (s : State) (src : Source) (off : Nat) : State := s.offend .GLB_STATUS_RSVD_WR src off

/-- A write to a field that GLB_BOOT_LOCK locks (R15). -/
def lockedWrite (s : State) (src : Source) (off : Nat) : State := s.offend .GLB_STATUS_LOCK_WR src off

/-- Is GLB_BOOT_LOCK set (R15)? -/
def locked (s : State) : Bool := s.flag .GLB_BOOT_LOCK_LOCK

/-! ### Job state -/

/-- The job states of HST_STATUS.JOB_STATE (R354, R369). -/
def jobState (s : State) : Nat := s.rd .HST_STATUS_JOB_STATE

def jobEmpty : Nat := 0
def jobLoading : Nat := 1
def jobRunning : Nat := 2
def jobPausing : Nat := 3
def jobPaused : Nat := 4
def jobScouring : Nat := 5

/-- Is a job running, in the sense of R237 and R248 (the state RUNNING or PAUSING)? -/
def running (s : State) : Bool := s.jobState == jobRunning || s.jobState == jobPausing

/-- The job's tidemark (R21). -/
def tidemark (s : State) : Nat := s.rd .SIG_TIDEMARK_TIDEMARK

/-- The replay attempt, as I/O die 0 holds it (R236). -/
def attempt (s : State) : Nat := s.rd .TIDE_ATTEMPT_ATTEMPT

/-- This package's number in the job (R214). -/
def pkn (s : State) : Nat := s.rd .SIG_PKN_PKN

/-! ### Interrupts (R343) -/

/-- An MSI-X vector raised: sent to the host, or left pending where its table entry is masked (R343). -/
def raiseVector (s : State) (v : Nat) : State :=
  if s.flag .HST_MSIX_MASK 0 v then s.wr .HST_PBA_PENDING 0 (v / 64) (setBit (s.rd .HST_PBA_PENDING 0 (v / 64)) (v % 64))
  else { s with irqs := s.irqs ++ [v] }

/-- The error status register of a reporting block (R236, R237). -/
def errReg : Nat → Option Reg
  | 0x02 => some .RST_ERR_STATUS | 0x03 => some .LHS_ERR_STATUS | 0x04 => some .SEC_ERR_STATUS
  | 0x05 => some .HST_ERR_STATUS | 0x06 => some .TIDE_ERR_STATUS | 0x07 => some .TWY_ERR_STATUS
  | 0x09 => some .MEM_ERR_STATUS | 0x0A => some .SIG_ERR_STATUS | 0x0B => some .TST_ERR_STATUS
  | 0x0C => some .TILE_ERR_STATUS | 0x0D => some .SHG_ERR_STATUS | 0x0E => some .JRN_ERR_STATUS
  | 0x0F => some .SLU_ERR_STATUS | _ => none

/-- The interrupt enable field of a reporting block and the MSI-X vector of an instance (R343). -/
def errInt (cls inst : Nat) : Option (Fd × Nat) :=
  match cls with
  | 0x02 => some (.RST_INT_EN_EN, 57) | 0x03 => some (.LHS_INT_EN_EN, 0) | 0x04 => some (.SEC_INT_EN_EN, 3)
  | 0x05 => some (.HST_INT_EN_EN, 2) | 0x06 => some (.TIDE_INT_EN_EN, 4 + inst)
  | 0x07 => some (.TWY_INT_EN_EN, 8 + inst) | 0x09 => some (.MEM_INT_EN_EN, 40 + inst)
  | 0x0A => some (.SIG_INT_EN_EN, 1) | 0x0B => some (.TST_INT_EN_EN, 58) | 0x0D => some (.SHG_INT_EN_EN, 40 + inst)
  | 0x0E => some (.JRN_INT_EN_EN, 59) | 0x0F => some (.SLU_INT_EN_EN, 56) | _ => none

/-- The register instance of a reporting block (R237): the block's own for the blocks that have several. -/
def errInst (cls inst : Nat) : Nat := if [0x06, 0x07, 0x09, 0x0C, 0x0D, 0x0F].contains cls then inst else 0

/-- The field at bit `n` of a reporting block's error status register (R237). -/
def errField (cls n : Nat) : Option Fd := (errReg cls).bind fun r => r.spec.fields.find? fun f => f.spec.lo == n

/-- Bit `n` of a reporting block's error status register set, with the block's interrupt where the bit rises and is
enabled; a tile's vector 60 fires where its register was clear (R343). -/
def setErr (s : State) (cls n inst : Nat) : State :=
  match errField cls n with
  | none => s
  | some f =>
    let i := errInst cls inst
    if s.flag f i then s
    else
      let t := s.wr f i 0 1
      if cls = 0x0C then (if s.regVal .TILE_ERR_STATUS i 0 = 0 then t.raiseVector 60 else t)
      else match errInt cls i with
        | none => t
        | some (en, v) => if hasBit (s.rd en i * 2 ^ en.spec.lo) n then t.raiseVector v else t

/-! ### Error records and voids (R236 to R239) -/

end State

/-- An error as a block reports it (R236, R237). -/
structure Err where
  cls : Nat
  index : Nat
  inst : Nat
  void : Bool
  objKind : Nat := 0
  obj : Nat := 0
  waiterKind : Nat := 0
  waiters : Nat := 0
  waiter : Nat := 0
  d5 : Nat := 0
  d6 : Nat := 0
  d7 : Nat := 0
deriving DecidableEq, Repr

namespace State

/-- The eight words of an error record (R236). -/
def recordWords (s : State) (e : Err) : List Nat :=
  [ s.time.toNat,
    s.tidemark,
    s.errSeq * 2 ^ 32 + s.attempt * 2 ^ 24 + b2n e.void * 2 ^ 23 + e.cls * 2 ^ 8 + e.index,
    e.inst % 2 ^ 16 * 2 ^ 48 + e.objKind * 2 ^ 44 + e.obj % 2 ^ 32,
    e.waiterKind * 2 ^ 60 + min e.waiters 0xFFFF * 2 ^ 32 + e.waiter % 2 ^ 32,
    e.d5 % 2 ^ 64, e.d6 % 2 ^ 64, e.d7 % 2 ^ 64 ]

/-- A record's words placed at the head of the ring, or counted as dropped while the ring is full (R239). -/
def placeRecord (s : State) (words : List Nat) : State :=
  let head := s.rd .SIG_ERR_HEAD_HEAD
  let full := (head + 1) % 256 == s.rd .SIG_ERR_TAIL_TAIL
  let t := if full then s.bump .SIG_ERR_DROPPED_COUNT 0 0 1
    else { s with errRing := SMap.set s.errRing ⟨head, 0, 0⟩ [] words }.wr .SIG_ERR_HEAD_HEAD 0 0 (head + 1)
  let t := t.wr .SIG_STATUS_RECORD 0 0 1
  if s.flag .SIG_INT_EN_RECORD then t.raiseVector 1 else t

/-- Has the self-test of the I/O dies set the ring aside (R467)? DESIGN CHOICE (assumption 38): for as long as the unit runs. -/
def ringAside (s : State) : Bool := hasBit (s.rd .TST_BIST_STATUS_RUNNING) 2

/-- A record written, or held by the writer while the ring is set aside (R239, R467). Either way it takes the next SEQ. -/
def writeRecord (s : State) (e : Err) : State :=
  let words := s.recordWords e
  let t := { s with errSeq := (s.errSeq + 1) % 2 ^ 32 }
  if s.ringAside then { t with errHeld := t.errHeld ++ [words] } else t.placeRecord words

/-- The ring is back, and what the writer has held is written in its order (R467). -/
def ringBack (s : State) : State := s.errHeld.foldl (fun t ws => t.placeRecord ws) { s with errHeld := [] }

/-! ### Voids (R226, R374, R376) -/

def barValid (s : State) (b : Nat) : Bool := s.flag .SIG_BAR_CFG_VALID 0 b
def barStep (s : State) (b : Nat) : Bool := s.flag .SIG_BAR_CFG_STEP 0 b
def barRoot (s : State) (b : Nat) : Nat := s.rd .SIG_BAR_CFG_ROOT 0 b
def barPkgs (s : State) (b : Nat) : Nat := s.rd .SIG_BAR_CFG_PKGS 0 b

def seqState (s : State) : Nat := s.rd .GLB_VOID_STATUS_STATE
def stepBar (s : State) : Nat := s.rd .GLB_VOID_CTRL_STEP_BAR
def replayBar (s : State) : Nat := s.rd .GLB_VOID_CTRL_REPLAY_BAR

/-- Does the sequencer act: EN set and both barrier objects valid (R374)? Not in a scour, which has returned it to IDLE (R364,
R382; DEDUCED, assumption 12). -/
def seqArmed (s : State) : Bool :=
  let b := s.stepBar
  let r := s.replayBar
  s.jobState != jobScouring && s.flag .GLB_VOID_CTRL_EN && s.barValid b && s.barStep b && s.barValid r && !s.barStep r &&
    s.barRoot b == s.barRoot r && s.barPkgs b == s.barPkgs r

/-- The current step voided: SIG_STATUS.VOIDED rises, and where the sequencer acts and is IDLE the first cause is kept for it
(R226, R374, R376); so is one met in RESTORE or REPLAY_WAIT (R381). -/
def voidStep (s : State) (cls index : Nat) : State :=
  let seq := s.seqState
  let fresh := ((!s.flag .SIG_STATUS_VOIDED && s.seqArmed && seq == 0) || seq == 3 || seq == 4) && s.cause.isNone
  let t := if fresh then { s with cause := some (cls, index) } else s
  t.wr .SIG_STATUS_VOIDED 0 0 1

/-- An error reported: its status bit where it has one (INDEX below 0x80), its record, and the void (R236, R237). -/
def report (s : State) (e : Err) : State :=
  let t := if e.index < 0x80 then s.setErr e.cls e.index e.inst else s
  let t := t.writeRecord e
  if e.void then t.voidStep e.cls e.index else t

/-- ERR_ISOLATED in the words of the requester's block (R237): a device address in DETAIL. -/
def reportIsolated (s : State) (cls inst addr waiterKind waiter : Nat) : State :=
  s.report { cls := cls, index := 0x84, inst := inst, void := s.running, objKind := 6, d5 := addr,
             waiterKind := waiterKind, waiter := waiter }

/-! ### Shutters (R399 to R401) -/

def kTile : Nat := 1
def kPort : Nat := 2
def kMemc : Nat := 3
def kFerry : Nat := 4

/-- Is the domain of a kind of block in reset: it has not left it in the sequence of R407, or the compute reset holds
it (R393, R410)? -/
def domainHeld (s : State) (kind : Nat) : Bool :=
  if kind = kTile then decide (s.boot.order < 6) || s.flag .RST_CTRL_COMPUTE
  else if kind = kMemc then decide (s.boot.order < 5)
  else decide (s.boot.order < 4) && s.rd .RST_BOOT_FAULT != 1

/-- Does a reset of warm reach hold? -/
def warmHeld (s : State) : Bool := s.boot.perst || s.boot.tray || s.boot.wdog || s.boot.pkg

/-- The gating depth of compute die `d`: the largest that the governor, the cap and the trip ask for (R145, R438). -/
def gateOf (s : State) (d : Nat) : Nat :=
  if s.lhs.tripped then 64 else max (bits (s.rd .LHS_GOV_G_G) (8 * d + 6) (8 * d)) (s.rd .LHS_CAP_CAP_G)

/-- The state of a block's shutter: 0 open, 1 closing, 2 closed, 3 opening. One that is not listed has left reset with its
domain, and is initialised (R400). -/
def shutter (s : State) (kind i : Nat) : Nat := if s.domainHeld kind then 2 else SMap.get s.shutters ⟨kind, i, 0⟩ 3

/-- Is a block's shutter open? -/
def isOpen (s : State) (kind i : Nat) : Bool := s.shutter kind i == 0

/-- Is a bridge loopback selected (R463, R464)? -/
def bridgeLoopback (s : State) : Bool := s.rd .TST_LB_CTRL_KIND == 3 && s.rd .TST_LB_CTRL_MODE != 0

/-! ### Units of the package -/

def nTiles (s : State) : Nat := s.fuses.tiles

def ctx (s : State) (t c : Nat) : Ctx := SMap.get s.ctxs ⟨t, c, 0⟩ Ctx.init
def setCtx (s : State) (t c : Nat) (x : Ctx) : State := { s with ctxs := SMap.set s.ctxs ⟨t, c, 0⟩ Ctx.init x }

def engine (s : State) (t e : Nat) : Engine := SMap.get s.engines ⟨t, e, 0⟩ Engine.init
def setEngine (s : State) (t e : Nat) (x : Engine) : State :=
  { s with engines := SMap.set s.engines ⟨t, e, 0⟩ Engine.init x }

def array (s : State) (t : Nat) : MatArray := SMap.get s.arrays ⟨t, 0, 0⟩ MatArray.init
def setArray (s : State) (t : Nat) (x : MatArray) : State :=
  { s with arrays := SMap.set s.arrays ⟨t, 0, 0⟩ MatArray.init x }

def waitersOn (s : State) (t n : Nat) : List Waiter := SMap.get s.waiters ⟨t, n, 0⟩ []
def setWaiters (s : State) (t n : Nat) (ws : List Waiter) : State :=
  { s with waiters := SMap.set s.waiters ⟨t, n, 0⟩ [] ws }

/-- Does a write of a source wait for room in a full queue (R186, R205, R285)? -/
def waitsFrom (s : State) (src : Source) : Bool :=
  (s.waitXfers.any fun x => x.1 == src) ||
  s.shingles.any fun e => (e.2.waitFeeds.any fun x => x.1 == src) || e.2.waitRecodes.any fun x => x.1 == src

/-- The next free value's number, and the state that has drawn it. -/
def draw (s : State) : Nat × State := (s.fresh, { s with fresh := s.fresh + 1 })

/-- A counter of tile cycles raised by a number that depends on timing alone, and so is free (assumption 24). -/
def countCycles (s : State) (f : Fd) (t site : Nat) : State :=
  let (k, s) := s.draw
  s.bump f t 0 (Config.unstated site k)

/-! ### The array's cycles (R145, R150) -/

/-- The gating depth of a tile's die (R145). -/
def gateDepth (s : State) (t : Nat) : Nat := s.gateOf (s.fuses.place t).1

/-- A gating depth has changed: a running pass of a gated die has gated cycles from now on (R145). -/
def noteGating (s : State) : State :=
  { s with arrays := s.arrays.map fun e =>
      (e.1, if e.2.started ∧ 0 < s.gateDepth e.1.a then { e.2 with gated := true } else e.2) }

/-- The head pass starts: it holds its buffer from now on (R134, R139). -/
def beginPass (s : State) (t : Nat) : State :=
  s.setArray t { s.array t with started := true, waiting := false, frozen := false, gated := decide (0 < s.gateDepth t) }

/-- A freeze ends: its cycles count for the shadow plane or for the streaming FIFO, as the operand that was late (R145;
which one is free, assumption 24). -/
def countFreeze (s : State) (t : Nat) : State :=
  let (k, s) := s.draw
  s.countCycles (if Config.unstated 23 k % 2 = 0 then .ARR_STALL_A_COUNT else .ARR_STALL_B_COUNT) t 24

/-- The cycles of a pass that ends, or of a wait that ends, as its counters have seen them (R145, R150). -/
def countPass (s : State) (t : Nat) : State :=
  let m := s.array t
  let s := if m.waiting then s.countCycles .ARR_WAITING_COUNT t 22 else s
  let s := if m.started then s.countCycles .ARR_ACTIVE_COUNT t 21 else s
  let s := if m.started ∧ m.gated then s.countCycles .ARR_GATED_COUNT t 25 else s
  if m.frozen then s.countFreeze t else s

/-! ### The tile's own errors (R105, R121) -/

/-- An error of a tile: TILE_ERR_INFO takes the address where the status register was clear, then the error is
reported (R121). -/
def tileErr (s : State) (t n addr : Nat) (void : Bool) (objKind obj d5 d6 : Nat) (wk w : Nat) : State :=
  let s := if s.regVal .TILE_ERR_STATUS t 0 = 0 ∧ n < 0x80 then s.wr .TILE_ERR_INFO_ADDR t 0 addr else s
  s.report { cls := 0x0C, index := n, inst := t, void := void, objKind := objKind, obj := obj, waiterKind := wk,
             waiter := w, d5 := d5, d6 := d6 }

end State

end Sys2Proof.Machine
end

