-- ==== Sys2Proof/Machine/Access.lean ====
section
/-! DEFINITION. Accesses to the device address space (R340): stack memory under its controllers' rules (R243 to R255)
and tile SRAM (R112 to R119), with what each failure leaves behind. -/
namespace Sys2Proof.Machine

/-- The engine numbers of R99. -/
def eFeedA : Nat := 0
def eFeedB : Nat := 1
def eDrain : Nat := 2
def eArray : Nat := 3
def eVector : Nat := 4

/-- The base of a tile's window in the device address space (R118). -/
def tileBase (t : Nat) : Nat := 0x200000000000 + t * 0x80000

/-- Is a tile offset inside working SRAM, accumulator SRAM or program store (R119)? -/
def tileOffValid (off : Nat) : Bool :=
  decide (off < 0x50000) || (decide (0x60000 ≤ off) && decide (off < 0x74000))

/-- Do `n` bytes from a tile offset lie inside one of those ranges (R119)? -/
def tileSpanValid (off n : Nat) : Bool :=
  decide (off + n ≤ 0x50000) || (decide (0x60000 ≤ off) && decide (off + n ≤ 0x74000))

/-- The 64-byte lines, by number, of `n` bytes from `a`. -/
def spanLines (a n : Nat) : List Nat :=
  if n = 0 then [] else (List.range ((a + n - 1) / 64 + 1 - a / 64)).map fun i => a / 64 + i

/-- The bytes of a span that lie in one line. -/
def lineBytes (a n l : Nat) : Nat := min (a + n) (64 * l + 64) - max a (64 * l)

/-- Does a request come from inside a tile's block, so that its shutter does not stand between (R399)? -/
def Req.within (r : Req) (t : Nat) : Bool := (r.waiterKind == 1 || r.waiterKind == 2) && r.waiter / 8 == t

namespace State

/-- What lies at a device address (R340). -/
def target (s : State) (a : Nat) : Target :=
  if a < 0x018000000000 then (if a < s.fuses.memory then .stack else .hole)
  else if a < 0x200000000000 then .nothing
  else if a < 0x300000000000 then
    let id := (a - 0x200000000000) / 0x80000
    let off := (a - 0x200000000000) % 0x80000
    if id < s.nTiles ∧ tileOffValid off then .tile id off else .noTile
  else if a < 0x300004000000 then .register (a - 0x300000000000)
  else if 0x380000000000 ≤ a ∧ a < 0x400000000000 then .host (a - 0x380000000000)
  else .nothing

/-- Is a memory loopback selected (R464)? -/
def memLoopback (s : State) : Bool := s.rd .TST_LB_CTRL_KIND == 2 && s.rd .TST_LB_CTRL_MODE != 0

/-- Does a bridge loopback take a requester's way to a compute die (R16, R464)? A tile's requests start on its own die; every
other requester stands on an I/O die, or, as a shingle unit, is one that memory lines from every die reach. -/
def bridgeCut (s : State) (req : Req) (die : Nat) : Bool :=
  s.bridgeLoopback &&
    if req.waiterKind = 1 ∨ req.waiterKind = 2 then req.waiter / 8 / s.fuses.tilesPerDie != die else true

/-- Does a request reach a tile's memories: over no bridge in loopback, and from inside its shutter or through an open one
(R399, R464)? -/
def reachesTile (s : State) (req : Req) (t : Nat) : Bool :=
  (s.isOpen kTile t || req.within t) && !s.bridgeCut req (t / s.fuses.tilesPerDie)

/-- Does a request reach a stack's controller (R399, R464)? -/
def reachesStack (s : State) (req : Req) (st : Nat) : Bool :=
  s.isOpen kMemc st && !s.bridgeCut req (st / s.fuses.stacksPerDie)

/-- Must an access to a span wait: its stack is being zeroed (R258), its tile rewrites rows (R112), or a pass holds the
accumulator buffer (R134)? -/
def stalled (s : State) (a n : Nat) : Bool :=
  match s.target a with
  | .stack => s.memLoopback || (spanLines a n).any fun l => s.flag .MEM_STATUS_ZEROING (stackOf s.fuses.nStacks (64 * l))
  | .tile t off =>
    (s.flag .TILE_WATERLINE_REWRITING t && decide (off < 0x50000)) ||
    ((s.array t).started && match (s.engine t eArray).queue.head? with
      | none => false
      | some q => let lo := 0x60000 + 0x8000 * Pd.accBuf q.desc; decide (off < lo + 0x8000) && decide (lo < off + n))
  | _ => false

/-- The waterline of a tile in bytes (R112). -/
def waterline (s : State) (t : Nat) : Nat := s.rd .TILE_WATERLINE_LEVEL t * 0x4000

/-- A controller's error: MEM_ERR_INFO and MEM_ERR_SYND hold the first until the status register is clear, then the
record with the address, the syndrome, the requester and the channel (R248, R254, R261). -/
def memErr (s : State) (stack index : Nat) (req : Req) (a synd : Nat) (void : Bool) : State :=
  let ch := stackChannel s.fuses.nStacks a
  let s := if s.regVal .MEM_ERR_STATUS stack 0 = 0 then
      (((s.wr .MEM_ERR_INFO_REQ stack 0 req.num).wr .MEM_ERR_INFO_CHANNEL stack 0 ch).wr .MEM_ERR_INFO_ADDR stack 0 a).wr
        .MEM_ERR_SYND_SYND stack 0 synd
    else s
  s.report { cls := 0x09, index := index, inst := stack, void := void, objKind := 6,
             waiterKind := req.waiterKind, waiter := req.waiter, d5 := a, d6 := synd,
             d7 := req.num * 2 ^ 52 + ch * 2 ^ 48 }

/-- A correctable error found by a controller (R247): counted, the line written back, and a record at each multiple of the
threshold. -/
def memCorrected (s : State) (req : Req) (a synd : Nat) : State :=
  let st := stackOf s.fuses.nStacks a
  let n := s.rd .MEM_CE_COUNT_COUNT st + 1
  let s := (s.bump .MEM_CE_COUNT_COUNT st 0 1).count .MEM_WR_BYTES_COUNT st 0 64
  if n % s.rd .MEM_CE_THRESH_THRESH st = 0 ∧ n < 2 ^ 32 then s.memErr st 3 req a synd false else s

/-- An uncorrectable error met by a demand access to a stack (R248). -/
def memUncorrectable (s : State) (req : Req) (a synd : Nat) : State :=
  let st := stackOf s.fuses.nStacks a
  (s.bump .MEM_UE_COUNT_COUNT st 0 1).memErr st 0 req a synd s.running

/-- A correctable error in tile SRAM, counted by the region of its row; a delay that empties an operand FIFO freezes the
tile (R114). -/
def tileCorrected (s : State) (t off : Nat) (stall : Bool) : State :=
  let commons := decide (s.waterline t ≤ off ∧ off < 0x50000)
  let s := s.bump (if commons then .TILE_CE_COUNT_COMMONS else .TILE_CE_COUNT_SCRATCH) t 0 1
  if stall then s.bump .TILE_CE_STALL_COUNT t 0 1 else s

/-- The ECC word of an address with the errors that its code corrects: in a stack a 64-byte line and one symbol (R246); in
tile SRAM a 256-bit word and two bits in the commons, else a 128-bit word and one bit (R113, R133). -/
def eccWord (s : State) (a : Nat) : Nat × Nat × Nat :=
  match s.target a with
  | .tile t off => if s.waterline t ≤ off ∧ off < 0x50000 then (a / 32 * 32, 32, 2) else (a / 16 * 16, 16, 1)
  | _ => (a / 64 * 64, 64, 1)

/-- The errors the environment places in a command's reads: one that the word's code corrects is counted, any other stays
in the word (R113, R114, R246 to R248). Errors beyond those a code is stated to detect are detected too (assumption
28). -/
def place (s : State) (req : Req) (fs : List Flaw) : State :=
  fs.foldl (fun s f =>
    let (base, size, fixes) := s.eccWord f.addr
    if f.moved ∨ fixes < f.errs then { s with mem := s.mem.mark ⟨base, size, f.synd⟩ }
    else if f.errs = 0 then s
    else match s.target f.addr with
      | .stack => s.memCorrected req f.addr f.synd
      | .tile t off => s.tileCorrected t off f.stall
      | _ => s) s

/-- The first line or row of a span in which a word that the span reads holds an uncorrectable error. -/
def firstBad (s : State) (a n : Nat) : Option (Nat × Nat) :=
  (spanLines a n).findSome? fun l => (s.mem.badIn (max a (64 * l)) (lineBytes a n l)).map fun y => (64 * l, y)

/-- Is some controller of a span out of a request's reach? -/
def stackShut (s : State) (req : Req) (a n : Nat) : Bool :=
  (spanLines a n).any fun l => !s.reachesStack req (stackOf s.fuses.nStacks (64 * l))

/-- Bytes of a span counted at each controller that serves them. -/
def countBytes (s : State) (f : Fd) (a n : Nat) : State :=
  (spanLines a n).foldl (fun s l => s.count f (stackOf s.fuses.nStacks (64 * l)) 0 (lineBytes a n l)) s

/-- The address decoder's refusal of an address above the fitted memory (R243): it lies in no channel and has no syndrome,
so that MEM_ERR_INFO.CHANNEL and MEM_ERR_SYND are 0 beside its address (DEDUCED, assumption 28). -/
def rangeError (s : State) (req : Req) (a : Nat) : State :=
  let s := if s.regVal .MEM_ERR_STATUS 0 0 = 0 then
      (((s.wr .MEM_ERR_INFO_REQ 0 0 req.num).wr .MEM_ERR_INFO_CHANNEL 0 0 0).wr .MEM_ERR_INFO_ADDR 0 0 a).wr
        .MEM_ERR_SYND_SYND 0 0 0
    else s
  s.report { cls := 0x09, index := 1, inst := 0, void := s.running, objKind := 6, waiterKind := req.waiterKind,
             waiter := req.waiter, d5 := a }

/-- A read of `n` bytes at a device address in memory: the bytes, or why there are none. -/
def readSpan (s : State) (req : Req) (a n : Nat) : State × Except Fail (List Byte) :=
  match s.target a with
  | .stack =>
    if s.fuses.memory < a + n then
      (if s.fuses.memory < 0x018000000000 then (s.rangeError req s.fuses.memory, .error .range) else (s, .error .tileAddr))
    else if s.stackShut req a n then (s, .error .isolated)
    else match s.firstBad a n with
      | some (l, y) => (s.memUncorrectable req l y, .error .memUe)
      | none => (s.countBytes .MEM_RD_BYTES_COUNT a n, .ok (s.mem.readN a n))
  | .hole => (s.rangeError req a, .error .range)
  | .tile t off =>
    if !tileSpanValid off n then (s, .error .tileAddr)
    else if !s.reachesTile req t then (s, .error .isolated)
    else match s.firstBad a n with
      | some (l, _) => (s.tileErr t 1 l true 6 0 l 0 req.waiterKind req.waiter, .error .tileUe)
      | none => (s, .ok (s.mem.readN a n))
  | .noTile | .register _ | .host _ | .nothing => (s, .error .tileAddr)

/-- Is a span inside the context area, or inside the armed mirror region, in part (R254, R255)? -/
def inCtxArea (s : State) (a n : Nat) : Bool := decide (s.fuses.ctxBase < a + n)

/-- The mirror region: its first byte and its end (R255). -/
def mirrorRegion (s : State) : Nat × Nat :=
  let b := s.rd .MEM_RGN_MIRROR_BASE * 2 ^ 24
  (b, b + s.rd .MEM_RGN_MIRROR_SIZE * 2 ^ 24)

/-- May a write to stack memory be made (R254, R255)? -/
def writeAllowed (s : State) (req : Req) (a n : Nat) : Bool :=
  let (lo, hi) := s.mirrorRegion
  let armed := s.flag .MEM_RGN_MIRROR_ARMED
  let touches := decide (lo < hi ∧ lo < a + n ∧ a < hi)
  (req.saver || !s.inCtxArea a n) &&
  (match req.mirrorFrom with
   | none => req.saver || !(armed && touches)
   | some p => armed && decide (lo ≤ a ∧ a + n ≤ hi) && s.flag .MEM_MIRROR_SRC_VALID &&
       s.rd .MEM_MIRROR_SRC_PKN == p)

/-- One line of a write to a stack: a whole line is written with new check bytes; a part line is merged into the line that
is read for it, or refused on its own where the line holds an uncorrectable error (R248, R249). -/
def writeLine (s : State) (req : Req) (a : Nat) (bs : List Byte) : State × Bool :=
  match s.mem.badAt a with
  | some y =>
    if bs.length = 64 then ({ s with mem := (s.mem.heal a 64).writeN a bs }, true)
    else (s.memUncorrectable req (a / 64 * 64) y, false)
  | none =>
    let t := { s with mem := s.mem.writeN a bs }
    (if bs.length = 64 then t else t.count .MEM_RD_BYTES_COUNT (stackOf s.fuses.nStacks a) 0 64, true)

/-- One row of a write to tile SRAM (R115): a whole row is written with new check bits; narrow bytes are merged word by
word, and refused in each ECC word that holds an uncorrectable error. -/
def writeRow (s : State) (req : Req) (t a : Nat) (bs : List Byte) : State × Bool :=
  match s.mem.badIn a bs.length with
  | some _ =>
    if bs.length = 64 then ({ s with mem := (s.mem.heal a 64).writeN a bs }, true)
    else ({ s with mem := s.mem.writeGood a bs }.tileErr t 1 (a / 64 * 64) true 6 0 (a / 64 * 64) 0 req.waiterKind
      req.waiter, false)
  | none => ({ s with mem := s.mem.writeN a bs }, true)

/-- The rows of a span of tile SRAM written one by one. -/
def writeRows (s : State) (req : Req) (t a : Nat) (bs : List Byte) : State × Bool :=
  (spanLines a bs.length).foldl (fun (acc : State × Bool) l =>
    let lo := max a (64 * l)
    let (s, ok) := acc.1.writeRow req t lo ((bs.drop (lo - a)).take (lineBytes a bs.length l))
    (s, acc.2 && ok)) (s, true)

/-- The controller's own record of a refusal under R254 or R255. -/
def regionError (s : State) (req : Req) (a : Nat) : State :=
  s.memErr (stackOf s.fuses.nStacks a) 2 req a 0 s.running

/-- A write refused whole under R255: the controller of every stack that holds a line of it records its first line there
(R254). -/
def regionErrors (s : State) (req : Req) (a n : Nat) : State :=
  ((spanLines a n).foldl (fun (acc : State × List Nat) l =>
    let st := stackOf s.fuses.nStacks (64 * l)
    if acc.2.contains st then acc else (acc.1.regionError req (max a (64 * l)), st :: acc.2)) (s, [])).1

/-- One line's part of a write at a stack memory address (R249): above M the decoder refuses it (R243), in the context area or
the armed mirror region the controller of its stack does (R254, R255), and behind a shutter it is isolated; else it is written
and counted. `fs`: the failures so far, each with the stack of the controller that refused; each of them records its first
address. -/
def stackLine (s : State) (req : Req) (fs : List (Fail × Nat)) (a : Nat) (bs : List Byte) : State × List (Fail × Nat) :=
  let st := stackOf s.fuses.nStacks a
  let add (x : Fail × Nat) : List (Fail × Nat) := if fs.contains x then fs else fs ++ [x]
  if s.fuses.memory ≤ a then
    if 0x018000000000 ≤ a then (s, add (.tileAddr, 0))
    else (if fs.contains (.range, 0) then s else s.rangeError req a, add (.range, 0))
  else if !s.writeAllowed req a bs.length then
    (if fs.contains (.region, st) then s else s.regionError req a, add (.region, st))
  else if !s.reachesStack req st then (s, add (.isolated, 0))
  else
    let (t, ok) := s.writeLine req a bs
    if ok then (t.count .MEM_WR_BYTES_COUNT st 0 bs.length, fs) else (t, add (.memUe, st))

/-- The lines of a span written one by one (R249). -/
def stackLines (s : State) (req : Req) (a : Nat) (bs : List Byte) : State × List (Fail × Nat) :=
  (spanLines a bs.length).foldl (fun (acc : State × List (Fail × Nat)) l =>
    let lo := max a (64 * l)
    acc.1.stackLine req acc.2 lo ((bs.drop (lo - a)).take (lineBytes a bs.length l))) (s, [])

/-- A write of bytes at a device address in memory: `none` when it is done, or the first reason why not all of it is. A
MIRROR write is refused whole unless it lies in the mirror region (R255). -/
def writeSpan (s : State) (req : Req) (a : Nat) (bs : List Byte) : State × Option Fail :=
  match s.target a with
  | .stack =>
    if req.mirrorFrom.isSome && !s.writeAllowed req a bs.length then (s.regionErrors req a bs.length, some .region)
    else
      let (t, fs) := s.stackLines req a bs
      (t, fs.head?.map (·.1))
  | .hole => (s.rangeError req a, some .range)
  | .tile t off =>
    if req.mirrorFrom.isSome then (s, some .region)
    else if !tileSpanValid off bs.length then (s, some .tileAddr)
    else if !s.reachesTile req t then (s, some .isolated)
    else
      let (u, ok) := s.writeRows req t a bs
      (u, if ok then none else some .tileUe)
  | .noTile | .register _ | .host _ | .nothing => (s, some .tileAddr)

end State

end Sys2Proof.Machine
end

