-- ==== Sys2Proof/Machine/Flits.lean ====
section
/-! DEFINITION. Flits: the header of a data flit as it is sent and as it is read (R269, R270), and the encryption of groups
(R280, R281). -/
namespace Sys2Proof.Machine

/-- The number at place `i` of a list, 0 past its end. -/
def at0 (l : List Nat) (i : Nat) : Nat := l.getD i 0

/-- The CRC of a flit: over its body, then header bytes 0 to 3, then header bytes 8 to 31 (R270). -/
def flitCrc (header body : List Nat) : Nat :=
  crc32c (wordsBytes body ++ (wordsBytes [at0 header 0]).take 4 ++ wordsBytes [at0 header 1, at0 header 2, at0 header 3])

/-! ### A flit received (R269) -/

namespace Flit
def seq (f : Flit) : Nat := bits (at0 f.header 0) 31 22
def ack (f : Flit) : Nat := bits (at0 f.header 0) 21 12
def cls (f : Flit) : Nat := bits (at0 f.header 0) 11 9
def sop (f : Flit) : Bool := hasBit (at0 f.header 0) 8
def eop (f : Flit) : Bool := hasBit (at0 f.header 0) 7
def gend (f : Flit) : Bool := hasBit (at0 f.header 0) 6
def pad (f : Flit) : Bool := hasBit (at0 f.header 0) 5
def ftype (f : Flit) : Nat := bits (at0 f.header 0) 4 3
def tm0 (f : Flit) : Nat := bits (at0 f.header 0) 2 2
def att (f : Flit) : Nat := bits (at0 f.header 0) 1 0
def destLoc (f : Flit) : Nat := bits (at0 f.header 1) 63 54
def icls (f : Flit) : Nat := bits (at0 f.header 1) 53 51
def origin (f : Flit) : Nat := bits (at0 f.header 1) 50 41
def guarded (f : Flit) : Bool := hasBit (at0 f.header 1) 40
def nonce (f : Flit) : Nat := bits (at0 f.header 1) 39 0
def tag (f : Flit) : Nat := at0 f.header 2 + at0 f.header 3 * 2 ^ 64

/-- Does the flit's CRC pass (R270)? -/
def crcOk (f : Flit) : Bool := bits (at0 f.header 0) 63 32 == flitCrc f.header f.body

/-- The credit entries of a flit that is no SOP: classes and totals (R269, R275). -/
def credits (f : Flit) : List (Nat × Nat) :=
  let w := at0 f.header 1
  if f.sop then [] else [(bits w 14 12, bits w 11 0), (bits w 29 27, bits w 26 15)]
end Flit

/-! ### A flit sent -/

/-- Word 0 of a data flit's header but for its CRC. -/
def flitHead (seq ack cls : Nat) (sop eop gend pad : Bool) (tm0 att : Nat) : Nat :=
  att % 4 + tm0 % 2 * 2 ^ 2 + b2n pad * 2 ^ 5 + b2n gend * 2 ^ 6 + b2n eop * 2 ^ 7 + b2n sop * 2 ^ 8 + cls % 8 * 2 ^ 9 +
    ack % 1024 * 2 ^ 12 + seq % 1024 * 2 ^ 22

/-- The header and body of a control flit (`ftype` 1) or an idle flit (2), with its records from slot 0 on (R269, R279). -/
def plainFlit (ftype ack : Nat) (records : List Nat) : List Nat × List Nat :=
  let body := records ++ List.replicate (32 - records.length) 0
  let w0 := ack % 1024 * 2 ^ 12 + ftype * 2 ^ 3
  ([w0 + flitCrc [w0, 0, 0, 0] body * 2 ^ 32, 0, 0, 0], body)

/-- Word 1 of an SOP: DEST_LOC and ICLASS of a TRANSIT unit, ORIGIN, GUARDED and NONCE (R269). -/
def sopWord (u : Sent) : Nat :=
  let (loc, icls) := u.dest.getD (0, 0)
  loc % 1024 * 2 ^ 54 + icls % 8 * 2 ^ 51 + u.origin % 1024 * 2 ^ 41 + b2n (!u.guard.isEmpty) * 2 ^ 40 + u.nonce % 2 ^ 40

/-- The CREDIT word: two entries of a class and its total, 0b111 where there is none (R269, R275). -/
def creditWord (es : List (Nat × Nat)) : Nat :=
  let e := fun (i : Nat) => es.getD i (7, 0)
  (e 0).2 % 4096 + (e 0).1 % 8 * 2 ^ 12 + (e 1).2 % 4096 * 2 ^ 15 + (e 1).1 % 8 * 2 ^ 27

/-- The header with its CRC filled in. -/
def sealHeader (w0 w1 w2 w3 : Nat) (body : List Nat) : List Nat :=
  [w0 + flitCrc [w0, w1, w2, w3] body * 2 ^ 32, w1, w2, w3]

/-- Words `n` to `n + k - 1`, zeros past the end. -/
def wordsFrom (ws : List Nat) (n k : Nat) : List Nat :=
  let x := (ws.drop n).take k
  x ++ List.replicate (k - x.length) 0

/-- Words 2 and 3 of flit `k` of a unit where it is not the last of its group: the guard words of a guarded packet's first
two flits (R286). -/
def guardWords (u : Sent) (k : Nat) : List Nat := if k < 2 then wordsFrom u.guard (2 * k) 2 else [0, 0]

/-! ### Encryption (R280, R281) -/

/-- The initialisation vector of a group (R281). -/
def groupIv (origin cls nonce index tm att : Nat) : Nat :=
  att % 2 ^ 8 + tm % 2 ^ 27 * 2 ^ 8 + index % 2 ^ 8 * 2 ^ 35 + nonce % 2 ^ 40 * 2 ^ 43 + cls % 8 * 2 ^ 83 +
    origin % 1024 * 2 ^ 86

/-- The flits of group `g` of a unit of `n` flits. -/
def groupFlits (n g : Nat) : Nat := min 16 (n - 16 * g)

/-- The additional authenticated data of group `g`: words 2 and 3 of the headers of all its flits but the last. -/
def groupAad (u : Sent) (n g : Nat) : List Nat :=
  (List.range (groupFlits n g - 1)).flatMap fun i => guardWords u (16 * g + i)

/-- A unit of `n` flits encrypted under a key: its bodies and the tags of its groups. -/
def sealUnit (key : List Nat) (u : Sent) (cls n tm att : Nat) : List Nat × List Nat :=
  let groups := List.range ((n + 15) / 16)
  let iv := fun g => groupIv u.origin cls u.nonce g tm att
  let texts := groups.map fun g =>
    wordsFrom (Config.gcmText key (iv g) (groupAad u n g) (wordsFrom u.words (512 * g) (32 * groupFlits n g))) 0
      (32 * groupFlits n g)
  (texts.flatten, (groups.zip texts).map fun x => Config.gcmTag key (iv x.1) (groupAad u n x.1) x.2)

end Sys2Proof.Machine
end

