-- ==== Sys2Proof/Machine/Records.lean ====
section
/-! DEFINITION. The flash as bytes, and the records of the journal and of the factory region in it, from which the effective
calibration values come (R441 to R448). -/
namespace Sys2Proof.Machine

/-- Is every byte of a span zero? -/
def zeroSpan (bs : List Nat) (lo hi : Nat) : Bool := ((bs.drop lo).take (hi - lo)).all fun b => b == 0

/-- The bytes of a span as a number. -/
def spanNat (bs : List Nat) (lo n : Nat) : Nat := ((bs.drop lo).take n).foldr (fun b v => b + 256 * v) 0

namespace State

/-- A number as `n` bytes, the lowest first. -/
def natBytes : Nat → Nat → List Nat
  | 0, _ => []
  | n + 1, v => v % 256 :: natBytes n (v / 256)

/-- Bytes of the flash: the state holds them complemented. -/
def flashRead (s : State) (a n : Nat) : List Nat := (s.flash.readN a n).map fun b => 255 - b.toNat

/-- Bytes programmed into the flash. -/
def flashWrite (s : State) (a : Nat) (bs : List Nat) : State :=
  { s with flash := s.flash.writeN a (bs.map fun b => BitVec.ofNat 8 (255 - b % 256)) }

end State

open State

/-! ### Journal records (R443, R444) -/

/-- The 64 bytes of a record (R443). -/
def JRec.bytes (r : JRec) : List Nat :=
  let b := natBytes 6 r.seq ++ [r.type, r.value.length] ++ natBytes 8 r.key ++ (r.value ++ List.replicate 40 0).take 40
  b ++ Config.shake256 b 8

/-- The calibration types (R444). -/
def calType (t : Nat) : Bool := [0x20, 0x21, 0x22].contains t

/-- The record that 64 bytes hold: `none` where they fail their check (R443, R444). -/
def jrecOf (b : List Nat) : Option JRec :=
  let len := b.getD 7 0
  if (b.drop 56).take 8 == Config.shake256 (b.take 56) 8 && [0x01, 0x02, 0x10, 0x20, 0x21, 0x22, 0x30, 0x40].contains (b.getD 6 0) &&
    decide (len ≤ 40) && zeroSpan b (16 + len) 56 then
    some ⟨spanNat b 0 6, b.getD 6 0, spanNat b 8 8, (b.drop 16).take len⟩
  else none

namespace State

/-! ### Reading the journal (R445, R447, R448) -/

/-- The flash offset of a slot of an area. -/
def slotFlash (area i : Nat) : Nat := 0x00200000 + area * 0x00800000 + 64 * i

/-- The slots of a region from one on, up to its first blank slot or `n`: each with its offset and what it holds. -/
def scanFrom (s : State) : Nat → Nat → List (Nat × Option JRec)
  | 0, _ => []
  | n + 1, a =>
    let b := s.flashRead a 64
    if b.all fun x => x == 0xFF then [] else (a, jrecOf b) :: s.scanFrom n (a + 64)

/-- The used slots of an area. -/
def areaSlots (s : State) (area : Nat) : List (Nat × Option JRec) := s.scanFrom 131072 (slotFlash area 0)

/-- The records of an area that pass their check, in slot order. -/
def areaRecords (s : State) (area : Nat) : List JRec := (s.areaSlots area).filterMap (·.2)

/-- Is an area valid (R447)? Its AREA record then. -/
def areaHead (s : State) (area : Nat) : Option JRec :=
  match s.areaSlots area with
  | (_, some r) :: rest =>
    let rs := rest.filterMap (·.2)
    if r.type = 0x01 ∧ rs.zipIdx.any fun x => x.1.type == 0x02 && spanNat x.1.value 0 4 == x.2 then some r else none
  | _ => none

/-- The factory records that pass their check (R445). -/
def factoryRecords (s : State) : List JRec :=
  ((s.scanFrom 16384 0x00100000).filterMap (·.2)).filter fun r => calType r.type && r.seq == 0

/-- The active area's records and, behind them, the appends held, which count as made (R451). -/
def journal (s : State) : List JRec :=
  s.areaRecords (s.rd .JRN_STATUS_AREA) ++ s.jrn.held.zipIdx.map fun x => { x.1.1 with seq := 2 ^ 48 + x.2 }

/-- The record of greatest SEQ. -/
def newest : List JRec → Option JRec
  | [] => none
  | r :: rs => match newest rs with
    | none => some r
    | some q => if q.seq < r.seq then some r else some q

/-- The live record of a type and key among records (R448). -/
def liveIn (rs : List JRec) (type key : Nat) : Option JRec :=
  match newest (rs.filter fun r => r.type == type && r.key == key) with
  | none => none
  | some r =>
    let voided := calType type && rs.any fun q => q.type == 0x10 && decide (r.seq < q.seq)
    if r.value.isEmpty || voided || [0x01, 0x02, 0x10].contains type then none else some r

/-- The effective value of a key: its source, and its record where it has one (R445). -/
def effective (s : State) (type key : Nat) : Nat × Option JRec :=
  match liveIn s.journal type key with
  | some r => (2, some r)
  | none => match s.factoryRecords.find? fun r => r.type == type && r.key == key with
    | some r => (1, some r)
    | none => (0, none)

/-- The bytes of the value that a calibration key has by a record (R445, R446): none where the journal is not mounted, or where
the key takes the firmware's built-in default, which the spec does not give. -/
def calValue (s : State) (type key : Nat) : List Nat :=
  if s.flag .JRN_STATUS_MOUNTED then match (s.effective type key).2 with
    | some r => r.value
    | none => []
  else []

end State

end Sys2Proof.Machine
end

