-- ==== Sys2Proof/Machine/Ports.lean ====
section
/-! DEFINITION. The sending side of the Tideway ports: units queued at a port's egress, the arbiter with its
sluice table and ranking, flit times, credits, the replay buffer and the nonces of an origin (R270 to R284, R291, R302 to
R316). -/
namespace Sys2Proof.Machine

/-- The traffic classes (R272). -/
def cFlood : Nat := 0
def cEbb : Nat := 1
def cSignal : Nat := 2
def cTransit : Nat := 3
def cMirror : Nat := 4
def cMgmt : Nat := 5

/-- The states of a port (R293). -/
def pOff : Nat := 0
def pTraining : Nat := 1
def pIdent : Nat := 2
def pUp : Nat := 3
def pQuarantined : Nat := 4
def pAbsent : Nat := 5
def pDown : Nat := 6
def pDraining : Nat := 7

/-- A class is encrypted under the job link key (R272, R280). -/
def jobClass (c : Nat) : Bool := c == cFlood || c == cEbb || c == cSignal || c == cMirror

/-- The source of a unit that neither a tide context nor an ingress port brings (R313). -/
def srcOwn : Nat := 48

/-- The sources of a class take turns in ascending order, wrapping round: the next one after `last` (R313). -/
def nextSource (srcs : List Nat) (last : Nat) : Option Nat :=
  let least (l : List Nat) : Option Nat := l.foldl (fun m x => some (match m with | none => x | some y => min x y)) none
  match least (srcs.filter fun x => decide (last < x)) with
  | some x => some x
  | none => least srcs

namespace State

def link (s : State) (p : Nat) : Link := SMap.get s.links ⟨p, 0, 0⟩ Link.init
def setLink (s : State) (p : Nat) (l : Link) : State := { s with links := SMap.set s.links ⟨p, 0, 0⟩ Link.init l }

/-- The state of a port (R293). -/
def portState (s : State) (p : Nat) : Nat := s.rd .TWY_PORT_STATUS_STATE p

/-- Does a port carry traffic? -/
def portUp (s : State) (p : Nat) : Bool := s.portState p == pUp

/-- The I/O die that owns a port (R268). -/
def portDie (s : State) (p : Nat) : Nat := bits (s.portEntry p) 5 0 / 9

/-- The role of a port in the plan (R266): 0 unused, 1 open. -/
def portRole (s : State) (p : Nat) : Nat := bits (s.portEntry p) 13 11

/-- Does a port hold the package at shore (R289)? -/
def portHolds (s : State) (p : Nat) : Bool :=
  decide (2 ≤ s.portRole p) && !s.portUp p && !s.flag .TWY_PORT_CTRL_EXCUSE p

/-- Does the package hold at shore (R289)? Also until its ports are formed, and after ERR_TWY_PLAN, which forms none. -/
def holdsAtShore (s : State) : Bool :=
  !s.flag .TWY_GLB_STATUS_FORMED || (List.range 32).any fun p => s.portHolds p

/-! ### Grants at an egress port (R303, R308 to R312) -/

/-- The owner of slot `n` of a port's active sluice table (R308). -/
def slotOwner (s : State) (p n : Nat) : Nat := bits (s.rd .SLU_ACTIVE_SLOTS p (n / 8)) (4 * (n % 8) + 3) (4 * (n % 8))

/-- The unit of a class that goes next: the one that has been begun, else the first of the source whose turn it is (R273,
R313). -/
def nextUnit (l : Link) (c : Nat) : Option Nat :=
  match l.queue.findIdx? fun u => u.cls == c && decide (u.left < u.size) with
  | some i => some i
  | none =>
    match nextSource ((l.queue.filter fun u => u.cls == c).map fun u => u.src) (at0 l.turns c) with
    | none => none
    | some x => l.queue.findIdx? fun u => u.cls == c && u.src == x

/-- The flits that a unit has still to send of its group (R271). -/
def groupLeft (u : TxUnit) : Nat := min u.left (16 - (u.size - u.left) % 16)

/-- Is a class in the middle of a group? -/
def midGroup (l : Link) (c : Nat) : Bool := l.queue.any fun u => u.cls == c && (u.size - u.left) % 16 != 0

/-- Does a class request the port: a group ready, credit for the whole of it, and room in the replay buffer (R274, R277,
R310)? A port that drains starts no new unit (R294), and one behind its shutter requests nothing (R305). -/
def requests (s : State) (p : Nat) (l : Link) (c : Nat) : Bool :=
  match nextUnit l c with
  | none => false
  | some i => match l.queue[i]? with
    | none => false
    | some u =>
      let n := groupLeft u
      s.isOpen kPort p && decide (at0 l.used c + n ≤ at0 l.granted c) && decide (l.replay.length + n ≤ 512) &&
        (s.portUp p || (s.portState p == pDraining && decide (u.left < u.size)))

/-- Does a class request the port within the limit of one MGMT group in a wrap (R312)? -/
def mayHave (s : State) (p : Nat) (l : Link) (c : Nat) : Bool :=
  s.requests p l c && !(c == cMgmt && s.flag .SLU_STATUS_MGMT_USED p)

/-- The background ranking of a port, highest first (R316). -/
def rankOrder (s : State) (p : Nat) : List Nat :=
  (List.range 5).map fun i => bits (s.rd .SLU_RANK_ORDER p) (3 * i + 2) (3 * i)

/-- The class that gets the grant at a break point of the holder, or while there is none (R303): a claim carried over; the
owner of the current slot where it requests and is not the holder; the highest in SLU_RANK that requests, the holder
included; MGMT where no other class requests (R312). -/
def decideGrant (s : State) (p : Nat) (l : Link) (holder : Option Nat) : Option Nat :=
  let owner := s.slotOwner p (s.rd .SLU_STATUS_SLOT p)
  match l.claim.filter fun c => s.mayHave p l c with
  | some c => some c
  | none =>
    if owner < 6 ∧ s.mayHave p l owner ∧ holder ≠ some owner then some owner
    else match (s.rankOrder p).find? fun c => s.requests p l c with
      | some c => some c
      | none => if s.mayHave p l cMgmt then some cMgmt else none

/-- The refusals of a requester that presents and is refused once more, capped where the back-off is (R304). -/
def refuse (s : State) (pt : Point) (who : Nat) : State :=
  let n := match s.backoffs.find? fun b => b.point == pt && b.who == who with
    | none => 1 | some b => min (b.refusals + 1) 11
  { s with backoffs := (s.backoffs.filter fun b => !(b.point == pt && b.who == who)) ++ [⟨pt, who, n⟩] }

/-- A grant resets the count of its requester (R304). -/
def relent (s : State) (pt : Point) (who : Nat) : State :=
  { s with backoffs := s.backoffs.filter fun b => !(b.point == pt && b.who == who) }

/-- A reset that reaches a point takes its grant and its refusals (R393). -/
def clearPoint (s : State) (pt : Point) : State :=
  { s with backoffs := s.backoffs.filter fun b => b.point != pt
           holders := s.holders.filter fun h => h.point != pt }

/-- Is a requester in back-off? -/
def backing (s : State) (pt : Point) (who : Nat) : Bool := s.backoffs.any fun b => b.point == pt && b.who == who

/-- A port's grant given: its claim is honoured or falls, and the owner of the slot is served where it is the one (R302,
R303, R311). -/
def giveGrant (s : State) (p : Nat) (g : Option Nat) : State :=
  let l := s.link p
  let owner := s.slotOwner p (s.rd .SLU_STATUS_SLOT p)
  let s := s.setLink p { l with holder := g, claim := none, served := l.served || g == some owner }
  match g with
  | none => s
  | some c => s.relent (.egress p) c

/-- The classes that request a port and have not presented yet are refused while another holds the grant (R304). -/
def refuseClasses (s : State) (p : Nat) : State :=
  (List.range 6).foldl (fun s c =>
    let l := s.link p
    if s.requests p l c ∧ l.holder.isSome ∧ l.holder ≠ some c ∧ !s.backing (.egress p) c then s.refuse (.egress p) c else s) s

/-- Requests presented at a port: one with no holder is granted in the same cycle, the others are refused (R302, R304). -/
def pump (s : State) (p : Nat) : State :=
  let s := if (s.link p).holder.isSome then s
    else match s.decideGrant p (s.link p) none with
      | none => s
      | some c => s.giveGrant p (some c)
  s.refuseClasses p

/-- The credit entries that a data flit can carry: the totals of the two classes whose return is owed longest (R275). -/
def owedEntries (l : Link) : List (Nat × Nat) := (l.owed.take 2).map fun c => (c, at0 l.adv c % 4096)

/-- Flit `k` of a queued unit as it goes on the wire: its header and its body (R269 to R271, R280, R286). The last flit of a
group carries the group's tag. -/
def wireFlit (l : Link) (u : TxUnit) : List Nat × List Nat :=
  let k := u.size - u.left
  let gend := groupLeft u == 1
  let pad := if u.transit then u.pads.contains k else decide ((u.unit.words.length + 31) / 32 ≤ k)
  let body := wordsFrom u.bodies (32 * k) 32
  let g := if gend then [at0 u.tags (k / 16) % 2 ^ 64, at0 u.tags (k / 16) / 2 ^ 64] else guardWords u.unit k
  let w0 := flitHead l.nextSeq (l.expSeq + 1023) u.cls (k == 0) (u.left == 1) gend pad u.tm0 u.att
  (sealHeader w0 (if k = 0 then sopWord u.unit else creditWord (owedEntries l)) (at0 g 0) (at0 g 1) body, body)

/-- The totals that the credit entries of a flit tell the sender of (R275, R276). -/
def tellOwed (l : Link) : List Nat := (l.owed.take 2).foldl (fun t c => setAt t c (at0 l.adv c)) l.told

/-- A control or idle flit put on the wire (R269, R279). -/
def putPlain (s : State) (p ftype : Nat) (records : List Nat) : State :=
  let (header, body) := plainFlit ftype ((s.link p).expSeq + 1023) records
  { s with wire := s.wire ++ [(⟨p, header, body⟩ : WireFlit)] }

/-- One data flit of the holder sent: numbered, kept for replay, credit used, returns carried, and counted (R275, R277,
R298, R317). -/
def sendFlit (s : State) (p c : Nat) : State :=
  let l := s.link p
  match nextUnit l c with
  | none => s
  | some i => match l.queue[i]? with
    | none => s
    | some u =>
      let (header, body) := wireFlit l u
      let l := { l with
        nextSeq := (l.nextSeq + 1) % 1024
        replay := l.replay ++ [⟨l.nextSeq, u.owner, header, body⟩]
        queue := if u.left ≤ 1 then l.queue.eraseIdx i else setAt l.queue i { u with left := u.left - 1 }
        used := setAt l.used c (at0 l.used c + 1)
        owed := if u.left = u.size then l.owed else l.owed.drop 2
        told := if u.left = u.size then l.told else tellOwed l
        turns := setAt l.turns c u.src }
      let s := { s.setLink p l with wire := s.wire ++ [(⟨p, header, body⟩ : WireFlit)] }
      let s := (s.count .TWY_TX_FLITS_COUNT p 0 1).count .SLU_CLASS_FLITS_COUNT p c 1
      let s := if u.transit then s.count .TWY_TRANSIT_FLITS_COUNT p 0 1 else s
      if c = cMgmt then s.wr .SLU_STATUS_MGMT_USED p 0 1 else s

/-- One flit time of a port (R309): the holder sends a flit; after the last one of its group the grant is decided again
(R302, R303). With no holder the port has nothing else to send, and sends an idle flit (R279). A port that is neither UP nor
DRAINING sends nothing. -/
def flitTime (s : State) (p : Nat) : State :=
  if !(s.portUp p || s.portState p == pDraining) then s
  else match (s.link p).holder with
    | none => s.putPlain p 2 []
    | some c =>
      let s := s.sendFlit p c
      let l := s.link p
      if midGroup l c then s else (s.giveGrant p (s.decideGrant p l (some c))).refuseClasses p

/-- Flit times of a port that pass, of which up to `idle` go between groups to the control flits that the port has sent, or to
idle ones (R310). -/
def flitTimes (s : State) (p idle : Nat) : Nat → State
  | 0 => s
  | n + 1 =>
    if 0 < idle ∧ !((s.link p).holder.any fun c => midGroup (s.link p) c) then s.flitTimes p (idle - 1) n
    else (s.flitTime p).flitTimes p idle n

/-- A port whose shutter closes (R305): the group that its holder has begun ends with a PAD flit that has GEND and EOP and a
tag of zeros, and the grant falls. -/
def maskPort (s : State) (p : Nat) : State :=
  let l := s.link p
  match l.holder with
  | none => s
  | some c =>
    let s := match l.queue.findIdx? fun u => u.cls == c && (u.size - u.left) % 16 != 0 with
      | none => s
      | some i =>
        let w0 := flitHead l.nextSeq (l.expSeq + 1023) c false true true true 0 0
        let body := List.replicate 32 0
        let header := sealHeader w0 (creditWord []) 0 0 body
        { s.setLink p { l with queue := l.queue.eraseIdx i } with wire := s.wire ++ [(⟨p, header, body⟩ : WireFlit)] }
    s.setLink p { s.link p with holder := none, claim := none }

/-- A unit that meets the shutter of its port ends with ERR_ISOLATED, in a record of its requester's block (R237, R399, R400): a
tide engine, the port it came in on, a transfer's port, Lighthouse, or the signal unit. -/
def unitIsolated (s : State) (x : TxUnit) : State :=
  let p := x.unit.port
  let (cls, inst, wk, w) :=
    if x.src < 16 then (0x06, x.src / 4, 4, x.src)
    else if x.src < srcOwn then (0x07, x.src - 16, 0, 0)
    else match x.owner with
      | .xfer _ => (0x07, p, 0, 0)
      | .post t c => (0x0A, 0xFFFF, 1, t * 8 + c)
      | .nobody => if x.cls = cMgmt ∨ x.unit.dest.any (fun d => d.2 == cMgmt) then (0x03, 0xFFFF, 0, 0) else (0x0A, 0xFFFF, 0, 0)
  s.report { cls := cls, index := 0x84, inst := inst, void := s.running, objKind := 7, obj := 0x300000 + 0x8000 * p,
             waiterKind := wk, waiter := w }

/-- A unit handed to a port: one whose shutter is not open ends it with ERR_ISOLATED (R399, R400); one that is not UP takes none
(R293). -/
def queueUnit (s : State) (x : TxUnit) : State :=
  let p := x.unit.port
  if !s.isOpen kPort p then s.unitIsolated x
  else if !s.portUp p then s
  else
    let l := s.link p
    let s := { s with outbox := s.outbox ++ [x.unit] }
    (s.setLink p { l with queue := l.queue ++ [x] }).pump p

/-- The key of a class (R272, R280): the job link key, or the management key. -/
def classKey (s : State) (cls : Nat) : List Nat := if cls = cMgmt then s.sec.mgmtKey else s.sec.linkKey

/-- The tidemark and attempt in a class's initialisation vectors: 0 for MGMT (R281). -/
def classStep (s : State) (cls : Nat) : Nat × Nat := if cls = cMgmt then (0, 0) else (s.tidemark, s.attempt)

/-- A unit of class `cls` of this package's, encrypted and ready for its port (R280, R281). -/
def sealedUnit (s : State) (u : Sent) (cls flits : Nat) (owner : TxOwner) (src : Nat) : TxUnit :=
  let (tm, att) := s.classStep cls
  let (bodies, tags) := sealUnit (s.classKey cls) u cls flits tm att
  { unit := u, left := flits, size := flits, owner := owner, src := src, tm0 := s.tidemark % 2, att := s.attempt % 4,
    bodies := bodies, tags := tags }

/-- Does a group verify under this package's key, tidemark and attempt (R280 to R283)? -/
def tagOk (s : State) (x : Sealed) : Bool :=
  let (tm, att) := s.classStep x.cls
  x.tag == Config.gcmTag (s.classKey x.cls) (groupIv x.origin x.cls x.nonce x.index tm att) x.aad x.words

/-- An origin encrypts a unit of a class: its NONCE taken, or refused with ERR_TWY_NONCE (R281, R284). The counter of a
class holds the nonces used. -/
def takeNonce (s : State) (p c : Nat) : State × Bool :=
  let k : Key := ⟨c, 0, 0⟩
  let n := SMap.get s.nonces k 0
  if jobClass c ∧ (2 ^ 40 ≤ n ∨ s.rd .TWY_KEY_TM_TIDEMARK + 2 ^ 27 ≤ s.tidemark) then
    (s.report { cls := 0x07, index := 4, inst := p, void := true, objKind := 8, obj := p, d5 := c, d6 := n }, false)
  else ({ s with nonces := SMap.set s.nonces k 0 (n + 1) }, true)

/-- The location that a port's neighbour has by the plan (R266). -/
def peerLoc (s : State) (p : Nat) : Nat := bits (s.portEntry p) 23 14

/-- The NONCE that an origin's next unit of a class gets (R281). -/
def nextNonce (s : State) (c : Nat) : Nat := SMap.get s.nonces ⟨c, 0, 0⟩ 0

/-- A unit that this package originates, sent on a port. A unit for a job member whose location is not the neighbour's
travels in TRANSIT (R291). -/
def originate (s : State) (p c flits : Nat) (pkn : Option Nat) (guard words : List Nat) (owner : TxOwner := .nobody)
    (src : Nat := srcOwn) : State :=
  let nonce := s.nextNonce c
  let (s, ok) := s.takeNonce p c
  if !ok then s
  else
    let far := match pkn with
      | none => none
      | some n =>
        if s.flag .TWY_PKN_LOC_VALID 0 n ∧ s.rd .TWY_PKN_LOC_LOC 0 n ≠ s.peerLoc p then some (s.rd .TWY_PKN_LOC_LOC 0 n, c)
        else none
    s.queueUnit (s.sealedUnit ⟨p, if far.isSome then cTransit else c, far, guard, words, s.pkn, nonce⟩ c flits owner src)

/-- A unit passed on cut-through with the ORIGIN, NONCE, ciphertext and tags it came with (R281). -/
def passOn (s : State) (u : Sent) (flits src : Nat) (cipher tags : List Nat) : State :=
  s.queueUnit { unit := u, left := flits, size := flits, src := src, tm0 := s.tidemark % 2, att := s.attempt % 4,
                bodies := cipher, tags := tags }

end State

end Sys2Proof.Machine
end

