-- ==== Sys2Proof/Machine/Signals.lean ====
section
/-! DEFINITION. Signal counters, signal words, messages in the SIGNAL class and waits (spec/08_signals_barriers.md, R206
to R234). -/
namespace Sys2Proof.Machine

/-! ### Signal words (R213, R214) -/

namespace SigWord
def kind (w : Nat) : Nat := bits w 63 62
def remote (w : Nat) : Bool := hasBit w 61
def pkn (w : Nat) : Nat := bits w 60 51
def tile (w : Nat) : Nat := bits w 33 22
def counter (w : Nat) : Nat := bits w 21 16
def amount (w : Nat) : Nat := bits w 15 0
end SigWord

/-- Kind and number of a signal's origin as an error record's waiter (R236). -/
def SigSrc.waiter : SigSrc → Nat × Nat
  | .ctx t c => (1, t * 8 + c)
  | .engine t e => (2, t * 8 + e)
  | .tide d c => (4, d * 4 + c)
  | .message p => (3, p)
  | .guard tag => (3, bits tag 31 22)
  | .host => (5, 0)
  | .codec _ => (0, 0)
  | .link => (0, 0)

/-- The instance a signal word's error names: the logical ID of a tile source, 0xFFFF otherwise (R236). -/
def SigSrc.inst : SigSrc → Nat
  | .ctx t _ => t
  | .engine t _ => t
  | _ => 0xFFFF

namespace State

/-- A remote word: REMOTE set and another package's number; the package's own number is local (R214). -/
def wordRemote (s : State) (w : Nat) : Bool := SigWord.remote w && decide (SigWord.pkn w ≠ s.pkn)

/-- Does the signal unit reject a word (R214)? `useAmount`: the word's own AMOUNT is used. `anyTile`: the target-tile
field is ignored (R104). A RESEND word is accepted from a tide engine's own resend only, which does not come here. -/
def wordRejected (s : State) (w : Nat) (useAmount anyTile : Bool) : Bool :=
  decide (2 ≤ SigWord.kind w) || (useAmount && SigWord.amount w == 0) || bits w 50 34 != 0 ||
  (!anyTile && decide (s.nTiles ≤ SigWord.tile w)) ||
  (s.wordRemote w && !s.flag .SIG_ROUTE_VALID 0 (SigWord.pkn w))

/-- The source logical ID or package number of ERR_SIG_WORD (R238): a tile's for a word of its own, else the number of the
package it comes from, this one's where a unit of the package itself sends it. -/
def srcNumber (s : State) : SigSrc → Nat
  | .ctx t _ => t
  | .engine t _ => t
  | .message p => p
  | .guard tag => bits tag 31 22
  | .tide _ _ | .host | .codec _ | .link => s.pkn

/-- A signal word rejected: discarded, with ERR_SIG_WORD, and the step voided (R214, R238). -/
def rejectWord (s : State) (w : Nat) (src : SigSrc) : State :=
  s.report { cls := 0x0A, index := 3, inst := src.inst, void := true, waiterKind := src.waiter.1,
             waiter := src.waiter.2, d5 := w, d6 := s.srcNumber src }

/-! ### Messages (R229) -/

/-- The four words of a message of the SIGNAL class (R229), with its CHECK. -/
def message (s : State) (type dest barrier body : Nat) : List Nat :=
  Msg.close (type + dest * 2 ^ 16 + s.pkn * 2 ^ 32 + barrier * 2 ^ 48) body s.tidemark s.attempt

/-- A message that no route takes, or that is wrong: discarded with ERR_SIG_MSG, and the step voided (R210, R218,
R230, R238). -/
def badMessage (s : State) (ws : List Nat) : State :=
  s.report { cls := 0x0A, index := 6, inst := 0xFFFF, void := true, waiterKind := 3,
             waiter := bits (ws.getD 0 0) 41 32, d5 := ws.getD 0 0, d6 := ws.getD 1 0, d7 := ws.getD 2 0 }

/-- A message sent, or forwarded unchanged, towards a package: on the port that SIG_ROUTE names (R218). -/
def sendMessage (s : State) (dest : Nat) (ws : List Nat) (owner : TxOwner := .nobody) : State :=
  if s.flag .SIG_ROUTE_VALID 0 dest then s.originate (s.rd .SIG_ROUTE_PORT 0 dest) cSignal 1 (some dest) [] ws owner
  else s.badMessage ws

/-! ### Posting (R214 to R218) -/

/-- A signal on its way to one tile of this package (R215). -/
def launch (s : State) (f : Flight) : State := { s with flights := s.flights ++ [f] }

/-- The SIGNAL message of a remote word, with the amount it carries (R218, R229). -/
def sendWord (s : State) (w a : Nat) (owner : TxOwner) : State :=
  s.sendMessage (SigWord.pkn w) (s.message 0x10 (SigWord.pkn w) 0 (withBits w 15 0 a)) owner

/-- Does a store of the context that posts wait for room in a full queue (R216)? -/
def storesOut (s : State) : SigSrc → Bool
  | .ctx t c => s.waitsFrom (.ctx t c)
  | _ => false

/-- A signal word posted: rejected under R214, sent as a SIGNAL message where it is remote (R218), and otherwise on its
way to the target tile. `amount` replaces the word's AMOUNT where a descriptor or a landing class gives one (R214). The
remote word of a context waits on its way, as a local one does, for the context's earlier posts (R216). -/
def post (s : State) (w : Nat) (amount : Option Nat) (src : SigSrc) : State :=
  let a := amount.getD (SigWord.amount w)
  if s.wordRejected w amount.isNone false then s.rejectWord w src
  else if s.wordRemote w then
    match src with
    | .ctx _ _ => s.launch ⟨w, 0, a, src, true, s.storesOut src⟩
    | _ => s.sendWord w a .nobody
  else s.launch ⟨w, SigWord.tile w, a, src, false, s.storesOut src⟩

/-- A guarded transfer's signal word applied at its receiver: its REMOTE and PKN fields are ignored, and a record has it whole
(R238, R285). -/
def postHere (s : State) (w : Nat) (src : SigSrc) : State :=
  if s.wordRejected (withBits w 61 51 0) true false then s.rejectWord w src
  else s.launch ⟨w, SigWord.tile w, SigWord.amount w, src, false, false⟩

/-- A completion signal applied in every tile of a rectangle: the target-tile field of its word is ignored (R104). -/
def postRect (s : State) (w amount : Nat) (tiles : List Nat) (src : SigSrc) : State :=
  if s.wordRejected w false true then s.rejectWord w src
  else tiles.foldl (fun s t => s.launch ⟨w, t, amount, src, false, false⟩) s

/-! ### The counters (R207 to R211) -/

def cntValue (s : State) (t n : Nat) : Nat := s.rd .SIG_CNT_VALUE t n
def cntAdded (s : State) (t n : Nat) : Nat := s.rd .SIG_CNT_ADDED_ADDED t n
def cntTaken (s : State) (t n : Nat) : Nat := s.rd .SIG_CNT_TAKEN_TAKEN t n

/-- Is a counter bounded (R211)? -/
def cntBounded (s : State) (t n : Nat) : Bool := s.flag .SIG_CNT_CFG_MODE t n

/-- The highest VALUE a counter holds: B when bounded, 0xFFFF when plain (R207, R211). -/
def cntCap (s : State) (t n : Nat) : Nat := if s.cntBounded t n then s.rd .SIG_CNT_CFG_BOUND t n else 0xFFFF

/-- The saturation of a counter reported: its bit, the record of R238 and the void (R208, R211). -/
def cntFault (s : State) (f : Fd) (index t n w refused lim : Nat) : State :=
  let s := s.wr f t 0 (setBit (s.rd f t) n)
  s.report { cls := 0x0A, index := index, inst := t, void := true, objKind := 1, obj := t * 64 + n, d5 := w,
             d6 := s.cntValue t n + lim * 2 ^ 16 + refused % 2 ^ 32 * 2 ^ 32 }

/-- Add `a` to a counter (R207, R208, R211); `w` is the signal word. -/
def cntAdd (s : State) (t n a w : Nat) : State :=
  let v := s.cntValue t n + a
  let cap := s.cntCap t n
  let s := s.wr .SIG_CNT_ADDED_ADDED t n (s.cntAdded t n + a)
  if v ≤ cap then s.wr .SIG_CNT_VALUE t n v
  else (s.wr .SIG_CNT_VALUE t n cap).cntFault .SIG_TILE_OVER_OVER (if s.cntBounded t n then 2 else 1) t n w (v - cap) cap

/-- Subtract `a` from a counter (R207, R208). -/
def cntSub (s : State) (t n a w : Nat) : State :=
  let v := s.cntValue t n
  let s := s.wr .SIG_CNT_ADDED_ADDED t n (s.cntAdded t n + (2 ^ 48 - a % 2 ^ 48))
  if a ≤ v then s.wr .SIG_CNT_VALUE t n (v - a)
  else (s.wr .SIG_CNT_VALUE t n 0).cntFault .SIG_TILE_UNDER_UNDER 1 t n w (a - v) 0

/-- Consume `a` from a counter that holds at least `a` (R207). -/
def cntTake (s : State) (t n a : Nat) : State :=
  (s.wr .SIG_CNT_VALUE t n (s.cntValue t n - a)).wr .SIG_CNT_TAKEN_TAKEN t n (s.cntTaken t n + a)

/-- Set a counter: ADDED becomes TAKEN plus the value (R207). -/
def cntSet (s : State) (t n v : Nat) : State :=
  (s.wr .SIG_CNT_VALUE t n v).wr .SIG_CNT_ADDED_ADDED t n (s.cntTaken t n + v)

/-- The wait of a waiter ends: a context is ready to be woken with its result, the array has its amount and starts its pass
in the same cycle (R138, R139, R210). -/
def endWait (s : State) (t who result : Nat) : State :=
  if who < 4 then
    let c := s.ctx t who
    match c.wait with
    | .counter _ _ rd => s.setCtx t who { c with wait := .served rd result }
    | _ => s
  else (s.countPass t).beginPass t

/-- Waiters served strictly in order while VALUE suffices (R209, R210). -/
def serveFrom (s : State) (t n : Nat) : List Waiter → State
  | [] => s.setWaiters t n []
  | w :: ws =>
    if w.amount ≤ s.cntValue t n then ((s.cntTake t n w.amount).endWait t w.who 0).serveFrom t n ws
    else s.setWaiters t n (w :: ws)

/-- The waiters of a counter served (R209 step 4). -/
def serve (s : State) (t n : Nat) : State := s.serveFrom t n (s.waitersOn t n)

/-- A signal to a tile behind a closed shutter: discarded with ERR_ISOLATED (R214, R237). -/
def isolateSignal (s : State) (f : Flight) : State :=
  let n := SigWord.counter f.word
  s.report { cls := 0x0A, index := 0x84, inst := f.tile, void := s.running, objKind := 7,
             obj := 0x1000000 + f.tile * 0x4000 + 0x2000 + n * 0x20,
             waiterKind := f.src.waiter.1, waiter := f.src.waiter.2 }

/-- The amounts of the adds, or of the subtractions, among signals, summed, and the word of the last of them (R209, R238). A
resend signal that its tile takes is an add (R108). -/
def signalSum (fs : List Flight) (sub : Bool) : Nat × Option Nat :=
  fs.foldl (fun x f => if (SigWord.kind f.word == 1) = sub then (x.1 + f.amount, some f.word) else x) (0, none)

/-- The signals that arrive at one counter in one tile cycle: the adds, summed, then the subtractions, summed, then the
waiters (R207, R209). -/
def applySignals (s : State) (t n : Nat) (fs : List Flight) : State :=
  if !s.isOpen kTile t then fs.foldl (fun s f => s.isolateSignal f) s
  else
    let s := match signalSum fs false with | (a, some w) => s.cntAdd t n a w | (_, none) => s
    let s := match signalSum fs true with | (a, some w) => s.cntSub t n a w | (_, none) => s
    s.serve t n

/-- A signal that arrives alone at a tile's signal unit. -/
def arriveSignal (s : State) (f : Flight) : State := s.applySignals f.tile (SigWord.counter f.word) [f]

/-- Is a message of a context's posts still unacknowledged by the first hop (R216, R217)? -/
def postsOut (s : State) (src : SigSrc) : Bool :=
  match src with
  | .ctx t c => s.links.any fun e =>
      (e.2.queue.any fun u => u.owner == .post t c) || e.2.replay.any fun f => f.owner == .post t c
  | _ => false

/-- A ferry's signal word, which is local, applied at once: its completion entry follows it (R214, R353). -/
def applyWord (s : State) (w : Nat) (src : SigSrc) : State :=
  if s.wordRejected w true false then s.rejectWord w src
  else s.arriveSignal ⟨w, SigWord.tile w, SigWord.amount w, src, false, false⟩

/-- May entry `i` of the signals on their way arrive next? Not before an earlier one of the same context, nor before a
message of it has gone, nor while stores of it wait that were there when it was posted (R216). -/
def mayArrive (s : State) (i : Nat) : Option Flight :=
  match s.flights[i]? with
  | none => none
  | some f =>
    match f.src with
    | .ctx _ _ =>
      if (s.flights.take i).any (fun g => g.src == f.src) || s.postsOut f.src || (f.behind && s.storesOut f.src) then none
      else some f
    | _ => some f

/-! ### Waits (R210, R233, R234) -/

/-- A waiter added at the end of the order of a counter, and served at once if it can be (R210). -/
def beginWait (s : State) (t n : Nat) (w : Waiter) : State :=
  (s.setWaiters t n (s.waitersOn t n ++ [w])).serve t n

/-- The record of a wait on a counter that expires (R234, R238). -/
def counterTimeout (s : State) (t n amount who : Nat) : State :=
  s.report { cls := 0x0A, index := 0, inst := t, void := false, objKind := 1, obj := t * 64 + n,
             waiterKind := if who < 4 then 1 else 2, waiter := if who < 4 then t * 8 + who else t * 8 + 3,
             waiters := (s.waitersOn t n).length - 1, d5 := s.rd .SIG_TILE_LIMIT_LIMIT_US t who, d6 := amount }

/-- The number of contexts that wait on a barrier. -/
def barWaiters (s : State) (b : Nat) : Nat :=
  (s.ctxs.filter fun e => match e.2.wait with | .barrier b' _ _ => b' == b | _ => false).length

/-- The record of a BAR.WAIT that expires (R234, R238). -/
def barrierWaitTimeout (s : State) (t c b : Nat) : State :=
  s.report { cls := 0x0A, index := 0, inst := t, void := false, objKind := 2, obj := b, waiterKind := 1,
             waiter := t * 8 + c, waiters := s.barWaiters b - 1, d5 := s.rd .SIG_TILE_LIMIT_LIMIT_US t c,
             d6 := s.rd .SIG_BAR_STATE_GEN 0 b }

end State

end Sys2Proof.Machine
end

