-- ==== Sys2Proof/Machine/Tide.lean ====
section
/-! DEFINITION. The tide engines' contexts: windows and marks, the walker, slots, landing, books, releases, credits and
resends (spec/02_tide.md, spec/03_home_update.md, R25 to R83, R497). -/
namespace Sys2Proof.Machine

namespace State

/-! ### A context and its registers -/

def tctx (s : State) (d c : Nat) : TideCtx := SMap.get s.tctxs ⟨d, c, 0⟩ TideCtx.init
def setTctx (s : State) (d c : Nat) (x : TideCtx) : State :=
  { s with tctxs := SMap.set s.tctxs ⟨d, c, 0⟩ TideCtx.init x }

def tideValid (s : State) (d c : Nat) : Bool := s.flag .TIDE_SD_CFG_VALID d c
def tideDir (s : State) (d c : Nat) : Nat := s.rd .TIDE_SD_CFG_DIR d c
def tideStrand (s : State) (d c : Nat) : Nat := s.rd .TIDE_SD_CFG_STRAND d c
def tidePos (s : State) (d c : Nat) : Nat := s.rd .TIDE_SD_RING_POS d c
def tideLen (s : State) (d c : Nat) : Nat := s.rd .TIDE_SD_RING_LEN d c
def tideFolded (s : State) (d : Nat) : Bool := s.rd .TIDE_CTRL_MODE d == 2

/-- Resident mode (R18): MODE decides alone, whatever TIDE_SD_RING.LEN holds (DESIGN CHOICE, assumption 41). -/
def tideResident (s : State) (d : Nat) : Bool := s.rd .TIDE_CTRL_MODE d == 3

/-- W, the lap positions of the window (R38). -/
def tideW (s : State) (d c : Nat) : Nat := 2 ^ s.rd .TIDE_SD_WINDOW_LOG2 d c

/-- u, the accumulator slots in units of 64 KiB (R38). -/
def tideU (s : State) (d c : Nat) : Nat :=
  match s.rd .TIDE_SD_WINDOW_ACC_UNITS d c with | 2 => 2 | 3 => 4 | _ => 0

def ownMark (s : State) (d c : Nat) : Nat := s.rd .TIDE_SD_MARKS_OWN_MARK d c
def downMark (s : State) (d c : Nat) : Nat := s.rd .TIDE_SD_MARKS_DOWN_MARK d c

/-- Where slot `p mod W` keeps its payload, its accumulator and its header flit (R38). -/
def landAddr (s : State) (d c p : Nat) : Nat := s.rd .TIDE_SD_LB_BASE d c * 2 ^ 16 + 65536 * (p % s.tideW d c)
def accAddr (s : State) (d c p : Nat) : Nat :=
  s.rd .TIDE_SD_LB_BASE d c * 2 ^ 16 + 65536 * s.tideW d c + 65536 * s.tideU d c * (p % s.tideW d c)
def headAddr (s : State) (d c p : Nat) : Nat := s.rd .TIDE_SD_HDR_BASE_BASE d c * 4096 + 256 * (p % s.tideW d c)

/-- The ring positions downstream and upstream (R37); on a folded strand laps run up the virtual ring (R58). -/
def tideDown (s : State) (d c : Nat) : Nat :=
  if s.tideDir d c = 0 ∨ s.tideFolded d then (s.tidePos d c + 1) % s.tideLen d c
  else (s.tidePos d c + s.tideLen d c - 1) % s.tideLen d c
def tideUp (s : State) (d c : Nat) : Nat :=
  if s.tideDir d c = 0 ∨ s.tideFolded d then (s.tidePos d c + s.tideLen d c - 1) % s.tideLen d c
  else (s.tidePos d c + 1) % s.tideLen d c

/-- The requesters a context makes at the controllers: landing writes, and its reads (R260). -/
def tideWriter (d c : Nat) : Req := { num := 0, waiterKind := 4, waiter := d * 4 + c }
def tideReader (d c : Nat) : Req := { num := 3, waiterKind := 4, waiter := d * 4 + c }

/-- ERR_ISOLATED of a tide engine's access at a shutter that is not open (R237). -/
def tideIsolated (s : State) (d c a : Nat) (f : Option Fail) : State :=
  if f = some .isolated then s.reportIsolated 0x06 d a 4 (d * 4 + c) else s

/-- A read of a context. -/
def tideRead (s : State) (d c a n : Nat) : State × Except Fail (List Byte) :=
  match s.readSpan (tideReader d c) a n with
  | (s, .ok bs) => (s, .ok bs)
  | (s, .error f) => (s.tideIsolated d c a (some f), .error f)

/-- A write of a context. -/
def tideWrite (s : State) (d c a : Nat) (bs : List Byte) : State × Option Fail :=
  let (s, f) := s.writeSpan (tideWriter d c) a bs
  (s.tideIsolated d c a f, f)

/-- Does a context take part in the tide? -/
def tideOn (s : State) (d c : Nat) : Bool := s.flag .TIDE_CTRL_ENABLE d && s.tideValid d c

/-- Every context of the package. -/
def tideAll : List (Nat × Nat) := (List.range 4).flatMap fun d => (List.range 4).map fun c => (d, c)

/-- The context that carries a strand and direction (R37). -/
def tideFind (s : State) (strand dir : Nat) : Option (Nat × Nat) :=
  tideAll.find? fun x => s.tideValid x.1 x.2 && s.tideStrand x.1 x.2 == strand && s.tideDir x.1 x.2 == dir

/-- TIDE_ERR_INFO loaded by the first error since TIDE_ERR_STATUS was all clear (R64); a write that R64 discards sets
CONFIG and is no error. -/
def tideInfoOf (s : State) (d ctx lap detail : Nat) : State :=
  if s.regVal .TIDE_ERR_STATUS d 0 ≠ 0 ∧ s.tideInfo.contains d then s
  else
    let s := { s with tideInfo := d :: s.tideInfo.filter (· != d) }
    ((s.wr .TIDE_ERR_INFO_DETAIL d 0 (min detail 0xFFFFFFFF)).wr .TIDE_ERR_INFO_CTX d 0 ctx).wr .TIDE_ERR_INFO_LAP_POS d 0 lap

/-- A write that an enabled engine discards (R64). -/
def tideDiscard (s : State) (d : Nat) : State :=
  let s := if s.regVal .TIDE_ERR_STATUS d 0 = 0 then { s with tideInfo := s.tideInfo.filter (· != d) } else s
  s.setErr 0x06 7 d

/-- Error `n` of a tide engine (R64): TIDE_ERR_INFO holds the first, and every one writes a record. DETAIL of the errors for
which R64 names no content is the store entry or the index of the record (ERR_CODEBOOK), the block or the ACC field
(ERR_TIDE_RESEND), the lap position of the entry before (ERR_TIDE_LAPLIST), and 0 (ERR_TIDE_CONFIG) (DESIGN CHOICE, assumption
41). -/
def tideErr (s : State) (n d c lap detail : Nat) (void : Bool) : State :=
  let obj := s.tideDir d c * 2 ^ 27 + s.tideStrand d c * 2 ^ 25 + lap % 2 ^ 25
  (s.tideInfoOf d (obj / 2 ^ 25) lap detail).report
    { cls := 0x06, index := n, inst := d, void := void, objKind := 4, obj := obj, waiterKind := 4,
      waiter := d * 4 + c, d5 := detail, d6 := s.ownMark d c, d7 := s.downMark d c }

/-- An error of a tide engine that no context of its own has: `ctx` is the strand and direction concerned, in the layout of
TIDE_ERR_INFO.CTX (R64). -/
def engineErr (s : State) (n d ctx lap : Nat) : State :=
  (s.tideInfoOf d ctx lap 0).report
    { cls := 0x06, index := n, inst := d, void := false, objKind := 4, obj := ctx * 2 ^ 25 + lap }

def eWindow : Nat := 1
def eRelease : Nat := 2
def eDir : Nat := 3
def eCodebook : Nat := 4
def eHeader : Nat := 5
def eStall : Nat := 6
def eConfig : Nat := 7
def eResend : Nat := 8
def eLaplist : Nat := 9

/-! ### Slots -/

/-- The slot that holds lap position `p`. -/
def slotAt (s : State) (d c p : Nat) : Option Slot :=
  (SMap.find (s.tctx d c).slots ⟨p % s.tideW d c, 0, 0⟩).filter fun x => x.p == p

def setSlot (s : State) (d c : Nat) (x : Slot) : State :=
  let t := s.tctx d c
  s.setTctx d c { t with slots := SMap.insert t.slots ⟨x.p % s.tideW d c, 0, 0⟩ x }

/-- A landing class (R49). -/
def classReleases (s : State) (k : Nat) : Nat := s.rd .TIDE_LCLASS_RELEASES 0 k
def classRect (s : State) (k : Nat) : Nat :=
  s.rd .TIDE_LCLASS_DIES 0 k + s.rd .TIDE_LCLASS_ROW_LO 0 k * 2 ^ 4 + s.rd .TIDE_LCLASS_ROW_HI 0 k * 2 ^ 9 +
  s.rd .TIDE_LCLASS_COL_LO 0 k * 2 ^ 14 + s.rd .TIDE_LCLASS_COL_HI 0 k * 2 ^ 19

/-- The landing signal of a segment on its way to every tile of its class (R48); `again` marks it as a resend signal
with the context and the lap position (R60, R108). -/
def raiseLanding (s : State) (d c : Nat) (head : List Nat) (again : Bool) : State :=
  let k := Hdr.lclass head
  let n := s.rd .TIDE_LCLASS_COUNTER 0 k
  let word := if again then 2 ^ 63 + Hdr.lap head * 2 ^ 37 + s.tideDir d c * 2 ^ 36 + s.tideStrand d c * 2 ^ 34 +
    n * 2 ^ 16 else n * 2 ^ 16
  (s.fuses.rectTiles (s.classRect k)).foldl
    (fun s t => s.launch ⟨word, t, s.rd .TIDE_LCLASS_AMOUNT 0 k, .tide d c, false, false⟩) s

/-- Has a package finished the lap position a slot holds (R39, R78)? A frame that only passes on this visit of a folded
strand counts as installed once the shared store holds its book (`markInstalled`). -/
def slotFinished (s : State) (d c : Nat) (x : Slot) : Bool :=
  let gone := x.onward != .due
  if Hdr.isFrame x.head then x.installed && gone
  else if Hdr.isBackward x.head && x.home then x.back && x.state == .draining
  else x.state == .draining && gone &&
    (!(Hdr.isBackward x.head && x.onward == .sent) || decide (x.p < s.downMark d c))

/-- A CREDIT message sent upstream with the mark as it stands (R41, R44). -/
def sendCredit (s : State) (d c : Nat) : State :=
  let m := s.ownMark d c
  let s := s.setTctx d c { s.tctx d c with reported := m }
  if s.tideResident d then s
  else
    let w0 := 0x01 + s.tideStrand d c * 2 ^ 8 + s.tideDir d c * 2 ^ 10 + s.tideUp d c * 2 ^ 16 + m * 2 ^ 32
    s.originate (s.rd .TIDE_SD_CFG_RX_PORT d c) cSignal 1 none [] (Msg.close w0 0 s.tidemark (s.rd .TIDE_ATTEMPT_ATTEMPT d))

/-- The mark past every finished lap position from `m` on. -/
def advance (fin : List Nat) : Nat → Nat → Nat
  | 0, m => m
  | n + 1, m => if fin.contains m then advance fin n (m + 1) else m

/-- Finished lap positions leave their slots; OWN_MARK and the report upstream follow (R39, R41, R45). -/
def settle (s : State) (d c : Nat) : State :=
  let t := s.tctx d c
  let fin := t.slots.filter fun e => s.slotFinished d c e.2
  let done := t.done ++ fin.map fun e => e.2.p
  let own := s.ownMark d c
  let mark := advance done done.length own
  let s := s.setTctx d c { t with slots := t.slots.filter fun e => !s.slotFinished d c e.2
                                  done := done.filter fun p => decide (mark ≤ p) }
  if mark = own then s
  else
    let s := s.wr .TIDE_SD_MARKS_OWN_MARK d c mark
    if t.reported + s.rd .TIDE_SD_WINDOW_CREDIT_STEP d c ≤ mark then s.sendCredit d c else s

/-! ### Books (R53, R54, R182, R192) -/

/-- The context that keeps the codebook store: the flood context of the strand where the strand is folded (R58). -/
def storeOwner (s : State) (d c : Nat) : Nat × Nat :=
  if s.tideFolded d then (s.tideFind (s.tideStrand d c) 0).getD (d, c) else (d, c)

/-- The contexts that share a codebook store. -/
def storeUsers (s : State) (d c : Nat) : List (Nat × Nat) :=
  if s.tideFolded d then tideAll.filter fun x => s.tideValid x.1 x.2 && s.tideStrand x.1 x.2 == s.tideStrand d c
  else [(d, c)]

/-- The installed book of a store entry. -/
def storeBook (s : State) (d c cb : Nat) : Option StoreBook :=
  let (d', c') := s.storeOwner d c
  SMap.get s.books ⟨d', c', cb⟩ none

/-- Where a store entry lies (R53). -/
def storeAddr (s : State) (d c cb : Nat) : Nat :=
  let (d', c') := s.storeOwner d c
  s.rd .TIDE_SD_CB_BASE_BASE d' c' * 2 ^ 16 + cb * 32768

/-- A frame at a lower lap position than `p` still waits to install entry `cb`: its book is not yet installed (R54). -/
def framePending (s : State) (d c cb p : Nat) : Bool :=
  (s.storeUsers d c).any fun x => (s.tctx x.1 x.2).slots.any fun e =>
    Hdr.isFrame e.2.head && !e.2.installed && Hdr.cbSlot e.2.head == cb && decide (e.2.p < p)

/-- The store entries that a landed segment refers to, by its header (R27, R54): the planes of an entry are those of the
book of plane 0, once that is installed. -/
def headerRefs (s : State) (d c : Nat) (h : List Nat) : List Nat :=
  let planes := fun (cb : Nat) => match s.storeBook d c cb with | none => 1 | some b => Codec.planes b.format
  let group := fun (cb : Nat) => (List.range (planes cb)).map fun j => (cb + j) % 64
  (if Hdr.epoch h = 0 then [] else group (Hdr.cbSlot h)) ++
  (if Hdr.isBackward h && Hdr.accEpoch h != 0 then group (Hdr.accCbSlot h) else [])

/-- Does a slot hold a landed segment that refers to entry `cb`: signalled, held for its want decision, or deferred for
a book (R54)? A skipped or unwanted segment refers to none. -/
def refersTo (s : State) (d c cb : Nat) (x : Slot) : Bool :=
  x.landed && x.lands && x.want != .no && !Hdr.isFrame x.head && (x.refs.contains cb || (s.headerRefs d c x.head).contains cb)

/-- The landed segments below lap position `p`, not finished, that refer to a store entry (R54). Segments above a frame
at `p` wait for its book, and the frame does not wait for them (DEDUCED, assumption 11). -/
def refCount (s : State) (d c cb p : Nat) : Nat :=
  (s.storeUsers d c).foldl (fun n x =>
    n + ((s.tctx x.1 x.2).slots.filter fun e => decide (e.2.p < p) && s.refersTo x.1 x.2 cb e.2).length) 0

/-- What the books of a segment say: `none` one is not yet installed; `some (.error cb)` entry `cb` does not match the
header; `some (.ok refs)` every one matches (R54). A segment's planes are those of the book of plane 0. -/
def bookCheck (s : State) (d c : Nat) (x : Slot) : Option (Except Nat (List Nat)) :=
  let h := x.head
  let groups := (Hdr.cbSlot h, Hdr.epoch h) :: (if Hdr.isBackward h then [(Hdr.accCbSlot h, Hdr.accEpoch h)] else [])
  groups.foldl (fun acc g =>
    match acc with
    | some (.ok refs) =>
      if g.2 = 0 then acc
      else
        let look := fun (cb : Nat) => if s.framePending d c cb x.p then none else s.storeBook d c cb
        match look g.1 with
        | none => none
        | some b0 =>
          (List.range (Codec.planes b0.format)).foldl (fun acc j =>
            match acc with
            | some (.ok refs) =>
              let cb := (g.1 + j) % 64
              match look cb with
              | none => none
              | some b =>
                if b.home = Hdr.home h ∧ b.tensor = Hdr.tensor h ∧ b.plane = j ∧ b.epoch = g.2 then
                  some (.ok (refs ++ [cb]))
                else some (.error cb)
            | r => r) (some (.ok refs))
    | r => r) (some (.ok []))

/-- What the books decide about a landed segment (R48, R54, R56): they are compared at landing, whether the want decision
is open or not; the landing signal is raised, held for the want decision, deferred until a book is installed, or
replaced by ERR_CODEBOOK. -/
def trySignal (s : State) (d c : Nat) (x : Slot) : State :=
  let waits := if x.want == .open then SlotState.heldWant else .arriving
  match s.bookCheck d c x with
  | none => s.setSlot d c { x with state := waits }
  | some (.error cb) => (s.setSlot d c { x with state := .arriving, bad := true }).tideErr eCodebook d c x.p cb true
  | some (.ok refs) =>
    if x.want == .open then s.setSlot d c { x with state := waits, refs := refs }
    else (s.setSlot d c { x with state := .signalled, refs := refs }).raiseLanding d c x.head false

/-- Does a frame's book pass the checks of R182? `bs` holds the bytes its PAYLOAD_FLITS cover. -/
def frameOk (h : List Nat) (bs : List Byte) : Bool :=
  let b := Codec.head bs
  Hdr.payloadFlits h == (64 + 4 * b.size + 255) / 256 && Codec.bookOk bs && b.tensor == Hdr.tensor h &&
  b.plane == Hdr.plane h && b.epoch == Hdr.epoch h && b.home == Hdr.home h

/-- Signals that waited for a book, tried again (R54). -/
def retrySignals (s : State) (d c : Nat) : State :=
  (s.storeUsers d c).foldl (fun s x =>
    (s.tctx x.1 x.2).slots.foldl (fun s e =>
      match s.slotAt x.1 x.2 e.2.p with
      | some y =>
        if (y.state == .arriving || y.state == .heldWant) && y.landed && !y.bad && y.want != .no &&
            !Hdr.isFrame y.head then s.trySignal x.1 x.2 y
        else s
      | none => s) s) s

/-- The book of a frame is in the shared store: the visits of a folded strand that only pass the frame are finished with
it too (R39, R58). -/
def markInstalled (s : State) (d c : Nat) (x : Slot) : State :=
  (s.storeUsers d c).foldl (fun s u =>
    match s.slotAt u.1 u.2 x.p with
    | some y =>
      if Hdr.isFrame y.head && !y.lands && Hdr.cbSlot y.head == Hdr.cbSlot x.head then
        (s.setSlot u.1 u.2 { y with installed := true }).settle u.1 u.2
      else s
    | none => s) s

/-- Does the store hold the book that a frame carries (R54, R182)? -/
def holdsBook (s : State) (d c : Nat) (h : List Nat) : Bool :=
  match s.storeBook d c (Hdr.cbSlot h) with
  | none => false
  | some b => b.home == Hdr.home h && b.tensor == Hdr.tensor h && b.plane == Hdr.plane h && b.epoch == Hdr.epoch h

/-- A landed frame's book installed, once no landed segment refers to its entry (R54); the reverse index that follows it
is the engine's own (R181). -/
def installFrame (s : State) (d c : Nat) (x : Slot) : State :=
  let cb := Hdr.cbSlot x.head
  if s.refCount d c cb x.p ≠ 0 then s
  else
    let (s, r) := s.tideRead d c x.addr (256 * Hdr.payloadFlits x.head)
    match r with
    | .error _ => s
    | .ok bs =>
      if !frameOk x.head bs then s.tideErr eCodebook d c x.p cb true
      else
        let b := Codec.head bs
        let a := s.storeAddr d c cb
        let (s, w) := s.tideWrite d c a (bs.take (64 + 4 * b.size))
        match w with
        | some _ => s
        | none =>
          let (tag, s) := s.draw
          let s := { s with mem := s.mem.lose (.span (a + 16448) (a + 32768)) tag }
          let (d', c') := s.storeOwner d c
          let entry : Option StoreBook := some ⟨b.home, b.tensor, b.plane, b.epoch, b.format, b.grad⟩
          let s := { s with books := SMap.set s.books ⟨d', c', cb⟩ none entry }
          (((s.setSlot d c { x with installed := true }).markInstalled d c x).retrySignals d c).settle d c

/-! ### Want decisions (R55, R56) -/

/-- The want bit of a tag. -/
def wanted (s : State) (tag : Nat) : Bool := hasBit (s.rd .TIDE_WANT_WANT 0 (tag / 32)) (tag % 32)

/-- The decision of a segment at its header, or the moment it is still open (R56). -/
def wantNow (s : State) (d c : Nat) (h : List Nat) : Want :=
  if !Hdr.expert h then .yes
  else if s.rd .TIDE_SD_WANT_MARK_MARK d c ≤ Hdr.lap h then .open
  else if s.wanted (Hdr.tag h) then .yes else .no

/-- An unwanted segment drains: a backward one is sent on untouched (R56, R79). -/
def drainUnwanted (s : State) (d c : Nat) (x : Slot) : State :=
  let on := if Hdr.isBackward x.head && !x.home then Onward.due else x.onward
  (s.setSlot d c { x with state := .draining, want := .no, onward := on }).settle d c

/-- What follows once a slot's writes are acknowledged and its groups verified (R45, R48, R54, R56). -/
def slotLanded (s : State) (d c : Nat) (x : Slot) : State :=
  if x.bad then s.setSlot d c x
  else if Hdr.isFrame x.head then (s.setSlot d c { x with state := .draining }).settle d c
  else if x.want == .no then s.drainUnwanted d c x
  else s.trySignal d c x

/-- WANT_MARK raised: every open decision below it is taken (R56); a write that would lower it is discarded (R55). -/
def raiseWantMark (s : State) (d c m : Nat) : State :=
  if m ≤ s.rd .TIDE_SD_WANT_MARK_MARK d c then s
  else
    let s := s.wr .TIDE_SD_WANT_MARK_MARK d c m
    (s.tctx d c).slots.foldl (fun s e =>
      match s.slotAt d c e.2.p with
      | some x =>
        if x.want == .open && decide (x.p < m) then
          let y := { x with want := if s.wanted (Hdr.tag x.head) then Want.yes else .no }
          let s := if y.want == .no then s.bump .TIDE_SD_SKIPPED_COUNT d c 1 else s
          if x.state == .heldWant then s.slotLanded d c y else s.setSlot d c y
        else s
      | none => s) s

/-! ### Memory of a slot -/

/-- The header-array entry of a slot written: the header flit with the package's own landing record (R29, R68). -/
def writeHead (s : State) (d c p : Nat) (head rec : List Nat) : State × Bool :=
  let (s, w) := s.tideWrite d c (s.headAddr d c p) (wordBytes (head.take 24 ++ rec))
  (s, w.isNone)

/-- The accumulator blocks of an arriving backward segment written at their fixed stride; the raw map of those written
(R68). -/
def writeBlocks (s : State) (d c addr a : Nat) (acc : List Byte) : State × Nat × Bool :=
  let es := accMap a acc
  let data := accData a acc
  (List.range es.length).foldl (fun (r : State × Nat × Bool) j =>
    let e := es.getD j 0
    if AccEntry.present e then
      let (s, w) := r.1.tideWrite d c (addr + 4096 * j)
        (padTo 16 ((data.drop (16 * AccEntry.offset e)).take (AccEntry.bytes e)))
      (s, r.2.1 + (if AccEntry.raw e then 2 ^ j else 0), r.2.2 && w.isNone)
    else r) (s, 0, true)

/-- The landing writes of a segment: payload, accumulator and header-array entry (R29, R48, R68). -/
def landSegment (s : State) (d c : Nat) (g : Seg) : State × Bool :=
  let p := Hdr.lap g.head
  let a := s.landAddr d c p
  let (s, w) := s.tideWrite d c a g.payload
  let acc := if Hdr.isBackward g.head then s.accAddr d c p else 0
  let (s, raw, ok) := if Hdr.isBackward g.head && !Hdr.accZero g.head then
      s.writeBlocks d c acc (Hdr.accBlocks g.head) g.acc else (s, 0, true)
  let (s, ok') := s.writeHead d c p g.head
    (landingRecord a acc raw (if Hdr.isBackward g.head then Hdr.accBlocks g.head else 0) 0)
  (s, w.isNone && ok && ok')

/-- The landing record of a slot as it stands in the header array (words 24 to 28). -/
def readRecord (s : State) (d c p : Nat) : State × Except Fail (List Nat) :=
  let (s, r) := s.tideRead d c (s.headAddr d c p + 192) 40
  (s, r.map bytesWords)

/-- The accumulator flits of a slot, with the blocks that `keep` names: the map rebuilt, coded lengths taken from the
block headers, blocks that no COMPRESS has written after an arrival with ACC_ZERO sent as zeros (R67, R68, R71). -/
def accFlitsOf (s : State) (d c : Nat) (x : Slot) (keep : Nat → Bool) : State × Except Fail (List Byte) :=
  let (s, r) := s.readRecord d c x.p
  match r with
  | .error e => (s, .error e)
  | .ok rec =>
    let a := Hdr.accBlocks x.head
    let init : State × Except Fail (List Nat × List Byte) := (s, .ok ([], []))
    let (s, out) := (List.range a).foldl (fun (acc : State × Except Fail (List Nat × List Byte)) j =>
      match acc.2 with
      | .error _ => acc
      | .ok (es, data) =>
        let add := fun (s : State) (raw : Bool) (blk : List Byte) =>
          (s, (.ok (es ++ [data.length / 16 * 2 ^ 32 + 2 ^ 14 + b2n raw * 2 ^ 13 + blk.length], data ++ padTo 16 blk) :
            Except Fail (List Nat × List Byte)))
        if !keep j then (acc.1, .ok (es ++ [0], data))
        else if Hdr.accZero x.head && !hasBit (at0 rec 4) j then add acc.1 true (zeroBytes 4096)
        else
          let addr := at0 rec 1 + 4096 * j
          let (s, b) := acc.1.tideRead d c addr 4096
          match b with
          | .error e => (s, .error e)
          | .ok blk =>
            if hasBit (at0 rec 2) j then add s true blk
            else add s false (blk.take (min 4096 (16 + (Codec.blockHead blk).codedLen)))) init
    (s, out.map fun x =>
      wordBytes (x.1 ++ List.replicate (32 * mapFlits a - x.1.length) 0) ++ padTo 256 x.2)

/-! ### Sending (R46, R51, R71) -/

/-- The words of a segment as it goes out, its landing record zeros (R29). -/
def segWords (g : Seg) : List Nat :=
  g.head.take 24 ++ List.replicate 8 0 ++ bytesWords g.payload ++ bytesWords g.acc

/-- The flits of a segment. -/
def segFlits (g : Seg) : Nat := 1 + g.payload.length / 256 + g.acc.length / 256

/-- The class in which a context sends: that of its direction; on a folded strand that of the leg it sends along, so that
the package at the far end sends on ebb what it receives on flood, and the one at the near end the reverse (R58). -/
def sendClass (s : State) (d c : Nat) : Nat :=
  if s.tideFolded d then (if s.tidePos d c < s.tideLen d c / 2 then cFlood else cEbb)
  else if s.tideDir d c = 0 then cFlood else cEbb

/-- A segment sent on a context's sending port, as origin or passed on unchanged (R281). -/
def sendSegment (s : State) (d c : Nat) (g : Seg) (origin : Bool) : State :=
  let p := s.rd .TIDE_SD_CFG_TX_PORT d c
  let cls := s.sendClass d c
  if origin then s.originate p cls (segFlits g) none [] (segWords g) .nobody (d * 4 + c)
  else s.passOn ⟨p, cls, none, [], segWords g, g.origin, g.nonce⟩ (segFlits g) (d * 4 + c) g.cipher g.tags

/-- A header with words of its fields replaced and HCHECK recomputed. -/
def rehead (h : List Nat) (w0 w4 w5 : Nat) : List Nat :=
  Hdr.sealWords [w0, hw h 1, hw h 2, hw h 3, w4, w5, hw h 6] ((h.drop 8).take 16)

/-- A segment forwarded from its slot: the stored payload read, and for a backward one the accumulator rebuilt (R47,
R51, R71). -/
def sendFromSlot (s : State) (d c : Nat) (x : Slot) : State :=
  let (s, r) := s.tideRead d c x.addr (256 * Hdr.payloadFlits x.head)
  match r with
  | .error _ => s
  | .ok pay =>
    let done := fun (s : State) => (s.setSlot d c { x with onward := .sent }).settle d c
    if !Hdr.isBackward x.head then
      done ((s.bump .TIDE_SD_FWD_STALL_COUNT d c 1).sendSegment d c { head := x.head, payload := pay, acc := [] } true)
    else
      let (s, rec) := s.readRecord d c x.p
      match rec with
      | .error _ => s
      | .ok rec =>
        if Hdr.accZero x.head && at0 rec 4 == 0 then done (s.sendSegment d c { head := x.head, payload := pay, acc := [] } true)
        else
          let (s, acc) := s.accFlitsOf d c x fun _ => true
          match acc with
          | .error _ => s
          | .ok acc =>
            let h := rehead x.head (clearBit (hw x.head 0) 15) (withBits (hw x.head 4) 50 40 (acc.length / 256)) (hw x.head 5)
            done (s.sendSegment d c { head := h, payload := pay, acc := acc } true)

/-- Slots whose onward sending is due and may go: landed, within the window, and not in the cut-through queue (R40,
R46). -/
def slotCandidates (s : State) (d c : Nat) : List Nat :=
  let t := s.tctx d c
  (t.slots.filter fun e => e.2.onward == .due && e.2.landed && !e.2.bad &&
    decide (e.2.p < s.downMark d c + s.tideW d c) && !(t.cut.any fun g => Hdr.lap g.head == e.2.p)).map fun e => e.2.p

/-! ### The walker (R32 to R34, R40, R497) -/

/-- A directory entry read through the engine's cache, which does not snoop memory (R33). A cached entry stands at its
index modulo 65,536. -/
def dirRead (s : State) (d c i : Nat) : State × Option Nat :=
  let k : Key := ⟨d, i % 65536, 0⟩
  match SMap.get s.dcache k none with
  | some (j, e) => if j = i then (s, some e) else go k
  | none => go k
where
  go (k : Key) : State × Option Nat :=
    let s := s.bump .TIDE_DCACHE_MISS_COUNT d 0 1
    let (s, r) := s.tideRead d c (s.rd .TIDE_DIR_BASE_BASE d * 4096 + 16 * i) 16
    match r with
    | .error _ => (s, none)
    | .ok bs => ({ s with dcache := SMap.set s.dcache k none (some (i, leNat bs)) }, some (leNat bs))

/-- A context stopped by a fault of its walker. -/
def stopWalker (s : State) (d c : Nat) : State := s.setTctx d c { s.tctx d c with stopped := true }

/-- The walker past an entry: NEXT advances, and the lap position is remembered (R34). -/
def passEntry (s : State) (d c p : Nat) : State :=
  (s.setTctx d c { s.tctx d c with last := some p }).count .TIDE_SD_INJ_NEXT d c 1

/-- Does the window let the walker inject lap position `p` (R40)? -/
def windowOpen (s : State) (d c p : Nat) : Bool :=
  let m := if s.tideResident d then s.ownMark d c else min (s.ownMark d c) (s.downMark d c)
  decide (p < m + s.tideW d c)

/-- The words of the header that the walker writes at an injection (R497). -/
def injectWords (s : State) (d c e dir idx : Nat) (stored : List Nat) : List Nat :=
  let back := LapEntry.kind e == 1
  let fmt := if !back then 0 else match s.rd .TIDE_SD_WINDOW_ACC_UNITS d c with | 3 => 1 | 2 => 2 | _ => 0
  let present := ((List.range 16).filter fun n => MapEntry.present (Hdr.mapEntry stored n)).length
  let w0 := (if back then Hdr.backward else Hdr.forward) + 0x10 + DirEntry.strand dir * 2 ^ 8 + DirEntry.dir dir * 2 ^ 10 +
    LapEntry.landPass e * 2 ^ 11 + b2n (DirEntry.expert dir) * 2 ^ 12 + b2n (DirEntry.trainable dir) * 2 ^ 13 +
    b2n back * 2 ^ 15 + fmt * 2 ^ 16 + s.tidePos d c * 2 ^ 18 + (present - 1) * 2 ^ 38
  let w1 := LapEntry.lap e + idx * 2 ^ 25 + LapEntry.lclass e * 2 ^ 50 + Hdr.cbSlot stored * 2 ^ 58
  let w2 := DirEntry.tensor dir + DirEntry.tag dir * 2 ^ 20 + DirEntry.epoch dir * 2 ^ 36 + Hdr.accEpoch stored * 2 ^ 44 +
    Hdr.accCbSlot stored * 2 ^ 52
  let w4 := s.rd .TIDE_JOB_JOB d + DirEntry.length dir * 2 ^ 32 + s.rd .TIDE_ATTEMPT_ATTEMPT d * 2 ^ 51
  let w5 := if back then Hdr.accBlocks stored * 2 ^ 16 else 0
  Hdr.sealWords [w0, w1, w2, s.tidemark, w4, w5, 0] ((stored.drop 8).take 16)

/-- A segment injected at its home: the slot, the header-array entry that points at the stored copy, and the sending;
a backward lap raises nothing until its return (R47, R78). In resident mode nothing is sent and a backward lap is at
once its own return. -/
def injectSegment (s : State) (d c e dir : Nat) : State :=
  let p := LapEntry.lap e
  let (s, r) := s.tideRead d c (DirEntry.addr dir) (256 * (DirEntry.length dir + 2))
  match r with
  | .error _ => s.stopWalker d c
  | .ok bs =>
    let head := s.injectWords d c e dir (LapEntry.index e) (bytesWords (bs.take 256))
    let pay := bs.drop 256
    let res := s.tideResident d
    let back := LapEntry.kind e == 1
    let want := if back then Want.yes else s.wantNow d c head
    let addr := DirEntry.addr dir + 256
    let s := s.passEntry d c p
    let s := s.setTctx d c { s.tctx d c with laps := (s.tctx d c).laps ++ [⟨p, head, addr⟩] }
    let (s, ok) := if back && !res then (s, true)
      else s.writeHead d c p head (landingRecord addr (if back then s.accAddr d c p else 0) 0
        (if back then Hdr.accBlocks head else 0) 0)
    let s := if want == .no then s.bump .TIDE_SD_SKIPPED_COUNT d c 1 else s
    let slot : Slot :=
      { p := p, state := if want == .no then .draining else .arriving, head := head, addr := addr, home := true,
        back := back && res, lands := want != .no, landed := false, bad := !ok, want := want,
        onward := if res then .none else .sent, releases := 0, refs := [], asked := [], again := 0,
        installed := false }
    let s := s.setSlot d c slot
    (if res then s else s.sendSegment d c { head := head, payload := pay, acc := [] } true).settle d c

/-- A codebook frame injected at its home, which installs its own book (R53, R184, R185). -/
def injectFrame (s : State) (d c e : Nat) : State :=
  let p := LapEntry.lap e
  let i := LapEntry.index e
  let fault := fun (s : State) => (s.stopWalker d c).tideErr eCodebook d c p i true
  if 2 ^ 20 ≤ i then fault s
  else
    let (s, r) := s.tideRead d c (s.rd .TIDE_DIR_BASE_BASE d * 4096 + 0x20000000 + 32 * i) 32
    match r with
    | .error _ => s.stopWalker d c
    | .ok rec =>
      let ws := bytesWords rec
      let w0 := at0 ws 0
      let w1 := at0 ws 1
      let dir := if s.tideFolded d then 0 else s.tideDir d c
      if !BookRecord.valid w0 || BookRecord.strand w1 != s.tideStrand d c || BookRecord.dir w1 != dir then fault s
      else
        let (s, r) := s.tideRead d c (BookRecord.book w0) 64
        match r with
        | .error _ => s.stopWalker d c
        | .ok hb =>
          if bits (at0 (bytesWords hb) 0) 31 0 ≠ BookRecord.ident w1 then fault s
          else
            let size := (Codec.head hb).size
            let (s, r) := s.tideRead d c (BookRecord.book w0) (64 + 4 * size)
            match r with
            | .error _ => s.stopWalker d c
            | .ok book =>
              let pay := padTo 256 book
              let h0 := Hdr.frame + 0x10 + s.tideStrand d c * 2 ^ 8 + s.tideDir d c * 2 ^ 10 +
                LapEntry.landPass e * 2 ^ 11 + s.tidePos d c * 2 ^ 18
              let h1 := p + LapEntry.lclass e * 2 ^ 50 + BookRecord.cbSlot w1 * 2 ^ 58
              let h2 := BookRecord.tensor w1 + BookRecord.epoch w1 * 2 ^ 36 + BookRecord.plane w1 * 2 ^ 58
              let h4 := s.rd .TIDE_JOB_JOB d + (pay.length / 256 - 1) * 2 ^ 32 + s.rd .TIDE_ATTEMPT_ATTEMPT d * 2 ^ 51
              let head := Hdr.sealWords [h0, h1, h2, s.tidemark, h4, 0, 0] (List.replicate 16 0)
              let s := s.passEntry d c p
              let s := s.setTctx d c { s.tctx d c with laps := (s.tctx d c).laps ++ [⟨p, head, BookRecord.book w0⟩] }
              let res := s.tideResident d
              let slot : Slot :=
                { p := p, state := .draining, head := head, addr := BookRecord.book w0, home := true, back := false,
                  lands := false, landed := true, bad := false, want := .yes, onward := if res then .none else .sent,
                  releases := 0, refs := [], asked := [], again := 0, installed := false }
              let s := s.setSlot d c slot
              let s := if res then s else s.sendSegment d c { head := head, payload := pay, acc := [] } true
              s.installFrame d c slot

/-- May the walker of a context take its next entry? On a folded strand the out-leg context injects (R59). -/
def walkerReady (s : State) (d c : Nat) : Bool :=
  s.tideOn d c && s.rd .TIDE_CTRL_MODE d != 0 && !s.flag .TIDE_CTRL_PAUSE d && !(s.tctx d c).stopped &&
  decide (s.rd .TIDE_SD_INJ_NEXT d c < s.rd .TIDE_SD_LAPCOUNT_COUNT d c) &&
  (!s.tideFolded d || decide (s.tidePos d c ≤ s.tideLen d c / 2)) &&
  (s.tideResident d || s.portUp (s.rd .TIDE_SD_CFG_TX_PORT d c))

/-- The next lap-list entry. -/
def lapRead (s : State) (d c : Nat) : State × Except Fail Nat :=
  let (s, r) := s.tideRead d c (s.rd .TIDE_SD_LAPLIST_BASE d c * 8 + 8 * s.rd .TIDE_SD_INJ_NEXT d c) 8
  (s, r.map leNat)

/-- Does R34 reject a lap-list entry: a reserved bit or KIND, or a lap position not above that of the entry before? -/
def lapBad (s : State) (d c e : Nat) : Bool :=
  LapEntry.reserved e != 0 || LapEntry.kind e == 3 || (s.tctx d c).last.any fun q => decide (LapEntry.lap e ≤ q)

/-- The walker takes its next entry: checked, then injected, or the context stops (R32, R34, R80). -/
def injectNext (s : State) (d c e : Nat) : State :=
  let p := LapEntry.lap e
  if s.lapBad d c e then
    (s.stopWalker d c).tideErr eLaplist d c p ((s.tctx d c).last.getD 0) true
  else if LapEntry.kind e = 2 then s.injectFrame d c e
  else
    let i := LapEntry.index e
    let fault := fun (s : State) => (s.stopWalker d c).tideErr eDir d c p i true
    if s.rd .TIDE_DIR_COUNT_COUNT d ≤ i then fault s
    else
      let (s, r) := s.dirRead d c i
      match r with
      | none => s.stopWalker d c
      | some dir =>
        let back := LapEntry.kind e == 1
        if !DirEntry.valid dir || DirEntry.home dir != s.tidePos d c || DirEntry.strand dir != s.tideStrand d c ||
            DirEntry.dir dir != s.tideDir d c || (!back && DirEntry.lap dir != p) || (back && !DirEntry.trainable dir)
        then fault s
        else s.injectSegment d c e dir

/-- The candidates of a context with their lap positions: the head of the cut-through queue, the next injection (an
entry that R34 rejects counts at once), and the waiting slots. A segment at the head of the queue goes within the window alone,
a resent copy outside it too (R40, R60). -/
def candidates (s : State) (d c : Nat) : List (Nat × Candidate) :=
  let up := s.portUp (s.rd .TIDE_SD_CFG_TX_PORT d c) && !s.tideResident d
  let cut := match (s.tctx d c).cut with
    | g :: _ =>
      let p := Hdr.lap g.head
      if up && (Hdr.resend g.head || decide (p < s.downMark d c + s.tideW d c)) then [(p, Candidate.cut)] else []
    | [] => []
  let walk := if !s.walkerReady d c then [] else
    match (s.lapRead d c).2 with
    | .error _ => [(0, Candidate.walk 0)]
    | .ok e =>
      if s.lapBad d c e then [(0, Candidate.walk e)]
      else if s.windowOpen d c (LapEntry.lap e) then [(LapEntry.lap e, Candidate.walk e)] else []
  let slots := if up then (s.slotCandidates d c).map fun p => (p, Candidate.slot p) else []
  cut ++ walk ++ slots

/-- The candidate with the lowest lap position. -/
def firstCandidate : List (Nat × Candidate) → Option (Nat × Candidate)
  | [] => none
  | x :: xs =>
    match firstCandidate xs with
    | none => some x
    | some y => if y.1 < x.1 then some y else some x

/-- The walker's read of its entry counted, then the entry taken; a read that fails stops the walker. -/
def walkOn (s : State) (d c : Nat) : State :=
  let (s, r) := s.lapRead d c
  match r with
  | .error _ => s.stopWalker d c
  | .ok e => s.injectNext d c e

/-- The head of the cut-through queue sent on unchanged (R47, R281). -/
def sendCut (s : State) (d c : Nat) : State :=
  match (s.tctx d c).cut with
  | [] => s
  | g :: gs =>
    let s := (s.setTctx d c { s.tctx d c with cut := gs }).sendSegment d c g false
    if Hdr.resend g.head then s
    else match s.slotAt d c (Hdr.lap g.head) with
      | some x => (s.setSlot d c { x with onward := .sent }).settle d c
      | none => s

/-- A context sends its next candidate (R46). -/
def sendNext (s : State) (d c : Nat) : State :=
  if !s.tideOn d c || (s.tctx d c).voided then s
  else match firstCandidate (s.candidates d c) with
    | none => s
    | some (_, .cut) => s.sendCut d c
    | some (_, .walk _) => s.walkOn d c
    | some (_, .slot p) => match s.slotAt d c p with | some x => s.sendFromSlot d c x | none => s

/-- The walker injects its next entry, when that is the context's lowest candidate (R46). -/
def walkerStep (s : State) (d c : Nat) : State :=
  match firstCandidate (s.candidates d c) with
  | some (_, .walk _) => s.walkOn d c
  | _ => s

/-! ### Receiving (R30, R42, R47, R52, R59, R60, R69) -/

/-- Does an interior package of a folded strand land on this visit (R59, R77)? The home's back-leg visit never lands. -/
def visitLands (s : State) (d c : Nat) (h : List Nat) : Bool :=
  if !s.tideFolded d then true
  else
    let v := s.tideLen d c
    let pos := s.tidePos d c
    let other := (v - pos) % v
    let home := Hdr.home h
    if other = pos then true
    else if other = home then false
    else
      let first := decide ((pos + v - home) % v < (other + v - home) % v)
      first == (Hdr.landPass h == 0)

/-- A resent copy that has reached its TARGET: the blocks it carries written into the slot (R60, R82). -/
def takeResent (s : State) (d c : Nat) (g : Seg) : State :=
  let p := Hdr.lap g.head
  match s.slotAt d c p with
  | none => s
  | some x =>
    let mask := Hdr.resendMask g.head
    let (s, ok) := (List.range 16).foldl (fun (r : State × Bool) n =>
      let e := Hdr.mapEntry g.head n
      if hasBit mask n && MapEntry.present e then
        let (s, w) := r.1.tideWrite d c (x.addr + 16 * MapEntry.offset (Hdr.mapEntry x.head n))
          ((g.payload.drop (16 * MapEntry.offset e)).take (MapEntry.bytes e))
        (s, r.2 && w.isNone)
      else r) (s, true)
    if !Hdr.isBackward g.head || Hdr.accZero g.head then s.setSlot d c { x with again := x.again + b2n ok }
    else
      let (s, r) := s.readRecord d c p
      match r with
      | .error _ => s
      | .ok rec =>
        let a := Hdr.accBlocks g.head
        let (s, raws, ok') := s.writeBlocks d c (at0 rec 1) a g.acc
        let es := accMap a g.acc
        let raw := (List.range es.length).foldl (fun v j =>
          if AccEntry.present (es.getD j 0) then withBits v j j (bit raws j) else v) (at0 rec 2)
        let (s, w) := s.tideWrite d c (s.headAddr d c p + 208) (leBytes 8 raw)
        s.setSlot d c { x with again := x.again + b2n (ok && ok' && w.isNone) }

/-- A slot for an arriving segment. -/
def arriveSlot (s : State) (d c : Nat) (h : List Nat) (state : SlotState) (lands : Bool) (want : Want) (onward : Onward) :
    Slot :=
  { p := Hdr.lap h, state := state, head := h, addr := s.landAddr d c (Hdr.lap h), home := false, back := false,
    lands := lands, landed := false, bad := false, want := want, onward := onward, releases := 0, refs := [],
    asked := [], again := 0, installed := !lands && s.holdsBook d c h && Hdr.isFrame h }

/-- A segment placed in a slot, landed or queued for cut-through as R47 decides. -/
def placeSegment (s : State) (d c : Nat) (g : Seg) (x : Slot) (cut : Bool) : State :=
  let (s, ok) := if x.lands then s.landSegment d c g else (s, true)
  let s := s.setSlot d c { x with bad := !ok }
  let s := if cut then s.setTctx d c { s.tctx d c with cut := (s.tctx d c).cut ++ [g] } else s
  s.settle d c

/-- Does another context that shares the landing buffer (R58) hold data of another lap position in the slot of `p`? -/
def slotShared (s : State) (d c p : Nat) : Bool :=
  (s.storeUsers d c).any fun u => u != (d, c) &&
    match SMap.find (s.tctx u.1 u.2).slots ⟨p % s.tideW u.1 u.2, 0, 0⟩ with
    | some x => x.p != p && x.lands && x.addr == s.landAddr u.1 u.2 x.p
    | none => false

/-- The return of a backward lap at its home (R78). A return that no slot waits for is ERR_TIDE_WINDOW, as a segment that
finds its slot taken is (DESIGN CHOICE, assumption 41). -/
def acceptReturn (s : State) (d c : Nat) (g : Seg) : State :=
  let p := Hdr.lap g.head
  match s.slotAt d c p with
  | some x =>
    if x.home && !x.back && !s.slotShared d c p then
      let (s, ok) := s.landSegment d c g
      s.setSlot d c { x with head := g.head, addr := s.landAddr d c p, back := true, landed := false, bad := !ok }
    else s.tideErr eWindow d c p (s.ownMark d c) true
  | none => s.tideErr eWindow d c p (s.ownMark d c) true

/-- A segment of this step and attempt (R42, R47, R51, R56, R58, R59, R69, R77 to R79). A backward segment that is skipped, or
only passes on this visit, is never landed (R77, R79): without credit it waits in the cut-through queue, since the row of R47
that lands a segment for lack of credit speaks of forward ones (DESIGN CHOICE, assumption 41). -/
def acceptSegment (s : State) (d c : Nat) (g : Seg) : State :=
  let h := g.head
  let p := Hdr.lap h
  let back := Hdr.isBackward h
  if back && backwardFault h (s.rd .TIDE_SD_WINDOW_ACC_UNITS d c) then
    s.tideErr eHeader d c p 0xFFFFFFFF true
  else match (if back && !Hdr.accZero h then accMapFault (Hdr.resend h) (Hdr.accBlocks h) (Hdr.accFlits h) g.acc else none) with
    | some j => s.tideErr eHeader d c p j true
    | none =>
      if Hdr.resend h then
        if Hdr.target h != s.tidePos d c then s.setTctx d c { s.tctx d c with cut := (s.tctx d c).cut ++ [g] }
        else s.takeResent d c g
      else if back && Hdr.home h == s.tidePos d c then s.acceptReturn d c g
      else if (SMap.find (s.tctx d c).slots ⟨p % s.tideW d c, 0, 0⟩).isSome then
        s.tideErr eWindow d c p (s.ownMark d c) true
      else
        let ends := !back && Hdr.home h == s.tideDown d c
        let credit := decide (p < s.downMark d c + s.tideW d c)
        let want := s.wantNow d c h
        let lands := s.visitLands d c h
        let skip := lands && want == .no
        if s.slotShared d c p && !((skip || !lands) && (ends || credit || back)) then s.tideErr eWindow d c p (s.ownMark d c) true
        else
        let s := if skip then s.bump .TIDE_SD_SKIPPED_COUNT d c 1 else s
        if skip || !lands then
          if ends then s.placeSegment d c g (s.arriveSlot d c h .draining false .no .none) false
          else if credit || back then s.placeSegment d c g (s.arriveSlot d c h .draining false .no .due) true
          else s.placeSegment d c g (s.arriveSlot d c h .arriving true .no .due) false
        else if back then s.placeSegment d c g (s.arriveSlot d c h .arriving true want .none) false
        else
          s.placeSegment d c g (s.arriveSlot d c h .arriving true want (if ends then .none else .due)) (credit && !ends)

/-- A received header compared with the job's step (R30, R52). Between a void and the next attempt a segment of the voided
one goes the way that R52 gives it afterwards (DESIGN CHOICE, assumption 41). -/
def judgeSegment (s : State) (d c : Nat) (g : Seg) : State :=
  let h := g.head
  if !Hdr.sound h || Hdr.job h != s.rd .TIDE_JOB_JOB d then s.tideErr eHeader d c (Hdr.lap h) 0xFFFFFFFF true
  else if Hdr.tidemark h = s.tidemark then
    if Hdr.attempt h = s.rd .TIDE_ATTEMPT_ATTEMPT d ∧ (s.tctx d c).voided = false then s.acceptSegment d c g
    else s.bump .TIDE_SD_STALE_COUNT d c 1
  else if Hdr.tidemark h = s.tidemark + 1 then s.setTctx d c { s.tctx d c with held := (s.tctx d c).held ++ [g] }
  else s.tideErr eHeader d c (Hdr.lap h) 0xFFFFFFFF true

/-- A segment that arrives: behind those held for the next step, or judged at once (R52). -/
def arriveSegment (s : State) (d c : Nat) (g : Seg) : State :=
  if !s.tideOn d c then s
  else if (s.tctx d c).held.isEmpty then s.judgeSegment d c g
  else s.setTctx d c { s.tctx d c with held := (s.tctx d c).held ++ [g] }

/-- The writes of a slot acknowledged and its groups verified (R48); a resent copy raises its signal again (R60). -/
def landingDone (s : State) (d c p : Nat) : State :=
  match s.slotAt d c p with
  | none => s
  | some x =>
    if 0 < x.again then (s.setSlot d c { x with again := x.again - 1 }).raiseLanding d c x.head true
    else if x.landed || !x.lands || (x.home && Hdr.isBackward x.head && !x.back) then s
    else
      let inPlace := x.addr ≠ s.landAddr d c p
      let s := if inPlace then s else s.bump .TIDE_SD_LANDED_COUNT d c 1
      s.slotLanded d c { x with landed := true }

/-- A group of a slot that has failed to verify: the slot never reaches SIGNALLED (R48, R283). -/
def spoilSlot (s : State) (d c p : Nat) : State :=
  match s.slotAt d c p with
  | none => s
  | some x => if 0 < x.again then s.setSlot d c { x with again := x.again - 1 } else s.setSlot d c { x with bad := true }

/-! ### Releases (R50, R51) -/

/-- A release of a lap position (R50). `i`: the TIDE instance that was written, which reports a release that no context
takes. -/
def releaseLap (s : State) (i strand dir p : Nat) : State :=
  match s.tideFind strand dir with
  | none => s.engineErr eRelease i (dir * 4 + strand) p
  | some (d, c) =>
    match SMap.find (s.tctx d c).slots ⟨p % s.tideW d c, 0, 0⟩ with
    | none => s.tideErr eRelease d c p 0 false
    | some x =>
      let most := s.classReleases (Hdr.lclass x.head)
      if x.state ≠ .signalled ∨ x.p ≠ p ∨ most ≤ x.releases then s.tideErr eRelease d c p x.releases false
      else if x.releases + 1 < most then s.setSlot d c { x with releases := x.releases + 1 }
      else
        let on := if Hdr.isBackward x.head && !x.home then Onward.due else x.onward
        (s.setSlot d c { x with releases := x.releases + 1, state := .draining, onward := on }).settle d c

/-! ### Control messages (R41, R44, R60, R81) -/

/-- A downstream mark received: applied only if greater (R41). -/
def applyCredit (s : State) (d c m : Nat) : State :=
  if m ≤ s.downMark d c then s else (s.wr .TIDE_SD_MARKS_DOWN_MARK d c m).settle d c

/-- A CREDIT message (R41, R44). -/
def takeCredit (s : State) (d c : Nat) (ws : List Nat) : State :=
  if Msg.tidemark ws = s.tidemark + 1 then
    s.setTctx d c { s.tctx d c with heldCredit := max (s.tctx d c).heldCredit (Msg.mark ws) }
  else if Msg.tidemark ws = s.tidemark ∧ Msg.attempt ws = s.rd .TIDE_ATTEMPT_ATTEMPT d ∧ (s.tctx d c).voided = false then
    s.applyCredit d c (Msg.mark ws)
  else s.bump .TIDE_SD_STALE_COUNT d c 1

/-- The blocks of a payload that a mask names, packed in block order under the storage rules of R26, and the block map of
the copy that carries them: PRESENT in those entries alone (R82). With an empty mask the payload is one flit of zeros. -/
def pickBlocks (h : List Nat) (pay : List Byte) (mask : Nat) : List Nat × List Byte :=
  let (map, bs) := (List.range 16).foldl (fun (r : List Nat × List Byte) n =>
    let e := Hdr.mapEntry h n
    if hasBit mask n && MapEntry.present e then
      (r.1 ++ [withBits e 27 16 (r.2.length / 16)],
       r.2 ++ padTo 16 ((pay.drop (16 * MapEntry.offset e)).take (MapEntry.bytes e)))
    else (r.1 ++ [0], r.2)) ([], [])
  (map, if bs.isEmpty then zeroBytes 256 else padTo 256 bs)

/-- A resent copy on its way to `target` (R60, R82): the header with RESEND, TARGET, RESEND_MASK and the copy's own flit
counts and block map. -/
def sendCopy (s : State) (d c mask target : Nat) (h : List Nat) (pay acc : List Byte) : State :=
  let (map, bs) := pickBlocks h pay mask
  let w0 := withBits (setBit (hw h 0) 14) 37 28 target
  let w0 := if acc.isEmpty then w0 else clearBit w0 15
  let w4 := withBits (withBits (hw h 4) 39 32 (bs.length / 256 - 1)) 50 40 (acc.length / 256)
  let head := Hdr.sealWords [w0, hw h 1, hw h 2, hw h 3, w4, withBits (hw h 5) 15 0 mask, hw h 6] map
  s.sendSegment d c { head := head, payload := bs, acc := acc } true

/-- The resent copy of a lap injected here, from LOCATION (R60, R82). -/
def resendWeights (s : State) (d c mask target : Nat) (l : Injected) : State :=
  let (s, r) := s.tideRead d c l.addr (256 * Hdr.payloadFlits l.head)
  match r with
  | .error _ => s
  | .ok pay => s.sendCopy d c mask target l.head pay []

/-- The resent copy of accumulator blocks of a slot, with the weight blocks asked for beside them (R60, R82). -/
def resendBlocks (s : State) (d c mask first last target : Nat) (x : Slot) : State :=
  let (s, acc) := s.accFlitsOf d c x fun j => decide (first ≤ j ∧ j ≤ last)
  match acc with
  | .error _ => s
  | .ok acc =>
    let (s, r) := if mask = 0 then (s, .ok [])
      else s.tideRead d c x.addr (256 * Hdr.payloadFlits x.head)
    match r with
    | .error _ => s
    | .ok pay => s.sendCopy d c mask target x.head pay acc

/-- A RESEND message: forwarded towards the package it addresses, or served (R44, R60, R81). `target`: the ring position
of the requester. A package that has only passed the segment on has sent no accumulator blocks of its own: it hands the
request to its own upstream neighbour, and so on to the package that did (R60, R83; DESIGN CHOICE, assumption 41). -/
def takeResend (s : State) (d c : Nat) (ws : List Nat) (target : Nat) : State :=
  if Msg.tidemark ws ≠ s.tidemark ∨ Msg.attempt ws ≠ s.rd .TIDE_ATTEMPT_ATTEMPT d ∨ (s.tctx d c).voided = true then
    s.bump .TIDE_SD_STALE_COUNT d c 1
  else if Msg.tideDest ws ≠ s.tidePos d c then
    s.originate (s.rd .TIDE_SD_CFG_RX_PORT d c) cSignal 1 none [] ws
  else
    let a := Msg.acc ws
    let p := Msg.lap ws
    if hasBit a 15 then
      if bits a 11 6 < bits a 5 0 then s.tideErr eResend d c p a true
      else match s.slotAt d c p with
        | some x =>
          if !Hdr.isBackward x.head || x.home then s
          else if x.lands then s.resendBlocks d c (Msg.blocks ws) (bits a 5 0) (bits a 11 6) target x
          else s.originate (s.rd .TIDE_SD_CFG_RX_PORT d c) cSignal 1 none []
            (Msg.close (withBits (hw ws 0) 31 16 (s.tideUp d c)) (hw ws 1) (Msg.tidemark ws) (Msg.attempt ws))
        | none => s
    else match (s.tctx d c).laps.find? fun l => l.p == p with
      | some l => s.resendWeights d c (Msg.blocks ws) target l
      | none => s

/-- A fetch of a landed block has failed with ERR_SHINGLE: one RESEND for the block, or ERR_TIDE_RESEND at its second
failure (R60). A block read in place, at its home or in resident mode, is asked of nobody (R198). Accumulator blocks are asked
of the immediate upstream ring position, which hands the request on where it has not sent them itself (`takeResend`; DESIGN
CHOICE, assumption 41). -/
def askAgain (s : State) (strand dir p : Nat) (acc : Bool) (j : Nat) : State :=
  match s.tideFind strand dir with
  | none => s
  | some (d, c) =>
    match s.slotAt d c p with
    | none => s
    | some x =>
      if s.tideResident d || (!acc && x.addr ≠ s.landAddr d c p) then s
      else if x.asked.contains (acc, j) then s.tideErr eResend d c p j true
      else
        let s := s.setSlot d c { x with asked := x.asked ++ [(acc, j)] }
        let dest := if acc then s.tideUp d c else Hdr.home x.head
        let w0 := 0x02 + s.tideStrand d c * 2 ^ 8 + s.tideDir d c * 2 ^ 10 + dest * 2 ^ 16
        let w1 := p + (if acc then accRequest j j * 2 ^ 48 else 2 ^ j * 2 ^ 32)
        s.originate (s.rd .TIDE_SD_CFG_RX_PORT d c) cSignal 1 none []
          (Msg.close w0 w1 s.tidemark (s.rd .TIDE_ATTEMPT_ATTEMPT d))

/-! ### Enabling, pausing, voiding, and the next step (R38, R39, R49, R55, R62, R63) -/

/-- Does a context fail the enable check: a window beyond its landing buffer, or, where segments travel, a port that is
not UP (R38, R289)? -/
def ctxEnableBad (s : State) (d c : Nat) : Bool :=
  let ports := s.rd .TIDE_CTRL_MODE d == 1 || s.rd .TIDE_CTRL_MODE d == 2
  s.tideValid d c &&
  (decide (s.rd .TIDE_SD_LB_SIZE d c < s.tideW d c * (1 + s.tideU d c)) ||
   (ports && !(s.portUp (s.rd .TIDE_SD_CFG_RX_PORT d c) && s.portUp (s.rd .TIDE_SD_CFG_TX_PORT d c))))

/-- Does the enable check of a tide engine pass (R38, R49, R289)? -/
def tideEnableOk (s : State) (d : Nat) : Bool :=
  !s.holdsAtShore && (List.range 4).all (fun c => !s.ctxEnableBad d c) &&
  (List.range 256).all fun k => decide (s.rd .TIDE_LCLASS_ROW_HI 0 k < s.fuses.logicalRows) &&
    decide (s.rd .TIDE_LCLASS_ROW_LO 0 k < s.fuses.logicalRows)

/-- The directory cache of an engine invalidated (R33). -/
def dropDirCache (s : State) (d : Nat) : State := { s with dcache := SMap.drop s.dcache fun k => k.a == d }

/-- A walker at entry 0. -/
def restartWalker (s : State) (d c : Nat) : State :=
  (s.setTctx d c { s.tctx d c with last := none, stopped := false, voided := false }).wr .TIDE_SD_INJ_NEXT d c 0

/-- TIDE_CTRL.ENABLE written from 0 to 1: the checks, then the walkers start, or ERR_TIDE_CONFIG (R38). TIDE_DCACHE_MISS is
cleared here alone, so that a write of 1 over 1 keeps it; and an ERR_TIDE_CONFIG that no context causes names the strand and
direction of context 0 (DESIGN CHOICE, assumption 41). -/
def enableTide (s : State) (d : Nat) : State :=
  if s.flag .TIDE_CTRL_ENABLE d then s
  else if !s.tideEnableOk d then
    let c := ((List.range 4).find? fun c => s.ctxEnableBad d c).getD 0
    s.engineErr eConfig d (s.tideDir d c * 4 + s.tideStrand d c) 0
  else
    let s := ((s.wr .TIDE_CTRL_ENABLE d 0 1).dropDirCache d).wr .TIDE_DCACHE_MISS_COUNT d 0 0
    (List.range 4).foldl (fun s c =>
      ((((s.restartWalker d c).wr .TIDE_SD_LANDED_COUNT d c 0).wr .TIDE_SD_SKIPPED_COUNT d c 0).wr
        .TIDE_SD_FWD_STALL_COUNT d c 0).wr .TIDE_SD_STALE_COUNT d c 0) s

/-- TIDE_CTRL.PAUSE written (R62). QUIESCENT stays set until PAUSE is cleared, whatever arrives in between (DESIGN CHOICE,
assumption 41). -/
def pauseTide (s : State) (d : Nat) (on : Bool) : State :=
  let s := s.wr .TIDE_CTRL_PAUSE d 0 (b2n on)
  if on then s else s.wr .TIDE_STATUS_QUIESCENT d 0 0

/-- Is no flit of the job in flight on an engine's contexts (R62)? -/
def tideQuiet (s : State) (d : Nat) : Bool :=
  (List.range 4).all fun c => !s.tideValid d c ||
    ((s.tctx d c).cut.isEmpty && (s.slotCandidates d c).isEmpty &&
     (s.tctx d c).slots.all fun e => !(e.2.lands && !e.2.landed && !e.2.bad && !(e.2.home && Hdr.isBackward e.2.head)))

/-- TIDE_CTRL.VOID written: every slot freed, marks at 0, stores empty, want table and directory cache cleared (R63). What is
held for the next step, segments and a CREDIT mark alike, stays held for it (R44, R52; DESIGN CHOICE, assumption 41). -/
def voidTide (s : State) (d : Nat) : State :=
  let s := (List.range 4).foldl (fun s c =>
    let t := s.tctx d c
    let s := s.setTctx d c { TideCtx.init with stopped := true, voided := true, held := t.held, heldCredit := t.heldCredit }
    ((s.wr .TIDE_SD_MARKS_OWN_MARK d c 0).wr .TIDE_SD_MARKS_DOWN_MARK d c 0).wr .TIDE_SD_WANT_MARK_MARK d c 0) s
  let s := { s with books := SMap.drop s.books fun k => k.a == d
                    regs := SMap.drop s.regs fun k => k.a == Fd.TIDE_WANT_WANT.ctorIdx }
  s.dropDirCache d

/-- The next attempt is in force: its traffic is accepted, though the walkers still wait for their restart (R52, R63, R375). -/
def openTide (s : State) (d : Nat) : State :=
  (List.range 4).foldl (fun s c => s.setTctx d c { s.tctx d c with voided := false }) s

/-- The step's state of a context at a tidemark increment: slots free, marks 0, the walker at the start, then the held
CREDIT (R34, R39, R44, R45, R55). -/
def newStepCtx (s : State) (d c : Nat) : State :=
  let t := s.tctx d c
  let s := s.setTctx d c { TideCtx.init with held := t.held }
  let s := ((((s.wr .TIDE_SD_MARKS_OWN_MARK d c 0).wr .TIDE_SD_MARKS_DOWN_MARK d c t.heldCredit).wr
    .TIDE_SD_WANT_MARK_MARK d c 0).wr .TIDE_SD_INJ_NEXT d c 0)
  s

/-- The segments held for the step that has begun, judged again (R52). -/
def rejudgeSegments (s : State) (d c : Nat) : State :=
  let held := (s.tctx d c).held
  let s := s.setTctx d c { s.tctx d c with held := [] }
  held.foldl (fun s g => s.judgeSegment d c g) s

/-- The tide at a tidemark increment (R33, R34, R39, R52, R55, R377). -/
def tideNewStep (s : State) : State :=
  let s := { s with dcache := [], regs := SMap.drop s.regs fun k => k.a == Fd.TIDE_WANT_WANT.ctorIdx }
  let s := (List.range 4).foldl (fun s d => s.wr .TIDE_ATTEMPT_ATTEMPT d 0 0) s
  let s := tideAll.foldl (fun s x => s.newStepCtx x.1 x.2) s
  tideAll.foldl (fun s x => s.rejudgeSegments x.1 x.2) s

end State

end Sys2Proof.Machine
end

