-- ==== Sys2Proof/Machine/Tile.lean ====
section
/-! DEFINITION. The tile beside its memories: contexts that start, stop, halt and trap (R95, R96, R123), engine queues and
tickets (R100, R101), the completion of descriptors (R104 to R106), resend slots (R107, R108) and the waits of the array
(R138, R146). -/
namespace Sys2Proof.Machine

/-- The bits of TILE_ERR_STATUS (R121). -/
def tShingle : Nat := 0
def tUe : Nat := 1
def tTrap : Nat := 2
def tDesc : Nat := 3
def tAddr : Nat := 4
def tArm : Nat := 5
def tWaterline : Nat := 6
def tStarve : Nat := 7

namespace State

/-- Does a tile run: its shutter is open? While it closes, nothing that the tile requests is granted (R305, R399). -/
def tileUp (s : State) (t : Nat) : Bool := s.isOpen kTile t

/-- Are cores and engine queues held by a pause (R360)? -/
def pausing (s : State) : Bool := s.jobState == jobPausing || s.jobState == jobPaused

def ctxRun (s : State) (t c : Nat) : Bool := s.flag .TILE_CTX_CTRL_RUN t c

/-- Is a context runnable (TILE_STATUS.RUNNING): RUN set, not halted, not blocked (R95, R121)? -/
def runnable (s : State) (t c : Nat) : Bool :=
  s.ctxRun t c && !s.flag .TILE_CTX_CTRL_HALTED t c && decide ((s.ctx t c).wait = .none)

/-- The context that holds a tile's core: the one that ran last, or the next runnable one in circular order (R95). -/
def onCore (s : State) (t : Nat) : Option Nat :=
  if !s.tileUp t || s.pausing then none
  else
    let c := SMap.get s.current ⟨t, 0, 0⟩ 0
    ([c, (c + 1) % 4, (c + 2) % 4, (c + 3) % 4]).find? fun i => s.runnable t i

/-- A context holds the core from now on. -/
def takeCore (s : State) (t c : Nat) : State := { s with current := SMap.set s.current ⟨t, 0, 0⟩ 0 c }

/-! ### Starting, stopping, halting (R96, R123, R359) -/

/-- HST_STATUS.JOB_IDLE rises once every context is halted or has never run, while the job state is RUNNING (R359). -/
def judgeIdle (s : State) : State :=
  let busy := s.ctxs.any fun e => e.2.ran && !s.flag .TILE_CTX_CTRL_HALTED e.1.a e.1.b
  if s.jobState ≠ jobRunning ∨ busy ∨ s.flag .HST_STATUS_JOB_IDLE then s
  else
    let s := s.wr .HST_STATUS_JOB_IDLE 0 0 1
    if s.flag .HST_INT_EN_IDLE then s.raiseVector 2 else s

/-- RUN set: a context that is not halted starts at TILE_CTX_PC (R123). -/
def startCtx (s : State) (t c : Nat) : State :=
  if s.flag .TILE_CTX_CTRL_HALTED t c ∨ s.ctxRun t c then s
  else
    let x := s.ctx t c
    let pc := BitVec.ofNat 32 (0x00200000 + 2 * s.rd .TILE_CTX_PC_PC t c)
    (s.setCtx t c { x with pc := pc, wait := .none, ran := true }).wr .TILE_CTX_CTRL_RUN t c 1

/-- A waiter gives up its place at a counter: those behind it are served while VALUE suffices (R207, R210). -/
def leaveCounter (s : State) (t n who : Nat) : State :=
  if (s.waitersOn t n).any fun w => w.who == who then
    (s.setWaiters t n ((s.waitersOn t n).filter fun w => w.who != who)).serve t n
  else s

/-- A context that waits leaves every order of waiting it stands in. -/
def endWaits (s : State) (t c : Nat) : State :=
  let x := s.ctx t c
  let s := match x.wait with
    | .counter n _ _ => s.leaveCounter t n c
    | .queue e _ _ => s.setEngine t e { s.engine t e with blocked := (s.engine t e).blocked.filter fun i => i != c }
    | _ => s
  s.setCtx t c { x with wait := .none }

/-- RUN cleared: the context stops, and gives up its wait. -/
def stopCtx (s : State) (t c : Nat) : State := (s.endWaits t c).wr .TILE_CTX_CTRL_RUN t c 0

/-- A context halts: RUN cleared and HALTED set (R99). -/
def haltCtx (s : State) (t c : Nat) : State := ((s.stopCtx t c).wr .TILE_CTX_CTRL_HALTED t c 1).judgeIdle

/-- An exception of a context (R96): a trap to mtvec, or a halt with ERR_TILE_TRAP where mtvec is 0. -/
def trap (s : State) (t c cause : Nat) (tval : BitVec 32) : State :=
  let x := s.ctx t c
  let x := { x with mepc := x.pc, mcause := BitVec.ofNat 32 cause, mtval := tval, wait := .none }
  if x.mtvec = 0 then
    let s := (s.setCtx t c x).haltCtx t c
    let s := (s.wr .TILE_CTX_CAUSE_CAUSE t c cause).wr .TILE_CTX_TVAL_TVAL t c tval.toNat
    s.tileErr t tTrap 0 false 0 0 cause tval.toNat 1 (t * 8 + c)
  else
    let base := x.mtvec &&& 0xFFFFFFFC#32
    s.setCtx t c { x with mpie := x.mie, mie := false, pc := base }

/-! ### Windows of a context (R97) -/

/-- The device address of `n` bytes at a scratchpad offset of a context, where they lie inside its window and below the
waterline. -/
def scratch (s : State) (t c off n : Nat) : Option Nat :=
  let a := s.rd .TILE_CTX_SP_BASE t c + off
  if off + n ≤ s.rd .TILE_CTX_SP_BOUND t c ∧ a + n ≤ s.waterline t then some (tileBase t + a) else none

/-- How a tile's context and engine are named at the controllers and in records (R236, R260). -/
def ctxReq (t c : Nat) : Req := { num := 2, waiterKind := 1, waiter := t * 8 + c }
def engineReq (t e : Nat) : Req := { num := 2, waiterKind := 2, waiter := t * 8 + e }

/-! ### Tickets and queues (R100, R101) -/

/-- Is a ticket complete (R100)? -/
def ticketDone (x : Engine) (ticket : Nat) : Bool := decide ((x.completed + 65536 - ticket % 65536) % 65536 < 32768)

/-- The fences that a completed ticket satisfies end. -/
def wakeFences (s : State) (t e : Nat) : State :=
  (List.range 4).foldl (fun s c =>
    let x := s.ctx t c
    match x.wait with
    | .fence e' k =>
      if e' = e ∧ ticketDone (s.engine t e) k then s.setCtx t c { x with wait := .served 0 0 } else s
    | _ => s) s

/-- A descriptor taken into a queue that has room: the next ticket, and the state. -/
def enqueue (s : State) (t e c desc : Nat) : Nat × State :=
  let x := s.engine t e
  let k := (x.issued + 1) % 65536
  (k, s.setEngine t e { x with queue := x.queue ++ [⟨desc, c, k⟩], issued := k })

/-- Contexts blocked on a full queue issue, in the order in which they blocked, while it has room. -/
def refillN (s : State) (t e : Nat) : Nat → State
  | 0 => s
  | n + 1 =>
    let x := s.engine t e
    match x.blocked with
    | [] => s
    | c :: cs =>
      if 16 ≤ x.queue.length then s
      else
        let s := s.setEngine t e { x with blocked := cs }
        let y := s.ctx t c
        match y.wait with
        | .queue e' rd d =>
          if e' = e then
            let (k, s) := s.enqueue t e c d
            (s.setCtx t c { y with wait := .served rd k }).refillN t e n
          else s.refillN t e n
        | _ => s.refillN t e n

def refill (s : State) (t e : Nat) : State := s.refillN t e 4

/-- A queue discarded, its completed ticket the last issued, without signals or status records (R148, R375). -/
def discardQueue (s : State) (t e : Nat) : State :=
  let x := s.engine t e
  ((s.setEngine t e { x with queue := [], completed := x.issued, done := none }).wakeFences t e).refill t e

/-! ### Completion of a descriptor (R104 to R106) -/

/-- The completion signal a descriptor asks for: word and amount. -/
def descSignal (e d : Nat) : Option (Nat × Nat) :=
  if e = eArray then (if Pd.sigEn d then some (Pd.sig d, Pd.amount d) else none)
  else if e = eVector then (if Vd.sigEn d then some (Vd.sig d, Vd.amount d) else none)
  else if Xd.sigEn d then some (Xd.sig d, Xd.amount d) else none

/-- Where a descriptor's status record lies, and whether it is asked for; vector descriptors have none (R109). -/
def descStatus (e d : Nat) : Option (Nat × Bool) :=
  if e = eArray then some (Pd.statusOff d, Pd.statusEn d)
  else if e = eVector then none
  else some (Xd.statusOff d, Xd.statusEn d)

/-- Is the completion signal applied in a rectangle (R104)? -/
def descToRect (e d : Nat) : Bool :=
  decide (e ≤ eFeedB) && (Xd.op d == Xd.oMcast || Xd.op d == Xd.oExpandW)

/-- The status record written (R105, R106). -/
def statusRecord (s : State) (t e : Nat) (q : QEntry) (r : Done) : State :=
  match descStatus e q.desc with
  | none => s
  | some (off, en) =>
    if !en ∧ r.code = 0 then s
    else match s.scratch t q.ctx (8 * off) 8 with
      | none => s
      | some a => (s.writeSpan (engineReq t e) a (leBytes 8 (r.detail * 2 ^ 24 + q.ticket * 2 ^ 8 + r.code))).1

/-- The completion signal posted (R104, R214). -/
def completionSignal (s : State) (t e : Nat) (q : QEntry) (r : Done) : State :=
  match descSignal e q.desc with
  | none => s
  | some (w, n) =>
    if descToRect e q.desc then s.postRect w n r.tiles (.engine t e) else s.post w (some n) (.engine t e)

/-- The bit of TILE_ERR_STATUS, or the INDEX, of a status code (R105, R237). -/
def codeIndex : Nat → Nat
  | 0x01 => tShingle | 0x02 => tUe | 0x05 => tAddr | 0x06 => tDesc | n => 0x80 + n

/-- The error record of a descriptor that has failed (R106). The step is voided as R105 says; ERR_SHINGLE alone voids
nothing, and ERR_ISOLATED as R237 says. -/
def descFailed (s : State) (t e : Nat) (q : QEntry) (r : Done) : State :=
  let void := if r.code = 0x01 then false else if r.code = 0x04 then s.running else true
  let kind := if r.code = 0x04 then (6, 0) else (5, e * 2 ^ 16 + q.ticket)
  s.tileErr t (codeIndex r.code) r.addr void kind.1 kind.2 (if r.code = 0x04 then r.addr else r.detail) 0 2 (t * 8 + e)

/-- The head descriptor completes: status record, completion signal, ticket (R101), or the path of R106. -/
def completeHead (s : State) (t e : Nat) : State :=
  let x := s.engine t e
  match x.queue, x.done with
  | q :: rest, some r =>
    let s := s.statusRecord t e q r
    let s := if r.code = 0 then s.completionSignal t e q r else s.descFailed t e q r
    ((s.setEngine t e { s.engine t e with queue := rest, completed := q.ticket, done := none }).wakeFences t e).refill t e
  | _, _ => s

/-- How a descriptor ended. -/
def endDesc (s : State) (t e code detail addr : Nat) (tiles : List Nat) : State :=
  s.setEngine t e { s.engine t e with done := some ⟨code, detail, addr, tiles⟩ }

/-- A descriptor that fails at a device address (R105). -/
def failDesc (s : State) (t e : Nat) (f : Fail) (a : Nat) : State := s.endDesc t e f.code (bits a 45 6) a []

/-- A descriptor refused with ERR_TILE_DESC. DESIGN CHOICE (assumption 38): R105 and R121 hold an address, and such a
descriptor need not have one, so that the address is free. -/
def refuseDesc (s : State) (t e : Nat) : State :=
  let a := Config.unstated 38 (((s.engine t e).queue.head?.map (·.desc)).getD 0) % 2 ^ 46
  s.endDesc t e 0x06 (bits a 45 6) a []

/-- Is the status record of a descriptor, if it is asked for, outside the issuing context's scratchpad? -/
def statusOutside (s : State) (t e : Nat) (q : QEntry) : Bool :=
  match descStatus e q.desc with
  | none => false
  | some (off, en) => en && (s.scratch t q.ctx (8 * off) 8).isNone

/-- Is the head descriptor of an engine refused (R103, R109)? The array judges its own at R137. -/
def headRefused (s : State) (t e : Nat) (q : QEntry) : Bool :=
  if e = eVector then Vd.refused q.desc else Xd.refused e q.desc || s.statusOutside t e q

/-- The head descriptor of an engine that may run now: none is running, and no pause holds the queue (R101, R360). -/
def headReady (s : State) (t e : Nat) : Option QEntry :=
  let x := s.engine t e
  if !s.tileUp t || s.pausing || x.done.isSome then none else x.queue.head?

/-! ### Resend slots (R107, R108) -/

/-- A free resend slot armed, or ERR_TILE_ARM for the block at `addr` (R107). -/
def armResend (s : State) (t strand dir lap addr : Nat) : State :=
  match (List.range 4).find? fun i => !s.flag .TILE_RESEND_ARM_VALID t i with
  | none => s.tileErr t tArm addr true 4 (dir * 2 ^ 27 + strand * 2 ^ 25 + lap) 0 0 2 (t * 8 + eFeedB)
  | some i =>
    (((s.wr .TILE_RESEND_ARM_VALID t i 1).wr .TILE_RESEND_ARM_DIR t i dir).wr .TILE_RESEND_ARM_STRAND t i strand).wr
      .TILE_RESEND_ARM_LAP_POS t i lap

/-- The armed slot that a resend signal matches (R108). -/
def matchSlot (s : State) (t strand dir lap : Nat) : Option Nat :=
  (List.range 4).find? fun i => s.flag .TILE_RESEND_ARM_VALID t i && s.rd .TILE_RESEND_ARM_DIR t i == dir &&
    s.rd .TILE_RESEND_ARM_STRAND t i == strand && s.rd .TILE_RESEND_ARM_LAP_POS t i == lap

/-- A resend slot disarmed. -/
def disarmSlot (s : State) (t i : Nat) : State :=
  (((s.wr .TILE_RESEND_ARM_VALID t i 0).wr .TILE_RESEND_ARM_DIR t i 0).wr .TILE_RESEND_ARM_STRAND t i 0).wr
    .TILE_RESEND_ARM_LAP_POS t i 0

/-! ### Waits of the array (R138, R146, R148) -/

/-- The array leaves the counter it waits on without consuming: those behind it are served (R146, R210). -/
def endArrayWait (s : State) (t : Nat) : State := (List.range 64).foldl (fun s n => s.leaveCounter t n 4) s

/-- A pass that waits under R138 and its waiter on the counter. -/
def beginArrayWait (s : State) (t n amount : Nat) : State :=
  (s.setArray t { s.array t with waiting := true, reported := false }).beginWait t n ⟨4, amount⟩

/-! ### Tile reset (R122, R364 order 3) -/

/-- Every register of a tile, its contexts, queues, array and counters at their reset values, its memories written with
zeros (R364 order 3, R394). -/
def resetTile (s : State) (t : Nat) : State :=
  let s := s.resetBlocks [.TILE, .ARR, .TSIG] fun i => i == t
  { s with
    ctxs := SMap.drop s.ctxs fun k => k.a == t
    engines := SMap.drop s.engines fun k => k.a == t
    arrays := SMap.drop s.arrays fun k => k.a == t
    current := SMap.drop s.current fun k => k.a == t
    waiters := SMap.drop s.waiters fun k => k.a == t
    tileSenses := SMap.set s.tileSenses ⟨t, 0, 0⟩ s.senses 0
    entry := SMap.drop s.entry fun k => k.a == t + 1
    stages := s.stages.filter fun x => match x.src with | .ctx u _ | .engine u _ => u != t | _ => true
    latches := s.latches.filter fun x => match x.src with | .ctx u _ | .engine u _ => u != t | _ => true
    backoffs := s.backoffs.filter fun b => !(b.point.bankOf t)
    holders := s.holders.filter fun h => !(h.point.bankOf t) }

/-- Every row of a tile's memories written with zeros and fresh check bits (R364). -/
def zeroTile (s : State) (t : Nat) : State :=
  { s with mem := s.mem.clear (.span (tileBase t) (tileBase t + 0x80000)) }

end State

end Sys2Proof.Machine
end

