-- ==== Sys2Proof/Machine/Array.lean ====
section
/-! DEFINITION. The matrix array and its passes (spec/05_matrix_array.md): the checks of a pass descriptor (R137), its wait
(R138), what a pass computes (R124 to R133, R157 to R163) and how it ends (R139, R146, R147). -/
namespace Sys2Proof.Machine

namespace Pd

/-- The formats of a pass and how the pair computes; `none` where R125 refuses them. -/
def forms (d : Nat) : Option (Fmt × Fmt × Pair) :=
  match Fmt.ofCode (bFmt d), Fmt.ofCode (aFmt d) with
  | some b, some a => (pair b a).map fun p => (b, a, p)
  | _, _ => none

/-- K of one stationary block: 16 in split mode, 64 at density 2, else 32 (R124, R125, R132). -/
def kdim (d : Nat) (p : Pair) : Nat := if split d then 16 else if p.dense then 64 else 32

/-- K-groups of one block (R125). -/
def groups (d : Nat) (p : Pair) : Nat := if p.dense ∧ !split d then 2 else 1

/-- Bytes of a stored stationary block, its scale row not included (R128). -/
def blockBytes (d : Nat) (p : Pair) (b : Fmt) : Nat := kdim d p * 32 * b.width / 8

/-- Bytes of a streaming vector (R130). -/
def vecBytes (d : Nat) (p : Pair) (a : Fmt) : Nat := kdim d p * a.width / 8

/-- F, the fill length of a block (R128). -/
def fill (d : Nat) (p : Pair) (b : Fmt) : Nat := (blockBytes d p b + 63) / 64 + if b.isMx then 1 else 0

/-- T, the stream length of a block. -/
def stream (d : Nat) (p : Pair) : Nat :=
  if split d then (if p.half then 2 * ((tokens d + 1) / 2) else (tokens d + 1) / 2)
  else if p.half then 2 * tokens d else tokens d

/-- L, the latency of the adder tree. -/
def latency (d : Nat) (p : Pair) : Nat := if split d then 34 else if p.dense then 6 else 5

/-- The nominal length of a pass in tile cycles (R142). -/
def nominal (d : Nat) (p : Pair) (b : Fmt) : Nat :=
  let f := fill d p b
  let t := stream d p
  1 + f + (blocks d - 1) * max t f + t + latency d p + if aTrans d then 32 else 0

/-- The formats that a transposed streaming operand may have (R131). -/
def transposable : Fmt → Bool
  | .e4m3 | .e5m2 | .int8 | .bf16 | .fp16 => true
  | .fp32 | .mxE4m3 | .mxE5m2 | .mxE3m2 | .mxE2m3 | .mxFp4 | .mxInt8 | .int4 => false

/-- A mode or transpose setting that the pair does not permit (R125, R129, R131). -/
def badMode (d : Nat) (b a : Fmt) (p : Pair) : Bool :=
  (split d && !p.splitOk) ||
  (aTrans d && (split d || !transposable a || tokens d % 32 != 0)) ||
  (bTrans d && Class.of b == some .s)

/-- The unit of alignment of the streaming operand (R130, R131). -/
def aUnit (d : Nat) (p : Pair) (a : Fmt) : Nat :=
  if aTrans d then 32 * (a.width / 8)
  else let v := vecBytes d p a; if 64 % v = 0 then v else 64

/-- A stride or an address that breaks R129, R130 or R131; only the strides that the pass uses are judged (R137). -/
def badStride (d : Nat) (b a : Fmt) (p : Pair) : Bool :=
  let u := aUnit d p a
  let many := decide (1 < blocks d)
  (many && (bKstride d % 64 != 0 || decide (bKstride d < blockBytes d p b))) ||
  (b.isMx && bScale d % 64 != 0) ||
  aAddr d % u != 0 || (many && aKstride d % u != 0) ||
  ((aTrans d || decide (1 < tokens d)) && aMstride d % u != 0)

/-- Does a pass descriptor complete with ERR_TILE_DESC (R137, and the ranges of R103)? -/
def refused (d : Nat) : Bool :=
  reserved d || op d != 1 || (sigEn d && amount d == 0) || (waitEn d && waitAmt d == 0) ||
  decide (255 < accRow d + (tokens d - 1)) ||
  match forms d with
  | none => true
  | some (b, a, p) => badMode d b a p || badStride d b a p || decide (65536 < nominal d p b)

/-- The end of the streaming operand's bytes (R130, R131). -/
def aEnd (d : Nat) (p : Pair) (a : Fmt) : Nat :=
  let base := aAddr d + (blocks d - 1) * aKstride d
  if aTrans d then base + (kdim d p - 1) * aMstride d + tokens d * (a.width / 8)
  else base + (tokens d - 1) * aMstride d + vecBytes d p a

/-- The end of the streaming scales. -/
def aScaleEnd (d : Nat) (p : Pair) : Nat :=
  aScale d + (blocks d - 1) * aSkstride d + tokens d * groups d p

/-- The first byte of the first operand that lies where R137 does not allow it, as a tile offset, against the waterline `w` in
bytes: A, A's scales, B and B's scales in this order (DESIGN CHOICE, assumption 40). -/
def misplaced (d w : Nat) : Option Nat :=
  match forms d with
  | none => none
  | some (b, a, p) =>
    let bEnd := bAddr d + (blocks d - 1) * bKstride d + blockBytes d p b
    if 0x50000 < aEnd d p a then some (aAddr d)
    else if a.isMx ∧ 0x50000 < aScaleEnd d p then some (aScale d)
    else if bAddr d < w ∨ 0x50000 < bEnd then some (bAddr d)
    else if b.isMx ∧ (bScale d < w ∨ 0x50000 < bScale d + 64 * blocks d) then some (bScale d)
    else none

end Pd

namespace State

/-! ### Operands (R129 to R131) -/

/-- `n` bytes of a tile's memory as a number. -/
def tileNat (s : State) (t off n : Nat) : Nat := leNat (s.mem.readN (tileBase t + off) n)

/-- The values and scales of a column of a stationary block for one K-group: element `k` of column `n`, with its scale
byte (R127, R129). -/
def stationary (s : State) (t d kb : Nat) (b : Fmt) (p : Pd.Pair) (n g : Nat) : List (Val × Nat) :=
  let w := b.width
  let kd := Pd.kdim d p
  let gl := kd / Pd.groups d p
  let run := s.tileNat t (Pd.bAddr d + kb * Pd.bKstride d) (Pd.blockBytes d p b)
  let scales := if b.isMx then s.tileNat t (Pd.bScale d + 64 * kb) 64 else 0
  (List.range gl).map fun i =>
    let k := g * gl + i
    let code := elemAt run w (if Pd.bTrans d then n * kd + k else k * 32 + n)
    let scale := if !b.isMx then 127 else elemAt scales 8 (if Pd.bTrans d then k else 32 * g + n)
    (b.decode (Pd.ftz d) code, scale)

/-- The values of a streaming vector for one K-group, and their scale byte (R130, R131). -/
def streaming (s : State) (t d kb : Nat) (a : Fmt) (p : Pd.Pair) (m g : Nat) : List Val × Nat :=
  let w := a.width
  let kd := Pd.kdim d p
  let gl := kd / Pd.groups d p
  let base := Pd.aAddr d + kb * Pd.aKstride d
  let run := if Pd.aTrans d then 0 else s.tileNat t (base + m * Pd.aMstride d) (Pd.vecBytes d p a)
  let vals := (List.range gl).map fun i =>
    let k := g * gl + i
    let code := if Pd.aTrans d then s.tileNat t (base + k * Pd.aMstride d + m * (w / 8)) (w / 8) else elemAt run w k
    a.decode (Pd.ftz d) code
  (vals, if a.isMx then s.tileNat t (Pd.aScale d + kb * Pd.aSkstride d + m * Pd.groups d p + g) 1 else 127)

/-- The group sum of one token, column and K-group (R158 to R162), flushed where FTZ is set (R157). -/
def groupSum (s : State) (t d kb : Nat) (b a : Fmt) (p : Pd.Pair) (m n g : Nat) : Nat :=
  let bs := s.stationary t d kb b p n g
  let (as, sa) := s.streaming t d kb a p m g
  let ps : List Product := (bs.zip as).map fun x =>
    (Val.mul x.1.1 x.2, match scaleExp x.1.2, scaleExp sa with
      | some i, some j => some (i + j)
      | _, _ => none)
  flushFp32 (Pd.ftz d) (if p.exact then groupExact ps else groupAligned ps)

/-- Where accumulator element (r, n) of a buffer lies in a tile (R133). -/
def accOff (buf r n : Nat) : Nat := 0x60000 + 0x8000 * buf + 128 * r + 4 * n

/-- One accumulator element after every group of a pass, in ascending K (R126). -/
def accElem (s : State) (t d : Nat) (b a : Fmt) (p : Pd.Pair) (m n : Nat) : Nat :=
  let start := if Pd.accInit d then 0
    else flushFp32 (Pd.ftz d) (s.tileNat t (accOff (Pd.accBuf d) (Pd.accRow d + m) n) 4)
  let gs := Pd.groups d p
  (List.range (Pd.blocks d * gs)).foldl (fun acc i =>
    flushFp32 (Pd.ftz d) (addFp32 acc (s.groupSum t d (i / gs) b a p m n (i % gs)))) start

/-- The bytes of the accumulator rows that a pass writes. -/
def passRows (s : State) (t d : Nat) (b a : Fmt) (p : Pd.Pair) : List Byte :=
  (List.range (Pd.tokens d)).flatMap fun m =>
    (List.range 32).flatMap fun n => leBytes 4 (s.accElem t d b a p m n)

/-- The spans of a tile that a pass reads: operands, scales, and the accumulator rows it adds onto. -/
def passSpans (d : Nat) (b a : Fmt) (p : Pd.Pair) : List (Nat × Nat) :=
  let ks := List.range (Pd.blocks d)
  (ks.flatMap fun kb =>
    let base := Pd.aAddr d + kb * Pd.aKstride d
    (if Pd.aTrans d then (List.range (Pd.kdim d p)).map fun k => (base + k * Pd.aMstride d, Pd.tokens d * (a.width / 8))
     else (List.range (Pd.tokens d)).map fun m => (base + m * Pd.aMstride d, Pd.vecBytes d p a)) ++
    [(Pd.bAddr d + kb * Pd.bKstride d, Pd.blockBytes d p b)] ++
    (if a.isMx then [(Pd.aScale d + kb * Pd.aSkstride d, Pd.tokens d * Pd.groups d p)] else []) ++
    (if b.isMx then [(Pd.bScale d + 64 * kb, 64)] else [])) ++
  (if Pd.accInit d then [] else [(accOff (Pd.accBuf d) (Pd.accRow d) 0, 128 * Pd.tokens d)])

/-- The first span of a pass that holds an uncorrectable error. -/
def passBad (s : State) (t d : Nat) (b a : Fmt) (p : Pd.Pair) : Option Nat :=
  (passSpans d b a p).findSome? fun x => (s.firstBad (tileBase t + x.1) x.2).map (·.1)

/-! ### The head of the array's queue (R137, R138) -/

/-- A pass that reaches the head of the queue (R137 to R139): it is checked, and ends here if a check fails; then, unless
STOP is set (R146), it waits for its amount, or starts where it has none to wait for. -/
def headPass (s : State) (t : Nat) : State :=
  let m := s.array t
  match s.headReady t eArray with
  | none => s
  | some q =>
    if m.started ∨ m.waiting then s
    else if Pd.refused q.desc ∨ s.statusOutside t eArray q then s.refuseDesc t eArray
    else match Pd.misplaced q.desc (s.waterline t) with
      | some off => s.endDesc t eArray 0x05 (bits (tileBase t + off) 45 6) (tileBase t + off) []
      | none =>
        if s.flag .ARR_CTRL_STOP t then s
        else if Pd.waitEn q.desc then s.beginArrayWait t (Pd.waitCtr q.desc) (Pd.waitAmt q.desc)
        else s.beginPass t

/-- The pass that has started and has not run its blocks: not while its die is stopped (R145) or its tile's rows are
rewritten (R112), but in a pause too, since a pass that has started always completes (R146, R360). -/
def runningPass (s : State) (t : Nat) : Option QEntry :=
  let x := s.engine t eArray
  if !(s.array t).started || !s.tileUp t || x.done.isSome || s.flag .TILE_WATERLINE_REWRITING t ||
    decide (64 ≤ s.gateDepth t) then none
  else x.queue.head?

/-- The blocks of a pass run into its accumulator rows, which take new check bits (R124 to R133); a read that holds an
uncorrectable error ends it with ERR_TILE_UE and leaves its rows undefined (R147). DESIGN CHOICE (assumption 25): the
spec does not say which block ARR_CUR.BLOCK shows while a pass runs or after such an error, so that it is any block of
the pass; once all blocks are done it is the last one. -/
def runPass (s : State) (t : Nat) (q : QEntry) : State :=
  match Pd.forms q.desc with
  | none => s
  | some (b, a, p) =>
    let d := q.desc
    let off := tileBase t + accOff (Pd.accBuf d) (Pd.accRow d) 0
    let (k, s) := s.draw
    let s := s.wr .ARR_CUR_BLOCK t 0 (Config.unstated 26 k % Pd.blocks d)
    match s.passBad t d b a p with
    | some l =>
      let (k, s) := s.draw
      let s := { s with mem := s.mem.lose (.span off (off + 128 * Pd.tokens d)) k }
      let s := s.tileErr t tUe l true 6 0 l 0 2 (t * 8 + eArray)
      s.endDesc t eArray 0x02 (bits l 45 6) l []
    | none =>
      let rows := s.passRows t d b a p
      { s with mem := (s.mem.heal off rows.length).writeN off rows }.endDesc t eArray 0 0 0 []

/-- May the array fill the first block of a queued pass while another runs (R141, R146)? -/
def prefetchable (s : State) (t : Nat) (q : QEntry) : Bool :=
  !s.flag .ARR_CTRL_STOP t && !Pd.waitEn q.desc && !Pd.refused q.desc && (Pd.misplaced q.desc (s.waterline t)).isNone &&
    !s.statusOutside t eArray q

/-- GEMM: the pass that has started runs (R139); it holds its rows until it completes. `frozen`: it freezes on the way
(R144). The array makes every prefetch that R141 allows at this point (assumption 25). -/
def startPass (s : State) (t : Nat) (flaws : List Flaw) (frozen : Bool) : State :=
  let s := s.headPass t
  match s.runningPass t with
  | none => s
  | some q =>
    let next := match (s.engine t eArray).queue.tail.head? with
      | none => false
      | some n => s.prefetchable t n
    let s := s.setArray t { s.array t with prefetch := next, frozen := frozen }
    (s.place (engineReq t eArray) flaws).runPass t q

/-- ARRAY_RESUME: a frozen array goes on (R144). -/
def resumeArray (s : State) (t : Nat) : State :=
  if !(s.array t).frozen then s
  else
    let s := s.countFreeze t
    s.setArray t { s.array t with frozen := false }

/-- The pass at the head completes (R139, R150): its record, signal and ticket, then the next pass is judged. A frozen
pass, or one of a die gated at 64, is held (R144, R145). Without an error it has advanced for its nominal length (R142);
a fill made ahead shortens it by a length that the model does not keep. -/
def completePass (s : State) (t : Nat) : State :=
  let m := s.array t
  if m.started ∧ (m.frozen ∨ 64 ≤ s.gateDepth t) then s
  else match (s.engine t eArray).queue.head?, (s.engine t eArray).done with
  | some q, some r =>
    let s := s.countPass t
    let s := if m.started ∧ r.code = 0 then s.wr .ARR_CUR_BLOCK t 0 (Pd.blocks q.desc - 1) else s
    let s := s.setArray t MatArray.init
    let s := ((s.completeHead t eArray).bump .ARR_PASSES_COUNT t 0 1).wr .ARR_CUR_TICKET t 0 q.ticket
    s.headPass t
  | _, _ => s

/-! ### Stops of the array (R146, R148) -/

/-- ARR_CTRL.STOP set: no pass starts; a wait ends without consuming; a prefetch is discarded (R146). -/
def stopArray (s : State) (t : Nat) : State :=
  let m := s.array t
  let s := s.wr .ARR_CTRL_STOP t 0 1
  let s := if m.waiting then (s.countPass t).endArrayWait t else s
  s.setArray t { m with waiting := false, prefetch := false }

/-- STOP cleared: the queue goes on (R146). -/
def unstopArray (s : State) (t : Nat) : State := (s.wr .ARR_CTRL_STOP t 0 0).headPass t

/-- ARR_CTRL.ABORT written: the pass, the queue, a prefetch and a wait are gone; both accumulator buffers are undefined
(R148). A context that was blocked on the full queue issues, and its pass is judged. -/
def abortArray (s : State) (t : Nat) : State :=
  let s := (s.countPass t).endArrayWait t
  let last := (s.engine t eArray).issued
  let s := (s.setArray t MatArray.init).discardQueue t eArray
  let (k, s) := s.draw
  let s := { s with mem := s.mem.lose (.span (tileBase t + 0x60000) (tileBase t + 0x70000)) k }
  ((s.wr .ARR_STATUS_ABORTED t 0 1).wr .ARR_CUR_TICKET t 0 last).headPass t

end State

end Sys2Proof.Machine
end

