-- ==== Sys2Proof/Machine/CoreInsn.lean ====
section
/-! DEFINITION. The instructions of the scalar core and their decoding: RV32IM, the compressed encodings of C, the Zicsr
instructions (R95, R499), and the tile extension (R99). The encodings of the base instruction set are those of the RISC-V
standard, which spec/04_tile.md names and does not repeat (PRESUMED, assumption 23). -/
namespace Sys2Proof.Machine

/-- The integer operations of OP and OP-IMM. -/
inductive Alu where
  | add | sub | sll | slt | sltu | xor | srl | sra | or | and
deriving DecidableEq, Repr

/-- The operations of the M extension. -/
inductive MulDiv where
  | mul | mulh | mulhsu | mulhu | div | divu | rem | remu
deriving DecidableEq, Repr

inductive Cond where
  | eq | ne | lt | ge | ltu | geu
deriving DecidableEq, Repr

/-- What a CSR instruction does with the CSR. -/
inductive CsrOp where
  | write | set | clear
deriving DecidableEq, Repr

/-- An instruction of the core; a compressed one is the instruction it stands for. `illegal` is every reserved encoding. -/
inductive Insn where
  | lui (rd : Nat) (imm : BitVec 32)
  | auipc (rd : Nat) (imm : BitVec 32)
  | jal (rd : Nat) (off : BitVec 32)
  | jalr (rd rs1 : Nat) (off : BitVec 32)
  | branch (c : Cond) (rs1 rs2 : Nat) (off : BitVec 32)
  | load (rd rs1 size : Nat) (signed : Bool) (off : BitVec 32)
  | store (rs1 rs2 size : Nat) (off : BitVec 32)
  | opImm (f : Alu) (rd rs1 : Nat) (imm : BitVec 32)
  | op (f : Alu) (rd rs1 rs2 : Nat)
  | mulDiv (f : MulDiv) (rd rs1 rs2 : Nat)
  | fence
  | fenceI
  | wfi
  | mret
  | ecall
  | ebreak
  | csr (f : CsrOp) (rd src csr : Nat) (imm : Bool)
  | tqIssue (e rd rs1 : Nat)
  | tqFence (e rs1 : Nat)
  | tqStat (e rd : Nat)
  | sigWait (rd rs1 rs2 : Nat)
  | sigTry (rd rs1 rs2 : Nat)
  | sigPost (rs1 rs2 : Nat)
  | barArrive (rd rs1 : Nat)
  | barWait (rs1 rs2 : Nat)
  | tileHalt
  | tileYield
  | tileId (rd : Nat)
  | tileCtx (rd : Nat)
  | tileTmark (rd : Nat)
  | tileTmarkh (rd : Nat)
  | tileTime (rd : Nat)
  | tileTimeh (rd : Nat)
  | tideRel (rs1 : Nat)
  | tileLd (rd rs1 : Nat)
  | tileSd (rs1 rs2 : Nat)
  | illegal
deriving DecidableEq, Repr

namespace Insn

/-- Bits `hi` to `lo` of an instruction word. -/
def fld (w hi lo : Nat) : Nat := w / 2 ^ lo % 2 ^ (hi + 1 - lo)

/-- The low `n` bits of a number as a signed immediate. -/
def sx (n v : Nat) : BitVec 32 := BitVec.signExtend 32 (BitVec.ofNat n v)

/-! ### Fields and immediates of 32-bit instructions -/

def rd (w : Nat) : Nat := fld w 11 7
def rs1 (w : Nat) : Nat := fld w 19 15
def rs2 (w : Nat) : Nat := fld w 24 20
def f3 (w : Nat) : Nat := fld w 14 12
def f7 (w : Nat) : Nat := fld w 31 25
def immI (w : Nat) : BitVec 32 := sx 12 (fld w 31 20)
def immS (w : Nat) : BitVec 32 := sx 12 (fld w 31 25 * 32 + fld w 11 7)
def immB (w : Nat) : BitVec 32 :=
  sx 13 (fld w 31 31 * 4096 + fld w 7 7 * 2048 + fld w 30 25 * 32 + fld w 11 8 * 2)
def immU (w : Nat) : BitVec 32 := BitVec.ofNat 32 (fld w 31 12 * 4096)
def immJ (w : Nat) : BitVec 32 :=
  sx 21 (fld w 31 31 * 1048576 + fld w 19 12 * 4096 + fld w 20 20 * 2048 + fld w 30 21 * 2)

/-- An integer operation by funct3; `alt` is the other one that shares it. -/
def alu (n : Nat) (alt : Bool) : Alu :=
  match n with
  | 0 => if alt then .sub else .add
  | 1 => .sll
  | 2 => .slt
  | 3 => .sltu
  | 4 => .xor
  | 5 => if alt then .sra else .srl
  | 6 => .or
  | _ => .and

def mulDivOf (n : Nat) : MulDiv :=
  match n with
  | 0 => .mul
  | 1 => .mulh
  | 2 => .mulhsu
  | 3 => .mulhu
  | 4 => .div
  | 5 => .divu
  | 6 => .rem
  | _ => .remu

def decodeBranch (w : Nat) : Insn :=
  let go := fun c => branch c (rs1 w) (rs2 w) (immB w)
  match f3 w with
  | 0 => go .eq
  | 1 => go .ne
  | 4 => go .lt
  | 5 => go .ge
  | 6 => go .ltu
  | 7 => go .geu
  | _ => .illegal

def decodeLoad (w : Nat) : Insn :=
  let go := fun n sg => load (rd w) (rs1 w) n sg (immI w)
  match f3 w with
  | 0 => go 1 true
  | 1 => go 2 true
  | 2 => go 4 true
  | 4 => go 1 false
  | 5 => go 2 false
  | _ => .illegal

def decodeStore (w : Nat) : Insn :=
  if f3 w < 3 then store (rs1 w) (rs2 w) (2 ^ f3 w) (immS w) else .illegal

def decodeOpImm (w : Nat) : Insn :=
  if f3 w = 1 then (if f7 w = 0 then opImm .sll (rd w) (rs1 w) (BitVec.ofNat 32 (rs2 w)) else .illegal)
  else if f3 w = 5 then
    if f7 w = 0 ∨ f7 w = 0x20 then opImm (alu 5 (f7 w == 0x20)) (rd w) (rs1 w) (BitVec.ofNat 32 (rs2 w)) else .illegal
  else opImm (alu (f3 w) false) (rd w) (rs1 w) (immI w)

def decodeOp (w : Nat) : Insn :=
  if f7 w = 1 then mulDiv (mulDivOf (f3 w)) (rd w) (rs1 w) (rs2 w)
  else if f7 w = 0 ∨ (f7 w = 0x20 ∧ (f3 w = 0 ∨ f3 w = 5)) then op (alu (f3 w) (f7 w == 0x20)) (rd w) (rs1 w) (rs2 w)
  else .illegal

def decodeSystem (w : Nat) : Insn :=
  let go := fun f imm => csr f (rd w) (rs1 w) (fld w 31 20) imm
  match f3 w with
  | 0 =>
    if w = 0x00000073 then .ecall
    else if w = 0x00100073 then .ebreak
    else if w = 0x30200073 then .mret
    else if w = 0x10500073 then .wfi
    else .illegal
  | 1 => go .write false
  | 2 => go .set false
  | 3 => go .clear false
  | 5 => go .write true
  | 6 => go .set true
  | 7 => go .clear true
  | _ => .illegal

/-- Custom-0 (R99); a field that the table marks as unused must be 0. -/
def decodeCustom0 (w : Nat) : Insn :=
  match f3 w with
  | 0 => if f7 w < 5 ∧ rs2 w = 0 then tqIssue (f7 w) (rd w) (rs1 w) else .illegal
  | 1 => if f7 w < 5 ∧ rs2 w = 0 ∧ rd w = 0 then tqFence (f7 w) (rs1 w) else .illegal
  | 2 => if f7 w < 5 ∧ rs2 w = 0 ∧ rs1 w = 0 then tqStat (f7 w) (rd w) else .illegal
  | 3 => if f7 w = 0 then sigWait (rd w) (rs1 w) (rs2 w) else .illegal
  | 4 => if f7 w = 0 then sigTry (rd w) (rs1 w) (rs2 w) else .illegal
  | 5 => if f7 w = 0 ∧ rd w = 0 then sigPost (rs1 w) (rs2 w) else .illegal
  | 6 =>
    if f7 w = 0 ∧ rs2 w = 0 then barArrive (rd w) (rs1 w)
    else if f7 w = 1 ∧ rd w = 0 then barWait (rs1 w) (rs2 w)
    else .illegal
  | _ =>
    if rd w ≠ 0 ∨ rs1 w ≠ 0 ∨ rs2 w ≠ 0 then .illegal
    else if f7 w = 0 then .tileHalt
    else if f7 w = 1 then .tileYield
    else .illegal

/-- The six reads of custom-1 that take rd alone. -/
def decodeReads (w : Nat) : Insn :=
  if rs1 w ≠ 0 ∨ rs2 w ≠ 0 then .illegal
  else match f3 w, f7 w with
    | 0, 0 => tileId (rd w)
    | 0, 1 => tileCtx (rd w)
    | 1, 0 => tileTmark (rd w)
    | 1, 1 => tileTmarkh (rd w)
    | 2, 0 => tileTime (rd w)
    | 2, 1 => tileTimeh (rd w)
    | _, _ => .illegal

/-- Custom-1 (R99). -/
def decodeCustom1 (w : Nat) : Insn :=
  match f3 w with
  | 3 => if f7 w = 0 ∧ rd w = 0 ∧ rs2 w = 0 then tideRel (rs1 w) else .illegal
  | 4 =>
    if f7 w = 0 ∧ rs2 w = 0 ∧ rd w ≠ 0 ∧ rd w % 2 = 0 then tileLd (rd w) (rs1 w)
    else if f7 w = 1 ∧ rd w = 0 ∧ rs2 w % 2 = 0 then tileSd (rs1 w) (rs2 w)
    else .illegal
  | _ => decodeReads w

/-- A 32-bit instruction. -/
def decode32 (w : Nat) : Insn :=
  match w % 128 with
  | 0x37 => lui (rd w) (immU w)
  | 0x17 => auipc (rd w) (immU w)
  | 0x6F => jal (rd w) (immJ w)
  | 0x67 => if f3 w = 0 then jalr (rd w) (rs1 w) (immI w) else .illegal
  | 0x63 => decodeBranch w
  | 0x03 => decodeLoad w
  | 0x23 => decodeStore w
  | 0x13 => decodeOpImm w
  | 0x33 => decodeOp w
  | 0x0F => if f3 w = 0 then .fence else if f3 w = 1 then .fenceI else .illegal
  | 0x73 => decodeSystem w
  | 0x0B => decodeCustom0 w
  | 0x2B => decodeCustom1 w
  | _ => .illegal

/-! ### Compressed instructions -/

/-- A register of the three-bit fields. -/
def cr (w lo : Nat) : Nat := 8 + fld w (lo + 2) lo

/-- The six-bit immediate of C.ADDI, C.LI and C.ANDI. -/
def cImm (w : Nat) : Nat := fld w 12 12 * 32 + fld w 6 2

def cLwOff (w : Nat) : BitVec 32 := BitVec.ofNat 32 (fld w 5 5 * 64 + fld w 12 10 * 8 + fld w 6 6 * 4)

def cJOff (w : Nat) : BitVec 32 :=
  sx 12 (fld w 12 12 * 2048 + fld w 8 8 * 1024 + fld w 10 9 * 256 + fld w 6 6 * 128 + fld w 7 7 * 64 + fld w 2 2 * 32 +
    fld w 11 11 * 16 + fld w 5 3 * 2)

def cBOff (w : Nat) : BitVec 32 :=
  sx 9 (fld w 12 12 * 256 + fld w 6 5 * 64 + fld w 2 2 * 32 + fld w 11 10 * 8 + fld w 4 3 * 2)

/-- Quadrant 0. -/
def expand0 (w : Nat) : Insn :=
  match fld w 15 13 with
  | 0 =>
    let n := fld w 10 7 * 64 + fld w 12 11 * 16 + fld w 5 5 * 8 + fld w 6 6 * 4
    if n = 0 then .illegal else opImm .add (cr w 2) 2 (BitVec.ofNat 32 n)
  | 2 => load (cr w 2) (cr w 7) 4 true (cLwOff w)
  | 6 => store (cr w 7) (cr w 2) 4 (cLwOff w)
  | _ => .illegal

/-- The register operations of quadrant 1, funct3 4. -/
def expandAlu (w : Nat) : Insn :=
  let d := cr w 7
  match fld w 11 10 with
  | 0 => if fld w 12 12 = 0 then opImm .srl d d (BitVec.ofNat 32 (fld w 6 2)) else .illegal
  | 1 => if fld w 12 12 = 0 then opImm .sra d d (BitVec.ofNat 32 (fld w 6 2)) else .illegal
  | 2 => opImm .and d d (sx 6 (cImm w))
  | _ =>
    if fld w 12 12 = 1 then .illegal
    else op (match fld w 6 5 with | 0 => .sub | 1 => .xor | 2 => .or | _ => .and) d d (cr w 2)

/-- Quadrant 1. -/
def expand1 (w : Nat) : Insn :=
  match fld w 15 13 with
  | 0 => opImm .add (rd w) (rd w) (sx 6 (cImm w))
  | 1 => jal 1 (cJOff w)
  | 2 => opImm .add (rd w) 0 (sx 6 (cImm w))
  | 3 =>
    if cImm w = 0 then .illegal
    else if rd w = 2 then
      opImm .add 2 2 (sx 10 (fld w 12 12 * 512 + fld w 4 3 * 128 + fld w 5 5 * 64 + fld w 2 2 * 32 + fld w 6 6 * 16))
    else lui (rd w) (sx 18 (cImm w * 4096))
  | 4 => expandAlu w
  | 5 => jal 0 (cJOff w)
  | 6 => branch .eq (cr w 7) 0 (cBOff w)
  | _ => branch .ne (cr w 7) 0 (cBOff w)

/-- Quadrant 2. -/
def expand2 (w : Nat) : Insn :=
  let r := fld w 6 2
  match fld w 15 13 with
  | 0 => if fld w 12 12 = 0 then opImm .sll (rd w) (rd w) (BitVec.ofNat 32 r) else .illegal
  | 2 =>
    if rd w = 0 then .illegal
    else load (rd w) 2 4 true (BitVec.ofNat 32 (fld w 3 2 * 64 + fld w 12 12 * 32 + fld w 6 4 * 4))
  | 4 =>
    if fld w 12 12 = 0 then
      if r ≠ 0 then op .add (rd w) 0 r else if rd w = 0 then .illegal else jalr 0 (rd w) 0
    else if r ≠ 0 then op .add (rd w) (rd w) r
    else if rd w = 0 then .ebreak
    else jalr 1 (rd w) 0
  | 6 => store 2 r 4 (BitVec.ofNat 32 (fld w 8 7 * 64 + fld w 12 9 * 4))
  | _ => .illegal

/-- A 16-bit instruction. -/
def expand16 (w : Nat) : Insn :=
  match w % 4 with
  | 0 => expand0 w
  | 1 => expand1 w
  | _ => expand2 w

end Insn

/-! ### Integer operations -/

def Alu.run (f : Alu) (a b : BitVec 32) : BitVec 32 :=
  match f with
  | .add => a + b
  | .sub => a - b
  | .sll => a <<< (b.toNat % 32)
  | .slt => if a.slt b then 1 else 0
  | .sltu => if a.ult b then 1 else 0
  | .xor => a ^^^ b
  | .srl => a >>> (b.toNat % 32)
  | .sra => a.sshiftRight (b.toNat % 32)
  | .or => a ||| b
  | .and => a &&& b

/-- The M extension, with its results for a divisor of 0 and for the overflow of a signed division. -/
def MulDiv.run (f : MulDiv) (a b : BitVec 32) : BitVec 32 :=
  match f with
  | .mul => a * b
  | .mulh => BitVec.ofInt 32 (a.toInt * b.toInt / 2 ^ 32)
  | .mulhsu => BitVec.ofInt 32 (a.toInt * b.toNat / 2 ^ 32)
  | .mulhu => BitVec.ofNat 32 (a.toNat * b.toNat / 2 ^ 32)
  | .div => if b = 0 then BitVec.allOnes 32 else a.sdiv b
  | .divu => if b = 0 then BitVec.allOnes 32 else a / b
  | .rem => if b = 0 then a else a.srem b
  | .remu => if b = 0 then a else a % b

def Cond.holds (c : Cond) (a b : BitVec 32) : Bool :=
  match c with
  | .eq => a == b
  | .ne => a != b
  | .lt => a.slt b
  | .ge => !a.slt b
  | .ltu => a.ult b
  | .geu => !a.ult b

end Sys2Proof.Machine
end

