-- ==== Sys2Proof/Machine/Shingle.lean ====
section
/-! DEFINITION. The shingle units of a stack: expander, compressor, survey unit and recoder (spec/07_shingle_codec.md,
R186 to R204). -/
namespace Sys2Proof.Machine

namespace State

def shingle (s : State) (st : Nat) : Shingle := SMap.get s.shingles ⟨st, 0, 0⟩ Shingle.init
def setShingle (s : State) (st : Nat) (x : Shingle) : State :=
  { s with shingles := SMap.set s.shingles ⟨st, 0, 0⟩ Shingle.init x }

/-- The requesters at the controllers: expander reads, and the other accesses of the shingle units (R260). -/
def expandReq : Req := { num := 1, waiterKind := 0, waiter := 0 }
def shingleReq : Req := { num := 2, waiterKind := 0, waiter := 0 }

/-- An error of a stack's shingle units: SHG_ERR_INFO and SHG_ERR_LEN hold the first until the status is clear, then the
record (R190, R198, R204, R205). -/
def shgErr (s : State) (st index : Nat) (void : Bool) (addr subcode declExp prodExp declCoded : Nat) : State :=
  let s := if s.regVal .SHG_ERR_STATUS st 0 = 0 then
      ((((s.wr .SHG_ERR_INFO_SUBCODE st 0 subcode).wr .SHG_ERR_INFO_ADDR st 0 addr).wr .SHG_ERR_LEN_DECL_CODED st 0
        declCoded).wr .SHG_ERR_LEN_PROD_EXP st 0 (min prodExp 8191)).wr .SHG_ERR_LEN_DECL_EXP st 0 declExp
    else s
  s.report { cls := 0x0D, index := index, inst := st, void := void, objKind := 6, d5 := addr, d6 := subcode,
             d7 := declCoded * 2 ^ 32 + min prodExp 8191 * 2 ^ 16 + declExp }

/-! ### The expander (R192, R196 to R199) -/

/-- The bytes of a book in memory, its header first: an access of a shingle unit as any other (R179, R237, R248). -/
def bookRead (s : State) (req : Req) (a : Nat) : State × Except Fail (List Byte) :=
  match s.readSpan req a 64 with
  | (s, .error f) => (s, .error f)
  | (s, .ok hb) =>
    match s.readSpan req (a + 64) (4 * min (Codec.head hb).size 4096) with
    | (s, .error f) => (s, .error f)
    | (s, .ok vb) => (s, .ok (hb ++ vb))

/-- The installed book of a store entry of a context, read from the store; none where none is installed (R181, R192). -/
def readBook (s : State) (req : Req) (dc : Option (Nat × Nat)) (cb : Nat) : State × Except (Fail × Nat) (Option Codec.Book) :=
  match dc with
  | none => (s, .ok none)
  | some (d, c) =>
    match s.storeBook d c cb with
    | none => (s, .ok none)
    | some _ =>
      match s.bookRead req (s.storeAddr d c cb) with
      | (s, .error f) => (s, .error (f, s.storeAddr d c cb))
      | (s, .ok bs) => (s, .ok (some (Codec.book bs)))

/-- The books of some planes, the entry of plane 0 being `cb` (R192), up to the first that cannot be read. -/
def readBooks (s : State) (req : Req) (dc : Option (Nat × Nat)) (cb : Nat) :
    List Nat → State × Except (Fail × Nat) (SMap (Option Codec.Book))
  | [] => (s, .ok [])
  | j :: js =>
    match s.readBook req dc ((cb + j) % 64) with
    | (s, .error x) => (s, .error x)
    | (s, .ok b) =>
      match s.readBooks req dc cb js with
      | (s, .error x) => (s, .error x)
      | (s, .ok bs) => (s, .ok ((⟨j, 0, 0⟩, b) :: bs))

/-- The spans of the installed books of the first `n` planes, an entry being 32 KiB (R181). -/
def bookSpans (s : State) (dc : Option (Nat × Nat)) (cb n : Nat) : List (Nat × Nat) :=
  match dc with
  | none => []
  | some (d, c) => (List.range n).filterMap fun j =>
      (s.storeBook d c ((cb + j) % 64)).map fun _ => (s.storeAddr d c ((cb + j) % 64), 0x8000)

/-- How a fetch of one block ends. -/
inductive Fetch where
  | bytes (bs : List Byte)
  | shingle
  | failed (f : Fail) (addr : Nat)

/-- One block fetched through the expander of the controller that holds its first byte: `raw`, or coded in `len` bytes;
`stored` is the STORED_LEN that check 3 compares, `dc` the context whose store holds the books, if any, `cb` the store entry
of plane 0, and `inPlace` whether a failure voids the step (R198). -/
def expandBlock (s : State) (dc : Option (Nat × Nat)) (cb grad addr : Nat) (raw : Bool) (len : Nat) (stored : Option Nat) (inPlace : Bool) :
    State × Fetch :=
  let st := stackOf s.fuses.nStacks addr
  let (s, r) := s.readSpan expandReq addr (if raw then 4096 else max len 16)
  match r with
  | .error f => (s, .failed f addr)
  | .ok bs =>
    if raw then (s.bump .SHG_EXP_RAW_COUNT st 0 1, .bytes bs)
    else match s.readBooks expandReq dc cb (Codec.bookPlanes bs stored) with
      | (s, .error (f, a)) => (s, .failed f a)
      | (s, .ok books) =>
        match Codec.expand bs stored grad fun j => SMap.get books ⟨j, 0, 0⟩ none with
        | .ok out => (s.bump .SHG_EXPANDED_COUNT st 0 1, .bytes out)
        | .error e =>
          let h := Codec.blockHead bs
          (s.shgErr st 0 inPlace addr e.subcode h.expLen e.produced h.codedLen, .shingle)

/-! ### The compressor (R192, R194, R202) -/

/-- The gradient books of a COMPRESS, one for each plane of its format, where every one meets R192; those of epoch 0 are none
(R202). -/
def compressBooks (s : State) (dc : Option (Nat × Nat)) (cb fmt epoch : Nat) :
    State × Except (Fail × Nat) (Option (List Codec.Book)) :=
  if epoch = 0 then (s, .ok (some []))
  else
    match s.readBooks shingleReq dc cb (List.range (Codec.planes fmt)) with
    | (s, .error x) => (s, .error x)
    | (s, .ok books) =>
      let ok := books.all fun x =>
        match x.2 with
        | none => false
        | some b => b.head.format == fmt && b.head.plane == x.1.a && b.head.epoch == epoch && b.head.grad == 1
      (s, .ok (if ok then some (books.filterMap fun x => x.2) else none))

/-- A block as the compressor writes it: its bytes, and whether they are raw (R194). -/
def compressBlock (s : State) (st fmt epoch : Nat) (books : List Codec.Book) (bs : List Byte) : State × List Byte × Bool :=
  match Codec.encode fmt epoch books bs with
  | some out => (s.bump .SHG_COMPRESSED_COUNT st 0 1, out, false)
  | none => (s.bump .SHG_CMP_RAW_COUNT st 0 1, bs, true)

/-! ### The survey (R186 to R190) -/

def surveyOpen (s : State) (st : Nat) : Bool := s.flag .SHG_SV_STATUS_OPEN st
def recodeOpen (s : State) (st : Nat) : Bool := s.flag .SHG_RC_STATUS_OPEN st

/-- ERR_SHG_SURVEY of a stack. -/
def surveyErr (s : State) (st addr : Nat) (void : Bool) : State := s.shgErr st 1 void addr 0 0 0 0

/-- BUSY and QUEUED as the queue stands. -/
def surveyCounts (s : State) (st : Nat) : State :=
  let n := (s.shingle st).feeds.length
  (s.wr .SHG_SV_STATUS_QUEUED st 0 n).wr .SHG_SV_STATUS_BUSY st 0 (b2n (n != 0 || (s.shingle st).svFinish))

/-- A survey opened with the parameters of SHG_SV_CTRL: tables cleared (R186). -/
def openSurvey (s : State) (st : Nat) : State :=
  let s := s.setShingle st { s.shingle st with feeds := [], waitFeeds := [], table := [], fed := [0, 0, 0, 0], svFinish := false }
  ((((s.wr .SHG_SV_STATUS_OPEN st 0 1).wr .SHG_SV_STATUS_FED st 0 0).wr .SHG_STATUS_SV_OPEN st 0 1).wr
    .SHG_SV_CTRL_FINISH st 0 0).surveyCounts st

/-- A survey closed: by its books, by a void, or by a reset. A write of SHG_SV_FEED that still waits meets no open survey
(R190). -/
def closeSurvey (s : State) (st : Nat) : State :=
  let late := (s.shingle st).waitFeeds
  let s := s.setShingle st { s.shingle st with feeds := [], waitFeeds := [], svFinish := false }
  let s := (((s.wr .SHG_SV_STATUS_OPEN st 0 0).wr .SHG_STATUS_SV_OPEN st 0 0).wr .SHG_SV_CTRL_FINISH st 0 0).surveyCounts st
  late.foldl (fun s x => s.surveyErr st (bits x.2 47 6 * 64) false) s

/-- May a span be fed: whole inside stack memory or inside one tile's SRAM (R190)? -/
def feedable (s : State) (a n : Nat) : Bool :=
  match s.target a, s.target (a + n - 1) with
  | .stack, .stack => true
  | .tile t off, .tile t' _ => t == t' && tileSpanValid off n
  | _, _ => false

/-- A write of SHG_SV_FEED: discarded with ERR_SHG_SURVEY where no survey is open or the address cannot be fed, else
queued; while 64 feeds are queued it waits its turn (R186, R190). -/
def feedSurvey (s : State) (src : Source) (st v : Nat) : State :=
  let a := bits v 47 6 * 64
  let n := bits v 59 48 + 1
  if !s.surveyOpen st then s.surveyErr st a false
  else if 64 ≤ (s.shingle st).feeds.length then
    s.setShingle st { s.shingle st with waitFeeds := (s.shingle st).waitFeeds ++ [(src, v)] }
  else if !s.feedable a (4096 * n) then s.surveyErr st a true
  else (s.setShingle st { s.shingle st with feeds := (s.shingle st).feeds ++ [(a, n)] }).surveyCounts st

/-- The writes of SHG_SV_FEED that wait are taken while there is room. -/
def takeFeedsN (s : State) (st : Nat) : Nat → State
  | 0 => s
  | k + 1 =>
    match (s.shingle st).waitFeeds with
    | [] => s
    | x :: xs =>
      if 64 ≤ (s.shingle st).feeds.length then s
      else ((s.setShingle st { s.shingle st with waitFeeds := xs }).feedSurvey x.1 st x.2).takeFeedsN st k

def takeFeeds (s : State) (st : Nat) : State := s.takeFeedsN st (s.shingle st).waitFeeds.length

/-- The vectors of fed bytes taken into the tables, block by block (R187). -/
def surveyTake (fmt : Nat) (x : Shingle) : Nat → List Byte → Shingle
  | 0, _ => x
  | n + 1, bs =>
    let p := Codec.planes fmt
    let vs := Codec.vectors p (bs.take 4096)
    let y := vs.zipIdx.foldl (fun (x : Shingle) pl =>
      { x with table := pl.1.foldl (fun t v => Codec.tableTake t pl.2 v) x.table
               fed := setAt x.fed pl.2 (at0 x.fed pl.2 + pl.1.length) }) x
    surveyTake fmt y n (bs.drop 4096)

/-- An access of a stack's shingle units at a shutter that is not open leaves the record of R237; every other failure has
its own block's record. -/
def shingleIsolated (s : State) (st : Nat) (f : Option Fail) (a : Nat) : State :=
  if f = some .isolated then s.reportIsolated 0x0D st a 0 0 else s

/-- A read of a stack's shingle units. -/
def shgRead (s : State) (st a n : Nat) : State × Except Fail (List Byte) :=
  match s.readSpan shingleReq a n with
  | (s, .ok bs) => (s, .ok bs)
  | (s, .error f) => (s.shingleIsolated st (some f) a, .error f)

/-- A write of a stack's shingle units: is it done? -/
def shgWrite (s : State) (st a : Nat) (bs : List Byte) : State × Bool :=
  let (s, f) := s.writeSpan shingleReq a bs
  (s.shingleIsolated st f a, f.isNone)

/-- The first queued feed processed (R187). It waits while its bytes cannot be read (R134, R258); a feed that fails leaves
no vector. -/
def feedDone (s : State) (st : Nat) : State :=
  match (s.shingle st).feeds with
  | [] => s
  | (a, n) :: rest =>
    if s.stalled a (4096 * n) then s
    else
      let (s, r) := s.shgRead st a (4096 * n)
      let x := { s.shingle st with feeds := rest }
      let x := match r with
        | .ok bs => surveyTake (s.rd .SHG_SV_CTRL_FORMAT st) x n bs
        | .error _ => x
      (((s.setShingle st x).count .SHG_SV_STATUS_FED st 0 1).takeFeeds st).surveyCounts st

/-- Has a survey received no vector for some plane (R190)? Every block gives vectors to every plane. -/
def noVectors (s : State) (st : Nat) : Bool := at0 (s.shingle st).fed 0 == 0

/-- FINISH written (R188, R190): a survey that received no vector reports ERR_SHG_SURVEY. -/
def finishSurvey (s : State) (st : Nat) : State :=
  if !s.surveyOpen st then s.surveyErr st 0 false
  else if (s.shingle st).feeds.isEmpty && s.noVectors st then s.surveyErr st 0 true
  else ((s.setShingle st { s.shingle st with svFinish := true }).wr .SHG_SV_CTRL_FINISH st 0 1).surveyCounts st

/-- The first queued feed has made no progress for SHG_LIMIT (R190). -/
def surveyStall (s : State) (st : Nat) : State :=
  match (s.shingle st).feeds with
  | [] => s
  | x :: _ => s.surveyErr st x.1 true

/-- The header a survey writes for the book of plane `j` (R179, R188). -/
def surveyHead (s : State) (st j size : Nat) : Codec.Head :=
  ⟨1, Codec.widthCode size, size, s.rd .SHG_SV_CTRL_FORMAT st, s.rd .SHG_SV_CTRL_GRAD st, s.rd .SHG_SV_CTRL_EPOCH st, j,
    s.rd .SHG_SV_CTRL_TENSOR st, s.rd .SHG_SV_CTRL_HOME st, 0⟩

/-- Where a stack's survey writes the book of plane `j` (R188). -/
def bookOut (s : State) (st j : Nat) : Nat := s.rd .SHG_SV_BOOK_BASE st * 2 ^ 15 + 0x8000 * j

/-- The books of a finished survey written, its result and DONE set, its signal posted, the survey closed (R188). FINISH
has been written and the last feed processed, else no books can have been written; where its feeds gave no vector it
ends as R190 says; it waits while a stack that takes a book is being zeroed (R258). -/
def writeBooks (s : State) (st : Nat) : State :=
  let x := s.shingle st
  if !x.svFinish || !x.feeds.isEmpty || !x.waitFeeds.isEmpty then s
  else if s.noVectors st then
    ((s.setShingle st { x with svFinish := false }).wr .SHG_SV_CTRL_FINISH st 0 0).surveyErr st 0 true
  else
    let p := Codec.planes (s.rd .SHG_SV_CTRL_FORMAT st)
    if (List.range p).any fun j => s.stalled (s.bookOut st j) 0x8000 then s
    else
      let (s, sizes) := (List.range p).foldl (fun (acc : State × Nat) j =>
        let vs := Codec.select (acc.1.rd .SHG_SV_CTRL_MAXW st) (at0 x.fed j) (Codec.ranked x.table j)
        let (s, _) := acc.1.shgWrite st (acc.1.bookOut st j) (Codec.bookBytes (acc.1.surveyHead st j vs.length) vs)
        (s, acc.2 + vs.length * 2 ^ (13 * j))) (s, 0)
      let s := ((s.wr .SHG_SV_RESULT_SIZE st 0 sizes).wr .SHG_SV_STATUS_DONE st 0 1).closeSurvey st
      s.post (s.rd .SHG_SV_SIG_SIG st) none (.codec st)

/-! ### Recoding at the home (R203, R204) -/

/-- ERR_SHG_RECODE of a stack. -/
def recodeErr (s : State) (st addr : Nat) (void : Bool) : State := s.shgErr st 2 void addr 0 0 0 0

/-- BUSY and QUEUED as the queue stands. -/
def recodeCounts (s : State) (st : Nat) : State :=
  let n := (s.shingle st).recodes.length
  (s.wr .SHG_RC_STATUS_QUEUED st 0 n).wr .SHG_RC_STATUS_BUSY st 0 (b2n (n != 0))

/-- Where the book of plane `j` of a recode lies (R203). -/
def recodeBookAt (s : State) (st j : Nat) : Nat := s.rd .SHG_RC_BOOK_BASE st * 2 ^ 15 + 0x8000 * j

/-- The book of plane `j` at SHG_RC_BOOK read by the recoder; a shutter that is not open leaves the record of R237. -/
def recodeBook (s : State) (st j : Nat) : State × Except Fail (List Byte) :=
  match s.bookRead shingleReq (s.recodeBookAt st j) with
  | (s, .error f) => (s.shingleIsolated st (some f) (s.recodeBookAt st j), .error f)
  | (s, .ok bs) => (s, .ok bs)

/-- The books of some planes at SHG_RC_BOOK, up to the first that cannot be read. -/
def recodeBooksOf (s : State) (st : Nat) : List Nat → State × Except Fail (List (List Byte))
  | [] => (s, .ok [])
  | j :: js =>
    match s.recodeBook st j with
    | (s, .error f) => (s, .error f)
    | (s, .ok b) =>
      match s.recodeBooksOf st js with
      | (s, .error f) => (s, .error f)
      | (s, .ok bs) => (s, .ok (b :: bs))

/-- The books of a recode: plane 0's, and those of the further planes that its FORMAT names. -/
def recodeBooks (s : State) (st : Nat) : State × Except Fail (List (List Byte)) :=
  match s.recodeBook st 0 with
  | (s, .error f) => (s, .error f)
  | (s, .ok b0) =>
    match s.recodeBooksOf st ((List.range (Codec.planes (Codec.head b0).format)).drop 1) with
    | (s, .error f) => (s, .error f)
    | (s, .ok bs) => (s, .ok (b0 :: bs))

/-- Do the books pass the checks of R204? -/
def recodeBooksOk (books : List (List Byte)) : Bool :=
  let h0 := Codec.head (books.headD [])
  books.zipIdx.all fun x =>
    let h := Codec.head x.1
    Codec.bookOk x.1 && h.grad == 0 && h.plane == x.2 && h.tensor == h0.tensor && h.epoch == h0.epoch && h.format == h0.format

/-- Must the recoder wait for its books (R258)? -/
def recodeBooksStalled (s : State) (st : Nat) : Bool :=
  (List.range 4).any fun j => s.stalled (s.recodeBookAt st j) 0x8000

/-- The check of the books that SHG_RC_CTRL.OPEN asks for, and the opening (R203, R204). A book that cannot be read opens
nothing, and has the record of the block that refused it (DEDUCED, assumption 28). -/
def checkRecode (s : State) (st : Nat) : State :=
  let s := s.setShingle st { s.shingle st with rcOpening := false }
  match s.recodeBooks st with
  | (s, .error _) => s
  | (s, .ok books) =>
    if !recodeBooksOk books then s.recodeErr st (s.recodeBookAt st 0) true
    else
      let s := s.setShingle st { s.shingle st with recodes := [], rcFinish := false }
      (((s.wr .SHG_RC_STATUS_OPEN st 0 1).wr .SHG_RC_STATUS_RECODED st 0 0).wr .SHG_STATUS_RC_OPEN st 0 1).recodeCounts st

/-- SHG_RC_CTRL.OPEN: the reads of the books wait while a stack that holds one is being zeroed (R203, R258). -/
def openRecode (s : State) (st : Nat) : State :=
  if s.recodeBooksStalled st then s.setShingle st { s.shingle st with rcOpening := true } else s.checkRecode st

/-- The recodes whose books could not be read yet are opened, where nothing stalls them any more. -/
def settleRecodes (s : State) : State :=
  (List.range 16).foldl (fun s st =>
    if (s.shingle st).rcOpening && !s.recodeBooksStalled st then s.checkRecode st else s) s

/-- A recode closed: by FINISH, by a void, or by a reset. A write of SHG_RC_FEED that still waits meets no open recode
(R205). -/
def closeRecode (s : State) (st : Nat) : State :=
  let late := (s.shingle st).waitRecodes
  let s := s.setShingle st { s.shingle st with recodes := [], waitRecodes := [], rcFinish := false, rcOpening := false }
  let s := (((s.wr .SHG_RC_STATUS_OPEN st 0 0).wr .SHG_STATUS_RC_OPEN st 0 0).wr .SHG_RC_CTRL_FINISH st 0 0).recodeCounts st
  late.foldl (fun s _ => s.recodeErr st 0 false) s

/-- FINISH completed: SHG_RC_SIG posted and the recode closed (R203). -/
def recodeFinished (s : State) (st : Nat) : State :=
  let s := (s.wr .SHG_RC_STATUS_DONE st 0 1).closeRecode st
  s.post (s.rd .SHG_RC_SIG_SIG st) none (.codec st)

/-- SHG_RC_CTRL.FINISH (R203). -/
def finishRecode (s : State) (st : Nat) : State :=
  if !s.recodeOpen st then s
  else if (s.shingle st).recodes.isEmpty then s.recodeFinished st
  else (s.setShingle st { s.shingle st with rcFinish := true }).wr .SHG_RC_CTRL_FINISH st 0 1

/-- A write of SHG_RC_FEED; while 64 segments are queued it waits its turn (R203, R205). -/
def feedRecode (s : State) (src : Source) (st i : Nat) : State :=
  if !s.recodeOpen st then s.recodeErr st 0 false
  else if 64 ≤ (s.shingle st).recodes.length then
    s.setShingle st { s.shingle st with waitRecodes := (s.shingle st).waitRecodes ++ [(src, i)] }
  else (s.setShingle st { s.shingle st with recodes := (s.shingle st).recodes ++ [i] }).recodeCounts st

/-- The blocks of a segment recoded in place in ascending order, each staged whole before it is written; the new map
entries and the bytes used (R87, R203). -/
def recodeBlocks (s : State) (st base epoch fmt : Nat) (books : List Codec.Book) (map : List Nat) :
    State × List Nat × Nat :=
  map.foldl (fun (acc : State × List Nat × Nat) e =>
    let (s, es, used) := acc
    if !MapEntry.present e then (s, es ++ [e], used)
    else
      let blk := s.mem.readN (base + 16 * MapEntry.offset e) 4096
      let (s, out, raw) := s.compressBlock st fmt epoch books blk
      let (s, _) := s.shgWrite st (base + used) (padTo 16 out)
      (s, es ++ [used / 16 * 2 ^ 16 + 2 ^ 14 + b2n raw * 2 ^ 13 + out.length], used + roundUp out.length 16)) (s, [], 0)

/-- The first fed segment recoded: its blocks, block map and directory entry (R203), or ERR_SHG_RECODE with the segment
left as it is (R204); was it recoded? -/
def recodeSegment (s : State) (st i : Nat) : State × Bool :=
  let da := s.rd .SHG_RC_DIR_BASE st * 4096 + 16 * i
  let (s, r) := s.shgRead st da 16
  match r with
  | .error _ => (s, false)
  | .ok db =>
    let dir := leNat db
    if !DirEntry.valid dir then (s.recodeErr st da true, false)
    else
      let a := DirEntry.addr dir
      let (s, r) := s.shgRead st a 256
      match r with
      | .error _ => (s, false)
      | .ok hb =>
        let map := ((bytesWords hb).drop 8).take 16
        if map.any fun e => MapEntry.present e && !(MapEntry.raw e && MapEntry.stored e == 4096) then
          (s.recodeErr st da true, false)
        else
          let (s, r) := s.shgRead st (a + 256) (256 * (DirEntry.length dir + 1))
          match r with
          | .error _ => (s, false)
          | .ok _ =>
            let (s, r) := s.recodeBooks st
            match r with
            | .error _ => (s, false)
            | .ok books =>
              let h0 := Codec.head (books.headD [])
              let (s, es, used) := s.recodeBlocks st (a + 256) h0.epoch h0.format (books.map Codec.book) map
              let flits := max 1 ((used + 255) / 256)
              let (s, _) := s.shgWrite st (a + 256 + used) (zeroBytes (256 * flits - used))
              let (s, _) := s.shgWrite st (a + 64) (wordBytes es)
              let dir' := withBits (withBits dir 49 42 h0.epoch) 41 34 (flits - 1)
              ((s.shgWrite st da (leBytes 16 dir')).1, true)

/-- Must the recoder wait for the directory entry of a fed segment, for the segment, or for its books (R258)? -/
def recodeStalled (s : State) (st i : Nat) : Bool :=
  let da := s.rd .SHG_RC_DIR_BASE st * 4096 + 16 * i
  let dir := leNat (s.mem.readN da 16)
  s.stalled da 16 || s.stalled (DirEntry.addr dir) (256 * (DirEntry.length dir + 2)) || s.recodeBooksStalled st

/-- The recoder has finished one segment (R203); RECODED counts the segments that it has recoded. -/
def recodeDone (s : State) (st : Nat) : State :=
  match (s.shingle st).recodes with
  | [] => s
  | i :: rest =>
    if s.recodeStalled st i then s
    else
      let (s, ok) := s.recodeSegment st i
      let x := s.shingle st
      let s := s.setShingle st { x with recodes := rest ++ (x.waitRecodes.take 1).map (·.2), waitRecodes := x.waitRecodes.drop 1 }
      let s := (if ok then s.count .SHG_RC_STATUS_RECODED st 0 1 else s).recodeCounts st
      if (s.shingle st).recodes.isEmpty && x.rcFinish then s.recodeFinished st else s

end State

end Sys2Proof.Machine
end

