-- ==== Sys2Proof/Machine/Tideway.lean ====
section
/-! DEFINITION. Tideway links: receiving, acknowledgement, retry, training, draining, time, transit and guarded transfers
(spec/10_tideway.md), and the sluice tables (spec/11_arbitration.md). -/
namespace Sys2Proof.Machine

/-- The reasons of TWY_PORT_STATUS.REASON (R298). -/
def rLane : Nat := 1
def rSkew : Nat := 2
def rRetry : Nat := 3
def rCredit : Nat := 4
def rLock : Nat := 5
def rLocation : Nat := 6
def rEpoch : Nat := 7
def rPort : Nat := 8
def rUnplanned : Nat := 9
def rDrain : Nat := 10

/-- The control flits of R279 in the outbox: their own class, beside the six of R272. -/
def cControl : Nat := 8

namespace State

/-- An error of a port (R298). -/
def twyErr (s : State) (p n : Nat) (void : Bool) (d5 d6 : Nat) : State :=
  s.report { cls := 0x07, index := n, inst := p, void := void, objKind := 8, obj := p, d5 := d5, d6 := d6 }

def setPortState (s : State) (p st reason : Nat) : State :=
  (s.wr .TWY_PORT_STATUS_STATE p 0 st).wr .TWY_PORT_STATUS_REASON p 0 reason

/-- A control record sent: the words of its 32-byte slot, in slot 0 of a control flit (R279). -/
def sendControl (s : State) (p : Nat) (ws : List Nat) : State :=
  let u : Sent := { port := p, cls := cControl, dest := none, guard := [], words := ws }
  ({ s with outbox := s.outbox ++ [u] } : State).putPlain p 1 ws

/-- The flits allotted to a class, in flits (R274). -/
def allot (s : State) (p c : Nat) : Nat :=
  16 * match c with
    | 0 => s.rd .TWY_PORT_CREDIT_FLOOD p | 1 => s.rd .TWY_PORT_CREDIT_EBB p | 2 => s.rd .TWY_PORT_CREDIT_SIGNAL p
    | 3 => s.rd .TWY_PORT_CREDIT_TRANSIT p | 4 => s.rd .TWY_PORT_CREDIT_MIRROR p | _ => s.rd .TWY_PORT_CREDIT_MGMT p

/-! ### Credits (R48, R52, R221, R230, R275, R276) -/

/-- The flits in a context's cut-through queue (R48). -/
def cutFlits (s : State) (d c : Nat) : Nat := (s.tctx d c).cut.foldl (fun n g => n + segFlits g) 0

/-- The class in which a context receives: that of its direction; on a folded strand that of the leg it receives along (R58):
the out leg reaches virtual positions 1 to N - 1, the back leg the rest. -/
def recvClass (s : State) (d c : Nat) : Nat :=
  if s.tideFolded d then
    (if 0 < s.tidePos d c ∧ s.tidePos d c ≤ s.tideLen d c / 2 then cFlood else cEbb)
  else if s.tideDir d c = 0 then cFlood else cEbb

/-- Does the package withhold a class's returns on a port: a unit held, next-step segments held, a full cut-through queue, a
full guard table, a full hold queue (R276, R282)? -/
def withheld (s : State) (p c : Nat) : Bool :=
  ((s.link p).held.any fun h => h.cls == c) ||
  (tideAll.any fun x => s.tideValid x.1 x.2 && s.rd .TIDE_SD_CFG_RX_PORT x.1 x.2 == p && s.recvClass x.1 x.2 == c &&
    (!(s.tctx x.1 x.2).held.isEmpty || decide (64 ≤ s.cutFlits x.1 x.2))) ||
  (c == cSignal && decide (64 ≤ s.holdQueue.length)) ||
  s.heldPackets.any fun k => k.cls == c && s.portDie k.port == s.portDie p

/-- The returns of a port brought up to date: every flit that has left the buffer counts, and the totals due follow the
allotments (R275, R276). -/
def updateCredits (s : State) (p : Nat) : State :=
  let l := s.link p
  let freed := (List.range 6).map fun c =>
    if s.withheld p c then at0 l.freed c else max (at0 l.freed c) (at0 l.recv c)
  let adv := (List.range 6).map fun c => max (at0 l.adv c) (at0 freed c + s.allot p c)
  let more := (List.range 6).filter fun c => at0 adv c != at0 l.adv c && !l.owed.contains c
  s.setLink p { l with freed := freed, adv := adv, owed := l.owed ++ more }

/-- A received credit total applied where it is ahead of the sender's own count (R275). -/
def takeCredits (l : Link) (cs : List (Nat × Nat)) : Link :=
  cs.foldl (fun l e =>
    let d := (e.2 + 4096 - at0 l.granted e.1 % 4096) % 4096
    if e.1 < 6 ∧ 0 < d ∧ d < 2048 then { l with granted := setAt l.granted e.1 (at0 l.granted e.1 + d) } else l) l

/-- A received ACK applied: everything up to that SEQ leaves the replay buffer (R277). -/
def takeAck (l : Link) (seq : Nat) : Link :=
  match l.replay.findIdx? fun f => f.seq == seq with
  | none => l
  | some i => { l with replay := l.replay.drop (i + 1), replayRun := 0 }

/-! ### Leaving UP (R293 to R297) -/

/-- ERR_ISOLATED of a guarded transfer's or packet's access at a device address (R237). -/
def twyIsolated (s : State) (p a : Nat) : State :=
  s.report { cls := 0x07, index := 0x84, inst := p, void := s.running, objKind := 6, d5 := a }

/-- The transfers that a port carried, stopped without their LSIG (R286). -/
def stopXfers (s : State) (p : Nat) : State := { s with xfers := s.xfers.filter fun x => x.port != p }

/-- A port that leaves UP for DOWN: the step voided, its transfers stopped (R286, R297). A port that drains has no way to
DOWN (R293). -/
def portDown (s : State) (p reason : Nat) : State :=
  ((s.setPortState p pDown reason).stopXfers p).setLink p { s.link p with holder := none, claim := none }
    |>.twyErr p 2 true reason 0

/-- Does some valid tide context name a port, or some valid route while the tide is enabled (R296)? -/
def portInUse (s : State) (p : Nat) : Bool :=
  (tideAll.any fun x => s.tideValid x.1 x.2 &&
    (s.rd .TIDE_SD_CFG_RX_PORT x.1 x.2 == p || s.rd .TIDE_SD_CFG_TX_PORT x.1 x.2 == p)) ||
  ((List.range 4).any (fun d => s.flag .TIDE_CTRL_ENABLE d) &&
    (List.range 1024).any fun n => s.flag .SIG_ROUTE_VALID 0 n && s.rd .SIG_ROUTE_PORT 0 n == p)

/-- A write discarded under R296. -/
def portConfigError (s : State) (p : Nat) : State := s.setErr 0x07 8 p

/-- The counters of a port at 0 (R298, R317). -/
def clearPortCounters (s : State) (p : Nat) : State :=
  [Fd.TWY_TX_FLITS_COUNT, .TWY_RX_FLITS_COUNT, .TWY_TRANSIT_FLITS_COUNT, .TWY_RETRIES_COUNT, .TWY_CRC_ERR_COUNT,
   .TWY_FEC_CORR_COUNT, .TWY_FEC_UNCORR_COUNT, .TWY_GCM_FAIL_COUNT, .TWY_STALE_COUNT].foldl (fun s f => s.wr f p 0 0)
    ((List.range 6).foldl (fun s c => s.wr .SLU_CLASS_FLITS_COUNT p c 0) s)

/-- Is a port selected for a loopback (R464)? -/
def inLoopback (s : State) (p : Nat) : Bool :=
  s.rd .TST_LB_CTRL_KIND == 1 && s.rd .TST_LB_CTRL_MODE != 0 && s.rd .TST_LB_CTRL_PORT == p

/-- The lanes of a port: four to a quad (R263, R266). -/
def portLanes (s : State) (p : Nat) : List Nat :=
  (List.range (4 * s.portQuads p)).map fun i => 4 * bits (s.portEntry p) 5 0 + i

/-- The equalisation presets from which the lanes of a port train: the CAL_EQ value that is effective now (R287, R446). -/
def loadPresets (s : State) (p : Nat) : State :=
  { s with presets := (s.portLanes p).foldl (fun m l => SMap.set m ⟨l, 0, 0⟩ [] (s.calValue 0x20 l)) s.presets }

/-- A port leaves OFF for TRAINING, where it is enabled and LINKS_EN allows it (R287, R293). -/
def startTraining (s : State) (p : Nat) : State :=
  if s.flag .TWY_PORT_CTRL_ENABLE p ∧ s.flag .TWY_GLB_CTRL_LINKS_EN ∧ s.portState p = pOff ∧ s.portRole p ≠ 0 ∧
      s.isOpen kPort p ∧ !s.inLoopback p then
    (((s.loadPresets p).setPortState p pTraining 0).clearPortCounters p).setLink p Link.init
  else s

/-- A port reaches OFF: what it still holds is discarded, RETRAIN reads 0, and an enable that is pending, or that stands,
takes effect (R293, R294, R295). -/
def portOff (s : State) (p reason : Nat) : State :=
  let again := s.flag .TWY_PORT_STATUS_PENDING_ENABLE p || s.flag .TWY_PORT_CTRL_ENABLE p
  let s := ((s.setPortState p pOff reason).wr .TWY_PORT_CTRL_RETRAIN p 0 0).wr .TWY_PORT_STATUS_PENDING_ENABLE p 0 0
  let s := (s.setLink p Link.init).stopXfers p
  if again then (s.wr .TWY_PORT_CTRL_ENABLE p 0 1).startTraining p else s

/-- A port that is disabled while it trains drains as soon as it reaches a state that DRAINING follows (R293; DEDUCED, assumption
36). -/
def settleEnable (s : State) (p : Nat) (drain : State → State) : State := if s.flag .TWY_PORT_CTRL_ENABLE p then s else drain s

/-- A port starts to drain: an OFF record goes out where it was UP; from another state it has nothing left to complete, and
reaches OFF within 1 µs (R294). -/
def startDraining (s : State) (p : Nat) : State :=
  if s.portState p = pOff ∨ s.portState p = pDraining then s
  else
    let up := s.portUp p
    let s := s.wr .TWY_PORT_STATUS_STATE p 0 pDraining
    if up then s.sendControl p [0x05, 0, 0, 0] else s.setLink p Link.init

/-- A write of TWY_PORT_CTRL.ENABLE (R293, R295, R296): a port that trains goes on to the end of it first, since no way leads from
TRAINING or IDENT to DRAINING (`settleEnable`); a port in a loopback stays OFF and takes it as pending (R464). -/
def writePortEnable (s : State) (p : Nat) (on : Bool) : State :=
  if s.inLoopback p then s.wr .TWY_PORT_STATUS_PENDING_ENABLE p 0 (b2n on)
  else if on then
    if s.portRole p = 0 then s.portConfigError p
    else if s.portState p = pDraining then s.wr .TWY_PORT_STATUS_PENDING_ENABLE p 0 1
    else (s.wr .TWY_PORT_CTRL_ENABLE p 0 1).startTraining p
  else if s.portInUse p then s.portConfigError p
  else
    let s := (s.wr .TWY_PORT_CTRL_ENABLE p 0 0).wr .TWY_PORT_STATUS_PENDING_ENABLE p 0 0
    if s.portState p = pTraining ∨ s.portState p = pIdent then s else s.startDraining p

/-- A write of 1 to TWY_PORT_CTRL.RETRAIN (R293, R296). -/
def retrainPort (s : State) (p : Nat) : State :=
  if s.portInUse p then s.portConfigError p
  else if s.portUp p then (s.wr .TWY_PORT_CTRL_RETRAIN p 0 1).startDraining p
  else s

/-- A drain that is complete: nothing waits for an acknowledgement and no unit is half sent (R294). -/
def drained (s : State) (p : Nat) : Bool :=
  s.portState p == pDraining && (s.link p).replay.isEmpty && (s.link p).queue.all fun u => u.left == u.size

/-! ### Receiving (R275 to R279, R282) -/

/-- A data flit not accepted: one NAK names the expected SEQ (R277). -/
def nakFlit (s : State) (p : Nat) : State :=
  let l := s.link p
  if l.nakSent then s
  else (s.setLink p { l with nakSent := true }).sendControl p [0x02 + l.expSeq * 2 ^ 16, 0, 0, 0]

/-- What a job-class unit's TM0 and AT decide at its SOP (R282); units are held while a gate is closed (R357, R375), and
discarded while no job key is loaded (R364). -/
def judgeUnit (s : State) (tm0 att : Nat) : RxUnit :=
  if !s.flag .SEC_STATUS_JOB_KEYED then .stale
  else if s.jobGate || s.voidGate then .held
  else if tm0 ≠ s.tidemark % 2 then .held
  else if att ≠ s.attempt % 4 then .stale
  else .taken

/-- A flit of a class joins the unit it belongs to. -/
def unitFlit (s : State) (p : Nat) (f : Flit) : State :=
  let l := s.link p
  let kind := if f.sop then (if jobClass f.cls then s.judgeUnit f.tm0 f.att else .taken) else l.rx.getD f.cls .taken
  let held := match kind with
    | .held =>
      if f.sop then l.held ++ [⟨f.cls, f.tm0, f.att, 1, f.eop⟩]
      else match l.held.findIdx? fun h => h.cls == f.cls && !h.ended with
        | none => l.held
        | some i => setAt l.held i { (l.held.getD i ⟨0, 0, 0, 0, true⟩) with
            flits := (l.held.getD i ⟨0, 0, 0, 0, true⟩).flits + 1, ended := f.eop }
    | _ => l.held
  let s := s.setLink p { l with rx := setAt l.rx f.cls (if f.eop then .idle else kind), held := held }
  if f.sop && kind == .stale then s.bump .TWY_STALE_COUNT p 0 1 else s

/-- A data flit that arrives at a port (R275, R276, R277, R282). A class's flit beyond the totals that the sender has been told of
overruns the buffer. -/
def takeData (s : State) (p : Nat) (f : Flit) : State :=
  if !(s.portUp p || s.portState p == pDraining) then s
  else
    let l := s.link p
    if !f.crcOk || f.uncorrected != 0 then (s.bump .TWY_CRC_ERR_COUNT p 0 1).nakFlit p
    else if f.seq ≠ l.expSeq then s.nakFlit p
    else
      let s := s.updateCredits p
      let l := s.link p
      if at0 l.told f.cls ≤ at0 l.recv f.cls then (if s.portUp p then s.portDown p rCredit else s)
      else
        let l := takeAck (takeCredits l f.credits) f.ack
        let l := { l with expSeq := (l.expSeq + 1) % 1024, nakSent := false
                          recv := setAt l.recv f.cls (at0 l.recv f.cls + 1) }
        (((s.setLink p l).count .TWY_RX_FLITS_COUNT p 0 1).unitFlit p f).pump p

/-- Everything unacknowledged sent again: counted, and DOWN at the limit of replays from one SEQ (R277, R278). A port that
drains goes on replaying, until it is done or its own limit ends it (R293, R294). -/
def replay (s : State) (p : Nat) : State :=
  let l := s.link p
  if !(s.portUp p || s.portState p == pDraining) || l.replay.isEmpty then s
  else
    let s := (s.setLink p { l with replayRun := l.replayRun + 1 }).bump .TWY_RETRIES_COUNT p 0 1
    if s.portUp p ∧ s.rd .TWY_PORT_LIMITS_RETRY p ≤ l.replayRun + 1 then s.portDown p rRetry
    else { s with wire := s.wire ++ l.replay.map fun f => (⟨p, f.header, f.body⟩ : WireFlit) }

/-- An ACK record: acknowledgement and the six totals (R279). -/
def takeAckRecord (s : State) (p ack : Nat) (totals : List Nat) : State :=
  if !(s.portUp p || s.portState p == pDraining) then s
  else (s.setLink p (takeAck (takeCredits (s.link p) (totals.zipIdx.map fun x => (x.2, x.1 % 4096))) ack)).pump p

/-- An ACK record: what has arrived in order, and the six totals (R279). -/
def ackRecord (l : Link) : List Nat :=
  let w := fun (i : Nat) => at0 l.adv i % 4096
  [0x01 + (l.expSeq + 1023) % 1024 * 2 ^ 16 + w 0 * 2 ^ 32, w 1 + w 2 * 2 ^ 32, w 3 + w 4 * 2 ^ 32, w 5]

/-- The returns owed, sent as an ACK record (R275, R279). -/
def sendAck (s : State) (p : Nat) : State :=
  let s := s.updateCredits p
  let l := s.link p
  if !(s.portUp p || s.portState p == pDraining) || l.owed.isEmpty then s
  else (s.setLink p { l with owed := [], told := l.adv }).sendControl p (ackRecord l)

/-- Held units of a port judged again: those of this step leave the buffer, stale ones are counted (R282, R375). -/
def rejudgeUnits (s : State) (p : Nat) : State :=
  let l := s.link p
  let kind := fun (h : HeldUnit) => s.judgeUnit h.tm0 h.att
  let n := (l.held.filter fun h => kind h == .stale).length
  let rx := l.held.foldl (fun rx h => if h.ended then rx else setAt rx h.cls (kind h)) l.rx
  let s := s.setLink p { l with held := l.held.filter (fun h => kind h == .held), rx := rx }
  (if n = 0 then s else s.bump .TWY_STALE_COUNT p 0 n).updateCredits p

/-- Nonces and transfer sequences restart at a tidemark increment and at a step void (R281, R285, R377). -/
def restartNonces (s : State) : State := { s with nonces := SMap.drop s.nonces fun k => jobClass k.a, xferSeqs := [] }

/-- Held units are judged again (R282, R375). -/
def judgeHeld (s : State) : State :=
  (List.range 32).foldl (fun s p => if (s.link p).held.isEmpty then s else s.rejudgeUnits p) s

/-- A NAK record: it acknowledges what precedes the expected SEQ, and everything from there on is sent again (R277). -/
def takeNak (s : State) (p seq : Nat) : State :=
  if !(s.portUp p || s.portState p == pDraining) then s
  else (s.setLink p (takeAck (s.link p) ((seq + 1023) % 1024))).replay p

/-- An OFF record: the port completes its own drain (R294). -/
def takeOff (s : State) (p : Nat) : State := if s.portUp p then s.startDraining p else s

/-- DRAIN_COMPLETE and DRAIN_TIMEOUT (R294). -/
def drainDone (s : State) (p : Nat) : State := if s.drained p then s.portOff p 0 else s

def drainTimeout (s : State) (p : Nat) : State :=
  if s.portState p = pDraining ∧ !s.drained p then (s.twyErr p 6 false 0 0).portOff p rDrain else s

/-! ### Training and identity (R287 to R289) -/

/-- This package's IDENT record (R288). -/
def identRecord (s : State) (p : Nat) : List Nat :=
  let h := Config.shake256 ((List.range 8).map fun i => bits s.fuses.serial (8 * i + 7) (8 * i)) 8
  [0x04 + bits s.straps 12 0 * 2 ^ 16 + p * 2 ^ 32 + s.portQuads p * 2 ^ 40,
   (h.zipIdx.foldl (fun v x => v + x.1 % 256 * 2 ^ (8 * x.2)) 0), s.rd .TWY_PLAN_EPOCH_EPOCH, 0]

/-- A training stage ends (R287). -/
def stageDone (s : State) (p : Nat) (r : Training) : State :=
  if s.portState p ≠ pTraining then s
  else match r with
    | .lane => (s.setPortState p pDown rLane).settleEnable p fun s => s.startDraining p
    | .skew => if (s.link p).pcs then (s.setPortState p pDown rSkew).settleEnable p fun s => s.startDraining p else s
    | .done =>
      if (s.link p).pcs then (s.setPortState p pIdent 0).sendControl p (s.identRecord p)
      else s.setLink p { s.link p with pcs := true }

/-- No lane has detected a signal within the training limit: ABSENT, with ERR_TWY_ABSENT (R287, R289). -/
def trainTimeout (s : State) (p : Nat) : State :=
  if s.portState p = pTraining ∧ !(s.link p).pcs then
    ((s.setPortState p pAbsent 0).twyErr p 0 false 0 0).settleEnable p fun s => s.startDraining p
  else s

/-- A signal appears at an ABSENT port (R287). -/
def signalDetect (s : State) (p : Nat) : State :=
  if s.portState p = pAbsent then ((s.loadPresets p).setPortState p pTraining 0).setLink p Link.init else s

/-- A lane of an UP port loses lock (R297). -/
def laneLoss (s : State) (p : Nat) : State := if s.portUp p then s.portDown p rLock else s

/-- IDENT_REPEAT: this package's record goes out again (R287). -/
def repeatIdent (s : State) (p : Nat) : State :=
  if s.portState p = pIdent then s.sendControl p (s.identRecord p) else s

/-- The reason for which an IDENT record quarantines a port; 0 where all matches (R288). -/
def identReason (s : State) (p loc kind port quads epoch : Nat) : Nat :=
  let e := s.portEntry p
  if bits e 13 11 = 1 then rUnplanned
  else if loc ≠ bits e 23 14 ∨ kind ≠ bits e 26 24 then rLocation
  else if epoch ≠ s.rd .TWY_PLAN_EPOCH_EPOCH then rEpoch
  else if port ≠ bits e 31 27 ∨ quads ≠ s.portQuads p then rPort
  else 0

/-- A received IDENT record: recorded, compared, and the port UP with its initial totals exchanged or QUARANTINED (R287,
R288, R309). `totals` are the peer's initial credit totals; this package's go out as an ACK record. -/
def takeIdent (s : State) (p loc kind port quads serial epoch : Nat) (totals : List Nat) : State :=
  if s.portState p ≠ pIdent then s
  else
    let s := ((((((s.wr .TWY_PORT_PEER_SERIAL p 0 serial).wr .TWY_PORT_PEER_PORT p 0 port).wr .TWY_PORT_PEER_KIND p 0
      kind).wr .TWY_PORT_PEER_LOC p 0 loc).wr .TWY_PORT_PEER_QUADS p 0 quads).wr .TWY_PORT_PEER_VALID p 0 1)
    let r := s.identReason p loc kind port quads epoch
    if r ≠ 0 then ((s.setPortState p pQuarantined r).twyErr p 1 false r 0).settleEnable p fun s => s.startDraining p
    else
      let s := s.setPortState p pUp 0
      let l := { Link.init with granted := (List.range 6).map fun c => at0 totals c
                                adv := (List.range 6).map fun c => s.allot p c
                                told := (List.range 6).map fun c => s.allot p c }
      let s := (((s.setLink p l).sendControl p (ackRecord l)).wr .SLU_STATUS_SLOT p 0 0).wr .SLU_STATUS_MGMT_USED p 0 0
      s.settleEnable p fun s => s.startDraining p

/-! ### Time (R290, R390) -/

/-- Does a port face the time parent (R266)? -/
def timeParent (s : State) (p : Nat) : Bool := hasBit (s.portEntry p) 32

/-- The TIME record of a port: its send time, and the arrival and send time of the last one received (R279). -/
def timeRecord (s : State) (p : Nat) : List Nat := [0x03, s.time.toNat, (s.link p).lastTime.2, (s.link p).lastTime.1]

/-- A TIME record sent on the parent port (R279, R290). -/
def sendTime (s : State) (p : Nat) : State :=
  if s.portUp p ∧ s.timeParent p then s.sendControl p (s.timeRecord p) else s

/-- A TIME record received (R290): `sent` is its send time, `arrived` when the peer received this package's last record
and `mine` when that record was sent. The first correction of a package without a job steps the timestamp; later ones
are slewed. A record that a child sends is answered. -/
def takeTime (s : State) (p sent arrived mine : Nat) : State :=
  if !s.portUp p then s
  else
    let now := s.time.toNat
    let s := s.setLink p { s.link p with lastTime := (sent, now) }
    if !s.timeParent p then s.sendControl p (s.timeRecord p)
    else
      let off : Int := (((arrived : Int) - mine) - ((now : Int) - sent)) / 2
      let s := s.wr .TWY_TIME_OFFSET_OFFSET p 0 (ofSigned 64 off)
      if s.jobState = jobEmpty ∧ !s.timeStepped then
        { s with time := BitVec.ofNat 64 (ofSigned 64 ((now : Int) + off)), timeStepped := true }
      else { s with slew := off }

/-- A record in a slot of a control flit applied (R279): an ACK, a NAK, a TIME, an IDENT or an OFF record. The initial totals of a
peer come in an ACK record behind its IDENT record. -/
def takeRecord (s : State) (p : Nat) (ws : List Nat) : State :=
  let w0 := at0 ws 0
  let w1 := at0 ws 1
  let w2 := at0 ws 2
  let w3 := at0 ws 3
  match w0 % 256 with
  | 0x01 => s.takeAckRecord p (bits w0 31 16)
      [bits w0 63 32, bits w1 31 0, bits w1 63 32, bits w2 31 0, bits w2 63 32, bits w3 31 0]
  | 0x02 => s.takeNak p (bits w0 31 16)
  | 0x03 => s.takeTime p w1 w2 w3
  | 0x04 => s.takeIdent p (bits w0 25 16) (bits w0 28 26) (bits w0 39 32) (bits w0 47 40) w1 (bits w2 31 0) []
  | 0x05 => s.takeOff p
  | _ => s

/-- Is a port trained, so that flits of any kind reach it? -/
def linked (s : State) (p : Nat) : Bool := [pIdent, pUp, pQuarantined, pDraining].contains (s.portState p)

/-- A flit that arrives at a port (R270, R273, R279, R298): its codewords are counted whatever it is; a data flit is judged; the
records of a control flit whose CRC passes are applied, slot by slot; an idle flit brings nothing. -/
def takeFlit (s : State) (p : Nat) (f : Flit) : State :=
  if !s.linked p then s
  else
    let s := (s.bump .TWY_FEC_CORR_COUNT p 0 f.corrected).bump .TWY_FEC_UNCORR_COUNT p 0 f.uncorrected
    if f.ftype = 0 then s.takeData p f
    else if f.ftype = 1 ∧ f.crcOk = true ∧ f.uncorrected = 0 then
      (List.range 8).foldl (fun s i => s.takeRecord p (wordsFrom f.body (4 * i) 4)) s
    else s

/-- One reference cycle of the timestamp: 10 ns, and while a correction is slewed one cycle in a hundred takes 9 or 11
(R290, R390). It stands at 0 while a reset of warm reach or wider is held. -/
def tick (s : State) : State :=
  if !s.boot.pwrok || s.warmHeld then s
  else
    let k := (s.slewTick + 1) % 100
    let d : Int := if k = 0 then (if 0 < s.slew then 1 else if s.slew < 0 then -1 else 0) else 0
    { s with time := s.time + BitVec.ofNat 64 (10 + d).toNat, slew := s.slew - d, slewTick := k }

/-- Does the timestamp run free (R290): no parent port is UP? -/
def timeFree (s : State) : Bool := !((List.range 32).any fun p => hasBit (s.portEntry p) 32 && s.portUp p)

/-! ### Transit (R291, R292) -/

/-- A TRANSIT unit that arrives: passed on towards its location with its ORIGIN, NONCE, guard words, ciphertext and tags, or
discarded with ERR_TWY_TRANSIT. -/
def forwardTransit (s : State) (p loc icls flits : Nat) (x : Transit) : State :=
  let out := s.rd .TWY_LOC_ROUTE_PORT 0 loc
  if !s.flag .TWY_LOC_ROUTE_VALID 0 loc || !s.portUp out then
    (s.bump .TWY_STALE_COUNT p 0 1).twyErr p 5 false loc 0
  else
    let there := s.peerLoc out == loc
    s.queueUnit { unit := ⟨out, if there then icls else cTransit, if there then none else some (loc, icls), x.guard, x.words,
                    x.origin, x.nonce⟩
                  left := flits, size := flits, transit := true, src := 16 + p, tm0 := x.tm0, att := x.att,
                  bodies := x.words, tags := x.tags, pads := x.pads }

/-! ### Verification of groups (R283) -/

/-- A group at its GEND flit on port `p`: one that fails is counted and recorded, and voids the step where it is not a
MGMT packet's; a slot that holds it never reaches SIGNALLED, and a packet never counts as written. -/
def verifyGroup (s : State) (g : Group) (p : Nat) (ok : Bool) : State :=
  if ok then
    match g with
    | .packet i => match s.packets[i]? with
      | some k => { s with packets := s.packets.set i { k with verified := true } }
      | none => s
    | _ => s
  else
    let s := (s.bump .TWY_GCM_FAIL_COUNT p 0 1).twyErr p 3 (decide (g ≠ .mgmt)) 0 0
    match g with
    | .slot d c q => s.spoilSlot d c q
    | .packet i => match s.packets[i]? with
      | some k => { s with packets := s.packets.set i { k with failed := true } }
      | none => s
    | _ => s

/-! ### Guarded transfers sent (R222, R285, R286) -/

/-- ERR_TWY_XFER of a request. -/
def xferErr (s : State) (p : Nat) (ws : List Nat) : State := s.twyErr p 7 true (at0 ws 0) (at0 ws 1)

/-- Does a request hold a reserved field (R285)? -/
def xferReserved (ws : List Nat) : Bool :=
  let w := at0 ws
  let cls := bits (w 0) 50 48
  let len := bits (w 2) 31 0
  bits (w 0) 5 0 != 0 || bits (w 0) 63 51 != 0 || !(cls == cEbb || cls == cMirror) || bits (w 1) 5 0 != 0 ||
  bits (w 1) 63 58 != 0 || bits (w 2) 63 44 != 0 || len % 64 != 0 || len == 0 || decide (0xFFFFF000 < len) ||
  w 5 != 0 || w 6 != 0 || w 7 != 1

/-- The queue of an I/O die. -/
def xferQueue (s : State) (d : Nat) : List XferReq := SMap.get s.xferQueues ⟨d, 0, 0⟩ []
def setXferQueue (s : State) (d : Nat) (q : List XferReq) : State :=
  { s with xferQueues := SMap.set s.xferQueues ⟨d, 0, 0⟩ [] q }

/-- A request taken when word 7 is written (R285). A write to a full queue waits behind it. -/
def requestXfer (s : State) (src : Source) (ws : List Nat) : State :=
  let dest := bits (at0 ws 1) 57 48
  let port := s.rd .SIG_ROUTE_PORT 0 dest
  let stream := bits (at0 ws 2) 43 32
  let n := SMap.get s.xferSeqs ⟨stream, 0, 0⟩ 0
  if xferReserved ws || !s.flag .SIG_ROUTE_VALID 0 dest || decide (1024 ≤ n) then s.xferErr port ws
  else
    let d := s.portDie port
    if 64 ≤ (s.xferQueue d).length then { s with waitXfers := s.waitXfers ++ [(src, ws)] }
    else
      let r : XferReq := ⟨bits (at0 ws 0) 47 0, bits (at0 ws 0) 50 48, bits (at0 ws 1) 47 0, dest, bits (at0 ws 2) 31 0,
        at0 ws 3, at0 ws 4, s.pkn * 2 ^ 22 + stream % 4096 * 2 ^ 10 + n⟩
      { s.setXferQueue d (s.xferQueue d ++ [r]) with xferSeqs := SMap.set s.xferSeqs ⟨stream, 0, 0⟩ 0 (n + 1) }

/-- Packet `i` of a transfer of `n` packets (R286). -/
def sendPacket (s : State) (r : XferReq) (port n i : Nat) (data : List Byte) : State :=
  let bs := (data.drop (4096 * i)).take 4096
  let last := i + 1 == n
  let flits := max 3 ((bs.length + 255) / 256)
  let rows := (bs.length + 63) / 64
  let guard := [r.tag + n * 2 ^ 32 + b2n last * 2 ^ 52, if last then r.sig else 0,
    (r.dst + 4096 * i) / 64 + r.dest * 2 ^ 42 + (rows + 3) % 4 * 2 ^ 52, 0]
  s.originate port r.cls flits (some r.dest) guard (bytesWords (padTo 256 bs)) (.xfer r.tag)

/-- The first write that waits for room in an I/O die's queue is taken (R285). -/
def takeWaiting (s : State) (d : Nat) : State :=
  let mine := fun (x : Source × List Nat) => s.portDie (s.rd .SIG_ROUTE_PORT 0 (bits (at0 x.2 1) 57 48)) == d
  match s.waitXfers.find? mine with
  | none => s
  | some x => { s with waitXfers := removeFirst mine s.waitXfers }.requestXfer x.1 x.2

/-- An I/O die takes its first queued transfer and sends it as guarded packets (R286); a write that waits takes its place.
A source that a zero fill or a pass holds makes it wait (R134, R258). -/
def sendXfer (s : State) (d : Nat) : State :=
  match s.xferQueue d with
  | [] => s
  | r :: rest =>
    let port := s.rd .SIG_ROUTE_PORT 0 r.dest
    if !s.portUp port ∨ s.stalled r.src r.len then s
    else
      let s := s.setXferQueue d rest
      let (s, b) := s.readSpan { num := 2, waiterKind := 0, waiter := 0 } r.src r.len
      match b with
      | .error e => (if e = .isolated then s.twyIsolated port r.src else s).takeWaiting d
      | .ok data =>
        let n := (r.len + 4095) / 4096
        let s : State := { s with xfers := s.xfers ++ [⟨r.tag, port, r.lsig⟩] }
        ((List.range n).foldl (fun (s : State) i => s.sendPacket r port n i data) s).takeWaiting d

/-- Every flit of a transfer acknowledged by the first hop: LSIG posted (R285). -/
def xferDone (s : State) (tag : Nat) : State :=
  match s.xfers.find? fun x => x.tag == tag with
  | none => s
  | some x =>
    let l := s.link x.port
    if (l.replay.any fun f => f.owner == .xfer tag) || (l.queue.any fun u => u.owner == .xfer tag) then s
    else { s with xfers := s.xfers.filter fun y => y.tag != tag }.post x.lsig none .link

/-- Is a queued unit a packet of a transfer of which nothing has been sent? -/
def unsentPacket (u : TxUnit) : Bool := u.left == u.size && match u.owner with | .xfer _ => true | _ => false

/-- The queues emptied and the transfers under way stopped at a packet boundary without LSIG, at a void and at a kill (R364,
R375). -/
def dropXfers (s : State) : State :=
  { s with xferQueues := [], xfers := [], waitXfers := []
           links := s.links.map fun e => (e.1, { e.2 with queue := e.2.queue.filter fun u => !unsentPacket u }) }

/-! ### Sluice tables (R308 to R316) -/

/-- The first slot of a port's shadow table that R315 refuses: a reserved value, or MGMT named a second time. -/
def badSlot (s : State) (p : Nat) : Option Nat :=
  let v := fun (n : Nat) => bits (s.rd .SLU_SHADOW_SLOTS p (n / 8)) (4 * (n % 8) + 3) (4 * (n % 8))
  (List.range 64).find? fun n =>
    v n == 6 || decide (8 ≤ v n) || (v n == 5 && (List.range n).any fun m => v m == 5)

/-- The active and shadow tables exchanged (R314). -/
def swapTables (s : State) (p : Nat) : State :=
  (List.range 8).foldl (fun s i =>
    let a := s.rd .SLU_ACTIVE_SLOTS p i
    (s.wr .SLU_ACTIVE_SLOTS p i (s.rd .SLU_SHADOW_SLOTS p i)).wr .SLU_SHADOW_SLOTS p i a) s

/-- SLU_CTRL.COMMIT (R314, R315). -/
def commitTable (s : State) (p : Nat) : State :=
  match s.badSlot p with
  | some n => s.report { cls := 0x0F, index := 0, inst := p, void := false, objKind := 8, obj := p, d5 := p, d6 := n }
  | none =>
    if s.portUp p then s.wr .SLU_STATUS_COMMIT_PENDING p 0 1
    else (s.swapTables p).wr .SLU_STATUS_COMMIT_PENDING p 0 0

/-- The slot of a port ends: its owner, where it requests and has not held the grant in it, keeps its claim (R311). -/
def endSlot (s : State) (p : Nat) : State :=
  let l := s.link p
  let owner := s.slotOwner p (s.rd .SLU_STATUS_SLOT p)
  if l.claim.isNone ∧ !l.served ∧ l.holder.isSome ∧ l.holder ≠ some owner ∧ owner < 6 ∧ s.mayHave p l owner then
    s.setLink p { l with claim := some owner }
  else s

/-- The slot of a port begins: no grant has been given in it, so that an owner which still holds that of an earlier slot counts
as served only once it is granted again (R311); an owner that waits in back-off presents, and is refused while another holds the
grant (R304). -/
def beginSlot (s : State) (p : Nat) : State :=
  let l := s.link p
  let owner := s.slotOwner p (s.rd .SLU_STATUS_SLOT p)
  let s := s.setLink p { l with served := false }
  if s.backing (.egress p) owner ∧ l.holder.isSome then s.refuse (.egress p) owner else s.pump p

/-- Sixteen flit times of a port pass, `idle` of them taken by control and idle flits where the groups allow it, and the slot
pointer of an UP port advances; at the wrap a pending commit exchanges the tables (R309, R311, R312, R314). -/
def advanceSlot (s : State) (p idle : Nat) : State :=
  let s := s.flitTimes p idle 16
  if !s.portUp p then s
  else
    let s := s.endSlot p
    let n := (s.rd .SLU_STATUS_SLOT p + 1) % 64
    let s := s.wr .SLU_STATUS_SLOT p 0 n
    let s := if n = 0 then
        let s := s.wr .SLU_STATUS_MGMT_USED p 0 0
        if s.flag .SLU_STATUS_COMMIT_PENDING p then (s.swapTables p).wr .SLU_STATUS_COMMIT_PENDING p 0 0 else s
      else s
    s.beginSlot p

/-- Does an ORDER name each of FLOOD, EBB, SIGNAL, TRANSIT and MIRROR once (R316)? -/
def rankOk (v : Nat) : Bool :=
  (List.range 5).all fun c => (List.range 5).any fun i => bits v (3 * i + 2) (3 * i) == c

end State

end Sys2Proof.Machine
end

