-- ==== Sys2Proof/Machine/Barriers.lean ====
section
/-! DEFINITION. Barriers and their messages (R223 to R230), guarded transfers received (R219 to R222), and the void
sequencer with its replays and the halt (R374 to R385). -/
namespace Sys2Proof.Machine

/-- The states of the void sequencer (R385). -/
def vIdle : Nat := 0
def vQuiesce : Nat := 1
def vArrive : Nat := 2
def vRestore : Nat := 3
def vReplayWait : Nat := 4
def vRestart : Nat := 5
def vStopped : Nat := 6

namespace State

/-! ### Senses (R223, R225) -/

/-- A tile's copy of a barrier's SENSE. -/
def tileSense (s : State) (t b : Nat) : Nat := bit (SMap.get s.tileSenses ⟨t, 0, 0⟩ s.senses) b

/-- The SENSE of a barrier written into every tile's copy. -/
def setSenses (s : State) (b v : Nat) : State :=
  let senses := withBits s.senses b b v
  let own := s.tileSenses.map fun e => (e.1, withBits e.2 b b v)
  { s with senses := senses, tileSenses := own.filter fun e => e.2 != senses }

/-- The contexts in BAR.WAIT for a sense that their tile's copy now has (R224). -/
def wakeBarrier (s : State) (b : Nat) : State :=
  s.ctxs.foldl (fun s e =>
    match e.2.wait with
    | .barrier b' v _ =>
      if b' = b ∧ s.tileSense e.1.a b = v then s.setCtx e.1.a e.1.b { s.ctx e.1.a e.1.b with wait := .served 0 0 } else s
    | _ => s) s

/-- A barrier's SENSE broadcast to every tile (R225). -/
def broadcast (s : State) (b : Nat) : State := (s.setSenses b (s.rd .SIG_BAR_STATE_SENSE 0 b)).wakeBarrier b

/-! ### Barrier objects (R223, R227) -/

def bar (s : State) (b : Nat) : BarPhase := SMap.get s.bars ⟨b, 0, 0⟩ BarPhase.init
def setBar (s : State) (b : Nat) (x : BarPhase) : State := { s with bars := SMap.set s.bars ⟨b, 0, 0⟩ BarPhase.init x }

def barGen (s : State) (b : Nat) : Nat := s.rd .SIG_BAR_STATE_GEN 0 b

/-- ERR_SIG_BARRIER (R227, R238). -/
def barErr (s : State) (b kind who gen : Nat) : State :=
  s.report { cls := 0x0A, index := 5, inst := 0xFFFF, void := true, objKind := 2, obj := b, waiterKind := kind,
             waiter := who, d5 := gen + s.barGen b * 2 ^ 32 }

def setSeq (s : State) (v : Nat) : State := s.wr .GLB_VOID_STATUS_STATE 0 0 v

/-! ### Guard entries (R220 to R222) -/

/-- ERR_SIG_GUARD of an entry (R221, R238). -/
def guardErr (s : State) (g : Guard) (count : Nat) : State :=
  s.report { cls := 0x0A, index := 4, inst := 0xFFFF, void := true, objKind := 3, obj := g.tag, waiterKind := 3,
             waiter := bits g.tag 31 22, d5 := g.count + g.written * 2 ^ 32, d6 := count }

/-- The open entry of a tag at an I/O die. -/
def guardOf (s : State) (die tag : Nat) : Option Guard := s.guards.find? fun g => g.die == die && g.tag == tag

/-- An entry freed; packets of its tag that are still to be written count no more. -/
def closeGuard (s : State) (die tag : Nat) : State :=
  { s with guards := s.guards.filter fun g => !(g.die == die && g.tag == tag)
           packets := s.packets.filter fun k => !(s.portDie k.port == die && k.tag == tag) }

/-- Every entry freed, each with ERR_SIG_GUARD, at an increment of the tidemark (R222). -/
def failGuards (s : State) : State :=
  let gs := s.guards
  gs.foldl (fun s g => s.guardErr g 0) { s with guards := [], packets := [] }

/-- An entry whose packets are all written and whose signal word is there: the signal applied, the entry closed
(R220). -/
def settleGuard (s : State) (die tag : Nat) : State :=
  match s.guardOf die tag with
  | none => s
  | some g =>
    match g.sig with
    | none => s
    | some w => if g.written = g.count then (s.closeGuard die tag).postHere w (.guard tag) else s

/-- The writes of a packet (R220, R255): they wait for a zero fill or a pass (R134, R258), and behind a closed shutter they
end with ERR_ISOLATED (R237). -/
def storePacket (s : State) (k : Packet) : State × Packet :=
  let req : Req := { num := 0, waiterKind := 3, waiter := bits k.tag 31 22,
                     mirrorFrom := if k.cls = cMirror then some (bits k.tag 31 22) else none }
  if s.stalled k.addr k.data.length then (s, { k with stored := false, waits := true })
  else
    let (s, f) := s.writeSpan req k.addr k.data
    let s := if f = some .isolated then s.twyIsolated k.port k.addr else s
    (s, { k with stored := f.isNone, waits := false, failed := f.isSome })

/-- A MIRROR write that is refused fails its guard entry (R255). -/
def mirrorFailed (k : Packet) : Bool := k.failed && k.cls == cMirror

/-- A packet that is counted in its entry: its signal word deposited, its data written. -/
def addPacket (s : State) (k : Packet) : State :=
  let die := s.portDie k.port
  match s.guardOf die k.tag with
  | none => s
  | some g =>
    let under := (s.packets.filter fun x => s.portDie x.port == die && x.tag == k.tag).length
    if k.count ≠ g.count ∨ g.count < g.written + under + 1 then (s.closeGuard die k.tag).guardErr g k.count
    else
      let g' : Guard := if k.last then { g with sig := some k.sig } else g
      let s : State := { s with guards := s.guards.map fun (x : Guard) => if x.die = die ∧ x.tag = k.tag then g' else x }
      let (s, k') := s.storePacket k
      if mirrorFailed k' then (s.closeGuard die k.tag).guardErr g' k.count
      else { s with packets := s.packets ++ [k'] }

/-- A guarded packet that arrives: it matches or opens an entry, or is held while the table is full (R220, R221). -/
def takePacket (s : State) (k : Packet) : State :=
  let die := s.portDie k.port
  if (s.guardOf die k.tag).isSome then s.addPacket k
  else if 256 ≤ (s.guards.filter fun g => g.die == die).length then { s with heldPackets := s.heldPackets ++ [k] }
  else
    let g : Guard := ⟨die, k.tag, k.count, 0, none⟩
    { s with guards := s.guards ++ [g] }.addPacket k

/-- May a held packet be taken now? -/
def packetFits (s : State) (k : Packet) : Bool :=
  let die := s.portDie k.port
  (s.guardOf die k.tag).isSome || decide ((s.guards.filter fun g => g.die == die).length < 256)

/-- The first held packet that can be taken is taken (R221). -/
def takeHeld (s : State) : State :=
  match s.heldPackets.find? s.packetFits with
  | none => s
  | some k => { s with heldPackets := removeFirst s.packetFits s.heldPackets }.takePacket k

/-- The writes of packet `i` acknowledged and its group verified: WRITTEN rises (R220). Writes that have waited are made
first. -/
def packetWritten (s : State) (i : Nat) : State :=
  match s.packets[i]? with
  | none => s
  | some k =>
    let die := s.portDie k.port
    let (s, k) := if k.waits then s.storePacket k else (s, k)
    let s := { s with packets := s.packets.set i k }
    if mirrorFailed k then
      match s.guardOf die k.tag with
      | none => s
      | some g => (s.closeGuard die k.tag).guardErr g k.count
    else if !(k.stored && k.verified) then s
    else
      let s := { s with packets := s.packets.eraseIdx i }
      let up (g : Guard) : Guard := if g.die = die ∧ g.tag = k.tag then { g with written := g.written + 1 } else g
      { s with guards := s.guards.map up }.settleGuard die k.tag

/-- An open entry that receives no packet for its limit (R221). -/
def guardTimeout (s : State) (die tag : Nat) : State :=
  match s.guardOf die tag with
  | none => s
  | some g => (s.closeGuard die tag).guardErr g 0

/-! ### Void notices (R376, R424) -/

/-- A MGMT packet sent to a location (R424): on the port that TWY_LOC_ROUTE names, in TRANSIT where that port does not face
the destination. Nothing is sent before the management key is loaded, or where no route is valid. -/
def sendMgmt (s : State) (kind loc : Nat) (payload : List Nat) (len : Nat) : State :=
  if !s.flag .SEC_STATUS_MGMT_KEYED ∨ !s.flag .TWY_LOC_ROUTE_VALID 0 loc then s
  else
    let p := s.rd .TWY_LOC_ROUTE_PORT 0 loc
    let flits := (32 + len + 255) / 256
    let w0 := kind + (flits - 1) * 2 ^ 8 + loc * 2 ^ 16 + s.rd .TWY_SELF_LOC_LOC * 2 ^ 32
    let w1 := len + s.mgmtSeq * 2 ^ 32
    let check := crc32c ((wordsBytes [w0, w1, 0, 0]).take 28)
    let nonce := s.nextNonce cMgmt
    let (s, ok) := { s with mgmtSeq := (s.mgmtSeq + 1) % 2 ^ 32 }.takeNonce p cMgmt
    if !ok then s
    else
      let direct := s.peerLoc p == loc
      s.queueUnit (s.sealedUnit ⟨p, if direct then cMgmt else cTransit, if direct then none else some (loc, cMgmt), [],
        [w0, w1, 0, check * 2 ^ 32] ++ payload, s.rd .TWY_SELF_LOC_LOC, nonce⟩ cMgmt flits .nobody srcOwn)

/-- The body of a void notice (R376). -/
def noticeWords (s : State) (cls index : Nat) : List Nat :=
  let w0 := s.rd .TIDE_JOB_JOB + s.pkn * 2 ^ 32 + cls * 2 ^ 48 + index * 2 ^ 56
  let w := [w0, s.tidemark, s.attempt, 0]
  [w0, s.tidemark, s.attempt, crc32c ((wordsBytes w).take 28) * 2 ^ 32]

/-- Notices to every package number whose route is valid and whose location is known (R376). -/
def sendNotices (s : State) (cls index : Nat) : State :=
  let ws := s.noticeWords cls index
  (List.range 1024).foldl (fun s n =>
    if s.flag .SIG_ROUTE_VALID 0 n ∧ s.flag .TWY_PKN_LOC_VALID 0 n ∧ n ≠ s.pkn then
      s.sendMgmt 0x01 (s.rd .TWY_PKN_LOC_LOC 0 n) ws 32
    else s) s

/-! ### Quiesce, restore, restart (R375 to R378) -/

/-- The running contexts of the package. -/
def runningCtxs (s : State) : List (Nat × Nat) :=
  s.regs.filterMap fun e => if e.1.a = Fd.TILE_CTX_CTRL_RUN.ctorIdx ∧ e.2 ≠ 0 then some (e.1.b, e.1.c) else none

/-- Every context stopped, RUN cleared. -/
def stopAll (s : State) : State := s.runningCtxs.foldl (fun s x => s.stopCtx x.1 x.2) s

/-- The tiles whose array has held work, or whose accumulator buffers hold listed bytes: ABORT leaves every other tile's
buffers undefined just the same. -/
def allTiles (s : State) : List Nat := List.range s.nTiles

/-- Every armed resend slot cleared, as a void does (R198). -/
def disarmAll (s : State) : State :=
  { s with regs := SMap.drop s.regs fun k => [Fd.TILE_RESEND_ARM_VALID, .TILE_RESEND_ARM_DIR, .TILE_RESEND_ARM_STRAND,
      .TILE_RESEND_ARM_LAP_POS].any fun f => f.ctorIdx == k.a }

/-- The actions of QUIESCE (R375), among them the void of armed resend slots (R198). -/
def quiesce (s : State) : State :=
  let s := s.stopAll.disarmAll
  let s := s.allTiles.foldl (fun s t =>
    (([eFeedA, eFeedB, eDrain, eVector].foldl (fun s e => s.discardQueue t e) s).abortArray t)) s
  let s := (List.range 4).foldl (fun s d => s.voidTide d) s
  let s := (List.range 16).foldl (fun s st =>
    let s := if s.surveyOpen st then s.closeSurvey st else s
    if s.recodeOpen st || (s.shingle st).rcOpening then s.closeRecode st else s) s
  { s.dropXfers with voidGate := true }

/-- The sequencer starts (R375, R385): what began it, and the actions of QUIESCE. -/
def beginVoid (s : State) (remote : Bool) (src cls index : Nat) : State :=
  let s := (((s.wr .GLB_VOID_STATUS_REMOTE 0 0 (b2n remote)).wr .GLB_VOID_STATUS_SRC 0 0 src).wr
    .GLB_VOID_STATUS_CLASS 0 0 cls).wr .GLB_VOID_STATUS_INDEX 0 0 index
  ({ s with cause := none, seqReleased := false }.setSeq vQuiesce).quiesce

/-- The entry copies taken (R378): VALUE and TAKEN of every counter, and SENSE, GEN and LAST_ERR of every barrier. -/
def takeEntry (s : State) : State :=
  let put (m : SMap Nat) (k : Key) (v : Nat) : SMap Nat := SMap.set m k 0 v
  { s with entry := s.regs.foldl (fun m e =>
      if e.1.a = Fd.SIG_CNT_VALUE.ctorIdx then put m ⟨e.1.b + 1, e.1.c, 0⟩ e.2
      else if e.1.a = Fd.SIG_CNT_TAKEN_TAKEN.ctorIdx then put m ⟨e.1.b + 1, e.1.c, 1⟩ e.2
      else if e.1.a = Fd.SIG_BAR_STATE_SENSE.ctorIdx then put m ⟨0, e.1.c, 0⟩ e.2
      else if e.1.a = Fd.SIG_BAR_STATE_GEN.ctorIdx then put m ⟨0, e.1.c, 1⟩ e.2
      else if e.1.a = Fd.SIG_BAR_STATE_LAST_ERR.ctorIdx then put m ⟨0, e.1.c, 2⟩ e.2
      else m) [] }

/-- Every counter back at its entry copy: VALUE, TAKEN, and ADDED as their sum (R378). -/
def restoreCounters (s : State) : State :=
  let s := { s with regs := SMap.drop s.regs fun k =>
    k.a == Fd.SIG_CNT_VALUE.ctorIdx || k.a == Fd.SIG_CNT_TAKEN_TAKEN.ctorIdx || k.a == Fd.SIG_CNT_ADDED_ADDED.ctorIdx }
  s.entry.foldl (fun s e =>
    if e.1.a = 0 then s
    else
      let t := e.1.a - 1
      let n := e.1.b
      let s := s.wr (if e.1.c = 0 then .SIG_CNT_VALUE else .SIG_CNT_TAKEN_TAKEN) t n e.2
      s.wr .SIG_CNT_ADDED_ADDED t n (s.cntValue t n + s.cntTaken t n)) s

/-- One barrier object back at its entry copy, its SENSE broadcast again (R378). -/
def restoreBar (s : State) (b : Nat) : State :=
  let get (i : Nat) : Nat := SMap.get s.entry ⟨0, b, i⟩ 0
  let s := ((s.wr .SIG_BAR_STATE_SENSE 0 b (get 0)).wr .SIG_BAR_STATE_GEN 0 b (get 1)).wr .SIG_BAR_STATE_LAST_ERR 0 b (get 2)
  let s := (s.wr .SIG_BAR_STATE_ARRIVED 0 b 0).wr .SIG_BAR_STATE_ERR 0 b 0
  (s.setBar b BarPhase.init).broadcast b

/-- The actions of RESTORE, but for the replay barrier (R375). -/
def restore (s : State) : State :=
  let s := s.setSeq vRestore
  let s := { s with guards := [], packets := [], heldPackets := [], holdQueue := [], seqReleased := false }
  let s := s.restoreCounters
  let s := (List.range 512).foldl (fun s b => if b = s.stepBar ∨ b = s.replayBar then s else s.restoreBar b) s
  let s := s.setSenses s.stepBar (s.rd .SIG_BAR_STATE_SENSE 0 s.stepBar)
  let s := (List.range 4).foldl (fun s d => s.openTide d) s
  { s with voidGate := false }.judgeHeld

/-- The attempt of every instance (R377). -/
def setAttempt (s : State) (v : Nat) : State := (List.range 4).foldl (fun s d => s.wr .TIDE_ATTEMPT_ATTEMPT d 0 v) s

/-- The next attempt of the step: the nonces and transfer sequences restart with it (R377). -/
def newAttempt (s : State) : State := (s.setAttempt (s.attempt + 1)).restartNonces

/-- A context as JOB_START and RESTART start it: registers and CSRs at their start values (R358, R375). -/
def restartCtx (s : State) (t c : Nat) : State :=
  ((s.wr .TILE_CTX_CTRL_HALTED t c 0).setCtx t c Ctx.init).startCtx t c

/-- The contexts that JOB_START starts: those whose program window is not empty (R358). -/
def jobCtxs (s : State) : List (Nat × Nat) :=
  s.regs.filterMap fun e =>
    if e.1.a = Fd.TILE_CTX_PS_BOUND.ctorIdx ∧ e.2 ≠ 0 ∧ e.1.b < s.nTiles then some (e.1.b, e.1.c) else none

/-- The actions of RESTART (R375). A void met since then begins a new sequence (R381). -/
def restart (s : State) : State :=
  let s := s.setSeq vRestart
  let s := (List.range 4).foldl (fun s d =>
    let s := s.pauseTide d true
    if s.flag .TIDE_CTRL_ENABLE d then
      (List.range 4).foldl (fun s c => if s.tideValid d c then s.restartWalker d c else s) s
    else s) s
  let s := s.jobCtxs.foldl (fun s x => s.restartCtx x.1 x.2) s
  let s := if s.cause.isSome then s else s.wr .SIG_STATUS_VOIDED 0 0 0
  s.setSeq vIdle

/-! ### Barriers that complete and release (R225, R226, R230, R375 to R384) -/

/-- What the barriers still have to do. -/
inductive BarEvent where
  | part (b : Nat) (err : Bool)             -- the package's part is complete, or its flag is sent again
  | arrival (b src gen : Nat) (err : Bool)  -- a member's arrival at the root
  | release (b : Nat) (flag : Bool)
  | message (ws : List Nat)                 -- a message of the SIGNAL class for this package
deriving DecidableEq, Repr

/-- The package's part of a barrier completes, or, where it has completed with flag 0, is sent again with its flag (R225, R226,
R375). -/
def barPart (s : State) (b : Nat) (err : Bool) : State × List BarEvent :=
  let x := s.bar b
  let flag := err || s.flag .SIG_BAR_STATE_ERR 0 b || (s.barStep b && s.flag .SIG_STATUS_VOIDED)
  if x.done ∧ (!err ∨ x.sent) then (s, [])
  else
    let s := s.setBar b { x with done := true, sent := flag }
    if s.barPkgs b = 1 then (s, if x.done then [] else [.release b flag])
    else if s.pkn = s.barRoot b then (s, [.arrival b s.pkn (s.barGen b) flag])
    else (s.sendMessage (s.barRoot b) (s.message 0x11 (s.barRoot b) b (s.barGen b + b2n flag * 2 ^ 32)), [])

/-- A member's arrival counted at the root (R225, R227). -/
def barArrival (s : State) (b src gen : Nat) (err : Bool) : State × List BarEvent :=
  let root := s.barRoot b
  let n := s.barPkgs b
  if !s.barValid b ∨ s.pkn ≠ root ∨ src < root ∨ root + n ≤ src ∨ gen ≠ s.barGen b then (s.barErr b 3 src gen, [])
  else
    let x := s.bar b
    let x := { x with mask := setBit x.mask (src - root), flag := x.flag || err }
    let s := s.setBar b x
    if x.mask = 2 ^ n - 1 then
      let s := (List.range (n - 1)).foldl (fun s i =>
        let p := root + 1 + i
        s.sendMessage p (s.message 0x12 p b (gen + b2n x.flag * 2 ^ 32))) s
      (s, [.release b x.flag])
    else (s, [])

/-- The step that begins when the step barrier releases with flag 0 (R21, R39, R52, R222, R226, R282, R377, R378): the records of
the tide engines come before those of the guard table (R239). -/
def newStep (s : State) : State × List BarEvent :=
  let s := s.count .SIG_TIDEMARK_TIDEMARK 0 0 1
  let s := s.setAttempt 0
  let s := s.takeEntry.tideNewStep.failGuards.restartNonces.judgeHeld
  let held := s.holdQueue
  ({ s with holdQueue := [] }, held.map .message)

/-- A release with flag 0 that makes the tidemark GLB_HALT_TM halts the package (R384). -/
def haltHere (s : State) : Bool := s.flag .GLB_HALT_CTRL_EN && s.tidemark == s.rd .GLB_HALT_TM_TIDEMARK

/-- A release with flag 1 at a package that is IDLE: QUIESCE, with notices where a cause of its own waits (R381). -/
def releaseVoid (s : State) : State :=
  match s.cause with
  | some (cls, index) => { (s.beginVoid false 0 cls index).sendNotices cls index with seqReleased := true }
  | none => { s.beginVoid true 0 0 0 with seqReleased := true }

/-- A release of the step barrier (R226, R375, R377, R380, R384): the state, whether its SENSE is withheld from the tiles,
and what follows. -/
def stepRelease (s : State) (flag : Bool) : State × Bool × List BarEvent :=
  if !flag then
    let (s, es) := s.newStep
    let halts := s.haltHere
    let s := if halts then s.wr .GLB_HALT_CTRL_HALTED 0 0 1 else s
    (s, halts || s.seqState != vIdle, es ++ if s.seqState = vArrive then [.part s.stepBar true] else [])
  else
    let s := (s.wr .SIG_STATUS_STEP_VOID 0 0 1).bump .GLB_VOID_COUNT_COUNT 0 0 1
    let st := s.seqState
    if st = vIdle ∧ !s.seqArmed then (s, false, [])
    else if s.attempt = s.rd .GLB_VOID_CTRL_MAX then
      ((s.report { cls := 0x01, index := 0x80, inst := 0xFFFF, void := false, d5 := s.tidemark, d6 := s.attempt }).setSeq
        vStopped, true, [])
    else
      let s := s.newAttempt
      if st = vArrive then
        let s := s.restore
        let err := s.cause.isSome
        ({ s with cause := none }.setSeq vReplayWait, true, [.part s.replayBar err])
      else if st = vIdle then (s.releaseVoid, true, [])
      else ({ s with seqReleased := true }, true, [])

/-- A release of the replay barrier (R375, R381). -/
def replayRelease (s : State) (flag : Bool) : State × List BarEvent :=
  if s.seqState ≠ vReplayWait then (s, [])
  else if !flag then (s.restart, [])
  else
    let s := s.newAttempt.restore
    let err := s.cause.isSome
    ({ s with cause := none }.setSeq vReplayWait, [.part s.replayBar err])

/-- A barrier releases (R225): its state, then the sense to the tiles. -/
def barRelease (s : State) (b : Nat) (flag : Bool) : State × List BarEvent :=
  let s := (s.wr .SIG_BAR_STATE_LAST_ERR 0 b (b2n flag)).wr .SIG_BAR_STATE_SENSE 0 b (1 - s.rd .SIG_BAR_STATE_SENSE 0 b)
  let s := ((s.count .SIG_BAR_STATE_GEN 0 b 1).wr .SIG_BAR_STATE_ARRIVED 0 b 0).wr .SIG_BAR_STATE_ERR 0 b 0
  let s := s.setBar b BarPhase.init
  if s.barStep b then
    let (s, hold, es) := s.stepRelease flag
    (if hold then s else s.broadcast b, es)
  else
    let s := s.broadcast b
    if b = s.replayBar then s.replayRelease flag else (s, [])

/-- A message of the SIGNAL class addressed to this package, of the job's step (R218, R225, R227). -/
def applyMessage (s : State) (ws : List Nat) : State × List BarEvent :=
  let b := Msg.barrier ws
  let gen := bits (hw ws 1) 31 0
  let err := hasBit (hw ws 1) 32
  if Msg.type ws = 0x10 then (s.post (hw ws 1) none (.message (Msg.src ws)), [])
  else if Msg.type ws = 0x11 then (s, [.arrival b (Msg.src ws) gen err])
  else if !s.barValid b then (s.barErr b 3 (Msg.src ws) gen, [])
  else (s, [.release b err])

/-- TIDEMARK and ATTEMPT of a message compared (R230). -/
def judgeMessage (s : State) (ws : List Nat) : State × List BarEvent :=
  if Msg.tidemark ws = s.tidemark then
    if Msg.attempt ws = s.attempt then s.applyMessage ws else (s.bump .SIG_STALE_COUNT 0 0 1, [])
  else if Msg.tidemark ws = (s.tidemark + 1) % 2 ^ 64 then ({ s with holdQueue := s.holdQueue ++ [ws] }, [])
  else (s.badMessage ws, [])

/-- One thing the barriers have to do, done. -/
def barHandle (s : State) : BarEvent → State × List BarEvent
  | .part b err => s.barPart b err
  | .arrival b src gen err => s.barArrival b src gen err
  | .release b flag => s.barRelease b flag
  | .message ws => s.judgeMessage ws

/-- Everything the barriers have to do, in order, what follows from one thing before the next. -/
def barRun (s : State) : Nat → List BarEvent → State
  | 0, _ => s
  | _ + 1, [] => s
  | n + 1, e :: es => let (s, more) := s.barHandle e; s.barRun n (more ++ es)

/-- The steps that suffice: each held message and each release leads to a few more. -/
def barDo (s : State) (e : BarEvent) : State := s.barRun (16 * (s.holdQueue.length + 2)) [e]

/-- A local arrival counted (R224, R227): the sense awaited, and the state. -/
def countArrival (s : State) (t c b : Nat) (err : Bool) : Nat × State :=
  let awaited := 1 - s.rd .SIG_BAR_STATE_SENSE 0 b
  if !s.barValid b then (awaited, s.barErr b 1 (t * 8 + c) (s.barGen b))
  else
    let s := if err then s.wr .SIG_BAR_STATE_ERR 0 b 1 else s
    let s := s.wr .SIG_BAR_STATE_ARRIVED 0 b (s.rd .SIG_BAR_STATE_ARRIVED 0 b + 1)
    (awaited, if s.rd .SIG_BAR_STATE_ARRIVED 0 b = s.rd .SIG_BAR_CFG_EXPECT 0 b then s.barDo (.part b false) else s)

/-! ### Messages received (R218, R229, R230) -/

/-- The types of R229 and R44. -/
def messageTypes : List Nat := [0x01, 0x02, 0x10, 0x11, 0x12]

/-- A message of the SIGNAL class that is not one of the tide's: checked, forwarded, or judged. While the hold queue is
full, one of the next step waits at its port. -/
def takeMessage (s : State) (ws : List Nat) : State :=
  if !Msg.checkOk ws ∨ !messageTypes.contains (Msg.type ws) then s.badMessage ws
  else if Msg.dest ws ≠ s.pkn then s.sendMessage (Msg.dest ws) ws
  else if Msg.tidemark ws = (s.tidemark + 1) % 2 ^ 64 ∧ 64 ≤ s.holdQueue.length then s
  else s.barDo (.message ws)

/-! ### Void notices received, and the end of QUIESCE (R375, R376, R381) -/

/-- VOIDED has risen from a cause of the package's own (R374 to R376, R381). -/
def voidSequence (s : State) : State :=
  match s.cause with
  | none => s
  | some (cls, index) =>
    if s.seqState = vIdle ∧ s.seqArmed then (s.beginVoid false 0 cls index).sendNotices cls index
    else if s.seqState = vReplayWait then { s with cause := none }.barDo (.part s.replayBar true)
    else s

/-- A void notice received (R376, R381). -/
def takeNotice (s : State) (ws : List Nat) : State :=
  let ok := bits (hw ws 3) 63 32 == crc32c ((wordsBytes (ws.take 4)).take 28)
  if !ok ∨ s.seqState ≠ vIdle ∨ !s.seqArmed ∨ bits (hw ws 0) 31 0 ≠ s.rd .TIDE_JOB_JOB ∨ hw ws 1 ≠ s.tidemark ∨
    bits (hw ws 2) 7 0 ≠ s.attempt then s
  else if s.cause.isSome then s.voidSequence
  else (s.wr .SIG_STATUS_VOIDED 0 0 1).beginVoid true (bits (hw ws 0) 41 32) (bits (hw ws 0) 55 48) (bits (hw ws 0) 63 56)

/-- Are units past their SOP complete, their writes acknowledged and their signals applied or left in guard entries (R360,
R375)? -/
def unitsDone (s : State) : Bool :=
  s.links.all (fun e => (e.2.rx.take 5).all fun r => r != .taken) &&
  s.packets.all (fun k => k.failed || (k.stored && k.verified)) && s.flights.isEmpty

/-- Every write of QUIESCE acknowledged and every signal on its way applied: the package's part of the step barrier is
completed with the flag set, or RESTORE follows a release that has already come (R375, R381). -/
def quiesceDone (s : State) : State :=
  if s.seqState ≠ vQuiesce ∨ !s.unitsDone then s
  else if s.seqReleased then
    let s := s.restore
    let err := s.cause.isSome
    ({ s with cause := none }.setSeq vReplayWait).barDo (.part s.replayBar err)
  else (s.setSeq vArrive).barDo (.part s.stepBar true)

/-- HALTED cleared: the sense withheld is broadcast (R384). -/
def resumeHalt (s : State) : State :=
  if !s.flag .GLB_HALT_CTRL_HALTED then s
  else
    let s := s.wr .GLB_HALT_CTRL_HALTED 0 0 0
    match (List.range 512).find? fun b => s.barValid b && s.barStep b with
    | none => s
    | some b => s.broadcast b

/-- SIG_CTRL.CLEAR_BAR (R240). -/
def clearBars (s : State) : State :=
  let s := (List.range 512).foldl (fun s b =>
    let s := ((s.wr .SIG_BAR_STATE_SENSE 0 b 0).wr .SIG_BAR_STATE_ARRIVED 0 b 0).wr .SIG_BAR_STATE_GEN 0 b 0
    (s.wr .SIG_BAR_STATE_ERR 0 b 0).wr .SIG_BAR_STATE_LAST_ERR 0 b 0) s
  let s := { s with bars := [], senses := 0, tileSenses := [], guards := [], packets := [], holdQueue := [] }
  s.ctxs.foldl (fun s e => match e.2.wait with
    | .barrier _ 0 _ => s.setCtx e.1.a e.1.b { s.ctx e.1.a e.1.b with wait := .served 0 0 }
    | _ => s) s

/-! ### Limits (R228) -/

/-- A barrier's limit expires: at the root from the first arrival of a phase, at a member from the sending of its
BAR_ARRIVE; once a phase. -/
def barTimeout (s : State) (b : Nat) : State :=
  let x := s.bar b
  let err (who more : Nat) : State :=
    (s.setBar b { x with reported := true }).report
      { cls := 0x0A, index := 0, inst := 0xFFFF, void := false, objKind := 2, obj := b, waiterKind := 3, waiter := who,
        waiters := more, d5 := s.rd .SIG_BAR_LIMIT_LIMIT_US 0 b, d6 := s.barGen b }
  if x.reported ∨ !s.barValid b then s
  else if s.pkn = s.barRoot b then
    let missing := (List.range (s.barPkgs b)).filter fun i => !hasBit x.mask i
    if x.mask = 0 ∨ missing.isEmpty then s else err (s.barRoot b + missing.getD 0 0) (missing.length - 1)
  else if x.done then err s.pkn 0
  else s

end State

end Sys2Proof.Machine
end

