-- ==== Sys2Proof/Machine/MemCtl.lean ====
section
/-! DEFINITION. The memory controllers beside the accesses themselves: refresh, scrub, zero fills, the mirror region
(R250 to R259), and the shared points of arbitration (R300 to R306, R316, R317). -/
namespace Sys2Proof.Machine

/-- The device address of a stack-local address (the inverse of R244). -/
def deviceAddr (n st loc : Nat) : Nat :=
  let q := loc / 4096
  match (List.range n).find? fun m => stackOf n ((q * n + m) * 4096) == st with
  | none => 0
  | some m => (q * n + m) * 4096 + loc % 4096

/-- The refresh rate of a temperature, held 2 °C below a threshold on the way down (R250). -/
def refreshRate (cur : Nat) (t : Int) : Nat :=
  if 95 < t then 2
  else if 93 < t ∧ cur = 2 then 2
  else if 85 < t then 1
  else if 83 < t ∧ 1 ≤ cur then 1
  else 0

namespace State

/-- A stack's temperature read, and its refresh window with it (R250). -/
def setRefresh (s : State) (st : Nat) (t : Int) : State :=
  (s.wr .MEM_REFRESH_RATE st 0 (refreshRate (s.rd .MEM_REFRESH_RATE st) t)).wr .MEM_TEMP_TEMP st 0 (ofSigned 8 t)

/-- Does patrol scrub run: enabled on a trained stack, and not suspended by a zero fill (R252), a memory loopback (R464), a
memory test (R458) or the self-test of the controllers (R467)? -/
def scrubbing (s : State) (st : Nat) : Bool :=
  s.flag .MEM_SCRUB_CFG_EN st && s.flag .MEM_STATUS_TRAINED st && !s.flag .MEM_STATUS_ZEROING st && !s.memLoopback &&
  s.rd .JRN_MAINT_ST_STATE 0 (160 + st) != 2 && !hasBit (s.rd .TST_BIST_STATUS_RUNNING) 3

/-- The lines of a stack. -/
def lineCount (s : State) : Nat := s.fuses.stackGib * 2 ^ 24

/-- One scrub read (R251): a line that already holds an uncorrectable error shows it again. -/
def scrubRead (s : State) (st : Nat) (found : Found) : State :=
  if !s.scrubbing st then s
  else
    let req : Req := { num := 6, waiterKind := 0, waiter := 0 }
    let line := s.rd .MEM_SCRUB_POS_LINE st
    let a := deviceAddr s.fuses.nStacks st (64 * line)
    let s := (s.wr .MEM_SCRUB_POS_LINE st 0 ((line + 1) % s.lineCount)).count .MEM_RD_BYTES_COUNT st 0 64
    let bad (s : State) (y : Nat) : State := (s.bump .MEM_UE_COUNT_COUNT st 0 1).memErr st 4 req a y false
    match s.mem.badAt a, found with
    | some y, _ => bad s y
    | none, .clean => s
    | none, .symbols n y =>
      if n = 0 then s else if n = 1 then s.memCorrected req a y else bad { s with mem := s.mem.mark ⟨a, 64, y⟩ } y
    | none, .moved y => bad { s with mem := s.mem.mark ⟨a, 64, y⟩ } y

/-- A zero fill of a stack starts (R258): every line of it zero with fresh check bits, counted as written (R261). -/
def zeroStack (s : State) (st : Nat) : State :=
  (({ s with mem := s.mem.clear (.stack s.fuses.nStacks st) }.wr .MEM_STATUS_ZEROING st 0 1).wr .MEM_ZERO_START st 0 1).count
    .MEM_WR_BYTES_COUNT st 0 (64 * s.lineCount)

/-- A zero fill starts on every stack whose controller can make it. -/
def zeroAll (s : State) : State :=
  (List.range s.fuses.nStacks).foldl (fun s st => if s.isOpen kMemc st then s.zeroStack st else s) s

/-- Does some zero fill run? -/
def zeroing (s : State) : Bool := (List.range 16).any fun st => s.flag .MEM_STATUS_ZEROING st

/-! ### The mirror region (R255, R262) -/

/-- Is a mirror region a reserved encoding: in the context area, or beyond M (R262)? -/
def badMirror (s : State) (base size : Nat) : Bool :=
  size != 0 && decide (s.fuses.ctxBase < (base + size) * 2 ^ 24)

/-- Are MIRROR writes accepted and not yet completed? -/
def mirrorPending (s : State) : Bool := s.packets.any fun k => k.cls == cMirror

/-- A write of MEM_RGN_MIRROR with no reserved encoding (R255). -/
def writeMirror (s : State) (base size : Nat) (armed : Bool) : State :=
  let was := s.flag .MEM_RGN_MIRROR_ARMED
  let moves := decide (base ≠ s.rd .MEM_RGN_MIRROR_BASE ∨ size ≠ s.rd .MEM_RGN_MIRROR_SIZE)
  let s := if was then (if moves then s.setErr 0x09 2 0 else s)
    else (s.wr .MEM_RGN_MIRROR_BASE 0 0 base).wr .MEM_RGN_MIRROR_SIZE 0 0 size
  if armed then { s with disarm := false }.wr .MEM_RGN_MIRROR_ARMED 0 0 1
  else if was ∧ s.mirrorPending then { s with disarm := true }
  else s.wr .MEM_RGN_MIRROR_ARMED 0 0 0

/-- A disarming that waited takes effect (R255). -/
def disarmMirror (s : State) : State :=
  if s.disarm ∧ !s.mirrorPending then { s with disarm := false }.wr .MEM_RGN_MIRROR_ARMED 0 0 0 else s

/-! ### Arbitration (R300 to R306, R317) -/

/-- The bits of SLU_STARVE (R317). -/
def starveBits (s : State) : Nat :=
  let any (f : Fd) : Bool := s.regs.any fun e => e.1.a == f.ctorIdx && e.2 != 0
  b2n (any .TILE_ERR_STATUS_STARVE) + 2 * b2n (any .SLU_FAB_STARVE_FLAG) + 4 * b2n (any .MEM_ERR_STATUS_STARVE) +
    8 * b2n (any .SLU_ERR_STATUS_STARVE)

/-- A requester has waited its point's limit (R306): flag, counter and interrupt, and no record. -/
def starve (s : State) (p : Point) : State :=
  let t := match p with
    | .bank t _ => (s.setErr 0x0C tStarve t).bump .TILE_STARVE_COUNT t 0 1
    | .fabric t o =>
      let s := s.bump .SLU_FAB_STARVE_COUNT 0 0 1
      if s.flag .SLU_FAB_STARVE_FLAG then s
      else ((s.wr .SLU_FAB_STARVE_FLAG 0 0 1).wr .SLU_FAB_STARVE_PORT 0 0 o).wr .SLU_FAB_STARVE_TILE 0 0 t
    | .memory st => s.setErr 0x09 5 st
    | .egress p => (s.setErr 0x0F 2 p).bump .SLU_STARVE_CNT_COUNT p 0 1
  let rise := (List.range 4).any fun i =>
    !hasBit s.starveBits i && hasBit t.starveBits i && hasBit (t.rd .SLU_GLB_INT_EN_EN) i
  if rise then t.raiseVector 56 else t

/-- Numbers in 3-bit places of a ranking, highest first (R122, R262). -/
def rankList (v n : Nat) : List Nat := (List.range n).map fun i => bits v (3 * i + 2) (3 * i)

/-- The background ranking of a point other than an egress port (R300): a tile bank's, with the core's narrow accesses last;
a router output's, the input opposite it first, then north, east, south, west, then the local injection (R301); a
controller's. Inputs and outputs of a router are 0 north, 1 east, 2 south, 3 west, 4 local. -/
def ranking (s : State) : Point → List Nat
  | .bank t _ => rankList (s.rd .TILE_ARB_RANK_ORDER t) 7 ++ [7]
  | .fabric _ o => if o < 4 then (o + 2) % 4 :: ([0, 1, 2, 3].filter fun i => i != (o + 2) % 4) ++ [4] else [0, 1, 2, 3, 4]
  | .memory _ => rankList (s.rd .MEM_ARB_RANK_ORDER) 7
  | .egress p => s.rankOrder p

/-- Does the shutter of a requester's block mask it (R305): the requesters inside a tile that is not open at its banks and at
its router, a controller's scrub at the controller? -/
def masked (s : State) : Point → Nat → Bool
  | .bank t _, who => who != 6 && !s.isOpen kTile t
  | .fabric t _, who => who == 4 && !s.isOpen kTile t
  | .memory st, who => who == 6 && !s.isOpen kMemc st
  | .egress p, _ => !s.isOpen kPort p

/-- The packet in an input buffer of a router. -/
def packetAt (s : State) (t i : Nat) : Option FabPacket := s.fabric.find? fun x => x.tile == t && x.input == i

/-- Does the packet in an input buffer need an output (R301)? -/
def needsOutput (s : State) (t i o : Nat) : Bool := (s.packetAt t i).any fun x => x.outs.contains o

/-- The branch of a packet at an output has been sent; the packet stays in its input buffer until every branch has (R301). -/
def sendBranch (s : State) (t i o : Nat) : State :=
  match s.packetAt t i with
  | none => s
  | some x =>
    let left := x.outs.filter fun y => y != o
    let others := s.fabric.filter fun x => !(x.tile == t && x.input == i)
    { s with fabric := if left.isEmpty then others else others ++ [⟨t, i, left⟩] }

/-- The holder of a point (R302). -/
def holderOf (s : State) (p : Point) : Option Nat := (s.holders.find? fun h => h.point == p).map (·.who)

/-- The grant of a point given, or taken back. -/
def setHolder (s : State) (p : Point) (who : Option Nat) : State :=
  let others := s.holders.filter fun h => h.point != p
  { s with holders := match who with | none => others | some w => others ++ [⟨p, w⟩] }

/-- What a cycle brings to a router (R301): at its break point the holder of the output has sent its branch, and the packets
that come fill the input buffers that are free; a masked input takes none (R305). -/
def routerCycle (s : State) (p : Point) (c : ArbCycle) : State :=
  match p with
  | .fabric t o =>
    let s := match s.holderOf p with
      | some h => if c.brk then s.sendBranch t h o else s
      | none => s
    c.packets.foldl (fun (s : State) x =>
      if (s.packetAt t x.1).isSome || s.masked p x.1 || x.2.isEmpty then s
      else { s with fabric := s.fabric ++ [⟨t, x.1, x.2⟩] }) s
  | _ => s

/-- The requests of a cycle at a point: `who` and those that present with it, but for masked ones and inputs whose packet does
not need the output (R301, R302, R305). -/
def cycleRequests (s : State) (p : Point) (who : Nat) (c : ArbCycle) : List Nat :=
  let s := s.routerCycle p c
  ((who :: c.present).filter fun w => !s.masked p w && match p with
    | .fabric t o => s.needsOutput t w o
    | _ => true).eraseDups

/-- A cycle in which `who` presents at a point other than an egress port (R302 to R304): with no holder, or at its break
point, the grant goes to the highest in the ranking that requests; whoever requests and does not have it is refused, and a
refused packet stays in its buffer. -/
def arbitrate (s : State) (p : Point) (who : Nat) (c : ArbCycle) : State :=
  let asks := s.cycleRequests p who c
  let winner := match s.holderOf p with
    | some h => if c.brk then (s.ranking p).find? asks.contains else some h
    | none => (s.ranking p).find? asks.contains
  let t := (s.routerCycle p c).setHolder p winner
  asks.foldl (fun t w => if winner = some w then t.relent p w else t.refuse p w) t

/-- Does a cycle belong to a point: at a tile's bank the row that is presented for lies in that bank (R116)? -/
def cycleFits (p : Point) (c : ArbCycle) : Bool :=
  match p with
  | .bank _ b => (rowBank c.row).1 == b && decide (c.row < 5120)
  | _ => true

/-- A refused requester presents its request again (R304). At an egress port the class requests of its own, or no longer. -/
def presentAgain (s : State) (p : Point) (who : Nat) (c : ArbCycle) : State :=
  match p with
  | .egress e =>
    let l := s.link e
    if !s.requests e l who then s.relent p who
    else if l.holder.isSome ∧ l.holder ≠ some who then s.refuse p who
    else s.pump e
  | _ => if cycleFits p c then s.arbitrate p who c else s

/-- The break-point unit of a masked holder, completed by its shutter (R305): a row or 64-byte access with ERR_ISOLATED, at an
address that is free, since a grant does not keep it (assumption 37); a fabric packet marked isolated, which its destination
discards. -/
def completeMasked (s : State) (h : Hold) : State :=
  let (k, t) := s.draw
  match h.point with
  | .bank i _ => t.reportIsolated 0x0C i (tileBase i + 64 * (Config.unstated 28 k % 5120)) 0 0
  | .memory st => t.reportIsolated 0x09 st (64 * Config.unstated 28 k % 2 ^ 48) 0 0
  | _ => s

/-- Requesters behind a shutter that closes hold no grant and wait for none (R305). -/
def dropMasked (s : State) : State :=
  let gone := s.holders.filter fun h => s.masked h.point h.who
  let t := { s with backoffs := s.backoffs.filter fun b => !s.masked b.point b.who
                    holders := s.holders.filter fun h => !s.masked h.point h.who
                    fabric := s.fabric.filter fun x => !s.masked (.fabric x.tile 0) x.input }
  gone.foldl (fun s h => s.completeMasked h) t

/-- Does the package have a point? -/
def hasPoint (s : State) : Point → Bool
  | .bank t b => decide (t < s.nTiles ∧ b < 10)
  | .fabric t o => decide (t < s.nTiles ∧ o < 5)
  | .memory st => decide (st < s.fuses.nStacks)
  | .egress p => decide (p < 32)

/-- A write of a port's shadow table (R314). -/
def writeShadow (s : State) (p i v : Nat) : State :=
  if s.flag .SLU_STATUS_COMMIT_PENDING p then s.setErr 0x0F 1 p else s.wr .SLU_SHADOW_SLOTS p i v

/-! ### Credit allotments (R276) -/

/-- Is an allotment a reserved encoding: a field of 0, or a sum above 10 × QUADS groups? -/
def badAllotment (s : State) (p v : Nat) : Bool :=
  let f := fun (i : Nat) => bits v (8 * i + 7) (8 * i)
  (List.range 6).any (fun i => f i == 0) || decide (10 * s.portQuads p < (List.range 6).foldl (fun n i => n + f i) 0)

/-- A write of TWY_PORT_CREDIT with no reserved encoding. -/
def writeAllotment (s : State) (p v : Nat) : State :=
  let fs : List Fd := [.TWY_PORT_CREDIT_FLOOD, .TWY_PORT_CREDIT_EBB, .TWY_PORT_CREDIT_SIGNAL, .TWY_PORT_CREDIT_TRANSIT,
    .TWY_PORT_CREDIT_MIRROR, .TWY_PORT_CREDIT_MGMT]
  let s := fs.zipIdx.foldl (fun s x => s.wr x.1 p 0 (bits v (8 * x.2 + 7) (8 * x.2))) s
  if s.portUp p then s.updateCredits p else s

end State

end Sys2Proof.Machine
end

