-- ==== Sys2Proof/Machine/Host.lean ====
section
/-! DEFINITION. The host interface (R337 to R353): queues and completions, ferries, BAR2; and the job sequencer with its
pause, kill and scour (R354 to R366). -/
namespace Sys2Proof.Machine

/-! ### Submission entries (R346) -/

namespace HostCmd
def word (c : HostCmd) (i : Nat) : Nat := c.words.getD i 0
def op (c : HostCmd) : Nat := bits (c.word 0) 7 0
def fence (c : HostCmd) : Bool := hasBit (c.word 0) 8
def sigEn (c : HostCmd) : Bool := hasBit (c.word 0) 9
def cid (c : HostCmd) : Nat := bits (c.word 0) 31 16
def channel (c : HostCmd) : Nat := bits (c.word 0) 35 32
def src (c : HostCmd) : Nat := bits (c.word 1) 47 0
def dst (c : HostCmd) : Nat := bits (c.word 2) 47 0
def len (c : HostCmd) : Nat := bits (c.word 3) 32 0
def sig (c : HostCmd) : Nat := c.word 7

/-- A bit that R346 leaves unlisted is set. -/
def reserved (c : HostCmd) : Bool :=
  bits (c.word 0) 15 10 != 0 || bits (c.word 0) 63 36 != 0 || bits (c.word 1) 63 48 != 0 || bits (c.word 2) 63 48 != 0 ||
  bits (c.word 3) 63 33 != 0 || c.word 4 != 0 || c.word 5 != 0 || c.word 6 != 0
end HostCmd

/-- The opcodes of R346. -/
def opNop : Nat := 0x00
def opFerry : Nat := 0x01
def opOpen : Nat := 0x10
def opStart : Nat := 0x11
def opPause : Nat := 0x12
def opResume : Nat := 0x13
def opKill : Nat := 0x14

/-- The regions of R340 that a FERRY may name: stack memory, one tile, or the host window. -/
def ferryRegion (a : Nat) : Option (Nat × Nat) :=
  if a < 0x018000000000 then some (0, 0)
  else if 0x200000000000 ≤ a ∧ a < 0x300000000000 then some (1, (a - 0x200000000000) / 0x80000)
  else if 0x380000000000 ≤ a ∧ a < 0x400000000000 then some (2, 0)
  else none

/-- The region of a whole range, where it does not cross from one into another (R350). -/
def ferrySide (a n : Nat) : Option (Nat × Nat) :=
  match ferryRegion a, ferryRegion (a + n - 1) with
  | some r, some r' => if r = r' then some r else none
  | _, _ => none

/-- The first byte of a range that no window covers; `n` windows at most lie one after another. -/
def uncovered (ws : List (Nat × Nat)) : Nat → Nat → Nat → Option Nat
  | 0, a, _ => some a
  | n + 1, a, e =>
    if e ≤ a then none
    else match (ws.filter fun w => decide (w.1 ≤ a ∧ a < w.2)).map (·.2) with
      | [] => some a
      | hi :: _ => uncovered ws n hi e

namespace State

/-- The requester of ferries and BAR2 at the controllers, and as records name it (R236, R260, R341). -/
def hostReq : Req := { num := 4, waiterKind := 5, waiter := 0 }

/-- The requester of the pause's save and restore (R254, R260). -/
def saveReq : Req := { num := 5, waiterKind := 0, waiter := 0, saver := true }

/-- An error of the HST block (R369): HST_ERR_INFO holds the first address, then the record. -/
def hstErr (s : State) (n : Nat) (host : Bool) (addr objKind obj d6 : Nat) : State :=
  let s := if s.regVal .HST_ERR_STATUS 0 0 = 0 then
      (s.wr .HST_ERR_INFO_HOST 0 0 (b2n host)).wr .HST_ERR_INFO_ADDR 0 0 addr else s
  s.report { cls := 0x05, index := n, inst := 0xFFFF, void := false, objKind := objKind, obj := obj, waiterKind := 5,
             d5 := addr, d6 := d6 }

/-- The bits of HST_ERR_STATUS (R369). -/
def hDoorbell : Nat := 0
def hWindow : Nat := 1
def hBar2 : Nat := 2
def hLink : Nat := 3
def hPause : Nat := 4
def hRecover : Nat := 5
def hManifest : Nat := 6

/-- The SEQ of the first error record written since `old`, or 0 (R347). -/
def firstSeq (s old : State) : Nat := if s.errSeq = old.errSeq then 0 else old.errSeq

/-! ### Ferry windows (R351) -/

/-- The valid ferry windows, each from its first byte to its end. -/
def ferryWindows (s : State) : List (Nat × Nat) :=
  (List.range 8).filterMap fun w =>
    if s.flag .HST_FWIN_LIMIT_VALID 0 w then
      some (s.rd .HST_FWIN_BASE_BASE 0 w * 4096, (s.rd .HST_FWIN_LIMIT_LIMIT 0 w + 1) * 4096)
    else none

/-- The first host address of a range outside every window. -/
def outside (s : State) (a n : Nat) : Option Nat := uncovered s.ferryWindows 9 a (a + n)

/-! ### Queues (R345 to R349) -/

def qEnabled (s : State) (q : Nat) : Bool := s.flag .HST_Q_CFG_ENABLE 0 q
def sqSize (s : State) (q : Nat) : Nat := 2 ^ s.rd .HST_Q_CFG_SQ_LOG2 0 q
def cqSize (s : State) (q : Nat) : Nat := 2 ^ s.rd .HST_Q_CFG_CQ_LOG2 0 q

/-- The commands of a queue that have been fetched and not completed. -/
def outstanding (s : State) (q : Nat) : Nat :=
  let own (l : List HostCmd) : Nat := (l.filter fun c => c.q == q).length
  own s.hst.started + own s.hst.jobs + own s.hst.kills +
    s.hst.ferries.foldl (fun n e => n + own (e.2.map (·.cmd))) 0

/-- The entries of a completion ring that the host has not freed. -/
def cqUsed (s : State) (q : Nat) : Nat := SMap.get s.hst.cqUsed ⟨q, 0, 0⟩ 0
def setCqUsed (s : State) (q n : Nat) : State := { s with hst := { s.hst with cqUsed := SMap.set s.hst.cqUsed ⟨q, 0, 0⟩ 0 n } }

/-- Has a completion queue no free entry (R345)? An entry is promised to every command under way. -/
def cqFull (s : State) (q : Nat) : Bool := decide (s.cqSize q ≤ s.cqUsed q + s.outstanding q)

/-- A queue disabled under R349, with ERR_HST_DOORBELL. -/
def disableQueue (s : State) (q : Nat) (host : Bool) (addr objKind obj : Nat) : State :=
  ((s.wr .HST_Q_CFG_ENABLE 0 q 0).wr .HST_Q_STATUS_ERROR 0 q 1).hstErr hDoorbell host addr objKind obj 0

/-- A doorbell that is out of range (R349). -/
def badDoorbell (s : State) (q off : Nat) : State := s.disableQueue q false 0 7 (0x100000 + off)

/-- HST_SQ_TAIL written (R345, R349). -/
def writeTail (s : State) (q v : Nat) : State :=
  let n := s.sqSize q
  let head := s.rd .HST_Q_STATUS_SQ_HEAD 0 q
  let old := s.rd .HST_SQ_TAIL_TAIL 0 q
  if n ≤ v ∨ n - 1 < (old + n - head) % n + (v + n - old) % n then s.badDoorbell q (0x2000 + 8 * q)
  else s.wr .HST_SQ_TAIL_TAIL 0 q v

/-- HST_CQ_HEAD written (R345, R349): the entries it passes are free. -/
def writeCqHead (s : State) (q v : Nat) : State :=
  let n := s.cqSize q
  if n ≤ v then s.badDoorbell q (0x2004 + 8 * q)
  else
    let freed := (v + n - s.rd .HST_CQ_HEAD_HEAD 0 q % n) % n
    (s.setCqUsed q (s.cqUsed q - freed)).wr .HST_CQ_HEAD_HEAD 0 q v

/-- HST_Q_CFG written (R369): the sizes stand while the queue is enabled; on enable the ring indices restart at 0. -/
def writeQueue (s : State) (q : Nat) (enable cqInt : Bool) (cq sq : Nat) : State :=
  let was := s.qEnabled q
  let s := if was then s else (s.wr .HST_Q_CFG_CQ_LOG2 0 q cq).wr .HST_Q_CFG_SQ_LOG2 0 q sq
  let s := (s.wr .HST_Q_CFG_CQ_INT 0 q (b2n cqInt)).wr .HST_Q_CFG_ENABLE 0 q (b2n enable)
  if enable ∧ !was then
    let s := { s with hst := { s.hst with phases := SMap.set s.hst.phases ⟨q, 0, 0⟩ 0 1 } }.setCqUsed q 0
    (((s.wr .HST_Q_STATUS_SQ_HEAD 0 q 0).wr .HST_Q_STATUS_CQ_TAIL 0 q 0).wr .HST_SQ_TAIL_TAIL 0 q 0).wr .HST_CQ_HEAD_HEAD 0 q 0
  else s

/-- A command completes: its entry is written behind the earlier ones of its ring (R347), and its vector raised (R343). -/
def complete (s : State) (c : HostCmd) (status detail : Nat) : State :=
  let q := c.q
  let tail := s.rd .HST_Q_STATUS_CQ_TAIL 0 q
  let a := s.rd .HST_CQ_BASE_BASE 0 q * 4096 + 16 * tail
  match s.outside a 16 with
  | some x => s.disableQueue q true x 0 0
  | none =>
    let phase := SMap.get s.hst.phases ⟨q, 0, 0⟩ 0
    let w0 := c.cid + s.rd .HST_Q_STATUS_SQ_HEAD 0 q * 2 ^ 16 + phase * 2 ^ 28 + status * 2 ^ 32
    let next := (tail + 1) % s.cqSize q
    let s := { s with
      hostMem := s.hostMem.writeN a (leBytes 16 (w0 + detail % 2 ^ 64 * 2 ^ 64))
      hst := if next = 0 then { s.hst with phases := SMap.set s.hst.phases ⟨q, 0, 0⟩ 0 (1 - phase) } else s.hst }
    let s := (s.setCqUsed q (s.cqUsed q + 1)).wr .HST_Q_STATUS_CQ_TAIL 0 q next
    if s.flag .HST_Q_CFG_CQ_INT 0 q then s.raiseVector (64 + q) else s

/-- A command that fails completes with the SEQ of the first record it has caused (R347). -/
def completeErr (s old : State) (c : HostCmd) (status : Nat) : State := s.complete c status (s.firstSeq old)

/-- Can the queue engine fetch from a queue now (R345, R367)? -/
def fetchable (s : State) (q : Nat) : Bool :=
  s.flag .HST_CTRL_ENABLE && s.qEnabled q && !s.flag .HST_STATUS_RECOVERY &&
  s.rd .HST_Q_STATUS_SQ_HEAD 0 q != s.rd .HST_SQ_TAIL_TAIL 0 q && !s.cqFull q

def ferryQueue (s : State) (ch : Nat) : List Ferry := SMap.get s.hst.ferries ⟨ch, 0, 0⟩ []
def setFerries (s : State) (ch : Nat) (l : List Ferry) : State :=
  { s with hst := { s.hst with ferries := SMap.set s.hst.ferries ⟨ch, 0, 0⟩ [] l } }

/-- The next submission entry fetched, and its command started (R346, R348). A FENCE waits for the queue's earlier
commands, a FERRY for room on its channel (R350). -/
def fetch (s : State) (q : Nat) : State :=
  if !s.fetchable q then s
  else
    let head := s.rd .HST_Q_STATUS_SQ_HEAD 0 q
    let a := s.rd .HST_SQ_BASE_BASE 0 q * 4096 + 64 * head
    match s.outside a 64 with
    | some x => s.disableQueue q true x 0 0
    | none =>
      let c : HostCmd := ⟨q, bytesWords (s.hostMem.readN a 64), s.hst.fetched⟩
      let waiting (l : List HostCmd) : Nat := (l.filter fun x => x.op == opFerry && x.channel == c.channel).length
      if c.fence ∧ s.outstanding q ≠ 0 then s
      else if c.op = opFerry ∧ 64 ≤ (s.ferryQueue c.channel).length + waiting s.hst.started then s
      else
        let s := s.wr .HST_Q_STATUS_SQ_HEAD 0 q ((head + 1) % s.sqSize q)
        let s := { s with hst := { s.hst with fetched := s.hst.fetched + 1 } }
        if c.reserved ∨ !([opNop, opFerry, opOpen, opStart, opPause, opResume, opKill].contains c.op) then s.complete c 0x02 0
        else if opOpen ≤ c.op then { s with hst := { s.hst with jobs := s.hst.jobs ++ [c] } }
        else { s with hst := { s.hst with started := s.hst.started ++ [c] } }

/-- Does a job command of the queue that was fetched before a command wait behind another for the sequencer (R348)? -/
def behindJob (s : State) (c : HostCmd) : Bool := (s.hst.jobs.drop 1).any fun j => j.q == c.q && decide (j.num < c.num)

/-- Does a command of the queue that was fetched before a job command still wait to start (R348)? -/
def behindStart (s : State) (c : HostCmd) : Bool := s.hst.started.any fun x => x.q == c.q && decide (x.num < c.num)

/-- The command of a queue that starts next, if it is of opcode `op`, and the state without it (R348). -/
def takeStarted (s : State) (q op : Nat) : Option (HostCmd × State) :=
  match s.hst.started.find? fun c => c.q == q with
  | none => none
  | some c =>
    if c.op = op ∧ !s.behindJob c then
      some (c, { s with hst := { s.hst with started := removeFirst (fun x => x.q == q) s.hst.started } })
    else none

/-! ### Ferries (R350 to R353) -/

/-- Does the job state accept a FERRY (R352)? -/
def ferryAllowed (s : State) (c : HostCmd) : Bool :=
  let stack (a : Nat) : Bool := decide (0x380000000000 ≤ a) || decide (a + c.len ≤ s.fuses.memory)
  s.jobState == jobLoading || s.jobState == jobRunning ||
  (s.jobState == jobPaused && !c.sigEn && stack c.src && stack c.dst)

/-- Is a FERRY refused with ERR_HST_OPCODE (R346, R350)? -/
def ferryBad (c : HostCmd) : Bool :=
  decide (c.len < 4) || c.len % 4 != 0 || decide (2 ^ 32 < c.len) || (c.sigEn && SigWord.remote c.sig) ||
  match ferrySide c.src c.len, ferrySide c.dst c.len with
  | some a, some b => a.1 == 2 && b.1 == 2
  | _, _ => true

/-- The first host address of a FERRY outside every window. -/
def ferryOutside (s : State) (c : HostCmd) : Option Nat :=
  let side (a : Nat) : Option Nat := if 0x380000000000 ≤ a then s.outside (a - 0x380000000000) c.len else none
  match side c.src with
  | some x => some x
  | none => side c.dst

/-- The record of a device access of the host that has failed, where no other block has written one (R119, R237). -/
def hostFailed (s : State) (f : Fail) (a : Nat) : State :=
  match f with
  | .isolated => s.reportIsolated 0x05 0xFFFF a 5 0
  | .tileAddr =>
    let s := s.writeRecord { cls := 0x0C, index := tAddr, inst := (a - 0x200000000000) / 0x80000, void := s.running, objKind := 6,
                             waiterKind := 5, d5 := a }
    if s.running then s.voidStep 0x0C tAddr else s
  | _ => s

/-- `n` bytes of a FERRY moved: read, then written. -/
def ferryMove (s : State) (src dst n : Nat) : State × Option (Fail × Nat) :=
  let (s, b) := if 0x380000000000 ≤ src then (s, .ok (s.hostMem.readN (src - 0x380000000000) n)) else s.readSpan hostReq src n
  match b with
  | .error f => (s, some (f, src))
  | .ok bs =>
    if 0x380000000000 ≤ dst then ({ s with hostMem := s.hostMem.writeN (dst - 0x380000000000) bs }, none)
    else
      let (s, f) := s.writeSpan hostReq dst bs
      (s, f.map fun f => (f, dst))

/-- The lines of a FERRY moved in order, up to the first that fails. -/
def ferryLines (s : State) (src dst : Nat) : Nat → Nat → State × Option (Fail × Nat)
  | 0, _ => (s, none)
  | k + 1, n =>
    if n = 0 then (s, none)
    else
      let m := min n (64 - dst % 64)
      match s.ferryMove src dst m with
      | (s, some e) => (s, some e)
      | (s, none) => ferryLines s (src + m) (dst + m) k (n - m)

/-- Must a FERRY wait for a zero fill, a rewrite, or a pass that holds its buffer (R112, R134, R258)? -/
def ferryWaits (s : State) (c : HostCmd) : Bool := s.stalled c.src c.len || s.stalled c.dst c.len

/-- The command at the head of a channel moves its data, where nothing makes it wait and the ferry's shutter is open (R305,
R399). -/
def runFerry (s : State) (ch : Nat) : State :=
  match s.ferryQueue ch with
  | [] => s
  | f :: fs =>
    let c := f.cmd
    if f.done.isSome ∨ s.ferryWaits c ∨ !s.isOpen kFerry ch then s
    else if f.link ∧ 0x380000000000 ≤ c.src then
      let t := s.hstErr hLink true (c.src - 0x380000000000) 0 0 0
      t.setFerries ch ({ f with done := some (0x05, t.firstSeq s) } :: fs)
    else
      let (t, e) := (s.place hostReq f.flaws).ferryLines c.src c.dst (c.len / 64 + 2) c.len
      match e with
      | none => t.setFerries ch ({ f with done := some (0, c.len) } :: fs)
      | some (e, a) =>
        let t := t.hostFailed e a
        t.setFerries ch ({ f with done := some (0x04, t.firstSeq s) } :: fs)

/-- FERRY: checked, and queued on its channel (R350 to R352). -/
def startFerry (s : State) (q : Nat) (flaws : List Flaw) (link : Bool) : State :=
  match s.takeStarted q opFerry with
  | none => s
  | some (c, s) =>
    if ferryBad c then s.complete c 0x02 0
    else if !s.ferryAllowed c then s.complete c 0x01 0
    else match s.ferryOutside c with
      | some x => (s.hstErr hWindow true x 0 0 0).completeErr s c 0x03
      | none =>
        if !s.isOpen kFerry c.channel then
          (s.report { cls := 0x05, index := 0x84, inst := 0xFFFF, void := s.running, objKind := 7,
                      obj := 0x103100 + 4 * c.channel, waiterKind := 5 }).completeErr s c 0x04
        else (s.setFerries c.channel (s.ferryQueue c.channel ++ [⟨c, flaws, link, none⟩])).runFerry c.channel

/-- One more command of a channel completed. -/
def ferryDone (s : State) (ch : Nat) : State := s.count .HST_FERRY_STATUS_DONE 0 ch 1

/-- The head of a channel completes: its signal, then its completion entry (R353); the next command of the channel runs. -/
def completeFerry (s : State) (ch : Nat) : State :=
  let s := s.runFerry ch
  match s.ferryQueue ch with
  | [] => s
  | f :: fs =>
    match f.done with
    | none => s
    | some (status, detail) =>
      let s := s.setFerries ch fs
      let s := if status = 0 ∧ f.cmd.sigEn then s.applyWord f.cmd.sig .host else s
      ((s.ferryDone ch).complete f.cmd status detail).runFerry ch

/-- Every ferry command queued or running completes with ERR_HST_KILLED (R364). -/
def killFerries (s : State) : State :=
  let own := s.hst.started.filter fun c => c.op == opFerry
  let s := (List.range 16).foldl (fun s ch =>
    let l := s.ferryQueue ch
    l.foldl (fun s f => (s.ferryDone ch).complete f.cmd 0x07 0) (s.setFerries ch [])) s
  let s := { s with hst := { s.hst with started := s.hst.started.filter fun c => c.op != opFerry } }
  own.foldl (fun s c => s.complete c 0x07 0) s

/-! ### BAR2 (R341, R342) -/

/-- Do BAR2 reads stall (R342)? A bridge loopback lets none stall: what would cross a bridge is isolated (R464). -/
def barStalled (s : State) : Bool := s.zeroing || (s.jobState == jobScouring && !s.bridgeLoopback)

/-- Does HST_BAR2_MAP.BASE name a window of R341? -/
def bar2Ok (s : State) (base : Nat) : Bool :=
  base == 0x200 || decide ((base + 1) * 2 ^ 36 ≤ s.fuses.memory)

/-- ERR_HST_BAR2, with the code of a rule that refused the access in word 6 (R341). -/
def bar2Err (s : State) (a code : Nat) : State := s.hstErr hBar2 false a 6 0 code

/-- The CLASS and INDEX of a refusal by a controller or a tile. -/
def Fail.errCode : Fail → Nat
  | .tileUe => 0x0C01 | .memUe => 0x0900 | .isolated => 0x0584 | .tileAddr => 0x0C04 | .range => 0x0901 | .region => 0x0902

/-- An access of the host through BAR2 has failed (R237, R341). -/
def bar2Failed (s : State) (f : Fail) (a : Nat) : State :=
  let s := if f = .isolated then s.reportIsolated 0x05 0xFFFF a 5 0 else s
  s.bar2Err a (if f = .tileAddr then 0 else Fail.errCode f)

/-- A BAR2 read answered (R341). The host interface has the lowest CLASS: its record comes before that of the block that refused
the access (R239). -/
def bar2Read (s : State) (a n : Nat) : State :=
  match s.readSpan hostReq a n with
  | (t, .ok bs) => { t with hst := { t.hst with replies := t.hst.replies ++ [.bytes bs] } }
  | (_, .error f) =>
    let t := ((s.bar2Failed f a).readSpan hostReq a n).1
    { t with hst := { t.hst with replies := t.hst.replies ++ [.bytes (List.replicate n 0xFF)] } }

/-- A BAR2 write (R341): discarded with ERR_HST_BAR2 where it is refused. -/
def bar2Write (s : State) (a : Nat) (bs : List Byte) : State :=
  match s.writeSpan hostReq a bs with
  | (t, none) => t
  | (_, some f) => ((s.bar2Failed f a).writeSpan hostReq a bs).1

/-- An access of the host through BAR2 made. -/
def bar2Do (s : State) (x : Bar2) : State :=
  match x.data with
  | none => s.bar2Read x.addr x.len
  | some bs => s.bar2Write x.addr bs

/-- A read (`data` none) or write of the host through BAR2 at an offset (R341, R342). It waits for a rewrite or for a pass that
holds its buffer (R112, R134). -/
def bar2 (s : State) (off n : Nat) (data : Option (List Byte)) : State :=
  let a := s.rd .HST_BAR2_MAP_BASE * 2 ^ 36 + off
  if s.barStalled ∧ data.isSome then s.bump .HST_BAR2_DISCARD_COUNT 0 0 1
  else if s.barStalled ∨ s.stalled a n then { s with hst := { s.hst with stalled := s.hst.stalled ++ [⟨a, n, data⟩] } }
  else s.bar2Do ⟨a, n, data⟩

/-- The oldest waiting access of BAR2 made, once nothing stalls it (R342). -/
def bar2Resume (s : State) : State :=
  match s.hst.stalled with
  | [] => s
  | x :: rest =>
    if s.barStalled ∨ s.stalled x.addr x.len then s else { s with hst := { s.hst with stalled := rest } }.bar2Do x

/-! ### The job sequencer (R354 to R359) -/

/-- HST_STATUS.JOB_STATE written. -/
def setJobState (s : State) (v : Nat) : State := s.wr .HST_STATUS_JOB_STATE 0 0 v

/-- The command at the head of the sequencer, if it is of opcode `op` and none runs (R348). -/
def headJob (s : State) (op : Nat) : Option HostCmd :=
  match s.hst.jobs with
  | [] => none
  | c :: _ => if c.op = op ∧ !s.hst.active ∧ !s.behindStart c then some c else none

/-- The head of the sequencer, running or not, completes and leaves it. -/
def endJob (s : State) (c : HostCmd) (status detail : Nat) : State :=
  { s with hst := { s.hst with jobs := s.hst.jobs.drop 1, active := false } }.complete c status detail

/-- The head of the sequencer begins to run. -/
def beginJob (s : State) : State := { s with hst := { s.hst with active := true } }

/-- Fields of the manifest (R355). -/
def manifestBad (w : List Nat) : Bool :=
  let at_ (i : Nat) : Nat := w.getD i 0
  bits (at_ 0) 35 32 != 1 || bits (at_ 0) 63 48 != 0 || bits (at_ 3) 63 48 != 0 || bits (at_ 4) 63 48 != 0 ||
  at_ 5 != 0 || at_ 6 != 0 || at_ 7 != 0 || !([8, 12, 16].contains (bits (at_ 0) 47 43)) ||
  !([2, 4].contains (bits (at_ 0) 41 39))

def manifestXts (w : List Nat) : Bool := hasBit (w.getD 0 0) 36

/-- Does the manifest name this package's assembly and grade (R7)? GLB_IDENT holds grade, dies, size and stacks. -/
def variantOk (s : State) (w : List Nat) : Bool :=
  let w0 := w.getD 0 0
  bits w0 47 43 == s.fuses.nStacks && bit w0 42 == bit s.fuses.ident 4 && bits w0 41 39 == s.fuses.ioDies &&
  bit w0 38 == bit s.fuses.ident 0

/-- The bytes of a key derivation (R426). -/
def ascii (t : String) : List Nat := t.toList.map (·.toNat)

/-- DEBUG as the derivations take it (R426, R436). -/
def debugByte (s : State) : Nat := s.rd .SEC_STATUS_DEBUG

/-- The job secret waiting (R427). -/
def jobSecret (s : State) : List Nat := (List.range 8).flatMap fun i => natBytes 4 (s.rd .SEC_JOB_SECRET_WORD 0 i)

/-- The job secret discarded (R427, R440). -/
def clearSecret (s : State) : State :=
  ((List.range 8).foldl (fun s i => s.wr .SEC_JOB_SECRET_WORD 0 i 0) s).wr .SEC_STATUS_SECRET_SET 0 0 0

/-- The job link key derived from the waiting secret (R426). -/
def deriveLink (s : State) (job : Nat) : List Nat :=
  Config.shake256 (ascii "JNV-LINK" ++ natBytes 4 job ++ [s.debugByte] ++ s.jobSecret) 32

/-- The job keys derived and installed, the secret cleared (R426, R427). -/
def installKeys (s : State) (job : Nat) : State :=
  let mem := Config.shake256 (ascii "JNV-MEM" ++ natBytes 32 s.fuses.deviceSeed ++ natBytes 4 job ++ s.jobSecret) 64
  ({ s with sec := { s.sec with linkKey := s.deriveLink job, memKey := mem } }.wr .SEC_STATUS_JOB_KEYED 0 0 1).clearSecret

/-- Every stack's contents lost: what was written under one cipher is read under another, or under none (R256). -/
def loseStacks (s : State) : State :=
  let (k, s) := s.draw
  { s with mem := (List.range s.fuses.nStacks).foldl (fun m st => m.lose (.stack s.fuses.nStacks st) k) s.mem }

/-- The job keys destroyed (R257, R364). -/
def destroyKeys (s : State) : State :=
  let s := if s.flag .MEM_XTS_EN then s.loseStacks else s
  (({ s with sec := { s.sec with linkKey := [], memKey := [] } }.wr .SEC_STATUS_JOB_KEYED 0 0 0).wr .MEM_XTS_KEYED 0 0 0).wr
    .MEM_XTS_EN 0 0 0

/-- Does something make JOB_OPEN wait in the sequencer: a memory test, a memory or bridge loopback, a self-test, or the
boundary register (R457, R464, R467, R471)? -/
def openWaits (s : State) : Bool :=
  ((List.range 16).any fun i => [1, 2].contains (s.rd .JRN_MAINT_ST_STATE 0 (160 + i))) ||
  (2 ≤ s.rd .TST_LB_CTRL_KIND && s.flag .TST_LB_CTRL_MODE) || s.flag .TST_BIST_STATUS_RUNNING ||
  ([0x03, 0x04, 0x05].contains s.tap.ir && !s.tap.refused)

/-- Orders 4 and 5 of R356: the tag, LOADING, and the completion; units of job classes are held from now on (R357). -/
def finishOpen (s : State) (c : HostCmd) : State :=
  (((s.wr .HST_JOB_TAG_JOB 0 0 (bits (s.hst.manifest.getD 0 0) 31 0)).setJobState jobLoading)).endJob c 0 0

/-- ERR_SEC_NOKEY (R427, R440). -/
def noKey (s : State) : State := s.report { cls := 0x04, index := 0, inst := 0xFFFF, void := false, waiterKind := 5 }

/-- JOB_OPEN (R355, R356). `link`: the host returned an error for the manifest. -/
def openJob (s : State) (link : Bool) : State :=
  match s.headJob opOpen with
  | none => s
  | some c =>
    if s.jobState = jobScouring then s
    else if s.jobState ≠ jobEmpty then s.endJob c 0x01 0
    else if s.openWaits then s
    else
      let h := c.src - 0x380000000000
      let bad := if c.src < 0x380000000000 ∨ 0x400000000000 ≤ c.src then some c.src else s.outside h 64
      match bad with
      | some x => let t := s.hstErr hWindow true x 0 0 0; t.endJob c 0x03 (t.firstSeq s)
      | none =>
        if link then let t := s.hstErr hLink true h 0 0 0; t.endJob c 0x05 (t.firstSeq s)
        else
          let w := bytesWords (s.hostMem.readN h 64)
          if manifestBad w then let t := s.hstErr hManifest true h 0 0 0; t.endJob c 0x09 (t.firstSeq s)
          else if !s.flag .SEC_STATUS_SECRET_SET then let t := s.noKey; t.endJob c 0x04 (t.firstSeq s)
          else
            let s := s.installKeys (bits (w.getD 0 0) 31 0)
            let s := { s with seed := w.getD 1 0 + w.getD 2 0 * 2 ^ 64, jobGate := true
                              hst := { s.hst with manifest := w, active := true } }
            if manifestXts w then ((s.loseStacks.wr .MEM_XTS_KEYED 0 0 1).wr .MEM_XTS_EN 0 0 1).zeroAll
            else s.finishOpen c

/-- JOB_OPEN goes on once no zero fill runs (R257, R356). -/
def settleOpen (s : State) : State :=
  match s.hst.jobs with
  | c :: _ => if s.hst.active ∧ c.op = opOpen ∧ s.jobState = jobEmpty ∧ !s.zeroing then s.finishOpen c else s
  | [] => s

/-- A stack's zero fill ends (R258). The last one of JOB_OPEN's fill lets the command go on (R257, R356). -/
def zeroDone (s : State) (st : Nat) : State :=
  if !s.flag .MEM_STATUS_ZEROING st then s
  else
    ((s.wr .MEM_STATUS_ZEROING st 0 0).wr .MEM_ZERO_START st 0 0).settleOpen.settleRecodes

/-- A measurement (R432). -/
def measure (s : State) (m : Nat) (data : List Nat) : State :=
  let d := Config.shake256 data 32
  s.wr .SEC_MEAS_DIGEST 0 m (d.zipIdx.foldl (fun v x => v + x.1 % 256 * 2 ^ (8 * x.2)) 0)

/-- The IMAGE of the manifest as the porter reads it, an access of the host as any other (DEDUCED, assumption 28): its bytes,
or why there are none and where. -/
def readImage (s : State) : State × Except (Fail × Nat) (List Byte) :=
  let a := bits (s.hst.manifest.getD 3 0) 47 0
  let n := bits (s.hst.manifest.getD 4 0) 47 0
  if n = 0 then (s, .ok [])
  else match s.readSpan hostReq a n with
    | (s, .error f) => (s, .error (f, a))
    | (s, .ok bs) => (s, .ok bs)

/-- The job measured: the manifest, then the IMAGE bytes (R358, R432). -/
def measureJob (s : State) (image : List Byte) : State :=
  s.measure 4 (s.hst.manifest.flatMap (natBytes 8) ++ byteNats image)

/-- The gate of R357 opens: held units are judged (R282, R358). -/
def openGate (s : State) : State :=
  let s := { s with jobGate := false }
  (List.range 32).foldl (fun s p => if (s.link p).held.isEmpty then s else s.rejudgeUnits p) s

/-- JOB_START (R358, R378). -/
def startJob (s : State) : State :=
  match s.headJob opStart with
  | none => s
  | some c =>
    if s.jobState = jobScouring then s
    else if s.jobState ≠ jobLoading then s.endJob c 0x01 0
    else if !s.variantOk s.hst.manifest then
      let t := s.report { cls := 0x05, index := 0x86, inst := 0xFFFF, void := false, waiterKind := 5 }
      t.endJob c 0x06 (t.firstSeq s)
    else match s.readImage with
    | (t, .error (f, a)) => let t := t.hostFailed f a; t.endJob c 0x04 (t.firstSeq s)
    | (r, .ok image) =>
      let m := (r.measureJob image).wr .TWY_KEY_TM_TIDEMARK 0 0 s.tidemark
      let on := (List.range 4).filter fun d => m.fuses.dieFitted d && m.rd .TIDE_CTRL_MODE d != 0
      let t := on.foldl (fun s d => s.enableTide d) m
      if on.any fun d => !t.flag .TIDE_CTRL_ENABLE d then
        let t := (List.range 4).foldl (fun s d => s.wr .TIDE_CTRL_ENABLE d 0 0) t
        t.endJob c 0x04 (t.firstSeq s)
      else
        let t := t.takeEntry
        let t := t.jobCtxs.foldl (fun s x => s.startCtx x.1 x.2) t
        ((t.openGate.setJobState jobRunning).judgeIdle).endJob c 0 0

/-! ### Pause and resume (R360 to R363) -/

/-- JOB_PAUSE, order 1 of R360. -/
def pauseJob (s : State) : State :=
  match s.headJob opPause with
  | none => s
  | some c =>
    if s.jobState = jobScouring then s
    else if s.jobState ≠ jobRunning then s.endJob c 0x01 0
    else
      let s := s.beginJob
      let s := (List.range 4).foldl (fun s d => s.pauseTide d true) s
      let s := s.allTiles.foldl (fun s t => s.stopArray t) s
      { s with hst := { s.hst with order := 2 } }.setJobState jobPausing

/-- Has order 2 of R360 come to its end, the signals that transfers have posted applied (R362, R382)? -/
def drainedJob (s : State) : Bool :=
  s.arrays.all (fun e => !e.2.started) && s.engines.all (fun e => e.2.done.isNone) &&
  (List.range 4).all (fun d => !s.fuses.dieFitted d || s.flag .TIDE_STATUS_QUIESCENT d) && s.xferQueues.isEmpty && s.xfers.isEmpty &&
  s.shingles.all (fun e => e.2.feeds.isEmpty && e.2.recodes.isEmpty) &&
  !(s.flights.any fun f => f.src == .link) && [vIdle, vArrive, vReplayWait].contains s.seqState

/-- Orders 2 and 3 of R360: everything has drained, and the gate closes. -/
def pauseDrained (s : State) : State :=
  if s.jobState ≠ jobPausing ∨ s.hst.order ≠ 2 ∨ !s.drainedJob then s
  else { s with jobGate := true, hst := { s.hst with order := 4 } }

/-- Order 6 of R360: every write of the save is acknowledged. -/
def pauseSaved (s : State) : State :=
  match s.hst.jobs with
  | [] => s
  | c :: _ =>
    if s.jobState ≠ jobPausing ∨ s.hst.order ≠ 5 then s
    else ({ s with hst := { s.hst with order := 0 } }.setJobState jobPaused).endJob c 0 0

/-- PAUSE and STOP cleared, the gate opened, the cores running again (R361, R363). -/
def goOn (s : State) : State :=
  let s := s.openGate
  let s := (List.range 4).foldl (fun s d => s.pauseTide d false) s
  let s := s.setJobState jobRunning
  s.allTiles.foldl (fun s t => s.unstopArray t) s

/-- The pause limit expires in order 2 or 4: the pause is undone (R361). -/
def pauseTimeout (s : State) : State :=
  match s.hst.jobs with
  | [] => s
  | c :: _ =>
    if s.jobState ≠ jobPausing ∨ !([2, 4].contains s.hst.order) then s
    else
      let t := { s with hst := { s.hst with order := 0 } }.goOn
      let t := t.hstErr hPause false 0 0 0 0
      t.endJob c 0x08 (t.firstSeq s)

/-! ### Kill and scour (R364 to R366) -/

/-- Order 1 of R364 in the blocks outside compute reach (R397). -/
def scourOutside (s : State) : State :=
  let s := (List.range 4).foldl (fun s d => (s.voidTide d).wr .TIDE_CTRL_ENABLE d 0 0) s
  let s := s.killFerries.dropXfers
  { s with voidGate := false, cause := none, seqReleased := false }.setSeq vIdle

/-- Order 2 of R364: the job keys are gone; units held and units to come are discarded. -/
def scourKeys (s : State) : State := s.destroyKeys.openGate

/-- Order 3 of R364: every enabled tile resets; its memories are zero once SCOUR_TILES_DONE comes. -/
def scourTiles (s : State) : State :=
  let s := s.allTiles.foldl (fun s t => (s.resetTile t).zeroTile t) { s with flights := [] }
  { s with hst := { s.hst with order := 3 } }

/-- A scour from order 2 (R366). -/
def scourFrom2 (s : State) : State := (s.setJobState jobScouring).scourKeys.scourTiles

/-- A scour from its first order (R364). -/
def scour (s : State) : State :=
  let s := s.setJobState jobScouring
  let s := s.allTiles.foldl (fun s t => s.abortArray t) s
  s.scourOutside.stopAll.scourFrom2

/-- JOB_KILL (R354, R364): at the head of the sequencer, or behind the pause that it ends, or joining a scour. -/
def killJob (s : State) : State :=
  match s.hst.jobs with
  | [] => s
  | c :: rest =>
    if c.op = opKill ∧ !s.hst.active ∧ !s.behindStart c then
      let s := { s with hst := { s.hst with jobs := rest, kills := s.hst.kills ++ [c] } }
      if s.jobState = jobScouring then s else s.scour
    else match rest with
      | k :: more =>
        if s.jobState = jobPausing ∧ s.hst.active ∧ k.op = opKill ∧ !s.behindStart k then
          let s := { s with hst := { s.hst with jobs := more, active := false, order := 0 } }.complete c 0x07 0
          { s with hst := { s.hst with kills := s.hst.kills ++ [k] } }.scour
        else s
      | [] => s

/-- Every tile's rewrite ends: the zero fills start (R364 order 4). Order 3 waits while COMPUTE is 1 (R397). -/
def scourTilesDone (s : State) : State :=
  if s.jobState ≠ jobScouring ∨ s.hst.order ≠ 3 ∨ s.flag .RST_CTRL_COMPUTE ∨ s.boot.order < 6 then s
  else { s with hst := { s.hst with order := 4 } }.zeroAll

/-- The registers that order 5 of R364 returns to their reset values (R364, R385). -/
def scourRegs (s : State) : State :=
  let s := s.resetBlocks [.TIDE, .SIG] fun _ => true
  { s with regs := SMap.drop s.regs fun k =>
      let r := (Fd.ofNat k.a).spec.reg
      [Reg.MEM_RGN_MIRROR, .MEM_MIRROR_SRC, .TWY_PKN_LOC, .TWY_KEY_TM, .HST_JOB_TAG, .GLB_VOID_CTRL, .GLB_VOID_STATUS,
       .GLB_VOID_COUNT].contains r
           disarm := false }

/-- What belongs to a job beside registers, gone at order 5 of R364. -/
def scourState (s : State) : State :=
  { s with
    tctxs := [], books := [], dcache := [], guards := [], packets := [], heldPackets := [], bars := [], senses := 0
    tileSenses := [], holdQueue := [], entry := [], nonces := SMap.drop s.nonces fun k => jobClass k.a, xferSeqs := []
    errRing := [], errHeld := [], errSeq := 0, seed := 0, cause := none, voidGate := false, seqReleased := false
    hst := { s.hst with manifest := [], saved := none, order := 0 } }

/-- The management key (R426): OWNER_SECRET of the shore configuration's signer, MGMT_EPOCH of its payload, DEBUG. -/
def mgmtKeyOf (s : State) (signer debug : Nat) : List Nat :=
  Config.shake256 (ascii "JNV-MGMT" ++ natBytes 32 (SMap.get s.fuses.ownerSecret ⟨signer, 0, 0⟩ 0) ++
    s.flashRead 0x01200100 4 ++ [debug]) 32

/-- The debug unlock goes on once its scour has ended (R436). -/
def unlockDone (s : State) : State :=
  match s.sec.unlock with
  | none => s
  | some caps =>
    let s := { s with sec := { s.sec with unlock := none, mgmtKey := s.mgmtKeyOf (s.rd .SEC_OWNER_SHORE_SIGNER) 1 } }
    ((s.wr .SEC_STATUS_DEBUG 0 0 1).wr .SEC_DEBUG_CAPS 0 0 caps).wr .SEC_STATUS_CMD_BUSY 0 0 0

/-- Orders 5 and 6 of R364: registers and ring reset, EMPTY, and every kill completes. -/
def scourDone (s : State) : State :=
  if s.jobState ≠ jobScouring ∨ s.hst.order ≠ 4 ∨ s.zeroing ∨ s.flag .RST_CTRL_COMPUTE then s
  else
    let kills := s.hst.kills
    let s := (s.scourRegs.scourState.wr .SEC_MEAS_DIGEST 0 4 0).setJobState jobEmpty
    let s := { s with hst := { s.hst with kills := [] } }.unlockDone
    kills.foldl (fun s c => s.complete c 0 0) s

/-! ### Function Level Reset (R338) -/

/-- A Function Level Reset: as JOB_KILL, every queue disabled, every HST register at its reset value but the RWL fields
and the MSI-X table (R338, R369). -/
def functionReset (s : State) : State :=
  let s := if s.jobState = jobScouring then s else s.scour
  let state := s.jobState
  let recovery := s.rd .HST_STATUS_RECOVERY
  let s := { s with
    regs := SMap.drop s.regs fun k =>
      let r := (Fd.ofNat k.a).spec.reg
      r.spec.block == Block.HST && !([Reg.HST_FWIN_BASE, .HST_FWIN_LIMIT, .HST_MSIX].contains r)
    hst := { s.hst with started := [], ferries := [], jobs := [], active := false, kills := [], phases := [], cqUsed := []
                        stalled := [] } }
  (s.setJobState state).wr .HST_STATUS_RECOVERY 0 0 recovery

/-! ### Recovery (R367, R368) -/

/-- Where an image of TARGET lies in flash, and the bytes of its area (R441). -/
def imageArea (target : Nat) : Nat × Nat := if target = 0 then (0x01600000, 0x02000000) else (0x01200000, 0x00400000)

/-- HST_RCV_CTRL.GO: the chunk in the window is taken into flash, behind what has been taken (R368). -/
def takeChunk (s : State) : State :=
  let len := s.rd .HST_RCV_CTRL_LEN
  if !s.flag .HST_STATUS_RECOVERY ∨ !s.flag .HST_RCV_STATUS_READY then s
  else
    let again := s.flag .HST_RCV_STATUS_DONE || s.flag .HST_RCV_STATUS_FAIL
    let got := if again then 0 else s.rd .HST_RCV_STATUS_RECEIVED
    let (base, size) := imageArea (s.rd .HST_RCV_CTRL_TARGET)
    let s := s.flashWrite (base + got) (byteNats ((s.bufs.readN 0x180000 len).take (size - got)))
    let s := ((s.wr .HST_RCV_STATUS_READY 0 0 0).wr .HST_RCV_STATUS_DONE 0 0 0).wr .HST_RCV_STATUS_FAIL 0 0 0
    (s.wr .HST_RCV_STATUS_RECEIVED 0 0 (got + len)).wr .HST_RCV_CTRL_GO 0 0 1

/-- The chunk is in flash: the next may be written (R368). -/
def chunkWritten (s : State) : State :=
  if !s.flag .HST_RCV_CTRL_GO then s
  else
    let s := s.wr .HST_RCV_CTRL_GO 0 0 0
    if s.flag .HST_RCV_CTRL_LAST then s else s.wr .HST_RCV_STATUS_READY 0 0 1

end State

end Sys2Proof.Machine
end

