-- ==== Sys2Proof/Machine/Lighthouse.lean ====
section
/-! DEFINITION. Lighthouse (R411 to R424): the mailbox, telemetry, the governor, the power cap, the thermal trip, the
voltage clamp, the coolant, and management packets. -/
namespace Sys2Proof.Machine

/-- The states of LHS_STATUS.FW (R438). -/
def fwReset : Nat := 0
def fwRom : Nat := 1
def fwRun : Nat := 2
def fwRecovery : Nat := 3
def fwHalted : Nat := 4

/-- The bits of LHS_ERR_STATUS (R438). -/
def lTrip : Nat := 0
def lCap : Nat := 1
def lClamp : Nat := 2
def lFloor : Nat := 3
def lFlow : Nat := 4
def lMbox : Nat := 5
def lMgmt : Nat := 6

namespace State

def fw (s : State) : Nat := s.rd .LHS_STATUS_FW

/-- Does the firmware run? -/
def fwRuns (s : State) : Bool := s.fw == fwRun

/-- Is boot complete: the stage DONE reached (R407)? -/
def booted (s : State) : Bool := decide (7 ≤ s.boot.order)

/-- Have the IOD, TELEM and LH domains left reset in the sequence of R407? -/
def telemUp (s : State) : Bool := decide (4 ≤ s.boot.order)

/-- An error of the LHS block with its record (R438). -/
def lhsErr (s : State) (n : Nat) (void : Bool) (d5 : Nat) : State :=
  s.report { cls := 0x03, index := n, inst := 0xFFFF, void := void, d5 := d5 }

/-- A bit of LHS_ERR_STATUS that has no record (R438). -/
def lhsFlag (s : State) (n : Nat) : State := s.setErr 0x03 n 0

/-! ### Power state (R416) -/

/-- Is the package ACTIVE (R416)? Before boot is complete no job state counts. -/
def active (s : State) : Bool :=
  decide (2500 ≤ s.rd .TST_TEL_PIN_POWER) || (s.booted && s.jobState != jobEmpty) ||
  (List.range 32).any fun p => s.portState p != pOff

/-- LHS_STATUS.PSTATE (R416). -/
def pstate (s : State) : Nat :=
  if !s.booted then 0 else if s.lhs.tripped then 4 else if s.rd .LHS_CAP_CAP_G ≠ 0 then 3 else if s.active then 2 else 1

/-! ### The mailbox (R413, R414) -/

/-- Where the request and response buffers lie in BAR0 (R438). -/
def mbReq : Nat := 0x21000
def mbRsp : Nat := 0x22000

/-- `n` bytes of the request's payload from `off` on, as a number. -/
def mbArg (s : State) (off n : Nat) : Nat := leNat (s.bufs.readN (mbReq + 16 + off) n)

def mbOpcode (s : State) : Nat := leNat (s.bufs.readN mbReq 2)
def mbLen (s : State) : Nat := leNat (s.bufs.readN (mbReq + 4) 2)

/-- The response to the posted request (R413): header and payload written, REQ cleared, RSP set, vector 0 raised. -/
def mbAnswer (s : State) (status : Nat) (payload : List Byte) : State :=
  let head := s.bufs.readN mbReq 4 ++ leBytes 2 payload.length ++ leBytes 10 status
  ((({ s with bufs := s.bufs.writeN mbRsp (head ++ payload) }).wr .LHS_MB_CTRL_REQ 0 0 0).wr .LHS_MB_CTRL_RSP 0 0 1).raiseVector 0

/-- A response of STATUS 0x00 whose payload the firmware's published source defines: its length and its bytes are free
(R414). -/
def mbAnswerFree (s : State) : State :=
  let (k, s) := s.draw
  let n := Config.unstated 16 k % 4081
  let s := { s with bufs := s.bufs.lose (.span (mbRsp + 16) (mbRsp + 16 + n)) k }
  let head := s.bufs.readN mbReq 4 ++ leBytes 2 n ++ leBytes 10 0
  ((({ s with bufs := s.bufs.writeN mbRsp head }).wr .LHS_MB_CTRL_REQ 0 0 0).wr .LHS_MB_CTRL_RSP 0 0 1).raiseVector 0

/-- The opcodes of R414 and R454. -/
def mbKnown (op : Nat) : Bool := [0x01, 0x02, 0x10, 0x11, 0x20, 0x40].contains op || decide (0x30 ≤ op ∧ op ≤ 0x39)

/-- Is the posted request of opcode `op`, and does what runs on Lighthouse serve it (R414)? -/
def mbServes (s : State) (op : Nat) : Bool :=
  s.flag .LHS_MB_CTRL_REQ && s.mbOpcode == op && (s.fwRuns || (op == 1 && (s.fw == fwRom || s.fw == fwRecovery)))

/-- LHS_MB_CTRL.REQ written (R413). What no opcode of R414 names, and what the boot ROM does not serve, is answered at
once. -/
def mbPost (s : State) : State :=
  if s.flag .LHS_MB_CTRL_REQ ∨ s.flag .LHS_MB_CTRL_RSP then s.lhsFlag lMbox
  else
    let s := s.wr .LHS_MB_CTRL_REQ 0 0 1
    let op := s.mbOpcode
    if s.fw = fwRom ∨ s.fw = fwRecovery then (if op = 1 then s else s.mbAnswer 0x04 [])
    else if s.fwRuns ∧ !mbKnown op then s.mbAnswer 0x01 []
    else s

/-- A setting of the firmware in °C: STATUS 0x02 outside its range (R414). -/
def setTjTarget (s : State) (t : Nat) : State :=
  if !s.mbServes 0x10 then s
  else if 70 ≤ t ∧ t ≤ 100 then ({ s with lhs := { s.lhs with tjTarget := t } } : State).mbAnswer 0 []
  else s.mbAnswer 0x02 []

def setValveTarget (s : State) (t : Nat) : State :=
  if !s.mbServes 0x11 then s
  else if 50 ≤ t ∧ t ≤ 90 then ({ s with lhs := { s.lhs with valveTarget := t } } : State).mbAnswer 0 []
  else s.mbAnswer 0x02 []

/-- GET_VERSION and GET_TELEMETRY (R414). -/
def getVersion (s : State) : State := if s.mbServes 0x01 then s.mbAnswerFree else s
def getTelemetry (s : State) : State := if s.mbServes 0x02 then s.mbAnswerFree else s

/-- POWER_OFF, and what follows it 1 s later (R414, R479: the off level is low). -/
def powerOff (s : State) : State :=
  if !s.mbServes 0x20 then s else ({ s with lhs := { s.lhs with offDue := true } } : State).mbAnswer 0 []

def powerOffDelay (s : State) : State :=
  if !s.lhs.offDue ∨ !s.fwRuns then s else { s with lhs := { s.lhs with offDue := false, hsEn := false } }

/-! ### Coolant (R421, R422) -/

/-- Is the valve forced to full flow (R421)? -/
def valveForced (s : State) : Bool := !s.fwRuns || !s.booted || s.lhs.tripped || s.lhs.hot

/-- Does the floor raise the duty above REQ (R421)? -/
def floored (s : State) : Bool := !s.valveForced && s.active && decide (s.rd .LHS_VALVE_REQ < 40)

/-- The duty driven on VALVE_PWM, in % (R421): never above 100, whatever REQ holds (assumption 42). -/
def duty (s : State) : Nat :=
  min 100 (if s.valveForced then 100 else if s.active then max (s.rd .LHS_VALVE_REQ) 40 else s.rd .LHS_VALVE_REQ)

/-- The level of PUMP_REQ (R422). -/
def pumpReq (s : State) : Bool := s.valveForced || s.active || decide (60 < s.duty)

/-- Is TRAY_FAULT_N driven low (R422, R485)? -/
def trayFault (s : State) : Bool := s.lhs.flowHold || s.lhs.voltFault

/-- A request below the floor while the package is ACTIVE (R421). -/
def judgeFloor (s : State) : State := if s.active ∧ s.rd .LHS_VALVE_REQ < 40 then s.lhsFlag lFloor else s

/-- LHS_VALVE.REQ written by the firmware. No rule gives its values 101 to 127 a meaning or reserves them: REQ holds them, and
the duty is then 100 % (DESIGN CHOICE, assumption 42). -/
def writeValve (s : State) (v : Nat) : State := (s.wr .LHS_VALVE_REQ 0 0 v).judgeFloor

/-! ### Outputs (R409) -/

end State

/-- The pins that the boundary register covers (R471, R477): the sideband pins, VR_RST_N, and the straps SLOT0, SLOT1, TRAY,
COVE0 to COVE6, KIND0 to KIND2, HS_EN_DEF and PRODTEST_N in this order. -/
inductive Pin where
  | pwrok | perst | trayRst | flowTach
  | trayFault | thermTrip | led (i : Nat) | valvePwm | pumpReq | hsEn | i3cScl | i3cSda | vrRst
  | strap (i : Nat)
deriving DecidableEq, Repr

/-- The cells of the boundary register. Their order is Aedryn's BSDL file's, which is not part of spec/: it is the order of
R477 here (DESIGN CHOICE, assumption 38). -/
def Pin.cells : List Pin :=
  [.pwrok, .perst, .trayRst, .flowTach, .trayFault, .thermTrip, .led 0, .led 1, .led 2, .valvePwm, .pumpReq, .hsEn, .i3cScl,
   .i3cSda, .vrRst] ++ (List.range 15).map .strap

/-- The cells that observe only (R471). -/
def Pin.observed (p : Pin) : Bool := [Pin.valvePwm, .pumpReq, .hsEn, .thermTrip, .vrRst].contains p

/-- The package's outputs as R409 lists them: which Tideway ports drive their lanes, whether the PCIe transmitters are idle,
the duty of VALVE_PWM and the level of PUMP_REQ (`none` where the pin is released), HS_EN, whether TRAY_FAULT_N and THERMTRIP_N
are pulled low, the voltages asked of the regulators, the I3C lines that are pulled low, whether the flash is selected,
whether TDO is driven, and the LEDs that are on. -/
structure Outputs where
  lanes : List Bool
  pcieIdle : Bool
  valve : Option Nat
  pump : Option Bool
  hsEn : Bool
  trayFault : Bool
  thermTrip : Bool
  rails : List Nat
  i3c : Nat
  flashSelect : Bool
  tdo : Bool
  leds : Nat
deriving DecidableEq, Repr

namespace State

/-- Does the test access port drive the pins: an EXTEST, CLAMP or HIGHZ that was not refused (R471)? -/
def pinsTaken (s : State) : Bool := [0x03, 0x04, 0x05].contains s.tap.ir && !s.tap.refused

/-- Is an output pulled low? `own`: the package pulls it. EXTEST and CLAMP drive each cell that does not observe only from the
boundary register, and HIGHZ releases it (R470, R471). -/
def pullsLow (s : State) (p : Pin) (own : Bool) : Bool :=
  if p.observed ∨ !s.pinsTaken then own
  else s.tap.ir != 0x05 && !hasBit s.tap.boundary (Pin.cells.idxOf p)

/-- Has the firmware configured its outputs: it runs, or has run and is halted? Neither the boot ROM nor recovery mode does
(R409). -/
def fwConfigured (s : State) : Bool := s.fwRuns || s.fw == fwHalted

/-- The outputs between two commands (R409, R419 to R422, R479): the flash is selected only while it is read, and TDO driven only
while bits are shifted, which are parts of single commands. -/
def outputs (s : State) : Outputs where
  lanes := (List.range 32).map fun p => s.portState p != 0 && s.portState p != 5
  pcieIdle := s.boot.perst || !s.boot.pwrok
  valve := if s.fwConfigured then some s.duty else none
  pump := if s.fwConfigured then some s.pumpReq else none
  hsEn := s.lhs.hsEn
  trayFault := s.pullsLow .trayFault s.trayFault
  thermTrip := s.lhs.tripped
  rails := (List.range 12).map fun r => SMap.get s.lhs.rails ⟨r, 0, 0⟩ (s.fuses.rail r).1
  i3c := b2n (s.pullsLow .i3cScl (hasBit s.lhs.i3c 0)) + 2 * b2n (s.pullsLow .i3cSda (hasBit s.lhs.i3c 1))
  flashSelect := false
  tdo := false
  leds := ((List.range 3).map fun i => b2n (s.pullsLow (.led i) (hasBit s.lhs.leds i)) * 2 ^ i).sum

/-- The level at a pin as its cell samples it (R471, R478, R482). What lies outside the package, and where a driven VALVE_PWM
stands in its period, is free: bits 0 to 2 of `free`. -/
def pinLevel (s : State) (free : Nat) (p : Pin) : Bool :=
  let o := s.outputs
  match p with
  | .pwrok => s.boot.pwrok
  | .perst => !s.boot.perst
  | .trayRst => !s.boot.tray
  | .flowTach => hasBit free 0
  | .trayFault => !o.trayFault
  | .thermTrip => !o.thermTrip
  | .led i => !hasBit o.leds i
  | .valvePwm => match o.valve with
    | none => true
    | some d => decide (d = 100) || (d != 0 && hasBit free 1)
  | .pumpReq => o.pump.getD true
  | .hsEn => o.hsEn
  | .i3cScl => !hasBit o.i3c 0
  | .i3cSda => !hasBit o.i3c 1
  | .vrRst => s.boot.pwrok && !s.warmHeld
  | .strap i => if i < 13 then hasBit s.boot.pins i else if i = 13 then s.boot.hsEnDef else hasBit free 2

/-- What the boundary register samples. -/
def sampledPins (s : State) (free : Nat) : Nat := (Pin.cells.zipIdx.map fun x => b2n (s.pinLevel free x.1) * 2 ^ x.2).sum

/-- The firmware starts and configures the outputs that are its own: no rule says how it drives the LEDs or whether it is using
the I3C bus, so that both are free (assumption 4). -/
def firmwareOutputs (s : State) : State :=
  let (k, s) := s.draw
  { s with lhs := { s.lhs with leds := Config.unstated 409 k % 8, i3c := Config.unstated 410 k % 4 } }

/-- The number nearest to `n / d`; which of two equally near ones is open. -/
def nearest (s : State) (n : Int) (d : Nat) : State × Int :=
  let q := n / (d : Int)
  let r := n % (d : Int)
  if 2 * r < d then (s, q)
  else if (d : Int) < 2 * r then (s, q + 1)
  else let (k, s) := s.draw; (s, if Config.unstated 421 k % 2 = 0 then q else q + 1)

/-- The hottest of the compute dies' sensors, in 1/16 °C. -/
def hottest (s : State) : Int :=
  (List.range 4).foldl (fun m d => max m (toSigned 16 (s.rd .TST_TEL_DIEMAX_TEMP 0 d)))
    (toSigned 16 (s.rd .TST_TEL_DIEMAX_TEMP 0 0))

/-- The valve loop (R421). The integral term is held in 1/160 %; the sum is exact. -/
def valveLoop (s : State) : State :=
  if !s.fwRuns then s
  else
    let e := s.hottest - 16 * s.lhs.valveTarget
    let i := max 0 (min (60 * 160) (s.lhs.integral + e))
    let p : Nat := s.fuses.maxPower
    let n : Int := 40 * 160 * p + 480 * s.rd .TST_TEL_PIN_POWER + 40 * e * p + i * p
    let (s, v) := s.nearest n (160 * p)
    { s with lhs := { s.lhs with integral := i } }.writeValve (max 0 (min 100 v)).toNat

/-- The end of a flow window of 1 s (R422): the flow published, and three low windows in a row while ACTIVE an error. How
the quotient is rounded is open. -/
def flowWindow (s : State) (pulses : Nat) : State :=
  if !s.telemUp then s
  else
    let k := s.lhs.flowK
    let (n, s) := s.draw
    let ml := pulses * 60000 / k + if pulses * 60000 % k = 0 then 0 else Config.unstated 422 n % 2
    let s := s.wr .TST_TEL_FLOW_ML_MIN 0 0 (satNat 16 ml)
    let low := decide (pulses * 60000 < 1800 * k)
    let run := if low ∧ s.active then min 3 (s.lhs.flowLow + 1) else 0
    let hit := decide (run = 3 ∧ s.lhs.flowLow ≠ 3)
    let ok := if low then 0 else min 3 (s.lhs.flowOk + 1)
    let hold := (s.lhs.flowHold || (hit && s.fwRuns)) && decide (ok ≠ 3)
    let s := { s with lhs := { s.lhs with flowLow := run, flowOk := ok, flowHold := hold } }
    if hit then s.lhsErr lFlow false 0 else s

/-- TST_TEL_PIN.VOLT, in units of 10 mV, has read below 44 V for 10 ms (`low`), or above it (R485): what it reads now decides
whether that can be. -/
def inputVoltage (s : State) (low : Bool) : State :=
  let v := s.rd .TST_TEL_PIN_VOLT
  if s.fwRuns ∧ (if low then v < 4400 else 4400 < v) then { s with lhs := { s.lhs with voltFault := low } } else s

/-! ### Telemetry and the governor (R415, R417) -/

/-- Registers of a list of values, one an entry. -/
def wrList (s : State) (f : Fd) : Nat → List Nat → State
  | _, [] => s
  | i, v :: vs => (s.wr f 0 i v).wrList f (i + 1) vs

/-- A bit of TST_STATUS rises, with its interrupt (R475). -/
def tstDone (s : State) (f : Fd) (n : Nat) : State :=
  if s.flag f then s
  else let s := s.wr f 0 0 1; if hasBit (s.rd .TST_INT_EN_DONE) n then s.raiseVector 58 else s

/-- The hottest of a die's sensors, the lowest-numbered of equals. -/
def hottestOf : Nat → List Int → Nat × Int
  | _, [] => (0, 0)
  | i, [v] => (i, v)
  | i, v :: vs => let (j, w) := hottestOf (i + 1) vs; if v < w then (j, w) else (i, v)

/-- DIEMAX of a die from its sensors. -/
def publishMax (s : State) (d : Nat) (vs : List Int) : State :=
  let (i, v) := hottestOf 0 vs
  (s.wr .TST_TEL_DIEMAX_SENSOR 0 d i).wr .TST_TEL_DIEMAX_TEMP 0 d (ofSigned 16 v)

/-- The sensors that a package of this assembly reads: those of an absent I/O die read 0 (R439). -/
def ioSensors (s : State) (v : Sample) : List Int :=
  ((v.ioTemps ++ List.replicate 32 0).take 32).zipIdx.map fun (x : Int × Nat) => if s.fuses.dieFitted (x.2 / 8) then x.1 else 0

/-- Is some compute-die sensor at or above 100 °C, or has one been and not every sensor is below 95 °C since (R421)? -/
def judgeHot (s : State) (temps : List Int) : State :=
  let hot := temps.any (fun t => decide (100 * 16 ≤ t)) || (s.lhs.hot && temps.any fun t => decide (95 * 16 ≤ t))
  { s with lhs := { s.lhs with hot := hot } }

/-- The four gating depths of the governor in one word (R417). -/
def packGov (g : List Nat) : Nat := ((g.take 4).zipIdx.map fun x => min 64 x.1 * 2 ^ (8 * x.2)).sum

/-- The input power that the governor keeps to, in W (R24, R417): LHS_GOV_LIMIT, at most the assembly's maximum, and half of that
while the firmware holds for flow (R422). -/
def govLimit (s : State) : Nat :=
  min (s.rd .LHS_GOV_LIMIT_LIMIT_W) (if s.lhs.flowHold then s.fuses.maxPower / 2 else s.fuses.maxPower)

/-- Does a sample break a condition of the governor for a compute die (R417): the input power (0.1 W) above the limit, a
sensor of the die above the junction target, or a stack on it above 100 °C? -/
def overLimit (s : State) (v : Sample) (d : Nat) : Bool :=
  decide (10 * s.govLimit < v.power) ||
  (((v.temps ++ List.replicate 256 0).drop (64 * d)).take 64).any (fun t => decide (16 * (s.lhs.tjTarget : Int) < t)) ||
  (((v.stackTemps ++ List.replicate 16 0).drop (s.fuses.stacksPerDie * d)).take s.fuses.stacksPerDie).any fun t => decide (100 < t)

/-- The depths the governor writes at a sample (R417): the firmware's own choice where a die meets its conditions; where it does
not, at least one more than before, up to 64 (DEDUCED, assumption 14). -/
def govDepths (s : State) (v : Sample) : List Nat :=
  (List.range 4).map fun d =>
    let g := min 64 (v.gov.getD d 0)
    if s.overLimit v d then max g (min 64 (bits (s.rd .LHS_GOV_G_G) (8 * d + 7) (8 * d) + 1)) else g

/-- A reading under the calibration record that is effective for its key (R445, R446). The sample gives each reading as the
firmware's built-in default has it, so that it stands where no record is (DESIGN CHOICE, assumption 14). -/
def calibrate (s : State) (type key : Nat) (reading : Int) : Int :=
  match s.calValue type key with
  | [] => reading
  | value => Config.calibrated type value reading

/-- A sample under the calibration values effective now: CAL_SENSOR for each sensor of a die, CAL_POWER for the rails' powers
and, under key 12, for what the input monitor measures (R444, R446). -/
def calibrateSample (s : State) (v : Sample) : Sample :=
  let power (key : Nat) (p : Nat) : Nat := (s.calibrate 0x22 key p).toNat
  { v with
    temps := v.temps.zipIdx.map fun x => s.calibrate 0x21 x.2 x.1
    ioTemps := v.ioTemps.zipIdx.map fun x => s.calibrate 0x21 (256 + x.2) x.1
    rails := v.rails.zipIdx.map fun x => (x.1.1, power x.2 x.1.2)
    power := power 12 v.power
    peak := power 12 v.peak
    energy := power 12 v.energy }

/-- A sample of 1 ms published, all values together, then SEQ (R415); and the governor's run on it (R417). -/
def telemetrySample (s : State) (sample : Sample) : State :=
  if !s.telemUp then s
  else
    let v := s.calibrateSample sample
    let temps := (v.temps ++ List.replicate 256 0).take 256
    let io := s.ioSensors v
    let s := (((s.wr .TST_TEL_PIN_VOLT 0 0 v.volt).wr .TST_TEL_PIN_POWER 0 0 v.power).wr .TST_TEL_PIN_PEAK_POWER 0 0 v.peak).count
      .TST_TEL_ENERGY_MJ 0 0 v.energy
    let s := (s.wrList .TST_TEL_RAIL_VOLT_MV 0 ((v.rails.take 12).map (·.1))).wrList .TST_TEL_RAIL_POWER 0
      ((v.rails.take 12).map (·.2))
    let s := (s.wr .TST_TEL_COOLANT_OUTLET 0 0 (ofSigned 16 v.outlet)).wr .TST_TEL_COOLANT_INLET 0 0 (ofSigned 16 v.inlet)
    let s := (s.wrList .TST_TEL_TEMP_TEMP 0 (temps.map (ofSigned 16))).wrList .TST_TEL_IOTEMP_TEMP 0 (io.map (ofSigned 16))
    let s := (List.range 4).foldl (fun s d => s.publishMax d ((temps.drop (64 * d)).take 64)) s
    let s := (List.range 4).foldl (fun s d => s.publishMax (4 + d) ((io.drop (8 * d)).take 8)) s
    let s := ((v.stackTemps.take s.fuses.nStacks).zipIdx).foldl (fun (s : State) (x : Int × Nat) =>
      if s.isOpen kMemc x.2 then s.setRefresh x.2 x.1 else s) s
    let s := ((s.judgeHot temps).count .TST_TEL_SEQ_SEQ 0 0 1).tstDone .TST_STATUS_SAMPLE 2
    if s.fwRuns then ((s.wr .LHS_GOV_G_G 0 0 (packGov (s.govDepths v))).noteGating.count .LHS_HEARTBEAT_COUNT 0 0 1).judgeFloor
    else s.judgeFloor

/-- LHS_GOV_LIMIT written with no reserved encoding (R417). -/
def writeGovLimit (s : State) (v : Nat) : State := s.wr .LHS_GOV_LIMIT_LIMIT_W 0 0 (min v s.fuses.maxPower)

/-! ### The power cap (R418) -/

/-- A record that a second allows one of: has a second passed since the last one? -/
def secondPassed (s : State) (last : Option Nat) : Bool :=
  match last with
  | none => true
  | some t => decide (t + 1000000000 ≤ s.time.toNat)

/-- An input sample of `p`, in 0.1 W: the cap acts on the average of the last four (R418). -/
def capSample (s : State) (p : Nat) : State :=
  if !s.telemUp then s
  else
    let xs := (p :: s.lhs.samples).take 4
    let cap := s.rd .LHS_CAP_CAP_W
    let g := s.rd .LHS_CAP_CAP_G
    let s := { s with lhs := { s.lhs with samples := xs } }
    if xs.length < 4 then s
    else if 40 * cap < xs.sum then
      let s := ({ s with lhs := { s.lhs with capRun := 0 } }.wr .LHS_CAP_CAP_G 0 0 (min 64 (g + 16))).noteGating
      if g ≠ 0 then s
      else
        let s := s.bump .TST_TEL_EVENTS_CAPS 0 0 1
        if s.secondPassed s.lhs.capAt then
          { s with lhs := { s.lhs with capAt := some s.time.toNat } }.lhsErr lCap false 0
        else s.lhsFlag lCap
    else if 100 * xs.sum ≤ 97 * 40 * cap then
      if s.lhs.capRun + 1 = 16 then { s with lhs := { s.lhs with capRun := 0 } }.wr .LHS_CAP_CAP_G 0 0 (g - 1)
      else { s with lhs := { s.lhs with capRun := s.lhs.capRun + 1 } }
    else { s with lhs := { s.lhs with capRun := 0 } }

/-! ### The thermal trip (R419) -/

/-- The sensors that have a trip comparator (R415, R419): 64 on a compute die, 8 on a fitted I/O die, which are dies 4 to 7. -/
def tripSensor (s : State) (die sensor : Nat) : Bool :=
  if die < 4 then decide (sensor < 64) else decide (die < 8 ∧ sensor < 8) && s.fuses.dieFitted (die - 4)

/-- A sensor of a die reaches 105 °C: latched until PWROK falls. It acts from the fuse load on (R409). -/
def thermalTrip (s : State) (die sensor : Nat) : State :=
  if !s.boot.fuseDone ∨ s.lhs.tripped then s
  else { s with lhs := { s.lhs with tripped := true } }.noteGating.lhsErr lTrip true (die % 8 + sensor % 64 * 2 ^ 8)

/-! ### The voltage clamp (R420) -/

/-- A request of the firmware for a rail, in mV: the nearer end of the window where it lies outside. -/
def voltageRequest (s : State) (rail mv : Nat) : State :=
  if !s.fwRuns ∨ 12 ≤ rail then s
  else
    let (_, lo, hi) := s.fuses.rail rail
    let sent := if mv < lo then lo else if hi < mv then hi else mv
    let s := { s with lhs := { s.lhs with rails := SMap.set s.lhs.rails ⟨rail, 0, 0⟩ (s.fuses.rail rail).1 sent } }
    if sent = mv then s
    else
      let s := ((s.wr .LHS_CLAMP_INFO_RAIL 0 0 rail).wr .LHS_CLAMP_INFO_REQ_MV 0 0 mv).bump .TST_TEL_EVENTS_CLAMPS 0 0 1
      if s.secondPassed (SMap.find s.lhs.clampAt ⟨rail, 0, 0⟩) then
        { s with lhs := { s.lhs with clampAt := SMap.insert s.lhs.clampAt ⟨rail, 0, 0⟩ s.time.toNat } }.lhsErr lClamp false 0
      else s.lhsFlag lClamp

/-! ### Management packets (R424) -/

/-- Header fields of a MGMT packet. -/
def mgmtSound (ws : List Nat) : Bool :=
  let len := bits (hw ws 1) 31 0
  [0x01, 0x02].contains (bits (hw ws 0) 7 0) && bits (hw ws 0) 31 26 == 0 && bits (hw ws 0) 63 42 == 0 &&
  bits (hw ws 0) 15 8 + 1 == (32 + len + 255) / 256 && bits (hw ws 0) 15 8 < 16 && hw ws 2 == 0 &&
  bits (hw ws 3) 31 0 == 0 && bits (hw ws 3) 63 32 == crc32c ((wordsBytes (ws.take 4)).take 28)

/-- A MGMT packet that has arrived; `tagOk`: its tag has verified (R283). Only then are its fields judged; a sound packet for
another location is none of this package's. -/
def takeMgmt (s : State) (ws : List Nat) (tagOk : Bool) : State :=
  if !s.flag .SEC_STATUS_MGMT_KEYED then s
  else if !tagOk ∨ !mgmtSound ws then s.lhsFlag lMgmt
  else if bits (hw ws 0) 25 16 ≠ s.rd .TWY_SELF_LOC_LOC then s
  else if bits (hw ws 0) 7 0 = 0x01 then s.takeNotice (ws.drop 4)
  else if 64 ≤ s.lhs.inbox.length then s.lhsFlag lMgmt
  else { s with lhs := { s.lhs with inbox := s.lhs.inbox ++ [ws] } }

/-- MGMT_SEND: an LH_MSG of `len` bytes sent to a location, where its payload fits the 16 flits of a packet (R424). Without
the management key it is unavailable; what it answers where no route is valid is open. -/
def mgmtSend (s : State) (loc len : Nat) (payload : List Nat) : State :=
  if !s.mbServes 0x40 then s
  else if 16 * 256 < 32 + len ∨ 1024 ≤ loc then s.mbAnswer 0x02 []
  else if !s.flag .SEC_STATUS_MGMT_KEYED then s.mbAnswer 0x04 []
  else if !s.flag .TWY_LOC_ROUTE_VALID 0 loc then let (k, s) := s.draw; s.mbAnswer (Config.unstated 424 k % 5) []
  else (s.sendMgmt 0x02 loc payload len).mbAnswer 0 []

end State

end Sys2Proof.Machine
end

