-- ==== Sys2Proof/Machine/Porter.lean ====
section
/-! DEFINITION. The porter (R425 to R437): fuses and their counts, images, enrolment, quotes and the debug unlock. -/
namespace Sys2Proof.Machine

/-- The bits of SEC_ERR_STATUS (R440). -/
def sNokey : Nat := 0
def sToken : Nat := 1
def sEnrol : Nat := 2
def sEntropy : Nat := 3
def sBusy : Nat := 4
def sMirror : Nat := 5
def sState : Nat := 6

/-- A thermometer count of `n` (R425). -/
def thermometer (n : Nat) : Nat := 2 ^ min n 64 - 1

/-- Where the buffers of the SEC block lie in BAR0 (R440). -/
def secQuote : Nat := 0x40000
def secInput : Nat := 0x50000

namespace State

/-- An error of the SEC block with its record (R440). -/
def secErr (s : State) (n : Nat) : State := s.report { cls := 0x04, index := n, inst := 0xFFFF, void := false, waiterKind := 5 }

/-- A bit of SEC_ERR_STATUS that has no record (R440). -/
def secFlag (s : State) (n : Nat) : State := s.setErr 0x04 n 0

/-- SEC_CHALLENGE renewed (R431, R436, R440). -/
def renewChallenge (s : State) : State :=
  let (k, s) := s.draw
  (List.range 8).foldl (fun s i => s.wr .SEC_CHALLENGE_WORD 0 i (Config.random (8 * (k + 1) + i)).toNat) s

/-- SEC_CHALLENGE as the host reads it (R437). -/
def challenge (s : State) : List Nat :=
  (List.range 8).flatMap fun i => natBytes 4 (if s.flag .SEC_STATUS_ENTROPY_OK then s.rd .SEC_CHALLENGE_WORD 0 i else 0)

/-- Is an owner slot enrolled, as the OWNER_STATE that governs has it (R431)? -/
def enrolled (s : State) (slot : Nat) : Bool := decide (1 ≤ slot ∧ slot ≤ 4) && Fuses.slotState s.sec.owners slot == 1

/-- Does the hash of a public key equal an owner's (R429, R431, R436)? -/
def keyMatches (s : State) (slot : Nat) (key : List Nat) : Bool :=
  spanNat (Config.shake256 key 32) 0 32 == SMap.get s.fuses.ownerHash ⟨slot, 0, 0⟩ 0

/-- The bytes of the input buffer (R431, R435). -/
def inputBytes (s : State) (n : Nat) : List Nat := byteNats (s.bufs.readN secInput n)

/-- A command runs from here on (R437). -/
def secStart (s : State) (c : SecCmd) : State := { s with sec := { s.sec with cmd := some c } }.wr .SEC_STATUS_CMD_BUSY 0 0 1

/-- A write of SEC_CTRL while a command runs, or in a job state that its rule excludes, is discarded (R437); what is not
goes on with `f`. -/
def secCommand (s : State) (allowed : Bool) (f : State → State) : State :=
  if s.flag .SEC_STATUS_CMD_BUSY then s.secFlag sBusy else if !allowed then s.secFlag sState else f s

/-! ### The job secret (R427) -/

/-- A word of SEC_JOB_SECRET written; the last one completes the secret. -/
def writeSecret (s : State) (i v : Nat) : State :=
  if s.jobState ≠ jobEmpty ∧ s.jobState ≠ jobPaused then s.secFlag sState
  else
    let s := s.wr .SEC_JOB_SECRET_WORD 0 i v
    if i = 7 then s.wr .SEC_STATUS_SECRET_SET 0 0 1 else s

/-- SEC_CTRL.REKEY (R427). -/
def rekey (s : State) : State :=
  s.secCommand (s.jobState == jobPaused) fun s =>
    if !s.flag .SEC_STATUS_SECRET_SET then s.noKey
    else ({ s with sec := { s.sec with linkKey := s.deriveLink (s.rd .HST_JOB_TAG_JOB) } }.clearSecret).wr
      .TWY_KEY_TM_TIDEMARK 0 0 s.tidemark

/-- SEC_CTRL.CLEAR_SECRET (R440). -/
def discardSecret (s : State) : State := s.secCommand true clearSecret

/-! ### Images (R428 to R430) -/

/-- The bytes of an image in flash, signature included. -/
def imageBytes (s : State) (target : Nat) : List Nat :=
  let (base, size) := imageArea target
  let n := spanNat (s.flashRead (base + 8) 4) 0 4
  s.flashRead base (min size (0x100 + n + 29792))

/-- Does the boot ROM accept the image of TARGET in flash (R429)? TARGET 0 is the firmware, 1 the shore configuration
(R368). -/
def imageOk (s : State) (target : Nat) : Bool :=
  let (base, size) := imageArea target
  let h := s.flashRead base 0x100
  let n := spanNat h 8 4
  let signer := h.getD 0x10 0
  let svn := spanNat h 0xC 4
  let fuse := popcount 64 (if target = 0 then s.fuses.fwSvn else s.fuses.shoreSvn)
  let key := (h.drop 0x40).take 0x40
  h.take 4 == [0x4A, 0x4E, 0x56, 0x49] && h.getD 4 0 == 1 && h.getD 5 0 == target + 1 &&
  zeroSpan h 6 8 && zeroSpan h 0x11 0x14 && zeroSpan h 0x18 0x40 && zeroSpan h 0x80 0x100 &&
  decide (0x100 + n + 29792 ≤ size) &&
  (if signer = 0 then !s.fuses.foundationRevoked && spanNat (Config.shake256 key 32) 0 32 == Config.imageKeyHash
   else s.enrolled signer && s.keyMatches signer key) &&
  decide (fuse ≤ svn) && Config.signed key (s.imageBytes target)

/-- The SVN and the signer of an image in flash. -/
def imageSvn (s : State) (target : Nat) : Nat := spanNat (s.flashRead ((imageArea target).1 + 0xC) 4) 0 4
def imageSigner (s : State) (target : Nat) : Nat := spanNat (s.flashRead ((imageArea target).1 + 0x10) 1) 0 1

/-- SEC_CTRL.SVN_FW or SVN_SHORE (R430). -/
def raiseSvn (s : State) (shore : Bool) : State := s.secCommand true fun s => s.secStart (.svn shore)

/-- The fuse count raised to the SVN of the running image, never lowered; a count that has reached it is not written
(R430). -/
def blowSvn (s : State) (shore : Bool) : State :=
  let run := s.rd (if shore then .SEC_SVN_SHORE_RUN else .SEC_SVN_FW_RUN)
  if run ≤ popcount 64 (if shore then s.fuses.shoreSvn else s.fuses.fwSvn) then s
  else if shore then { s with fuses := { s.fuses with shoreSvn := thermometer run } }
  else { s with fuses := { s.fuses with fwSvn := thermometer run } }

/-! ### Enrolment (R431) -/

/-- Does the enrolment record in the input buffer hold, `b` its first 256 bytes (R431)? -/
def recordOk (s : State) (b : List Nat) : Bool :=
  let op := b.getD 5 0
  let slot := b.getD 6 0
  let signer := b.getD 7 0
  let state (i : Nat) : Nat := Fuses.slotState s.fuses.ownerState i
  let others := ([1, 2, 3, 4].filter fun i => state i == 1 && !(op == 2 && i == slot)).length
  b.take 4 == [0x4A, 0x4E, 0x56, 0x45] && b.getD 4 0 == 1 && zeroSpan b 176 256 && s.flag .SEC_STATUS_ENTROPY_OK &&
  spanNat b 8 8 == s.fuses.serial && (b.drop 16).take 32 == s.challenge &&
  (if signer = 0 then [1, 2, 3, 4].all (fun i => state i != 1)
   else s.enrolled signer && s.keyMatches signer ((b.drop 112).take 64) &&
     Config.signed ((b.drop 112).take 64) (s.inputBytes 30048)) &&
  (if op = 1 then decide (1 ≤ slot ∧ slot ≤ 4) && state slot == 0
   else op == 2 && decide (slot ≤ 4) && (slot == 0 || state slot == 1) && decide (1 ≤ others))

/-- SEC_CTRL.ENROL (R431). -/
def enrol (s : State) : State :=
  s.secCommand (s.jobState == jobEmpty) fun s =>
    let b := s.inputBytes 256
    let ok := s.recordOk b
    let s := s.renewChallenge
    if ok then s.secStart (.enrol (b.getD 5 0) (b.getD 6 0) ((b.drop 48).take 32) ((b.drop 80).take 32)) else s.secErr sEnrol

/-- The fuses of an accepted record blown (R425, R431). -/
def blowOwner (s : State) (op slot : Nat) (hash secret : List Nat) : State :=
  if op = 2 ∧ slot = 0 then { s with fuses := { s.fuses with foundationRevoked := true } }
  else if op = 2 then
    { s with fuses := { s.fuses with ownerState := withBits s.fuses.ownerState (2 * slot - 1) (2 * slot - 2) 3 } }
  else { s with fuses := { s.fuses with
    ownerState := withBits s.fuses.ownerState (2 * slot - 1) (2 * slot - 2) 1
    ownerHash := SMap.set s.fuses.ownerHash ⟨slot, 0, 0⟩ 0 (spanNat hash 0 32)
    ownerSecret := SMap.set s.fuses.ownerSecret ⟨slot, 0, 0⟩ 0 (spanNat secret 0 32) } }

/-! ### Attestation (R432 to R434) -/

/-- The 256 signed bytes of a quote (R433). -/
def quoteBytes (s : State) : List Nat :=
  let words (f : Fd) : List Nat := (List.range 8).flatMap fun i => natBytes 4 (s.rd f 0 i)
  let open_ := [jobLoading, jobRunning, jobPausing, jobPaused].contains s.jobState
  [0x4A, 0x4E, 0x56, 0x51, 1, s.debugByte + 2 * b2n open_ + 4 * s.rd .HST_STATUS_RECOVERY] ++ natBytes 2 35920 ++
  natBytes 8 s.fuses.serial ++ natBytes 8 s.time.toNat ++ natBytes 8 s.tidemark ++ natBytes 4 (s.rd .HST_JOB_TAG_JOB) ++
  natBytes 2 (s.regVal .TWY_SELF_LOC 0 0 % 2 ^ 13) ++ [0, 0] ++ natBytes 4 (s.rd .SEC_SVN_FW_RUN) ++
  natBytes 4 (s.rd .SEC_SVN_SHORE_RUN) ++ words .SEC_NONCE_WORD ++
  (List.range 5).flatMap (fun m => natBytes 32 (s.rd .SEC_MEAS_DIGEST 0 m)) ++ List.replicate 16 0

/-- The device identity key of the fused seed (R426). -/
def identityKey (s : State) : List Nat := Config.shake256 (ascii "JNV-ID" ++ natBytes 32 s.fuses.deviceSeed) 72

/-- The identity public key and SERIAL, which the certificate signs (R433). -/
def identityBytes (s : State) : List Byte :=
  (List.range 48).map (Config.publicByte s.sec.identity) ++ leBytes 8 s.fuses.serial

/-- Byte `i` of the identity area (R433): the public key, SERIAL and the manufacturing certificate one behind the other, which is
the order in which the rule lists them (DEDUCED, assumption 42); 0 behind them, and before the porter has its key. -/
def identityByte (s : State) (i : Nat) : Byte :=
  let own := s.identityBytes
  if s.sec.identity.isEmpty ∨ 56 + 29792 ≤ i then 0
  else if i < 56 then own.getD i 0
  else Config.certificateByte (byteNats own) (i - 56)

/-- SEC_CTRL.QUOTE (R434): every field latched. -/
def quote (s : State) : State := s.secCommand true fun s => s.secStart (.quote s.quoteBytes)

/-- A running command ends. -/
def secEnd (s : State) : State := { s with sec := { s.sec with cmd := none } }.wr .SEC_STATUS_CMD_BUSY 0 0 0

/-- The quote is in the buffer (R434). Vector 3 follows a rise of QUOTE_READY alone (R440). -/
def quoteReady (s : State) : State :=
  match s.sec.cmd with
  | some (.quote b) =>
    let bytes := b.map (BitVec.ofNat 8) ++ (List.range 35664).map fun i => Config.signatureByte s.sec.identity b i
    let rises := !s.flag .SEC_STATUS_QUOTE_READY
    let s := (({ s with bufs := s.bufs.writeN secQuote bytes } : State).secEnd).wr .SEC_STATUS_QUOTE_READY 0 0 1
    if rises && s.flag .SEC_INT_EN_QUOTE then s.raiseVector 3 else s
  | _ => s

/-- A command that blows fuses ends (R430, R431, R437). -/
def secDone (s : State) : State :=
  match s.sec.cmd with
  | some (.enrol op slot hash secret) => (s.blowOwner op slot hash secret).secEnd
  | some (.svn shore) => (s.blowSvn shore).secEnd
  | _ => s

/-! ### Debug unlock (R435, R436) -/

/-- Does the debug token in the input buffer hold, `b` its first 128 bytes (R435, R436)? -/
def tokenOk (s : State) (b : List Nat) : Bool :=
  let slot := b.getD 6 0
  b.take 4 == [0x4A, 0x4E, 0x56, 0x44] && b.getD 4 0 == 1 && decide (b.getD 5 0 < 4) && b.getD 7 0 == 0 &&
  zeroSpan b 112 128 && s.flag .SEC_STATUS_ENTROPY_OK && spanNat b 8 8 == s.fuses.serial &&
  (b.drop 16).take 32 == s.challenge && s.enrolled slot && s.keyMatches slot ((b.drop 48).take 64) &&
  Config.signed ((b.drop 48).take 64) (s.inputBytes 29920)

/-- The job command that runs completes with ERR_HST_KILLED. -/
def killActive (s : State) : State :=
  match s.hst.jobs with
  | c :: _ => if s.hst.active then s.endJob c 0x07 0 else s
  | [] => s

/-- SEC_CTRL.UNLOCK (R436): an accepted token scours the package first. -/
def unlock (s : State) : State :=
  s.secCommand true fun s =>
    let b := s.inputBytes 128
    let ok := s.tokenOk b
    let s := s.renewChallenge
    if !ok then s.secErr sToken
    else
      let s := { s with sec := { s.sec with unlock := some (b.getD 5 0) } }.wr .SEC_STATUS_CMD_BUSY 0 0 1
      if s.jobState = jobScouring then s else s.killActive.scour

/-! ### The entropy source (R437) -/

/-- A health test fails. -/
def entropyFails (s : State) : State := (s.wr .SEC_STATUS_ENTROPY_OK 0 0 0).secErr sEntropy

/-- The source passes again. -/
def entropyPasses (s : State) : State := s.wr .SEC_STATUS_ENTROPY_OK 0 0 1

/-- The fuses that M_FUSE covers, in the order of R425 (R432). -/
def fuseBytes (s : State) : List Nat :=
  let f := s.fuses
  let tiles := (List.range 128).flatMap fun c => f.outRows (c / 32) (c % 32)
  let arrays := (List.range f.tiles).map fun t => SMap.get f.arrayOut ⟨t, 0, 0⟩ 32
  let rails := (List.range 12).flatMap fun r => natBytes 2 (f.rail r).2.1 ++ natBytes 2 (f.rail r).2.2
  natBytes 8 f.serial ++ natBytes 2 f.ident ++ tiles ++ arrays ++ rails ++ natBytes 2 f.capW ++
  (List.range 4).flatMap (fun i => natBytes 32 (SMap.get f.ownerHash ⟨i + 1, 0, 0⟩ 0)) ++ [f.ownerState] ++
  [b2n f.foundationRevoked] ++ natBytes 8 f.fwSvn ++ natBytes 8 f.shoreSvn

end State

end Sys2Proof.Machine
end

