-- ==== Sys2Proof/Machine/Journal.lean ====
section
/-! DEFINITION. The flash, the strandline journal and maintenance (R441 to R462), and the option block (R403 to R406). -/
namespace Sys2Proof.Machine

/-! ### The option block (R403 to R406) -/

/-- The range of a domain's clock plan in units of 0.5 MHz; `none` for a fixed domain (R386). -/
def clockRange (d : Nat) : Option (Nat × Nat) :=
  if d < 4 then some (1000, 2200) else if d < 8 then some (1200, 2600) else if d < 24 then some (1200, 2400)
  else if d < 28 then some (2000, 3125) else if d = 34 then some (800, 1600) else if d = 35 then some (500, 1000) else none

/-- The nominal frequency of a domain in units of 0.5 MHz (R386); TWL's is 2,656.25, of which the register holds 2,656. -/
def clockNominal (d : Nat) : Nat :=
  if d < 4 then 2200 else if d < 8 then 2600 else if d < 24 then 2400 else if d < 28 then 3125 else if d < 32 then 2656
  else match d with
    | 32 => 2000 | 33 => 4000 | 34 => 1600 | 35 => 1000 | 36 => 200 | 37 => 400 | 38 => 400 | _ => 100

/-- Is a domain's unit present in an assembly of `stacks` stacks and `dies` I/O dies (R386)? -/
def clockPresent (f : Fuses) (d : Nat) : Bool :=
  if 8 ≤ d ∧ d < 24 then decide (d - 8 < f.nStacks) else if 24 ≤ d ∧ d < 32 then f.dieFitted (d % 4) else true

/-- Does a clock plan entry meet R405? -/
def clockEntryOk (f : Fuses) (d e : Nat) : Bool :=
  if d = 36 ∨ d = 39 ∨ !clockPresent f d then e == 0
  else bits e 29 16 == 0 && match clockRange d with
    | none => bits e 31 30 == 0
    | some (lo, hi) =>
      let q := bits e 15 0
      match bits e 31 30 with
      | 1 => decide (lo ≤ q ∧ q ≤ hi) && q % 25 == 0
      | 0 | 2 => true
      | _ => false

/-- Is a copy of the option block valid (R406)? -/
def optionOk (f : Fuses) (b : List Nat) : Bool :=
  b.take 4 == [0x4A, 0x4E, 0x56, 0x4F] && b.getD 4 0 == 1 && spanNat b 6 2 == 0x1000 &&
  (b.drop 0xFE0).take 32 == Config.shake256 (b.take 0xFE0) 32 &&
  zeroSpan b 5 6 && zeroSpan b 0xC 0x10 && zeroSpan b 0xB4 0xC0 && zeroSpan b 0xC4 0xD0 && zeroSpan b 0x1E0 0xFE0 &&
  bits (spanNat b 0xC0 2) 15 13 == 0 && bits (spanNat b 0xC2 2) 15 13 == 0 &&
  (List.range 40).all (fun d => clockEntryOk f d (spanNat b (0x10 + 4 * d) 4)) &&
  [8, 12, 16].contains (b.getD 0xB0 0) && [64, 96].contains (b.getD 0xB1 0) && [2, 4].contains (b.getD 0xB2 0) &&
  [0, 1].contains (b.getD 0xB3 0)

/-- OPT_SEQ of a copy (R404). -/
def optionSeq (b : List Nat) : Nat := spanNat b 8 4

/-- Are KEY and LEN of a record that the host appends within R444? -/
def jrecOk (type key len : Nat) : Bool :=
  match type with
  | 0x20 => decide (key < 144) && len == 7
  | 0x21 => decide (key < 288) && len == 6
  | 0x22 => decide (key ≤ 12) && len == 8
  | 0x40 => decide (len ≤ 40)
  | _ => false

/-- A list with an element placed in its order. -/
def insertBy (lt : JRec → JRec → Bool) (x : JRec) : List JRec → List JRec
  | [] => [x]
  | y :: ys => if lt x y then x :: y :: ys else y :: insertBy lt x ys

namespace State

/-- An error of the JRN block with its record (R462). -/
def jrnErr (s : State) (n d5 d6 : Nat) : State :=
  s.report { cls := 0x0E, index := n, inst := 0xFFFF, void := false, d5 := d5, d6 := d6 }

def jCheck : Nat := 0
def jFull : Nat := 1
def jQueue : Nat := 2
def jFlash : Nat := 3
def jFactory : Nat := 4
def jMirror : Nat := 5

/-! ### The flash (R441, R442) -/

/-- A span of the flash erased: every byte 0xFF. -/
def flashErase (s : State) (a n : Nat) : State := { s with flash := s.flash.clear (.span a (a + n)) }

/-- Bytes programmed into NOR flash: bits go from 1 to 0 only (PRESUMED, assumption 18). -/
def flashProgram (s : State) (a : Nat) (bs : List Nat) : State :=
  s.flashWrite a ((bs.zip (s.flashRead a bs.length)).map fun x => Nat.land x.1 x.2)

/-- Does a command touch a span of the flash? -/
def touches (a n lo hi : Nat) : Bool := decide (a < hi ∧ lo < a + n)

/-- Is a command refused (R442)? -/
def flashRefused (s : State) (who : FlashSource) (a n : Nat) : Bool :=
  (touches a n 0x00100000 0x00200000 && !(who == .tap && s.boot.production)) ||
  (touches a n 0x01200000 0x03600000 && who != .bootRom)

/-- JRN_STATUS.UNCAL judged (R445). -/
def judgeUncal (s : State) : State :=
  let keys := (List.range 144).map (fun k => (0x20, k)) ++ (List.range 288).map (fun k => (0x21, k)) ++
    (List.range 13).map fun k => (0x22, k)
  s.wr .JRN_STATUS_UNCAL 0 0 (b2n (keys.any fun k => (s.effective k.1 k.2).1 == 0))

/-- A flash command (R441, R442): performed, or refused with ERR_JRN_FLASH. What it changes may be a record from which a
calibration key takes its value (R445). -/
def flashCommand (s : State) (who : FlashSource) (a : Nat) (op : FlashOp) : State :=
  let judge (s : State) : State := if s.flag .JRN_STATUS_MOUNTED then s.judgeUncal else s
  match op with
  | .program bs => if s.flashRefused who a bs.length then s.jrnErr jFlash a 0 else judge (s.flashProgram a bs)
  | .erase =>
    let base := a / 0x10000 * 0x10000
    if s.flashRefused who base 0x10000 then s.jrnErr jFlash a 0 else judge (s.flashErase base 0x10000)

/-! ### Maintenance (R456 to R460) -/

/-- The entry of an instance in JRN_MAINT_ST. -/
def mIdx (a i : Nat) : Nat := 32 * a + i

def mState (s : State) (a i : Nat) : Nat := s.rd .JRN_MAINT_ST_STATE 0 (mIdx a i)
def mIdle : Nat := 0
def mQueued : Nat := 1
def mRunning : Nat := 2
def mYielded : Nat := 3

/-- The values of LAST (R462). -/
def mDone : Nat := 1
def mFailed : Nat := 2
def mRefused : Nat := 3
def mTimeout : Nat := 4
def mCancelled : Nat := 5

/-- The instances that R456 lists. -/
def mListed (a i : Nat) : Bool :=
  match a with
  | 0 | 5 => decide (i < 16)
  | 1 | 2 => decide (i < 32)
  | 3 | 4 => i == 0
  | _ => false

/-- The STATE of an instance as JRN_MAINT_ST shows it: a patrol scrub is RUNNING while it is enabled and its controller is
there and in reach, and YIELDED to a memory test of its stack (R456, R458). -/
def mShown (s : State) (a i : Nat) : Nat :=
  if a ≠ 0 then s.mState a i
  else if !s.flag .MEM_SCRUB_CFG_EN i ∨ s.fuses.nStacks ≤ i ∨ !s.isOpen kMemc i then mIdle
  else if s.mState 5 i = mRunning ∨ s.memLoopback ∨ hasBit (s.rd .TST_BIST_STATUS_RUNNING) 3 then mYielded else mRunning

/-- The time at which an instance entered its state (AGE_S). -/
def mSince (s : State) (a i : Nat) : State :=
  { s with jrn := { s.jrn with since := SMap.set s.jrn.since ⟨mIdx a i, 0, 0⟩ 0 s.time.toNat } }

/-- A change after which the time of every patrol scrub that has entered another state is kept (R458, R462). -/
def watchScrubs (s : State) (f : State → State) : State :=
  let t := f s
  (List.range 16).foldl (fun u i => if t.mShown 0 i = s.mShown 0 i then u else u.mSince 0 i) t

/-- An instance enters a state, and the time it does is kept (AGE_S). -/
def mEnter (s : State) (a i st : Nat) : State :=
  s.watchScrubs fun s => (s.mSince a i).wr .JRN_MAINT_ST_STATE 0 (mIdx a i) st

/-- The outcome of a request. -/
def mOutcome (s : State) (a i last reason : Nat) : State :=
  (s.wr .JRN_MAINT_ST_LAST 0 (mIdx a i) last).wr .JRN_MAINT_ST_REASON 0 (mIdx a i) reason

/-- An instance is IDLE again with an outcome. -/
def mLast (s : State) (a i last reason : Nat) : State := (s.mEnter a i mIdle).mOutcome a i last reason

/-- Is a port formed: the plan in force gives it a role (R266)? -/
def portFormed (s : State) (p : Nat) : Bool := s.flag .TWY_GLB_STATUS_FORMED && s.portRole p != 0

/-- The REASON for which an activity may not run now; 0 where it may (R456). -/
def mReason (s : State) (a i : Nat) : Nat :=
  match a with
  | 0 => 0x06
  | 1 => if !s.portFormed i then 0x01 else if !s.portUp i then 0x02 else 0
  | 2 => if !s.portFormed i then 0x01 else if !s.portUp i then 0x02 else if s.portInUse i then 0x03 else 0
  | 4 => if s.pstate = 1 then 0 else 0x05
  | 5 => if s.fuses.nStacks ≤ i then 0x01 else if s.jobState ≠ jobEmpty then 0x04 else 0
  | _ => 0

/-- Do two instances exclude each other (R458)? A scrub yields instead. -/
def mExcludes (s : State) (a i b j : Nat) : Bool :=
  a != 0 && b != 0 && match bits (s.rd .JRN_EXCL_SCOPE 0 a) (2 * b + 1) (2 * b) with
    | 0 => false
    | 1 => i == j
    | 2 => s.rd .TWY_PORT_CFG_IODIE i == s.rd .TWY_PORT_CFG_IODIE j
    | _ => true

/-- Every instance, in the order of JRN_MAINT_ST. -/
def mAll : List (Nat × Nat) := ((List.range 6).flatMap fun a => (List.range 32).map fun i => (a, i)).filter fun x => mListed x.1 x.2

/-- The first RUNNING instance that excludes one. -/
def mBlocker (s : State) (a i : Nat) : Option (Nat × Nat) :=
  mAll.find? fun x => x != (a, i) && s.mState x.1 x.2 == mRunning && s.mExcludes a i x.1 x.2

/-- An instance starts. A retrain acts on its port; a memory test overwrites its stack, whose contents are undefined until
it ends (R457). -/
def mStart (s : State) (a i : Nat) : State :=
  let s := s.mEnter a i mRunning
  if a = 2 then s.retrainPort i
  else if a = 5 then let (k, s) := s.draw; { s with mem := s.mem.lose (.stack s.fuses.nStacks i) k }
  else s

/-- A queued instance as the scheduler takes it: one that is excluded stays QUEUED; any other starts where its condition holds
still, and ends REFUSED where it does not (R456, R459). -/
def mTake (s : State) (a i : Nat) : State :=
  if s.mState a i ≠ mQueued ∨ (s.mBlocker a i).isSome then s
  else
    let r := s.mReason a i
    if r ≠ 0 then s.mLast a i mRefused r else s.mStart a i

/-- The scheduler (R459). -/
def mSchedule (s : State) : State :=
  [3, 2, 4, 1, 5].foldl (fun s a => (List.range 32).foldl (fun s i => if mListed a i then s.mTake a i else s) s) s

/-- A request for an instance (R456, R458). -/
def mRequest (s : State) (a i param : Nat) : State :=
  if s.mShown a i = mQueued ∨ s.mShown a i = mRunning then s
  else
    let r := s.mReason a i
    if r ≠ 0 then s.mOutcome a i mRefused r
    else
      let s := { s with jrn := { s.jrn with params := SMap.set s.jrn.params ⟨mIdx a i, 0, 0⟩ 0 param } }
      (s.mEnter a i mQueued).mSchedule

/-- The firmware asks for a compaction from USED = 98,304 on (R450). -/
def askCompaction (s : State) : State := if 98304 ≤ s.rd .JRN_FILL_USED then s.mRequest 3 0 0 else s

/-! ### Appends (R449, R451) -/

/-- Are appends held (R451)? So are those made before the journal is mounted, which has neither area nor SEQ until then
(DESIGN CHOICE, assumption 18). -/
def jrnHolds (s : State) : Bool := !s.flag .JRN_STATUS_MOUNTED || decide (1 ≤ s.jrn.phase ∧ s.jrn.phase ≤ 4)

/-- A record programmed into the next slot of the active area (R449). -/
def putRecord (s : State) (r : JRec) : State :=
  let used := s.rd .JRN_FILL_USED
  if 131072 ≤ used then (s.wr .JRN_STATUS_FULL 0 0 1).jrnErr jFull 0 0
  else
    let seq := s.rd .JRN_SEQ_NEXT
    let s := s.flashProgram (slotFlash (s.rd .JRN_STATUS_AREA) used) { r with seq := seq }.bytes
    (s.wr .JRN_FILL_USED 0 0 (used + 1)).count .JRN_SEQ_NEXT 0 0 1

/-- Is an append refused now: the area full, or 256 held (R449, R451)? -/
def appendRefused (s : State) : Bool :=
  if s.jrnHolds then decide (256 ≤ s.jrn.held.length) else decide (131072 ≤ s.rd .JRN_FILL_USED)

/-- An append (R449, R451). `ack`: the mailbox waits for it. -/
def append (s : State) (type key : Nat) (value : List Nat) (ack : Bool) : State :=
  let r : JRec := ⟨0, type, key, value⟩
  if s.jrnHolds then
    if 256 ≤ s.jrn.held.length then s
    else
      let s : State := { s with jrn := { s.jrn with held := s.jrn.held ++ [(r, ack)] } }
      if s.flag .JRN_STATUS_MOUNTED then s.judgeUncal else s
  else ((s.putRecord r).judgeUncal).askCompaction

/-- An append that the mailbox asks for, answered with its SEQ once it is in flash (R451, R454). -/
def mbAppend (s : State) (type key : Nat) (value : List Nat) : State :=
  if s.appendRefused then (if s.jrnHolds then s else (s.append type key value false)).mbAnswer 0x03 []
  else if s.jrnHolds then s.append type key value true
  else
    let seq := s.rd .JRN_SEQ_NEXT
    (s.append type key value false).mbAnswer 0 (leBytes 6 seq)

/-- Does the firmware serve a journal opcode now? Not before it has mounted the journal (R447), and not while an append of the
mailbox is held. -/
def jrnServes (s : State) (op : Nat) : Bool := s.mbServes op && s.flag .JRN_STATUS_MOUNTED && !(s.jrn.held.any (·.2))

/-! ### Mailbox commands (R454, R455) -/

/-- TYPE and KEY of a request. -/
def mbType (s : State) : Nat := s.mbArg 0 1
def mbKey (s : State) : Nat := s.mbArg 1 8

/-- JRN_READ: source, SEQ, LEN and VALUE. A built-in default has no SEQ, and its LEN and VALUE are the firmware's own: all
three are free. -/
def jrnRead (s : State) : State :=
  if !s.jrnServes 0x30 then s
  else if !([0x20, 0x21, 0x22, 0x30, 0x40].contains s.mbType) then s.mbAnswer 0x02 []
  else match s.effective s.mbType s.mbKey with
    | (src, some r) =>
      s.mbAnswer 0 (leBytes 1 src ++ leBytes 6 r.seq ++ leBytes 1 r.value.length ++ r.value.map (BitVec.ofNat 8))
    | (_, none) =>
      let k := s.mbType * 2 ^ 64 + s.mbKey
      let n := Config.unstated 454 k % 41
      s.mbAnswer 0 (leBytes 1 0 ++ leBytes 6 (Config.unstated 455 k) ++ leBytes 1 n ++
        (List.range n).map fun i => BitVec.ofNat 8 (Config.unstated 456 (k * 64 + i)))

/-- JRN_WRITE. -/
def jrnWrite (s : State) : State :=
  if !s.jrnServes 0x31 then s
  else
    let len := s.mbArg 9 1
    if !jrecOk s.mbType s.mbKey len ∨ s.mbLen < 10 + len then s.mbAnswer 0x02 []
    else s.mbAppend s.mbType s.mbKey (byteNats (s.bufs.readN (mbReq + 26) len))

/-- JRN_DELETE. -/
def jrnDelete (s : State) : State :=
  if !s.jrnServes 0x32 then s
  else if !(calType s.mbType && jrecOk s.mbType s.mbKey (if s.mbType = 0x20 then 7 else if s.mbType = 0x21 then 6 else 8)) &&
    s.mbType != 0x40 then s.mbAnswer 0x02 []
  else s.mbAppend s.mbType s.mbKey []

/-- RESTORE_FACTORY (R453). -/
def restoreFactory (s : State) : State := if s.jrnServes 0x33 then s.mbAppend 0x10 0 [] else s

/-- AGE_S of an instance (R462). -/
def mAge (s : State) (a i : Nat) : Nat :=
  satNat 16 ((s.time.toNat - SMap.get s.jrn.since ⟨mIdx a i, 0, 0⟩ 0) / 1000000000)

/-- JRN_MAINT_ST of an instance. -/
def mStatus (s : State) (a i : Nat) : Nat :=
  s.mShown a i * 2 ^ 30 + s.rd .JRN_MAINT_ST_LAST 0 (mIdx a i) * 2 ^ 27 + s.rd .JRN_MAINT_ST_REASON 0 (mIdx a i) * 2 ^ 16 +
    s.mAge a i

/-- JRN_COMPACT. -/
def jrnCompact (s : State) : State :=
  if !s.jrnServes 0x34 then s else let s := s.mRequest 3 0 0; s.mbAnswer 0 (leBytes 4 (s.mStatus 3 0))

/-! ### Compaction (R450 to R452) -/

/-- The live records of the active area, in the order of R450. -/
def liveRecords (s : State) : List JRec :=
  let rs := s.areaRecords (s.rd .JRN_STATUS_AREA)
  let live := rs.filter fun r => liveIn rs r.type r.key == some r
  live.foldr (insertBy fun x y => decide (x.type < y.type ∨ x.type = y.type ∧ x.key ≤ y.key)) []

/-- Phases 1 to 3: the target erased, its AREA record written, and every live record copied. The area that is not active is known
once the journal is mounted. -/
def compactionStart (s : State) : State :=
  if s.mState 3 0 ≠ mRunning ∨ s.jrn.phase ≠ 0 ∨ !s.flag .JRN_STATUS_MOUNTED then s
  else
    let target := 1 - s.rd .JRN_STATUS_AREA
    let h := s.rd .JRN_SEQ_NEXT
    let live := s.liveRecords
    let top := live.foldl (fun m r => max m r.seq) 0
    let s := s.flashErase (slotFlash target 0) 0x00800000
    let area : JRec := ⟨h, 0x01, 0, target :: List.replicate 7 0 ++ natBytes 8 top⟩
    let s := s.flashProgram (slotFlash target 0) area.bytes
    let s := live.zipIdx.foldl (fun (s : State) (x : JRec × Nat) => s.flashProgram (slotFlash target (x.2 + 1)) x.1.bytes) s
    { s with jrn := { s.jrn with phase := 3, mark := h } }

/-- The held appends written, and the mailbox's own answered with its SEQ (phase 5). -/
def writeHeld (s : State) : List (JRec × Bool) → State
  | [] => s
  | (r, ack) :: rest =>
    let seq := s.rd .JRN_SEQ_NEXT
    let full := decide (131072 ≤ s.rd .JRN_FILL_USED)
    let s := s.putRecord r
    (if ack then s.mbAnswer (if full then 0x03 else 0) (if full then [] else leBytes 6 seq) else s).writeHeld rest

/-- The held appends leave the hold. -/
def releaseHeld (s : State) (phase : Nat) : State :=
  let held := s.jrn.held
  ({ s with jrn := { s.jrn with phase := phase, held := [] } } : State).writeHeld held

/-- Phases 4 and 5: the COMMIT record, the target active, and the held appends. -/
def compactionCommit (s : State) : State :=
  if s.jrn.phase ≠ 3 then s
  else
    let target := 1 - s.rd .JRN_STATUS_AREA
    let n := (s.areaRecords target).length - 1
    let s := s.flashProgram (slotFlash target (n + 1)) (⟨s.jrn.mark + 1, 0x02, 0, natBytes 4 n⟩ : JRec).bytes
    let s := ((s.wr .JRN_STATUS_AREA 0 0 target).wr .JRN_FILL_USED 0 0 (n + 2)).wr .JRN_SEQ_NEXT 0 0 (s.jrn.mark + 2)
    (s.wr .JRN_STATUS_FULL 0 0 0).releaseHeld 6

/-! ### The end of an activity (R456, R457, R460) -/

/-- A MAINT_LOG record (R444). -/
def mLog (s : State) (a i last reason : Nat) (results : List Nat) : State :=
  s.append 0x30 (a * 2 ^ 16 + i) (natBytes 2 (last * 2 ^ 11 + reason) ++ List.replicate 6 0 ++ natBytes 8 s.time.toNat ++
    (results ++ List.replicate 24 0).take 24) false

/-- Results that an activity gives in a layout of its own (R444). -/
def freeResults (s : State) : State × List Nat :=
  let (k, s) := s.draw
  (s, (List.range 24).map fun i => (Config.freeByte k i).toNat)

/-- Does an outcome fit what the activity has come to (R456, R460)? A port that leaves UP and a controller that is reset end their
instances at once (`endScans`, `endTest`); a flash command can fail in every phase of a compaction. -/
def mOutcomeOk (s : State) (a i last reason : Nat) : Bool :=
  if last = mDone then
    match a with
    | 1 | 2 => s.portUp i
    | 3 => s.jrn.phase == 6
    | _ => true
  else last == mFailed && match a, reason with
    | 3, 0x08 => s.jrn.phase != 0
    | 5, 0x00 => true
    | _, _ => false

/-- A memory test that ends before its final pass leaves its stack undefined, and the package scours from order 2, also where a
scour runs already (R457). -/
def testCut (s : State) (i : Nat) : State :=
  let (k, s) := s.draw
  ({ s with mem := s.mem.lose (.stack s.fuses.nStacks i) k } : State).scourFrom2

/-- What an instance that ends leaves behind, before its log record: records appended, an eye measured, a stack zero. -/
def mEffects (s : State) (a i last reason : Nat) (recs : List (Nat × List Nat)) (vals : List Nat) : State :=
  match a with
  | 1 =>
    if last = mDone then
      ((s.wr .TST_TEL_EYE_LANE 0 i (at0 vals 0)).wr .TST_TEL_EYE_HEIGHT 0 i (at0 vals 1)).wr .TST_TEL_EYE_WIDTH 0 i (at0 vals 2)
    else s
  | 2 =>
    if last = mDone ∧ hasBit (SMap.get s.jrn.params ⟨mIdx a i, 0, 0⟩ 0) 0 then
      recs.foldl (fun s r => s.append 0x20 r.1 ((r.2 ++ List.replicate 7 0).take 7) false) s
    else s
  | 3 =>
    if last = mDone then
      { s.flashErase (slotFlash (1 - s.rd .JRN_STATUS_AREA) 0) 0x00800000 with jrn := { s.jrn with phase := 0 } }
    else s.releaseHeld 0
  | 4 =>
    if last = mDone then recs.foldl (fun s r => s.append 0x21 r.1 ((r.2 ++ List.replicate 6 0).take 6) false) s else s
  | 5 =>
    if reason = 0 ∧ last ≠ mCancelled then { s with mem := s.mem.clear (.stack s.fuses.nStacks i) } else s.testCut i
  | _ => s

/-- A RUNNING instance ends: its effects, its outcome, its MAINT_LOG record, and the scheduler's next run. What had failed in a
memory test that is cut short is free. A compaction that has not ended DONE is asked for again (R450). -/
def mFinish (s : State) (a i last reason : Nat) (recs : List (Nat × List Nat)) (vals : List Nat) : State :=
  let s := (s.mEffects a i last reason recs vals).mLast a i last reason
  let (s, results) :=
    if a = 5 ∧ reason = 0 ∧ last ≠ mCancelled then (s, natBytes 8 (at0 vals 0) ++ natBytes 8 (at0 vals 1)) else s.freeResults
  let s := (s.mLog a i last reason results).mSchedule
  if a = 3 ∧ last ≠ mDone then s.askCompaction else s

/-- MAINT_END. A memory test ends FAILED exactly where lines have failed (R457). -/
def mEnd (s : State) (a i last reason : Nat) (recs : List (Nat × List Nat)) (vals : List Nat) : State :=
  if s.mState a i ≠ mRunning ∨ !mListed a i ∨ !s.mOutcomeOk a i last reason then s
  else if a = 5 ∧ reason = 0 ∧ (last = mFailed) ≠ (at0 vals 0 ≠ 0) then s
  else s.mFinish a i last reason recs vals

/-- A request to cancel (R460). -/
def mCancel (s : State) (a i : Nat) : State :=
  if s.mState a i = mQueued then
    let s := (s.mLast a i mCancelled 0).mSchedule
    if a = 3 then s.askCompaction else s
  else if s.mState a i = mRunning ∧ [1, 4, 5].contains a then s.mFinish a i mCancelled 0 [] []
  else s

/-- A RUNNING eye scan or retrain of a port ends FAILED where its shutter is no longer open or the port has left UP (R460). A
retrain itself takes its port through DRAINING, OFF and TRAINING (R293): it fails where the port comes to a state from which it
does not come UP by itself (DEDUCED, assumption 18). -/
def endScans (s : State) (p : Nat) : State :=
  let shut := !s.isOpen kPort p
  let end_ (s : State) (a : Nat) (lost : Bool) : State :=
    if s.mState a p = mRunning ∧ (shut ∨ lost) then s.mFinish a p mFailed (if shut then 0x07 else 0x02) [] [] else s
  end_ (end_ s 1 !s.portUp p) 2 ([pQuarantined, pAbsent, pDown].contains (s.portState p))

/-- The controller of a RUNNING memory test is reset (R460). -/
def endTest (s : State) (st : Nat) : State := if s.mState 5 st = mRunning then s.mFinish 5 st mFailed 0x07 [] [] else s

/-- An instance has stayed QUEUED for 60 s (R459). -/
def mTimeoutOf (s : State) (a i : Nat) : State :=
  if s.mState a i ≠ mQueued ∨ !mListed a i then s
  else
    let d6 := match s.mBlocker a i with
      | some (b, j) => b * 2 ^ 16 + j
      | none => 0
    let s := (s.mLast a i mTimeout 0).jrnErr jQueue (a * 2 ^ 16 + i) d6
    if a = 3 then s.askCompaction else s

/-- MAINT_START and MAINT_CANCEL: ACTIVITY, INSTANCE and PARAM, a byte each. -/
def maintStart (s : State) : State :=
  if !s.jrnServes 0x35 then s
  else
    let a := s.mbArg 0 1
    let i := s.mbArg 1 1
    if !mListed a i then s.mbAnswer 0x02 []
    else let s := s.mRequest a i (s.mbArg 2 1); s.mbAnswer 0 (leBytes 4 (s.mStatus a i))

def maintCancel (s : State) : State :=
  if !s.jrnServes 0x36 then s
  else
    let a := s.mbArg 0 1
    let i := s.mbArg 1 1
    if !mListed a i then s.mbAnswer 0x02 []
    else let s := s.mCancel a i; s.mbAnswer 0 (leBytes 4 (s.mStatus a i))

/-- OPTION_WRITE: offset, length and bytes, staged in SRAM. -/
def optionWrite (s : State) : State :=
  if !s.jrnServes 0x37 then s
  else
    let off := s.mbArg 0 2
    let n := s.mbArg 2 2
    if 4096 < off + n ∨ 4076 < n ∨ s.mbLen < 4 + n then s.mbAnswer 0x02 []
    else
      let staged := (List.range n).foldl (fun m i => SMap.set m ⟨off + i, 0, 0⟩ 0 (s.mbArg (4 + i) 1)) s.jrn.staged
      ({ s with jrn := { s.jrn with staged := staged } } : State).mbAnswer 0 []

/-- OPTION_COMMIT (R455). -/
def optionCommit (s : State) : State :=
  if !s.jrnServes 0x38 then s
  else
    let b := (List.range 4096).map fun i => SMap.get s.jrn.staged ⟨i, 0, 0⟩ 0
    let copy := s.rd .RST_BOOT_COPY
    if optionOk s.fuses b ∧ optionSeq (s.flashRead (0x10000 * copy) 4096) < optionSeq b then
      let other := 1 - copy
      ((s.flashErase (0x10000 * other) 0x10000).flashProgram (0x10000 * other) b).mbAnswer 0 (leBytes 1 other)
    else s.mbAnswer 0x02 []

/-- MAINT_LOG_READ: the live record; what is answered where there is none is open. -/
def maintLogRead (s : State) : State :=
  if !s.jrnServes 0x39 then s
  else match liveIn s.journal 0x30 (s.mbArg 0 1 * 2 ^ 16 + s.mbArg 1 1) with
    | some r => s.mbAnswer 0 (r.bytes.map (BitVec.ofNat 8))
    | none => let (k, s) := s.draw; s.mbAnswer (Config.unstated 457 k % 5) []

/-- Every 600 s the firmware asks for an eye scan of every UP port (R461). -/
def eyeScans (s : State) : State :=
  if !s.fwRuns then s
  else (List.range 32).foldl (fun s p => if s.portUp p then s.mRequest 1 p 0 else s) s

/-! ### The mount (R447) -/

/-- ERR_JRN_CHECK for every slot that fails its check before one that passes. -/
def mountChecks (s : State) : List (Nat × Option JRec) → State
  | [] => s
  | (a, none) :: rest => (if rest.any fun x => x.2.isSome then s.jrnErr jCheck a 0 else s).mountChecks rest
  | _ :: rest => s.mountChecks rest

/-- An empty journal in area 0 (R447). -/
def freshJournal (s : State) : State :=
  let s := s.flashErase (slotFlash 0 0) 0x00800000
  let s := s.flashProgram (slotFlash 0 0) (⟨1, 0x01, 0, List.replicate 16 0⟩ : JRec).bytes
  s.flashProgram (slotFlash 0 1) (⟨2, 0x02, 0, natBytes 4 0⟩ : JRec).bytes

/-- The firmware mounts the journal (R445, R447). -/
def mountJournal (s : State) : State :=
  let (s, area) := match s.areaHead 0, s.areaHead 1 with
    | some x, some y => (s, if x.seq < y.seq then 1 else 0)
    | some _, none => (s, 0)
    | none, some _ => (s, 1)
    | none, none => (s.freshJournal, 0)
  let top := (s.areaRecords 0 ++ s.areaRecords 1).foldl (fun m r => max m r.seq) 0
  let slots := s.areaSlots area
  let bad := ((s.scanFrom 16384 0x00100000).filter fun x => x.2.isNone).length
  let s := (((s.wr .JRN_STATUS_AREA 0 0 area).wr .JRN_FILL_USED 0 0 slots.length).wr .JRN_SEQ_NEXT 0 0 (top + 1)).mountChecks slots
  let s := (List.range bad).foldl (fun s _ => s.jrnErr jFactory 0 0) (s.wr .JRN_STATUS_FACTORY_OK 0 0 (b2n (bad == 0)))
  (((s.wr .JRN_STATUS_MOUNTED 0 0 1).releaseHeld 0).judgeUncal).askCompaction

end State

end Sys2Proof.Machine
end

