-- ==== Sys2Proof/Machine/Test.lean ====
section
/-! DEFINITION. Loopbacks, self-tests and the test access port (R463 to R473). -/
namespace Sys2Proof.Machine
namespace State

/-- The bits of TST_ERR_STATUS (R475). -/
def tLoopback : Nat := 0
def tBist : Nat := 1
def tArray : Nat := 2
def tState : Nat := 3
def tMirror : Nat := 4

/-- An error of the TST block with its record (R475). -/
def tstErr (s : State) (n d5 d6 : Nat) : State :=
  s.report { cls := 0x0B, index := n, inst := 0xFFFF, void := false, d5 := d5, d6 := d6 }

/-- A bit of TST_ERR_STATUS that has no record. -/
def tstFlag (s : State) (n : Nat) : State := s.setErr 0x0B n 0

/-! ### Loopbacks (R463 to R466) -/

def lbKind (s : State) : Nat := s.rd .TST_LB_CTRL_KIND
def lbMode (s : State) : Nat := s.rd .TST_LB_CTRL_MODE
def lbPort (s : State) : Nat := s.rd .TST_LB_CTRL_PORT

/-- Is a loopback selected? -/
def lbSelected (s : State) : Bool := s.lbKind != 0 && s.lbMode != 0

/-- Does R463 list a KIND and MODE? -/
def lbListed (kind mode : Nat) : Bool :=
  match kind with
  | 0 => mode == 0
  | 1 => decide (mode ≤ 5)
  | 2 => [0, 1, 3].contains mode
  | 3 => [0, 3].contains mode
  | _ => false

/-- Is a run of the PCIe loopback in progress? It has no RUN bit, for TST_LB_CTRL selects none of its points (R463). -/
def pcieRuns (s : State) : Bool := s.flag .TST_LB_STATUS_BUSY && !s.flag .TST_LB_CTRL_RUN

/-- The counters a selection uses (R463). -/
def lbCounters (s : State) : Nat :=
  if s.lbKind = 1 then (if s.lbMode = 1 then 1 else if s.lbMode = 5 then 0 else 4 * s.portQuads s.lbPort)
  else if s.lbKind = 2 then s.fuses.nStacks else 8

/-- Does a memory test run (R464, R467)? -/
def memTestRuns (s : State) : Bool := (List.range 16).any fun i => s.mState 5 i == mRunning

def bistRuns (s : State) : Bool := s.rd .TST_BIST_STATUS_RUNNING != 0

/-- The condition for a selection (R464). -/
def lbAllowed (s : State) (kind port : Nat) : Bool :=
  !s.bistRuns && match kind with
    | 1 => s.portRole port != 0 && s.portState port == pOff
    | 2 => s.jobState == jobEmpty && !s.memTestRuns
    | _ => s.jobState == jobEmpty

def setLb (s : State) (kind mode port : Nat) : State :=
  ((s.wr .TST_LB_CTRL_KIND 0 0 kind).wr .TST_LB_CTRL_MODE 0 0 mode).wr .TST_LB_CTRL_PORT 0 0 port

/-- A pending enable of a port that a loopback has kept OFF takes effect (R464). -/
def takePending (s : State) (p : Nat) : State :=
  if s.portState p = pOff ∧ s.flag .TWY_PORT_STATUS_PENDING_ENABLE p then
    ((s.wr .TWY_PORT_STATUS_PENDING_ENABLE p 0 0).wr .TWY_PORT_CTRL_ENABLE p 0 1).startTraining p
  else s

/-- The selection replaced (R464): pending enables take effect when MODE returns to none; after a memory or bridge loopback the
package scours, also where a Tideway loopback follows at once (DESIGN CHOICE, assumption 38). -/
def lbLeave (s : State) (kind mode port : Nat) : State :=
  let loses := s.memLoopback || s.bridgeLoopback
  let was := s.lbSelected
  let s := s.setLb kind mode port
  let s := if was ∧ !s.lbSelected then (List.range 32).foldl (fun s p => s.takePending p) s else s
  if loses then s.scourFrom2 else s

/-- A write of KIND, MODE and PORT with no reserved encoding (R464, R465). -/
def lbSelect (s : State) (kind mode port : Nat) : State :=
  s.watchScrubs fun s =>
  if s.flag .TST_LB_CTRL_RUN ∨ (kind = s.lbKind ∧ mode = s.lbMode ∧ port = s.lbPort) then s
  else if kind = 0 ∨ mode = 0 then s.lbLeave kind mode port
  else if !s.lbAllowed kind port then s.tstFlag tState
  else
    let s := s.lbLeave kind mode port
    if kind = 1 then s else s.setJobState jobScouring

/-- Is RUN a reserved encoding: MODE FAR_RETIMED or none (R465)? -/
def lbRunBad (kind mode : Nat) : Bool := kind == 0 || mode == 0 || mode == 5

/-- A run begins on `counters` counters, which are cleared (R465, R475). -/
def lbBegin (s : State) (counters : Nat) : State :=
  let s := (List.range 72).foldl (fun s i => s.wr .TST_LB_ERR_COUNT 0 i 0) s
  let s := (s.wr .TST_LB_STATUS_BUSY 0 0 1).wr .TST_LB_STATUS_PASS 0 0 0
  ((s.wr .TST_LB_STATUS_FAIL 0 0 0).wr .TST_LB_STATUS_COUNTERS 0 0 counters).wr .TST_LB_BITS_COUNT 0 0 0

/-- RUN written (R465). One generator runs at a time. -/
def lbRun (s : State) : State :=
  if s.flag .TST_LB_STATUS_BUSY then s else (s.wr .TST_LB_CTRL_RUN 0 0 1).lbBegin s.lbCounters

/-- The greatest of a list of counts, the first of equals, with its index. -/
def worst : Nat → List Nat → Nat × Nat
  | _, [] => (0, 0)
  | i, [v] => (i, v)
  | i, v :: vs => let (j, w) := worst (i + 1) vs; if v < w then (j, w) else (i, v)

/-- A run of a point ends with `bits_` compared on each counter, the errors of each, and at most `allowed` of them in a run that
passes (R465). `point`: the KIND, MODE and port of its record. -/
def lbResult (s : State) (bits_ : Nat) (errs : List Nat) (allowed point : Nat) : State :=
  let pass := errs.all fun e => decide (e ≤ allowed)
  let s := ((s.wrList .TST_LB_ERR_COUNT 0 errs).wr .TST_LB_BITS_COUNT 0 0 bits_).wr .TST_LB_CTRL_RUN 0 0 0
  let s := ((s.wr .TST_LB_STATUS_BUSY 0 0 0).wr .TST_LB_STATUS_PASS 0 0 (b2n pass)).wr .TST_LB_STATUS_FAIL 0 0 (b2n !pass)
  let s := s.tstDone .TST_STATUS_LB_DONE 0
  if pass then s
  else
    let (i, e) := worst 0 errs
    s.tstErr tLoopback point (i * 2 ^ 32 + e)

/-- The errors of `n` counters, each as its register holds it. -/
def lbErrors (n : Nat) (errs : List Nat) : List Nat := ((errs ++ List.replicate 72 0).take n).map (satNat 32)

/-- A run of the point that TST_LB_CTRL selects ends (R465). -/
def lbEnd (s : State) (bits_ : Nat) (errs : List Nat) : State :=
  if !s.flag .TST_LB_CTRL_RUN then s
  else s.lbResult bits_ (lbErrors s.lbCounters errs) (if s.lbKind = 1 ∧ (s.lbMode = 3 ∨ s.lbMode = 4) then bits_ / 2 ^ 20 else 0)
    (s.lbKind * 2 ^ 12 + s.lbMode * 2 ^ 9 + s.lbPort)

/-- PCIE_LB selects a PCIe loopback or none (R463, R464): discarded with STATE in any job state but EMPTY, and discarded while its
run is in progress (R465). -/
def pcieSelect (s : State) (mode : Nat) : State :=
  if s.pcieRuns ∨ 3 ≤ mode then s
  else if mode ≠ 0 ∧ s.jobState ≠ jobEmpty then s.tstFlag tState
  else { s with tap := { s.tap with pcieLb := mode } }

/-- PCIE_LB runs the selected loopback on its 16 counters, and the run ends (R463, R465); it passes with no error. How a record's
word 5 names a PCIe point, which has neither KIND nor MODE, is open (assumption 38). -/
def pcieRun (s : State) : State := if s.tap.pcieLb = 0 ∨ s.flag .TST_LB_STATUS_BUSY then s else s.lbBegin 16

def pcieEnd (s : State) (bits_ : Nat) (errs : List Nat) : State :=
  if !s.pcieRuns then s else s.lbResult bits_ (lbErrors 16 errs) 0 (Config.unstated 463 s.tap.pcieLb)

/-- A run that a block reset cuts short ends with FAIL (R466): `sat` names the counter that saturates. -/
def lbCut (s : State) (sat : Option Nat) : State :=
  if !s.flag .TST_LB_CTRL_RUN then s
  else
    let errs := (List.range s.lbCounters).map fun i => if sat = some i then 2 ^ 32 - 1 else 0
    let t := s.lbEnd (s.rd .TST_LB_BITS_COUNT) errs
    if t.flag .TST_LB_STATUS_FAIL then t
    else (((t.wr .TST_LB_STATUS_PASS 0 0 0).wr .TST_LB_STATUS_FAIL 0 0 1).tstErr tLoopback
      (s.lbKind * 2 ^ 12 + s.lbMode * 2 ^ 9 + s.lbPort) 0)

/-- What a port reset does to a Tideway loopback of the port (R466). -/
def lbPortReset (s : State) (p : Nat) : State :=
  if s.inLoopback p then (s.lbCut none).lbLeave 0 0 0 else s

/-- What a memory-controller reset does to a memory loopback (R466). -/
def lbMemcReset (s : State) (st : Nat) : State := if s.memLoopback then s.lbCut (some st) else s

/-- What a compute reset does to a bridge loopback: the selection returns to none, and the run ends with neither result
(R466). -/
def lbCompute (s : State) : State :=
  if s.lbKind = 3 ∧ s.lbMode ≠ 0 then ((s.setLb 0 0 0).wr .TST_LB_CTRL_RUN 0 0 0).wr .TST_LB_STATUS_BUSY 0 0 0 else s

/-! ### Self-tests (R467 to R469) -/

/-- The condition of a unit's self-test (R467). -/
def bistAllowed (s : State) (u : Nat) : Bool :=
  !s.lbSelected && s.tap.pcieLb == 0 && s.jobState == jobEmpty && match u with
    | 2 => (List.range 32).all fun p => s.portState p == pOff
    | 3 => !s.memTestRuns
    | _ => true

/-- A unit's self-test starts, or is discarded (R467); the tile's leaves the SRAM of every tile undefined, and the array's
the accumulators. -/
def bistUnit (s : State) (u : Nat) : State :=
  if hasBit (s.rd .TST_BIST_STATUS_RUNNING) u then s
  else if !s.bistAllowed u then s.tstFlag tState
  else
    let s := s.wr .TST_BIST_STATUS_RUNNING 0 0 (setBit (s.rd .TST_BIST_STATUS_RUNNING) u)
    let s := s.wr .TST_BIST_STATUS_PASSED 0 0 (clearBit (s.rd .TST_BIST_STATUS_PASSED) u)
    let s := s.wr .TST_BIST_STATUS_FAILED 0 0 (clearBit (s.rd .TST_BIST_STATUS_FAILED) u)
    if 2 ≤ u then s
    else
      let (k, s) := s.draw
      let from_ := if u = 0 then 0 else 0x60000
      let to_ := if u = 0 then 0x80000 else 0x70000
      { s with mem := s.allTiles.foldl (fun m t => m.lose (.span (tileBase t + from_) (tileBase t + to_)) k) s.mem }

/-- TST_BIST_CTRL.UNITS written (R467). -/
def bistStart (s : State) (units : Nat) : State :=
  s.watchScrubs fun s =>
  let names := (List.range 4).filter fun u => hasBit units u
  let starts := names.any fun u => s.bistAllowed u && !hasBit (s.rd .TST_BIST_STATUS_RUNNING) u
  let s := if starts then
      (((s.wr .TST_BIST_FAIL_COUNT 0 0 0).wr .TST_BIST_FAIL_UNIT 0 0 0).wr .TST_BIST_FAIL_INDEX 0 0 0).wr .TST_BIST_FAIL_ADDR 0 0 0
    else s
  names.foldl (fun s u => s.bistUnit u) s

/-- The signature that the array of a tile without a fault holds after its 1,024 passes: the value that Aedryn publishes
(R468). -/
def arraySignature : Nat := (List.range 1024).foldl (fun v n => Config.arrayFold n v % 2 ^ 64) 0

/-- The signature of a tile whose array has failed: another one, by the place of the failure (R468). -/
def badSignature (k t : Nat) : Nat := (arraySignature + 1 + Config.unstated 468 (k * 4096 + t) % (2 ^ 64 - 1)) % 2 ^ 64

/-- Does a tile fail the array's self-test (R468)? -/
def arrayFails (s : State) (t : Nat) : Bool := decide (t < s.nTiles) && SMap.get s.signatures ⟨t, 0, 0⟩ 0 != arraySignature

/-- The error record of a failing unit (R469); how the array's failing tile and its signature of 64 bits share a word is open. -/
def bistErr (s : State) (u index addr : Nat) : State :=
  if u = 1 then s.tstErr tArray (Config.unstated 469 (index * 2 ^ 64 + SMap.get s.signatures ⟨index, 0, 0⟩ 0)) 0
  else s.tstErr tBist (u * 2 ^ 44 + index % 2 ^ 12 * 2 ^ 32 + addr % 2 ^ 32) 0

/-- A failure of a self-test: its unit, its logical ID, I/O die or stack, and its row or pass. -/
abbrev BistFail := Nat × Nat × Nat

/-- The signature registers after the 1,024 passes (R468): every enabled tile's the published value, but for those in which a
pass has gone wrong. -/
def arrayDone (s : State) (fails : List BistFail) : State :=
  let (k, s) := s.draw
  let bad (t : Nat) : Bool := fails.any fun f => f.1 == 1 && f.2.1 == t
  { s with signatures := s.allTiles.foldl (fun m t =>
      SMap.set m ⟨t, 0, 0⟩ 0 (if bad t then badSignature k t else arraySignature)) s.signatures }

/-- Every started self-test ends (R469): `fails` in the order in which they were found. The array's verdict is its tiles'
signatures (R468); the record ring is back when the I/O dies' test is done (R467). -/
def bistEnd (s : State) (fails : List BistFail) : State :=
  s.watchScrubs fun s =>
  let run := s.rd .TST_BIST_STATUS_RUNNING
  if run = 0 then s
  else
    let s := if hasBit run 1 then s.arrayDone fails else s
    let fails := fails.filter fun f => hasBit run f.1 && (f.1 != 1 || s.arrayFails f.2.1)
    let units := (List.range 4).filter fun u => hasBit run u
    let bad (u : Nat) : Bool := fails.any fun f => f.1 == u
    let mask (p : Nat → Bool) : Nat := (units.map fun u => if p u then 2 ^ u else 0).sum
    let s := (s.wr .TST_BIST_STATUS_RUNNING 0 0 0).ringBack
    let s := s.wr .TST_BIST_STATUS_PASSED 0 0 (Nat.lor (s.rd .TST_BIST_STATUS_PASSED) (mask fun u => !bad u))
    let s := s.wr .TST_BIST_STATUS_FAILED 0 0 (Nat.lor (s.rd .TST_BIST_STATUS_FAILED) (mask bad))
    let s := match fails with
      | [] => s
      | (u, i, a) :: _ => (((s.wr .TST_BIST_FAIL_COUNT 0 0 (satNat 16 fails.length)).wr .TST_BIST_FAIL_UNIT 0 0 u).wr
          .TST_BIST_FAIL_INDEX 0 0 i).wr .TST_BIST_FAIL_ADDR 0 0 a
    let s := if hasBit run 0 then s.allTiles.foldl (fun s t => s.zeroTile t) s else s
    let s := s.tstDone .TST_STATUS_BIST_DONE 1
    units.foldl (fun s u => match fails.find? fun f => f.1 == u with
      | some (_, i, a) => s.bistErr u i a
      | none => s) s

/-- A self-test that a reset reaches ends with neither result, and without BIST_DONE (R469; DESIGN CHOICE, assumption 38); the
ring comes back with the I/O dies'. -/
def bistCut (s : State) (units : List Nat) : State :=
  s.watchScrubs fun s =>
  let run := s.rd .TST_BIST_STATUS_RUNNING
  let s := s.wr .TST_BIST_STATUS_RUNNING 0 0 (units.foldl clearBit run)
  if s.ringAside then s else s.ringBack

/-! ### The test access port (R470 to R473) -/

/-- The instructions of R470. -/
def irIdcode : Nat := 0x01
def irSample : Nat := 0x02
def irExtest : Nat := 0x03
def irClamp : Nat := 0x04
def irHighz : Nat := 0x05
def irIjtag : Nat := 0x10
def irDebug : Nat := 0x11
def irBypass : Nat := 0xFF

/-- The value of the IDCODE register (R470). -/
def idcode : Nat := Config.stepping % 16 * 2 ^ 28 + 0x7A04 * 2 ^ 12 + Config.jep106 % 2 ^ 11 * 2 + 1

/-- What the instruction register captures: 0b0000_0x01 (R470). -/
def irCapture (t : Tap) : Nat := 1 + 4 * b2n t.refused

/-- What the data register of an instruction captures, where it does not depend on the package: IDCODE, and the one bit of
BYPASS. -/
def drCapture (t : Tap) (ir : Nat) : Nat := if ir = irIdcode then idcode else if ir = irBypass then 0 else t.drOut

/-- An instruction scanned in, while what the register had captured is scanned out (R470). -/
def setTap (s : State) (ir : Nat) : State :=
  if s.boot.pwrok then { s with tap := { s.tap with ir := ir, irOut := irCapture s.tap, drOut := drCapture s.tap ir } } else s

/-- Test-logic reset (R470): IDCODE is selected, without a scan. -/
def tapReset (s : State) : State :=
  if s.boot.pwrok then { s with tap := { s.tap with ir := irIdcode, drOut := idcode } } else s

/-- SAMPLE/PRELOAD: the boundary register captures the pins, which are shifted out, and takes what is shifted in (R470, R471). -/
def samplePins (s : State) (cells : Nat) : State :=
  if !s.boot.pwrok then s
  else
    let (k, s) := s.draw
    { s with tap := { s.tap with
        ir := irSample, irOut := irCapture s.tap, drOut := s.sampledPins (Config.unstated 471 k), boundary := cells } }

/-- EXTEST, CLAMP and HIGHZ: refused while the package holds a job (R471). -/
def drivePins (s : State) (ir : Nat) : State :=
  if !s.boot.pwrok then s
  else
    let ok := s.jobState == jobEmpty || s.jobState == jobScouring || !s.booted
    { s with tap := { s.tap with ir := ir, irOut := irCapture s.tap, refused := !ok } }

/-- Are the instruments that need a token open (R472, R473)? -/
def instrumentsOpen (s : State) : Bool := hasBit (s.rd .SEC_DEBUG_CAPS) 1 || s.boot.production

/-- SRAM_DIRECT writes what an SRAM of an I/O die or of a controller holds (R472). -/
def writeDieSram (s : State) : DieSram → State
  | .record slot ws => { s with errRing := SMap.set s.errRing ⟨slot, 0, 0⟩ [] ws }
  | .guards gs => { s with guards := gs }
  | .replay p fs => s.setLink p { s.link p with replay := fs }
  | .book d c k b => { s with books := SMap.set s.books ⟨d, c, k⟩ none b }
  | .survey st j x ways =>
    s.setShingle st { s.shingle st with table := SMap.set (s.shingle st).table ⟨j, x, 0⟩ Codec.emptySet ways }

/-- SCAN shifts values into register fields of every domain but PORTER, whose block is SEC (R472). State that is no register
comes out of a scan as it went in, since no rule gives the chains (DESIGN CHOICE, assumption 38). -/
def scanFields (s : State) (vs : List (Nat × Nat × Nat × Nat)) : State :=
  vs.foldl (fun s x =>
    let f := Fd.ofNat x.1
    if f.spec.reg.spec.block = .SEC then s else s.wr f x.2.1 x.2.2.1 x.2.2.2) s

/-- IJTAG: an instrument of the network (R472). -/
def ijtag (s : State) (x : Instrument) : State :=
  let s := s.setTap irIjtag
  if !s.boot.pwrok then s
  else match x with
    | .pcieLb mode => s.pcieSelect mode
    | .pcieRun => s.pcieRun
    | .pcieEnd n errs => s.pcieEnd n errs
    | .sramDie x => if s.instrumentsOpen then s.writeDieSram x else s
    | .scan vs => if s.instrumentsOpen then s.scanFields vs else s
    | .sramDirect a bs =>
      match s.target a with
      | .tile _ off =>
        if s.instrumentsOpen ∧ off % 0x80000 + bs.length ≤ 0x80000 then
          { s with mem := s.mem.writeN a (bs.map (BitVec.ofNat 8)) }
        else s
      | _ => s
    | .temp | .clocks | .flash | .analog => s

/-- May the FLASH instrument program or erase a span (R472, R473)? -/
def tapMayFlash (s : State) (a n : Nat) : Bool :=
  s.boot.production && (decide (a + n ≤ 0x20000) || touches a n 0x00100000 0x00200000) ||
  decide (a + n ≤ 0x20000) && [1, 2, 3].contains (s.rd .RST_BOOT_FAULT)

/-- A flash command as its source may give it: the firmware while it runs, the boot ROM while it does, and the FLASH
instrument (R442, R472); a command that R442 refuses is refused whatever its source. -/
def flashFrom (s : State) (who : FlashSource) (a : Nat) (op : FlashOp) : State :=
  let (base, n) := match op with
    | .program bs => (a, bs.length)
    | .erase => (a / 0x10000 * 0x10000, 0x10000)
  let may := match who with
    | .firmware => s.fwRuns
    | .bootRom => s.fw == fwRom || s.fw == fwRecovery
    | .tap => s.boot.pwrok && (s.tapMayFlash base n || s.flashRefused .tap base n)
  if may then s.flashCommand who a op else s

/-- Lighthouse's core after instructions that no rule of spec/ gives: its registers, its pc and what it may have stored in its
SRAM are free (assumption 14). -/
def coreMoves (s : State) : State :=
  let (k, s) := s.draw
  let x := (List.range 31).foldl (fun m i =>
    SMap.set m ⟨i + 1, 0, 0⟩ 0 (BitVec.ofNat 32 (Config.unstated 411 (32 * k + i + 1)))) []
  { s with lhs := { s.lhs with
      core := { x := x, pc := BitVec.ofNat 32 (Config.unstated 411 (32 * k)), sram := s.lhs.core.sram.lose (.span 0 0x2000000) k } } }

/-- DEBUG: with LH_DEBUG granted, the debug module halts Lighthouse, lets it run again, or has a halted core run one instruction
(R435, R436, R470). -/
def debugModule (s : State) (op : DebugOp) : State :=
  let s := s.setTap irDebug
  if !s.boot.pwrok ∨ !hasBit (s.rd .SEC_DEBUG_CAPS) 0 then s
  else match op with
    | .halt => if s.fw = fwRun then s.coreMoves.wr .LHS_STATUS_FW 0 0 fwHalted else s
    | .resume => if s.fw = fwHalted then s.wr .LHS_STATUS_FW 0 0 fwRun else s
    | .step => if s.fw = fwHalted then s.coreMoves else s

end State

end Sys2Proof.Machine
end

