-- ==== Sys2Proof/Machine/Reset.lean ====
section
/-! DEFINITION. Clocks, reset and start-up (R386 to R409), shutters (R399 to R402) and port formation (R267, R319). -/
namespace Sys2Proof.Machine

/-- The bits of RST_ERR_STATUS (R410). -/
def rBlock : Nat := 0
def rUnlock : Nat := 1
def rBoot : Nat := 2
def rMirror : Nat := 3

/-- The fields of RST that every reset but power-on keeps (R394, R395, R410). -/
def keptField (f : Fd) : Bool :=
  [Reg.RST_CAUSE, .RST_PORT_HOLD, .RST_MEMC_HOLD, .RST_FERRY_HOLD, .RST_TILE_HOLD].contains f.spec.reg || f == .RST_CTRL_COMPUTE

namespace State

/-! ### Clocks (R386 to R390) -/

/-- Domains whose clock runs on the reference input (R388). -/
def clocksOn (s : State) (ds : List Nat) : State := ds.foldl (fun s d => s.wr .CLK_DOMAIN_RUNNING 0 d 1) s

/-- A domain on its PLL or, under MODE 0b10, on the reference input (R388, R405); TIMEBASE has no PLL. -/
def clockSwitch (s : State) (d entry : Nat) : State :=
  if d = 39 then s
  else if !clockPresent s.fuses d then s
  else
    let s := s.wr .CLK_DOMAIN_RUNNING 0 d 1
    if d = 36 ∨ bits entry 31 30 = 2 then s
    else
      let f := if bits entry 31 30 = 1 then bits entry 15 0 else clockNominal d
      ((s.wr .CLK_DOMAIN_LOCKED 0 d 1).wr .CLK_DOMAIN_SEL 0 d 1).wr .CLK_DOMAIN_FREQ 0 d f

/-- A PLL loses lock (R389). -/
def pllUnlock (s : State) (d : Nat) : State :=
  if 40 ≤ d ∨ s.rd .CLK_DOMAIN_SEL 0 d ≠ 1 then s
  else
    let s := ((s.wr .CLK_DOMAIN_LOCKED 0 d 0).wr .CLK_DOMAIN_UNLOCK 0 d 1).wr .CLK_DOMAIN_SEL 0 d 0
    (s.wr .CLK_DOMAIN_FREQ 0 d 200).report { cls := 0x02, index := rUnlock, inst := 0xFFFF, void := false, d5 := d }

/-! ### Formation (R267, R319) -/

/-- The quads of a port entry. -/
def entryQuads (e : Nat) : List Nat := (List.range (bits e 10 6 + 1)).map fun i => bits e 5 0 + i

/-- May the entries of a plan stand together (R266, R267)? -/
def entriesOk (s : State) (es : List Nat) : Bool :=
  let used := es.filter fun e => bits e 13 11 != 0
  let quads := used.flatMap entryQuads
  let dies (e : Nat) : List Nat := ((entryQuads e).map (· / 9)).dedup
  es.all (fun e => bits e 13 11 != 7) &&
  used.all (fun e => decide (bits e 10 6 ≤ 17 ∧ bits e 5 0 + bits e 10 6 ≤ 35) && decide ((dies e).length ≤ 2)) &&
  quads.all (fun q => s.fuses.dieFitted (q / 9)) && decide quads.Nodup

/-- R, the ring length of a Long-ring installation: a multiple of 8 from 8 to 512 (R327), which one is free. -/
def ringLength : Nat := 8 * (Config.ringLength % 64 + 1)

/-- Do the straps meet R319? -/
def strapsOk (s : State) (es : List Nat) : Bool :=
  let cove := bits s.straps 9 3
  match bits s.straps 12 10 with
  | 0 => es.all fun e => decide (bits e 13 11 ≤ 1)
  | 1 => decide (cove ≤ if s.fuses.ioDies = 2 then 32 else 64)
  | 2 => decide (bits s.straps 9 0 < ringLength)
  | _ => false

/-- Does formation accept the plan (R267)? -/
def planOk (s : State) : Bool :=
  let es := (List.range 32).map fun p => s.portEntry p
  let parents := (es.filter fun e => hasBit e 32).length
  bits s.plan.header 31 24 == 1 && bits s.plan.header 23 21 == bits s.straps 12 10 &&
  s.entriesOk es && s.strapsOk es && decide (parents ≤ 1) &&
  !(bits s.plan.header 20 11 == bits s.straps 9 0 && parents != 0)

/-- Ports formed, or the plan refused (R267, R289). -/
def formPorts (s : State) : State :=
  if s.planOk then s.wr .TWY_GLB_STATUS_FORMED 0 0 1
  else
    ({ s with plan := { s.plan with entries := [] } }.wr .TWY_GLB_STATUS_PLAN_ERR 0 0 1).report
      { cls := 0x07, index := 0x81, inst := 0xFFFF, void := false }

/-! ### Resets of warm reach and wider (R393 to R396) -/

/-- The field and bit of RST_*_HOLD of a block, by kind (R402's numbering, R410). -/
def holdFd (kind i : Nat) : Fd × Nat × Nat :=
  if kind = kTile then (.RST_TILE_HOLD_HOLD, i / 32, i % 32)
  else if kind = kPort then (.RST_PORT_HOLD_HOLD, 0, i)
  else if kind = kMemc then (.RST_MEMC_HOLD_HOLD, 0, i)
  else (.RST_FERRY_HOLD_HOLD, 0, i)

def pendFd (kind i : Nat) : Fd × Nat × Nat :=
  if kind = kTile then (.RST_TILE_PEND_PEND, i / 32, i % 32)
  else if kind = kPort then (.RST_PORT_PEND_PEND, 0, i)
  else if kind = kMemc then (.RST_MEMC_PEND_PEND, 0, i)
  else (.RST_FERRY_PEND_PEND, 0, i)

def causeFd (kind : Nat) : Fd :=
  if kind = kTile then .RST_CAUSE_TILE else if kind = kPort then .RST_CAUSE_PORT
  else if kind = kMemc then .RST_CAUSE_MEMC else .RST_CAUSE_FERRY

def bitOf (s : State) (x : Fd × Nat × Nat) : Bool := hasBit (s.rd x.1 0 x.2.1) x.2.2
def setBitOf (s : State) (x : Fd × Nat × Nat) (on : Bool) : State :=
  s.wr x.1 0 x.2.1 (withBits (s.rd x.1 0 x.2.1) x.2.2 x.2.2 (b2n on))

/-- Does the package have a block of a kind? -/
def hasBlock (s : State) (kind i : Nat) : Bool :=
  if kind = kTile then decide (i < s.nTiles) else if kind = kPort then decide (i < 32) && s.fuses.dieFitted (s.portDie i)
  else if kind = kMemc then decide (i < s.fuses.nStacks) else if kind = kFerry then decide (i < 16) else false

/-- The shutters of `n` blocks of a kind as a reset of their domain leaves them: those of held blocks stay closed, the
others open when they have been initialised (R395, R396, R400). -/
def heldOf (s : State) (kind n : Nat) (m : SMap Nat) : SMap Nat :=
  (List.range n).foldl (fun m i => if s.bitOf (holdFd kind i) then SMap.set m ⟨kind, i, 0⟩ 3 2 else m) m

/-- The shutters as a reset of warm reach or wider leaves them. -/
def heldShutters (s : State) : SMap Nat :=
  s.heldOf kFerry 16 (s.heldOf kMemc 16 (s.heldOf kPort 32 (s.heldOf kTile s.nTiles [])))

/-- What outlives every reset: fuses, flash, and what lies outside the package. -/
def outlives (s t : State) : State :=
  { t with fuses := s.fuses, flash := s.flash, hostMem := s.hostMem, irqs := s.irqs, outbox := s.outbox, pending := s.pending
           fresh := s.fresh + 1, mem := Memory.unfilled s.fuses.nStacks s.fresh
           hst := { Hst.init with replies := s.hst.replies } }

/-- A reset of warm reach (R393): every domain but TEST, with the boot back before order 2. The measurement of the fuses
stands, for it is taken at the fuse load only (R432), and so does the identity key. A PCIe loopback is no longer selected (R466),
and the first enrolment ends production access (R473). -/
def warmReset (s : State) : State :=
  let keep (k : Key) : Bool :=
    let f := Fd.ofNat k.a
    keptField f || (f == .SEC_MEAS_DIGEST && k.c == 0)
  let t : State := { s.outlives State.reset with
    regs := SMap.drop s.regs fun k => !keep k
    shutters := s.heldShutters
    tap := { s.tap with pcieLb := 0 }
    boot := { s.boot with order := if s.boot.fuseDone then 1 else 0, romDone := false, retry := true, option := []
                          production := s.boot.production && s.fuses.blank }
    lhs := { Lhs.init with tripped := s.lhs.tripped, hsEn := s.boot.hsEnDef }
    sec := { Sec.init with owners := s.fuses.ownerState, identity := s.sec.identity } }
  t.renewChallenge

/-- A reset of power-on reach (R393, R394). -/
def powerOnReset (s : State) : State :=
  let t : State := { s.outlives State.reset with
    boot := { Boot.init with perst := s.boot.perst, tray := s.boot.tray, hsEnDef := s.boot.hsEnDef }
    lhs := { Lhs.init with hsEn := s.boot.hsEnDef }
    sec := { Sec.init with owners := s.fuses.ownerState } }
  t.renewChallenge

/-! ### The order of release (R407, R408) -/

/-- A boot fault, the first of the sequence only (R408). -/
def bootFault (s : State) (n : Nat) : State :=
  if s.rd .RST_BOOT_FAULT ≠ 0 then s
  else (s.wr .RST_BOOT_FAULT 0 0 n).report { cls := 0x02, index := rBoot, inst := 0xFFFF, void := false }

def setOrder (s : State) (order stage : Nat) : State :=
  { s with boot := { s.boot with order := order } }.wr .RST_BOOT_STAGE 0 0 stage

/-- The plan of an option block (R265, R404). -/
def planOf (b : List Nat) : Plan :=
  ⟨spanNat b 0xD0 8, (List.range 32).foldl (fun m p => SMap.set m ⟨p, 0, 0⟩ 0 (spanNat b (0xE0 + 8 * p) 8)) []⟩

/-- The copy of the option block to apply (R403). -/
def optionCopy (s : State) : Option Nat :=
  let b0 := s.flashRead 0 4096
  let b1 := s.flashRead 0x10000 4096
  match optionOk s.fuses b0, optionOk s.fuses b1 with
  | true, true => some (if optionSeq b0 < optionSeq b1 then 1 else 0)
  | true, false => some 0
  | false, true => some 1
  | false, false => none

/-- Order 2 of R407: the option block read, checked, measured and applied; then the PLLs are programmed, and STAGE shows
CLOCKS. What has been measured stays in force, whatever becomes of the flash (R387). -/
def bootOption (s : State) : State :=
  let s := (s.clocksOn [35, 36, 38]).setOrder 1 1
  match s.optionCopy with
  | none => (s.clocksOn (([24, 25, 26, 27].filter fun d => clockPresent s.fuses d) ++ [32, 33, 34])).bootFault 1
  | some c =>
    let b := s.flashRead (0x10000 * c) 4096
    let mask := spanNat b 0xC0 2
    let straps := (List.range 13).foldl (fun v i =>
      v + 2 ^ i * (if hasBit mask i then bit (spanNat b 0xC2 2) i else bit s.boot.pins i)) 0
    let s := { s with straps := straps, plan := planOf b, boot := { s.boot with option := b.take 0xC0 } }.measure 1 b
    (s.wr .RST_BOOT_COPY 0 0 c).setOrder 2 2

/-- PCIE_PIPE leaves reset once PERST# is released and no other reset of warm reach holds (R407). -/
def releasePipe (s : State) : State := if s.boot.pwrok ∧ !s.warmHeld then s.clocksOn [33] else s

/-- The sequence runs from order 2, unless something holds it (R396, R407). -/
def tryBoot (s : State) : State :=
  let s := s.releasePipe
  if s.boot.pwrok ∧ s.boot.fuseDone ∧ !s.warmHeld ∧ s.boot.order = 1 ∧ s.rd .RST_BOOT_FAULT = 0 then s.bootOption else s

/-- PWROK rises: straps are sampled, the causes already asserted take their bits, and the fuse load starts (R394, R407,
R473). -/
def pwrokRise (s : State) (pins : Nat) (hsEnDef prodtest : Bool) : State :=
  if s.boot.pwrok then s
  else
    let s := { s with
      boot := { s.boot with pwrok := true, pins := pins % 2 ^ 13, hsEnDef := hsEnDef, production := prodtest && s.fuses.blank }
      lhs := { s.lhs with hsEn := hsEnDef } }.clocksOn [36, 38]
    ((s.wr .RST_CAUSE_PERST 0 0 (b2n s.boot.perst)).wr .RST_CAUSE_TRAY 0 0 (b2n s.boot.tray)).releasePipe

/-- The fuse load ends: the fuses are measured, the porter derives the device identity key, and the sequence goes on (R407, R426,
R432). -/
def fuseLoadDone (s : State) : State :=
  if !s.boot.pwrok ∨ s.boot.fuseDone then s
  else
    let s := { s with boot := { s.boot with fuseDone := true, order := 1 }
                      sec := { s.sec with identity := s.identityKey } }.measure 0 s.fuseBytes
    s.tryBoot

/-- Does the assembly match the option block (R407 order 4)? -/
def assemblyOk (s : State) : Bool :=
  let b := s.boot.option.drop 0xB0
  at0 b 0 == s.fuses.nStacks && at0 b 1 == s.fuses.stackGib && at0 b 2 == s.fuses.ioDies && at0 b 3 == b2n s.fuses.gradeB

/-- The clocks lock: orders 3 and 4 of R407, up to the start of order 5. -/
def clocksLocked (s : State) : State :=
  if s.boot.order ≠ 2 ∨ s.warmHeld then s
  else
    let s := (List.range 40).foldl (fun s d => s.clockSwitch d (spanNat s.boot.option (0x10 + 4 * d) 4)) s
    let s := s.setOrder 4 3
    if !s.assemblyOk then s.bootFault 2
    else (s.formPorts.setOrder 5 4).wr .LHS_STATUS_FW 0 0 fwRom

/-- A shutter set. A stack's scrub runs only behind an open one, and an eye scan or retrain ends with its port's (R458, R460). -/
def setShutter (s : State) (kind i v : Nat) : State :=
  let s := s.watchScrubs fun s => { s with shutters := SMap.set s.shutters ⟨kind, i, 0⟩ 3 v }
  if kind = kPort then s.endScans i else s

/-- A stack's training ends, and its controller's shutter opens (R243, R400, R407, R408). -/
def memTrainDone (s : State) (st : Nat) (ok : Bool) : State :=
  if s.boot.order ≠ 5 ∨ s.flag .MEM_STATUS_TRAINED st ∨ s.shutter kMemc st ≠ 3 then s
  else if ok then (s.wr .MEM_STATUS_TRAINED st 0 1).setShutter kMemc st 0
  else s.bootFault 3

/-- The management key loaded (R426). -/
def loadMgmtKey (s : State) : State :=
  { s with sec := { s.sec with mgmtKey := s.mgmtKeyOf (s.imageSigner 1) s.debugByte } }.wr .SEC_STATUS_MGMT_KEYED 0 0 1

/-- Recovery mode (R367). -/
def enterRecovery (s : State) : State :=
  let s := (List.range 64).foldl (fun s q => s.wr .HST_Q_CFG_ENABLE 0 q 0) s
  let s := ((s.wr .HST_STATUS_RECOVERY 0 0 1).wr .LHS_STATUS_FW 0 0 fwRecovery).wr .HST_RCV_STATUS_READY 0 0 1
  { s with boot := { s.boot with retry := false } }.setJobState jobScouring

/-- The boot ROM has verified both images (R407 order 5, R426, R429, R432). -/
def romVerified (s : State) : State :=
  if s.boot.order ≠ 5 ∨ s.boot.romDone then s
  else
    let fwOk := s.imageOk 0
    let shoreOk := s.imageOk 1
    let s := { s with boot := { s.boot with romDone := true } }
    let s := if fwOk then
        ((s.measure 2 (s.imageBytes 0)).wr .SEC_SVN_FW_RUN 0 0 (s.imageSvn 0)).wr .SEC_OWNER_FW_SIGNER 0 0 (s.imageSigner 0)
      else s
    let s := if shoreOk then
        (((s.measure 3 (s.imageBytes 1)).wr .SEC_SVN_SHORE_RUN 0 0 (s.imageSvn 1)).wr .SEC_OWNER_SHORE_SIGNER 0 0
          (s.imageSigner 1)).loadMgmtKey
      else s
    if (fwOk && shoreOk) ∨ s.rd .RST_BOOT_FAULT ≠ 0 then s else (s.bootFault 4).enterRecovery

/-- The payload of the verified firmware image copied to offset 0 of Lighthouse's SRAM, and the firmware started at ENTRY (R411,
R428). -/
def startFirmware (s : State) : State :=
  let h := s.flashRead (imageArea 0).1 0x100
  let payload := s.flashRead ((imageArea 0).1 + 0x100) (spanNat h 8 4)
  let core : LhCore := { LhCore.init with
    pc := BitVec.ofNat 32 (spanNat h 0x14 4), sram := Memory.empty.writeN 0 (payload.map (BitVec.ofNat 8)) }
  ({ s with lhs := { s.lhs with core := core } }.firmwareOutputs).wr .LHS_STATUS_FW 0 0 fwRun

/-- Training has passed and both images have verified: order 6 of R407. -/
def tilesRelease (s : State) : State :=
  let trained := (List.range s.fuses.nStacks).all fun st => s.flag .MEM_STATUS_TRAINED st || s.bitOf (holdFd kMemc st)
  if s.boot.order ≠ 5 ∨ !s.boot.romDone ∨ !trained ∨ s.rd .RST_BOOT_FAULT ≠ 0 then s
  else ((s.setOrder 6 5).startFirmware).scourFrom2

/-- The boot ROM's verification of an image that came through the recovery window ends (R368). -/
def recoveryVerified (s : State) : State :=
  if !s.flag .HST_STATUS_RECOVERY ∨ s.flag .HST_RCV_CTRL_GO ∨ s.flag .HST_RCV_STATUS_READY then s
  else if s.imageOk (s.rd .HST_RCV_CTRL_TARGET) then
    (s.wr .HST_RCV_STATUS_DONE 0 0 1).wr .HST_RCV_STATUS_READY 0 0 1
  else ((s.wr .HST_RCV_STATUS_FAIL 0 0 1).wr .HST_RCV_STATUS_READY 0 0 1).hstErr hRecover false 0 0 0 0

/-! ### The sources (R393 to R398) -/

/-- PWROK falls. -/
def pwrokFall (s : State) : State := if s.boot.pwrok then s.powerOnReset else s

/-- A source of warm reach asserted: its cause bit and the reset, unless power-on reach holds (R394). -/
def assertWarm (s : State) (cause : Fd) : State := if s.boot.pwrok then (s.wr cause 0 0 1).warmReset else s

def perstAssert (s : State) : State :=
  if s.boot.perst then s else { s with boot := { s.boot with perst := true } }.assertWarm .RST_CAUSE_PERST
def perstRelease (s : State) : State :=
  if !s.boot.perst then s else { s with boot := { s.boot with perst := false } }.tryBoot
def trayAssert (s : State) : State :=
  if s.boot.tray then s else { s with boot := { s.boot with tray := true } }.assertWarm .RST_CAUSE_TRAY
def trayRelease (s : State) : State :=
  if !s.boot.tray then s else { s with boot := { s.boot with tray := false } }.tryBoot

/-- The watchdog expires while the firmware runs (R412). -/
def watchdogExpiry (s : State) : State :=
  if !s.fwRuns then s else { s with boot := { s.boot with wdog := true } }.assertWarm .RST_CAUSE_WDOG

/-- RST_CTRL.PKG written. -/
def packageReset (s : State) : State :=
  if s.boot.pkg then s else { s with boot := { s.boot with pkg := true } }.assertWarm .RST_CAUSE_SWPKG

/-- The 1,024 cycles of a watchdog or package reset end. -/
def pulseEnd (s : State) (pkg : Bool) : State :=
  if pkg then (if s.boot.pkg then { s with boot := { s.boot with pkg := false } }.tryBoot else s)
  else if s.boot.wdog then { s with boot := { s.boot with wdog := false } }.tryBoot else s

/-- What a compute reset takes from the tiles and the die fabrics beside the tiles themselves (R393): the grants, refusals
and packets of their points, releases that wait, and every shutter but a held one's is to open anew (R396, R401). -/
def clearCompute (s : State) : State :=
  { s with
    flights := []
    backoffs := s.backoffs.filter fun b => !b.point.compute
    holders := s.holders.filter fun h => !h.point.compute
    fabric := []
    regs := SMap.drop s.regs fun k => k.a == Fd.RST_TILE_PEND_PEND.ctorIdx
    shutters := s.heldOf kTile s.nTiles (SMap.drop s.shutters fun k => k.a == kTile) }

/-- RST_CTRL.COMPUTE written (R397): a job is scoured outside the compute reach at once, and the tiles reset; on release
the scour runs from order 2 (R366). -/
def writeCompute (s : State) (on : Bool) : State :=
  if on = s.flag .RST_CTRL_COMPUTE then s
  else if on then
    let s := (s.wr .RST_CTRL_COMPUTE 0 0 1).wr .RST_CAUSE_COMPUTE 0 0 1
    let s := if s.jobState = jobEmpty ∨ s.jobState = jobScouring then s else (s.killActive.setJobState jobScouring).scourOutside
    let s := s.allTiles.foldl (fun s t => (s.resetTile t).zeroTile t) s.clearCompute
    (s.lbCompute.bistCut [0, 1])
  else
    let s := s.wr .RST_CTRL_COMPUTE 0 0 0
    if 6 ≤ s.boot.order then s.scourFrom2 else s

/-! ### Shutters (R399 to R402) -/

/-- A shutter starts to close (R305, R399): the block's requests are masked, and the unit that a port has begun is ended on
its behalf. -/
def closeShutter (s : State) (kind i : Nat) : State :=
  let s := s.setShutter kind i 1
  (if kind = kPort then s.maskPort i else s).dropMasked

/-- A hold bit written (R395, R399 to R401). A block whose domain is in reset is only left out of its release. -/
def writeHold (s : State) (kind i : Nat) (on : Bool) : State :=
  if !s.hasBlock kind i then s
  else
    let was := s.bitOf (holdFd kind i)
    let s := s.setBitOf (holdFd kind i) on
    if s.domainHeld kind then
      let s := if on ∧ !was then s.wr (causeFd kind) 0 0 1 else s
      let s := if on then s.setBitOf (pendFd kind i) false else s
      s.setShutter kind i (if on then 2 else 3)
    else
      let st := s.shutter kind i
      if on then
        let s := if was then s else s.wr (causeFd kind) 0 0 1
        let s := s.setBitOf (pendFd kind i) false
        if st = 0 ∨ st = 3 then s.closeShutter kind i else s
      else if st = 1 ∧ was then s.setBitOf (pendFd kind i) true
      else if st = 2 then s.setShutter kind i 3
      else s

/-- A tile's block reset: the tile as it leaves reset, its memories rewritten (R400). -/
def tileReset (s : State) (t : Nat) : State := (((s.bistCut [0, 1]).resetTile t).zeroTile t).judgeIdle

/-- A port's block reset: every register of the port at its reset value, what it held gone, the port OFF (R297, R400). -/
def portReset (s : State) (p : Nat) : State :=
  (((((s.bistCut [2]).clearPoint (.egress p)).lbPortReset p).resetBlocks [.TWY, .SLU] fun i => i == p).setLink p Link.init).stopXfers p

/-- A controller's block reset: its registers and its codec at their reset values, the stack's contents undefined
(R259). A memory test of the stack ends FAILED (R460). -/
def memcReset (s : State) (st : Nat) : State :=
  let (k, s) := ((((s.endTest st).bistCut [3]).clearPoint (.memory st)).lbMemcReset st).draw
  let s := s.resetBlocks [.MEM, .SHG] fun i => i == st
  { s with mem := s.mem.lose (.stack s.fuses.nStacks st) k
           shingles := SMap.drop s.shingles fun k => k.a == st }.settleOpen

/-- A ferry's block reset: its commands complete with ERR_ISOLATED (R399), its queue empty and its status clear (R400). -/
def ferryReset (s : State) (ch : Nat) : State :=
  let l := s.ferryQueue ch
  let s := l.foldl (fun s f =>
    (s.report { cls := 0x05, index := 0x84, inst := 0xFFFF, void := s.running, objKind := 7, obj := 0x103100 + 4 * ch,
                waiterKind := 5 }).completeErr s f.cmd 0x04) (s.setFerries ch [])
  s.wr .HST_FERRY_STATUS_DONE 0 ch 0

def blockReset (s : State) (kind i : Nat) : State :=
  if kind = kTile then s.tileReset i else if kind = kPort then s.portReset i
  else if kind = kMemc then s.memcReset i else s.ferryReset i

/-- A closing shutter is CLOSED: the block's reset is asserted, ERR_RST_BLOCK recorded, and a pending release takes
effect (R399, R401, R402). `isolated`: the transfers that completed with ERR_ISOLATED. -/
def shutterClosed (s : State) (kind i isolated : Nat) : State :=
  if !s.hasBlock kind i ∨ s.shutter kind i ≠ 1 then s
  else
    let s := (s.blockReset kind i).setShutter kind i 2
    let s := s.report { cls := 0x02, index := rBlock, inst := 0xFFFF, void := s.running, d5 := kind + i * 2 ^ 16, d6 := isolated }
    if s.bitOf (pendFd kind i) then (s.setBitOf (pendFd kind i) false).setShutter kind i 3 else s

/-- A released block is initialised, and its shutter opens (R400). A controller that trains at order 5 of R407 reports by
MEM_TRAIN_DONE. -/
def shutterOpened (s : State) (kind i : Nat) : State :=
  if !s.hasBlock kind i ∨ s.shutter kind i ≠ 3 ∨ (kind = kMemc ∧ s.boot.order = 5 ∧ !s.flag .MEM_STATUS_TRAINED i) then s
  else
    let s := s.setShutter kind i 0
    if kind = kTile then s.tileReset i
    else if kind = kPort then s.startTraining i
    else if kind = kMemc then s.wr .MEM_STATUS_TRAINED i 0 1
    else s

/-! ### Configuration requests (R338) -/

/-- A configuration request answered. -/
def configRequest (s : State) : State :=
  if !s.boot.pwrok ∨ s.boot.perst ∨ s.tap.pcieLb ≠ 0 then s
  else { s with hst := { s.hst with replies := s.hst.replies ++ [.config s.boot.retry] } }

/-- One second has passed since PERST# was released. -/
def rrsEnd (s : State) : State :=
  if s.boot.pwrok ∧ !s.boot.perst then { s with boot := { s.boot with retry := false } } else s

/-- The CLOSED bit of a block (R410). -/
def closedBit (s : State) (kind i : Nat) : Bool := s.hasBlock kind i && s.shutter kind i != 0

end State

end Sys2Proof.Machine
end

