-- ==== Sys2Proof/Machine/Flags.lean ====
section
/-! DEFINITION. What a read of a register returns: the fields that spec/ derives from the rest of the machine (status
and busy bits, states, the effective gating depth), the fields that read as 0, and every other field as it is held. -/
namespace Sys2Proof.Machine

/-- The instance and entry at which a field is held: the landing classes and the want table of the four tide engines
are one (R37). -/
def storeInst (r : Reg) (inst : Nat) : Nat :=
  match r with
  | .TIDE_LCLASS | .TIDE_WANT => 0
  | _ => inst

namespace State

/-- Does the package have an instance of a block? A port is absent where its I/O die is (R268, R317, R492). -/
def hasInst (s : State) (b : Block) (i : Nat) : Bool :=
  match b with
  | .TIDE => s.fuses.dieFitted i
  | .MEM | .SHG => decide (i < s.fuses.nStacks)
  | .TILE | .ARR | .TSIG => decide (i < s.nTiles)
  | .TWY | .SLU => s.fuses.dieFitted (s.portDie i)
  | _ => true

/-- A number of four fields of `w` bits, from a function of their index. -/
def four (w : Nat) (f : Nat → Nat) : Nat := (List.range 4).foldl (fun v i => v + f i % 2 ^ w * 2 ^ (w * i)) 0

/-- A number whose bit `i` is `f i`, for `i` below `n`. -/
def bitmap (n : Nat) (f : Nat → Bool) : Nat := (List.range n).foldl (fun v i => v + b2n (f i) * 2 ^ i) 0

/-- TIDE_SD_STATUS.STATE (R64): what keeps the walker of a context from injecting its next entry. Where both marks hold it
back it is the own window; slots that wait to be forwarded for lack of credit do not show (DESIGN CHOICE, assumption 41). -/
def sdState (s : State) (d c : Nat) : Nat :=
  if !s.tideOn d c ∨ (s.tctx d c).stopped then 0
  else if s.flag .TIDE_CTRL_PAUSE d then (if s.flag .TIDE_STATUS_QUIESCENT d then 4 else 1)
  else if !s.walkerReady d c then 1
  else match (s.lapRead d c).2 with
    | .error _ => 1
    | .ok e =>
      let p := LapEntry.lap e
      if s.ownMark d c + s.tideW d c ≤ p then 3 else if s.windowOpen d c p then 1 else 2

/-- Is a context valid, and running (TIDE_STATUS.CTX_ACTIVE)? -/
def ctxActive (s : State) (d c : Nat) : Bool :=
  s.tideOn d c && !s.flag .TIDE_CTRL_PAUSE d && !(s.tctx d c).stopped

/-- The accumulator buffer that a running pass holds (R134). -/
def heldBuffer (s : State) (t : Nat) : Option Nat :=
  if (s.array t).started then (s.engine t eArray).queue.head?.map fun q => Pd.accBuf q.desc else none

/-- ARR_STATUS.FROZEN (R144, R145): a freeze, or a gated cycle of a running pass; at a depth between 0 and 64 the cycle of
the read decides, which is timing alone, and so free (assumption 24). -/
def arrayFrozen (s : State) (t : Nat) : Bool :=
  let m := s.array t
  let g := s.gateDepth t
  m.frozen || (m.started && (decide (64 ≤ g) || (decide (0 < g) && Config.unstated 27 s.fresh % 2 == 1)))

/-- ARR_CUR.TICKET (R150): the running pass, or the last completed pass. -/
def curTicket (s : State) (t : Nat) : Nat :=
  match (s.array t).started, (s.engine t eArray).queue.head? with
  | true, some q => q.ticket
  | _, _ => s.rd .ARR_CUR_TICKET t

/-- Is a bit of an error status register set (the ERROR bits)? -/
def anyErr (s : State) (r : Reg) (i : Nat := 0) : Nat := b2n (s.regVal r i 0 != 0)

/-- The entry of JRN_MAINT_ST as an activity and an instance, where R456 lists it. -/
def mOf (k : Nat) : Option (Nat × Nat) := if mListed (k / 32) (k % 32) then some (k / 32, k % 32) else none

/-- What a field of a register reads as. -/
def view (s : State) (f : Fd) (inst : Nat := 0) (idx : Nat := 0) : Nat :=
  let i := storeInst f.spec.reg inst
  if !s.hasInst f.spec.reg.spec.block inst ∨ f.spec.acc = .wo then 0
  else match f with
    -- the tide (R64)
    | .TIDE_STATUS_CTX_ACTIVE => bitmap 4 fun c => s.ctxActive i c
    | .TIDE_STATUS_ERROR => s.anyErr .TIDE_ERR_STATUS i
    | .TIDE_STATUS_RUNNING => b2n (s.flag .TIDE_CTRL_ENABLE i && !s.flag .TIDE_CTRL_PAUSE i)
    | .TIDE_SD_STATUS_STATE => s.sdState i idx
    -- tiles (R121) and the array (R150)
    | .TILE_STATUS_BUSY => bitmap 5 fun e => !(s.engine i e).queue.isEmpty
    | .TILE_STATUS_HALTED => bitmap 4 fun c => s.flag .TILE_CTX_CTRL_HALTED i c
    | .TILE_STATUS_RUNNING => bitmap 4 fun c => s.runnable i c
    | .ARR_STATUS_STOPPED => b2n (s.flag .ARR_CTRL_STOP i && !(s.array i).started)
    | .ARR_STATUS_GATED => b2n (decide (0 < s.gateDepth i))
    | .ARR_STATUS_FROZEN => b2n (s.arrayFrozen i)
    | .ARR_STATUS_WAITING => b2n (s.array i).waiting
    | .ARR_STATUS_PREFETCH => b2n (s.array i).prefetch
    | .ARR_STATUS_RUNNING => b2n (s.array i).started
    | .ARR_STATUS_BUF0 => b2n (s.heldBuffer i == some 0)
    | .ARR_STATUS_BUF1 => b2n (s.heldBuffer i == some 1)
    | .ARR_CUR_TICKET => s.curTicket i
    -- shingle units and signals
    | .SHG_STATUS_ERROR => s.anyErr .SHG_ERR_STATUS i
    | .SIG_STATUS_ERROR => s.anyErr .SIG_ERR_STATUS
    -- memory (R261, R262)
    | .MEM_STATUS_SCRUBBING => b2n (s.scrubbing i)
    | .MEM_STATUS_HOT => b2n (decide (0 < s.rd .MEM_REFRESH_RATE i))
    | .MEM_STATUS_ERROR => s.anyErr .MEM_ERR_STATUS i
    | .MEM_ZERO_START => s.rd .MEM_STATUS_ZEROING i
    -- ports (R285, R289, R298)
    | .TWY_PORT_STATUS_HOLDING => b2n (s.portHolds i)
    | .TWY_GLB_STATUS_HOLD => b2n s.holdsAtShore
    | .TWY_GLB_STATUS_TIME_FREE => b2n s.timeFree
    | .TWY_XFER_STATUS_QUEUED => four 7 fun d => (s.xferQueue d).length
    -- arbitration (R302, R311, R317)
    | .SLU_STARVE_BANK => bit s.starveBits 0
    | .SLU_STARVE_FABRIC => bit s.starveBits 1
    | .SLU_STARVE_MEMORY => bit s.starveBits 2
    | .SLU_STARVE_EGRESS => bit s.starveBits 3
    | .SLU_STATUS_HOLDER => (s.link i).holder.getD 7
    | .SLU_STATUS_CARRY => b2n (s.link i).claim.isSome
    -- the host interface (R345, R350, R369)
    | .HST_STATUS_WIN_STALL => b2n s.barStalled
    | .HST_STATUS_ERROR => s.anyErr .HST_ERR_STATUS
    | .HST_Q_STATUS_FULL => b2n (s.qEnabled idx && s.cqFull idx)
    | .HST_FERRY_STATUS_BUSY => b2n (!(s.ferryQueue idx).isEmpty)
    | .HST_FERRY_STATUS_QUEUED => (s.ferryQueue idx).length
    | .HST_RCV_CTRL_GO => 0
    -- a domain that the assembly does not have is stopped (R5, R388)
    | .CLK_DOMAIN_FREQ => if clockPresent s.fuses idx then s.rd f i idx else 0
    -- shutters (R402, R410)
    | .RST_PORT_CLOSED_CLOSED => bitmap 32 fun p => s.closedBit kPort p
    | .RST_MEMC_CLOSED_CLOSED => bitmap 16 fun n => s.closedBit kMemc n
    | .RST_FERRY_CLOSED_CLOSED => bitmap 16 fun c => s.closedBit kFerry c
    | .RST_TILE_CLOSED_CLOSED => bitmap 32 fun n => s.closedBit kTile (32 * idx + n)
    -- Lighthouse (R413, R416, R421, R438)
    | .LHS_STATUS_PSTATE => s.pstate
    | .LHS_STATUS_ACTIVE => b2n s.active
    | .LHS_MB_CTRL_BUSY => b2n (s.flag .LHS_MB_CTRL_REQ && (s.fw == fwRom || s.fw == fwRun || s.fw == fwRecovery))
    | .LHS_GATE_G => four 8 fun d => s.gateOf d
    | .LHS_VALVE_FORCED => b2n s.valveForced
    | .LHS_VALVE_FLOORED => b2n s.floored
    | .LHS_VALVE_PUMP_REQ => b2n s.pumpReq
    | .LHS_VALVE_PUMP_FORCED => b2n s.valveForced
    | .LHS_VALVE_DUTY => s.duty
    -- the porter (R437, R440)
    | .SEC_STATUS_ERROR => s.anyErr .SEC_ERR_STATUS
    | .SEC_CHALLENGE_WORD => if s.flag .SEC_STATUS_ENTROPY_OK then s.rd f i idx else 0
    -- the journal (R451, R456, R462)
    | .JRN_STATUS_ERROR => s.anyErr .JRN_ERR_STATUS
    | .JRN_STATUS_HOLD => b2n (decide (1 ≤ s.jrn.phase ∧ s.jrn.phase ≤ 4))
    | .JRN_STATUS_COMPACTING => b2n (s.mState 3 0 == mRunning)
    | .JRN_MAINT_ST_STATE => match mOf idx with | some (a, j) => s.mShown a j | none => 0
    | .JRN_MAINT_ST_AGE_S => match mOf idx with | some (a, j) => s.mAge a j | none => 0
    -- test (R467, R475)
    | .TST_STATUS_ERROR => s.anyErr .TST_ERR_STATUS
    | .TST_BIST_CTRL_UNITS => s.rd .TST_BIST_STATUS_RUNNING
    | _ => s.rd f i idx

/-- What a whole register reads as: its fields in place, every other bit 0 (R12). -/
def viewReg (s : State) (r : RegRef) : Nat :=
  r.reg.spec.fields.foldl (fun v f => v + s.view f r.inst r.idx % 2 ^ f.width * 2 ^ f.spec.lo) 0

end State

end Sys2Proof.Machine
end

