-- ==== Sys2Proof/Machine/Registers.lean ====
section
/-! DEFINITION. What a write of a whole register does: the access codes of R13, reserved encodings (R12), the lock (R15),
the writes that a block discards, and the effects that registers have. -/
namespace Sys2Proof.Machine

/-- The value of a field in the value of its register. -/
def fv (f : Fd) (v : Nat) : Nat := v / 2 ^ f.spec.lo % 2 ^ f.width

/-- A limit in µs outside 1 to 60,000,000. -/
def badLimit (v : Nat) : Bool := v == 0 || decide (60000000 < v)

/-- Does an order of seven 3-bit requester numbers name each of 0 to 6 once (R122, R262)? -/
def orderOk (v : Nat) : Bool := (List.range 7).all fun n => (List.range 7).any fun i => bits v (3 * i + 2) (3 * i) == n

/-- The numbers of SEC_CTRL's commands that a value names. -/
def secCmds (v : Nat) : List Nat := (List.range 7).filter fun i => hasBit v i

namespace State

/-! ### The waterline (R112) -/

/-- Is a remote access to a tile's working SRAM outstanding? -/
def remoteLoads (s : State) (t : Nat) : Bool :=
  s.ctxs.any fun e => match e.2.wait with
    | .load a _ _ _ _ _ _ => e.1.a != t && decide (tileBase t ≤ a ∧ a < tileBase t + 0x50000)
    | _ => false

/-- A write of TILE_WATERLINE.LEVEL with no reserved encoding (R112). -/
def writeWaterline (s : State) (t level : Nat) : State :=
  let old := s.rd .TILE_WATERLINE_LEVEL t
  if level = old then s
  else if ((List.range 5).any fun e => !(s.engine t e).queue.isEmpty) || (s.array t).started || s.remoteLoads t then
    s.tileErr t tWaterline 0 false 0 0 0 0 0 0
  else
    let lo := tileBase t + 0x4000 * min level old
    let hi := tileBase t + 0x4000 * max level old
    { (s.wr .TILE_WATERLINE_LEVEL t 0 level).wr .TILE_WATERLINE_REWRITING t 0 1 with mem := s.mem.clear (.span lo hi) }

/-- Every row of the move is rewritten. -/
def waterlineDone (s : State) (t : Nat) : State := s.wr .TILE_WATERLINE_REWRITING t 0 0

/-! ### Reserved encodings (R12) -/

/-- Does a value of SHG_SV_CTRL hold a reserved encoding (R205)? While a survey is open only FINISH counts. -/
def badSurvey (s : State) (st v : Nat) : Bool :=
  !s.surveyOpen st && !(fv .SHG_SV_CTRL_FINISH v == 1 && fv .SHG_SV_CTRL_OPEN v == 0) &&
  (fv .SHG_SV_CTRL_EPOCH v == 0 || fv .SHG_SV_CTRL_MAXW v == 3 || decide (1021 < fv .SHG_SV_CTRL_HOME v) ||
    (Fmt.ofCode (fv .SHG_SV_CTRL_FORMAT v)).isNone)

/-- Does a value place a reserved encoding into a register (R12)? A value outside a range that a table states is one
(DEDUCED, assumption 20). -/
def reservedValue (s : State) (r : RegRef) (v : Nat) : Bool :=
  let f := fun (x : Fd) => fv x v
  match r.reg with
  | .TIDE_STALL_LIMIT | .SHG_LIMIT | .SIG_GUARD_LIMIT | .SIG_BAR_LIMIT | .SIG_TILE_LIMIT | .HST_PAUSE_LIMIT =>
    badLimit (bits v 25 0)
  | .TIDE_DIR_COUNT => decide (2 ^ 25 < bits v 25 0)
  | .TIDE_SD_CFG => f .TIDE_SD_CFG_STRAND == 3
  | .TIDE_SD_RING =>
    let n := f .TIDE_SD_RING_LEN
    n == 0 || decide (1022 < n) || decide (n ≤ f .TIDE_SD_RING_POS)
  | .TIDE_SD_WINDOW => f .TIDE_SD_WINDOW_CREDIT_STEP == 0 || f .TIDE_SD_WINDOW_ACC_UNITS == 1
  | .TIDE_LCLASS =>
    let n := f .TIDE_LCLASS_RELEASES
    n == 0 || decide (3072 < n) || f .TIDE_LCLASS_AMOUNT == 0
  | .TILE_WATERLINE => decide (20 < f .TILE_WATERLINE_LEVEL)
  | .TILE_CTX_SP => decide (327680 < f .TILE_CTX_SP_BASE + f .TILE_CTX_SP_BOUND)
  | .TILE_CTX_PS => decide (16384 < f .TILE_CTX_PS_BASE + f .TILE_CTX_PS_BOUND)
  | .SHG_SV_CTRL => s.badSurvey r.inst v
  | .SIG_CNT => s.cntBounded r.inst r.idx && decide (s.rd .SIG_CNT_CFG_BOUND r.inst r.idx < f .SIG_CNT_VALUE)
  | .SIG_CNT_CFG => f .SIG_CNT_CFG_MODE == 1 && f .SIG_CNT_CFG_BOUND == 0
  | .SIG_BAR_CFG =>
    f .SIG_BAR_CFG_VALID == 1 &&
    (f .SIG_BAR_CFG_PKGS == 0 || decide (1024 < f .SIG_BAR_CFG_PKGS) || f .SIG_BAR_CFG_EXPECT == 0 ||
      decide (12288 < f .SIG_BAR_CFG_EXPECT))
  | .MEM_CE_THRESH => f .MEM_CE_THRESH_THRESH == 0
  | .MEM_SCRUB_CFG => f .MEM_SCRUB_CFG_PERIOD_H == 0 || decide (720 < f .MEM_SCRUB_CFG_PERIOD_H)
  | .MEM_ARB_RANK => !orderOk (f .MEM_ARB_RANK_ORDER)
  | .GLB_TILE_RANK => !orderOk (f .GLB_TILE_RANK_ORDER)
  | .SLU_RANK => !rankOk (f .SLU_RANK_ORDER)
  | .MEM_RGN_MIRROR => s.badMirror (f .MEM_RGN_MIRROR_BASE) (f .MEM_RGN_MIRROR_SIZE)
  | .TWY_PORT_CREDIT => s.badAllotment r.inst v
  | .TWY_PORT_LIMITS =>
    f .TWY_PORT_LIMITS_DRAIN == 0 || f .TWY_PORT_LIMITS_TRAIN == 0 || f .TWY_PORT_LIMITS_RETRY == 0
  | .SLU_LIMITS => f .SLU_LIMITS_STARVE == 0
  | .GLB_VOID_CTRL => f .GLB_VOID_CTRL_MAX == 0
  | .HST_Q_CFG =>
    let ok := fun (n : Nat) => decide (1 ≤ n ∧ n ≤ 12)
    !(ok (f .HST_Q_CFG_CQ_LOG2) && ok (f .HST_Q_CFG_SQ_LOG2))
  | .HST_BAR2_MAP => !s.bar2Ok (f .HST_BAR2_MAP_BASE)
  | .HST_RCV_CTRL => decide (2 ≤ f .HST_RCV_CTRL_TARGET) || f .HST_RCV_CTRL_LEN == 0 || decide (524288 < f .HST_RCV_CTRL_LEN)
  | .LHS_GOV_LIMIT => decide (f .LHS_GOV_LIMIT_LIMIT_W < 300)
  | .SEC_CTRL => decide (1 < (secCmds v).length)
  | .JRN_MAINT_REQ =>
    (f .JRN_MAINT_REQ_START == f .JRN_MAINT_REQ_CANCEL) || !mListed (f .JRN_MAINT_REQ_ACTIVITY) (f .JRN_MAINT_REQ_INSTANCE)
  | .TST_LB_TIME => f .TST_LB_TIME_TIME_MS == 0 || decide (3600000 < f .TST_LB_TIME_TIME_MS)
  | .TST_LB_CTRL =>
    !lbListed (f .TST_LB_CTRL_KIND) (f .TST_LB_CTRL_MODE) ||
    (f .TST_LB_CTRL_RUN == 1 && lbRunBad (f .TST_LB_CTRL_KIND) (f .TST_LB_CTRL_MODE))
  | _ => false

/-! ### Effects -/

/-- The fields of a register written under their access codes (R13). -/
def plainWrite (s : State) (r : RegRef) (v : Nat) : State :=
  let i := storeInst r.reg r.inst
  r.reg.spec.fields.foldl (fun s f =>
    match f.spec.acc with
    | .rw | .rwl => s.wr f i r.idx (fv f v)
    | .w1c => let x := s.rd f i r.idx; s.wr f i r.idx (x - Nat.land x (fv f v))
    | .w1s => s.wr f i r.idx (Nat.lor (s.rd f i r.idx) (fv f v))
    | .ro | .wo => s) s

/-- TIDE_CTRL written (R38, R62, R63). -/
def writeTideCtrl (s : State) (d v : Nat) : State :=
  let s := s.wr .TIDE_CTRL_MODE d 0 (fv .TIDE_CTRL_MODE v)
  let s := if fv .TIDE_CTRL_VOID v = 1 then s.voidTide d else s
  let pause := fv .TIDE_CTRL_PAUSE v == 1
  let s := if pause = s.flag .TIDE_CTRL_PAUSE d then s else s.pauseTide d pause
  if fv .TIDE_CTRL_ENABLE v = 1 then s.enableTide d else s.wr .TIDE_CTRL_ENABLE d 0 0

/-- Does a TIDE engine discard a write now (R64): every register of its contexts but WANT_MARK, and those R64 names? The
landing classes are those of every engine: one enabled engine keeps them, and CONFIG is set in the instance addressed
(DESIGN CHOICE, assumption 41). -/
def tideLocked (s : State) (r : RegRef) : Bool :=
  match r.reg with
  | .TIDE_LCLASS => (List.range 4).any fun d => s.flag .TIDE_CTRL_ENABLE d
  | .TIDE_JOB | .TIDE_DIR_BASE | .TIDE_DIR_COUNT | .TIDE_SD_CFG | .TIDE_SD_RING | .TIDE_SD_LAPLIST | .TIDE_SD_LAPCOUNT
  | .TIDE_SD_WINDOW | .TIDE_SD_LB | .TIDE_SD_HDR_BASE | .TIDE_SD_CB_BASE | .TIDE_SD_MARKS | .TIDE_SD_INJ
  | .TIDE_SD_STATUS | .TIDE_SD_LANDED | .TIDE_SD_SKIPPED | .TIDE_SD_FWD_STALL | .TIDE_SD_STALE => s.flag .TIDE_CTRL_ENABLE r.inst
  | _ => false

/-- TILE_CTX_CTRL written (R123): a RUN of 1 that finds HALTED set has no effect. -/
def writeCtxCtrl (s : State) (t c v : Nat) : State :=
  let halted := s.flag .TILE_CTX_CTRL_HALTED t c
  let s := if fv .TILE_CTX_CTRL_HALTED v = 1 then s.wr .TILE_CTX_CTRL_HALTED t c 0 else s
  if fv .TILE_CTX_CTRL_RUN v = 1 then (if halted then s else s.startCtx t c)
  else if s.ctxRun t c then (s.stopCtx t c).judgeIdle else s

/-- ARR_CTRL written (R146, R148). A write that clears STOP and sets ABORT clears STOP first (DESIGN CHOICE, assumption 40). -/
def writeArrCtrl (s : State) (t v : Nat) : State :=
  let stop := fv .ARR_CTRL_STOP v == 1
  let s := if stop = s.flag .ARR_CTRL_STOP t then s else if stop then s.stopArray t else s.unstopArray t
  if fv .ARR_CTRL_ABORT v = 1 then s.abortArray t else s

/-- SIG_CNT written: the counter set, and its waiters served (R207, R209). -/
def writeCounter (s : State) (t n v : Nat) : State := (s.cntSet t n v).serve t n

/-- SHG_SV_CTRL written (R186, R188, R205). -/
def writeSurveyCtrl (s : State) (r : RegRef) (v : Nat) : State :=
  let st := r.inst
  let s := if s.surveyOpen st ∨ fv .SHG_SV_CTRL_OPEN v = 0 then s
    else
      let fs : List Fd := [.SHG_SV_CTRL_TENSOR, .SHG_SV_CTRL_HOME, .SHG_SV_CTRL_EPOCH, .SHG_SV_CTRL_GRAD,
        .SHG_SV_CTRL_FORMAT, .SHG_SV_CTRL_MAXW]
      (fs.foldl (fun s f => s.wr f st 0 (fv f v)) s).openSurvey st
  if fv .SHG_SV_CTRL_FINISH v = 1 then s.finishSurvey st
  else if s.surveyOpen st ∨ fv .SHG_SV_CTRL_OPEN v = 1 then s
  else s.plainWrite r v

/-- SHG_RC_CTRL written (R203, R205). -/
def writeRecodeCtrl (s : State) (st v : Nat) : State :=
  let s := if fv .SHG_RC_CTRL_OPEN v = 1 ∧ !s.recodeOpen st then s.openRecode st else s
  if fv .SHG_RC_CTRL_FINISH v = 1 then s.finishRecode st else s

/-- TWY_PORT_CTRL written (R293, R295); what R296 names discards the whole write. -/
def writePortCtrl (s : State) (p v : Nat) : State :=
  let on := fv .TWY_PORT_CTRL_ENABLE v == 1
  let retrain := fv .TWY_PORT_CTRL_RETRAIN v == 1
  if ((!on || retrain) && s.portInUse p) || (on && s.portRole p == 0) then s.portConfigError p
  else
    let s := (s.wr .TWY_PORT_CTRL_EXCUSE p 0 (fv .TWY_PORT_CTRL_EXCUSE v)).writePortEnable p on
    (if retrain then s.retrainPort p else s).endScans p

/-- HST_MSIX written: a vector that is unmasked while it is pending fires (R343). -/
def writeMsix (s : State) (r : RegRef) (v : Nat) : State :=
  let n := r.idx
  let s := s.plainWrite r v
  let p := s.rd .HST_PBA_PENDING 0 (n / 64)
  if !s.flag .HST_MSIX_MASK 0 n ∧ hasBit p (n % 64) then
    (s.wr .HST_PBA_PENDING 0 (n / 64) (clearBit p (n % 64))).raiseVector n
  else s

/-- RST_CTRL written (R393, R397). -/
def writeRstCtrl (s : State) (v : Nat) : State :=
  let s := s.writeCompute (fv .RST_CTRL_COMPUTE v == 1)
  if fv .RST_CTRL_PKG v = 1 then s.packageReset else s

/-- The hold bits of one register written: `kind` and its first block (R401). -/
def writeHolds (s : State) (kind first n v : Nat) : State :=
  (List.range n).foldl (fun s i => s.writeHold kind (first + i) (hasBit v i)) s

/-- LHS_MB_CTRL written (R413): a request that finds RSP set is discarded, though the same write clears RSP. -/
def writeMailbox (s : State) (req rsp : Bool) : State :=
  let answered := s.flag .LHS_MB_CTRL_RSP
  let s := if req then s.mbPost else s
  if rsp && answered then s.wr .LHS_MB_CTRL_RSP 0 0 0 else s

/-- SEC_CTRL written with one command (R427, R430, R431, R434, R436, R440). -/
def writeSecCtrl (s : State) (v : Nat) : State :=
  match secCmds v with
  | [0] => s.quote
  | [1] => s.unlock
  | [2] => s.enrol
  | [3] => s.rekey
  | [4] => s.raiseSvn false
  | [5] => s.raiseSvn true
  | [6] => s.discardSecret
  | _ => s

/-- JRN_MAINT_REQ written (R458, R460). -/
def writeMaintReq (s : State) (v : Nat) : State :=
  let a := fv .JRN_MAINT_REQ_ACTIVITY v
  let i := fv .JRN_MAINT_REQ_INSTANCE v
  if fv .JRN_MAINT_REQ_START v = 1 then s.mRequest a i (fv .JRN_MAINT_REQ_PARAM v) else s.mCancel a i

/-- TST_LB_CTRL written (R464, R465). -/
def writeLoopback (s : State) (v : Nat) : State :=
  let kind := fv .TST_LB_CTRL_KIND v
  let mode := fv .TST_LB_CTRL_MODE v
  let port := fv .TST_LB_CTRL_PORT v
  let s := s.lbSelect kind mode port
  if fv .TST_LB_CTRL_RUN v = 1 ∧ s.lbKind = kind ∧ s.lbMode = mode ∧ s.lbPort = port then s.lbRun else s

/-- The fields that only Lighthouse writes: `some` of what its write does (R438, R462, R495). -/
def lighthouseWrite (s : State) (r : RegRef) (v : Nat) : Option State :=
  match r.reg with
  | .GLB_BOOT_LOCK => some (if fv .GLB_BOOT_LOCK_LOCK v = 1 then s.wr .GLB_BOOT_LOCK_LOCK 0 0 1 else s)
  | .LHS_GOV_G => some (if (List.range 4).any fun d => decide (64 < bits v (8 * d + 7) (8 * d)) then
      s.reservedWrite .lighthouse r.offset else (s.wr .LHS_GOV_G_G 0 0 v).noteGating)
  | .LHS_VALVE => some (s.writeValve (fv .LHS_VALVE_REQ v))
  | .LHS_WDOG =>
    let n := fv .LHS_WDOG_PERIOD_MS v
    some (if n < 10 ∨ 10000 < n then s.reservedWrite .lighthouse r.offset else s.wr .LHS_WDOG_PERIOD_MS 0 0 n)
  | .LHS_HEARTBEAT => some (s.wr .LHS_HEARTBEAT_COUNT 0 0 v)
  | .JRN_STATUS => some ((s.wr .JRN_STATUS_UNCAL 0 0 (fv .JRN_STATUS_UNCAL v)).wr .JRN_STATUS_FACTORY_OK 0 0
      (fv .JRN_STATUS_FACTORY_OK v))
  | _ => none

/-- What a whole register's value does, once no rule has discarded the write. -/
def effect (s : State) (src : Source) (r : RegRef) (v : Nat) : State :=
  let i := r.inst
  let k := r.idx
  match r.reg with
  -- the tide
  | .TIDE_CTRL => s.writeTideCtrl i v
  | .TIDE_ATTEMPT => (s.plainWrite r v).openTide i
  | .TIDE_RELEASE => s.releaseLap i (fv .TIDE_RELEASE_STRAND v) (fv .TIDE_RELEASE_DIR v) (fv .TIDE_RELEASE_LAP_POS v)
  | .TIDE_SD_WANT_MARK => s.raiseWantMark i k (fv .TIDE_SD_WANT_MARK_MARK v)
  -- tiles
  | .TILE_WATERLINE => s.writeWaterline i (fv .TILE_WATERLINE_LEVEL v)
  | .TILE_CTX_CTRL => s.writeCtxCtrl i k v
  | .TILE_CTX_PC | .TILE_CTX_SP | .TILE_CTX_PS | .TILE_CTX_FAR => if s.ctxRun i k then s else s.plainWrite r v
  | .ARR_CTRL => s.writeArrCtrl i v
  -- shingle units
  | .SHG_SV_CTRL => s.writeSurveyCtrl r v
  | .SHG_SV_BOOK => if s.surveyOpen i then s else s.plainWrite r v
  | .SHG_SV_FEED => s.feedSurvey src i v
  | .SHG_RC_CTRL => s.writeRecodeCtrl i v
  | .SHG_RC_BOOK | .SHG_RC_DIR => if s.recodeOpen i then s else s.plainWrite r v
  | .SHG_RC_FEED => s.feedRecode src i (fv .SHG_RC_FEED_INDEX v)
  -- signals and barriers
  | .SIG_CTRL => if fv .SIG_CTRL_CLEAR_BAR v = 1 then s.clearBars else s
  | .SIG_BAR_CFG => if s.rd .SIG_BAR_STATE_ARRIVED 0 k ≠ 0 then s.setErr 0x0A 7 0 else s.plainWrite r v
  | .SIG_CNT => s.writeCounter i k (fv .SIG_CNT_VALUE v)
  | .SIG_TIDEMARK => if src = .host ∧ s.jobState = jobLoading then s.plainWrite r v else s
  | .SIG_CNT_CFG => if (s.waitersOn i k).isEmpty then s.plainWrite r v else s.setErr 0x0A 7 0
  -- memory
  | .MEM_ZERO => s.setErr 0x09 2 i
  | .MEM_SCRUB_CFG => s.watchScrubs fun s => s.plainWrite r v
  | .MEM_RGN_MIRROR =>
    s.writeMirror (fv .MEM_RGN_MIRROR_BASE v) (fv .MEM_RGN_MIRROR_SIZE v) (fv .MEM_RGN_MIRROR_ARMED v == 1)
  -- ports
  | .TWY_PORT_CTRL => s.writePortCtrl i v
  | .TWY_PORT_CREDIT => s.writeAllotment i v
  | .TWY_GLB_CTRL =>
    let s := s.plainWrite r v
    if s.flag .TWY_GLB_CTRL_LINKS_EN then (List.range 32).foldl (fun s p => s.startTraining p) s else s
  | .TWY_XFER => s.requestXfer src ((List.range 8).map fun n => dw v n)
  | .SLU_CTRL => if fv .SLU_CTRL_COMMIT v = 1 then s.commitTable i else s
  | .SLU_SHADOW => s.writeShadow i k v
  -- the host interface
  | .HST_HOST_SIG =>
    let n := fv .HST_HOST_SIG_VECTOR v
    if 128 ≤ n then s.raiseVector n else s
  | .HST_SQ_BASE | .HST_CQ_BASE => if s.qEnabled k then s else s.plainWrite r v
  | .HST_Q_CFG =>
    s.writeQueue k (fv .HST_Q_CFG_ENABLE v == 1) (fv .HST_Q_CFG_CQ_INT v == 1) (fv .HST_Q_CFG_CQ_LOG2 v)
      (fv .HST_Q_CFG_SQ_LOG2 v)
  | .HST_SQ_TAIL => s.writeTail k (fv .HST_SQ_TAIL_TAIL v)
  | .HST_CQ_HEAD => s.writeCqHead k (fv .HST_CQ_HEAD_HEAD v)
  | .HST_RCV_CTRL =>
    let fs : List Fd := [.HST_RCV_CTRL_LAST, .HST_RCV_CTRL_TARGET, .HST_RCV_CTRL_LEN]
    let s := fs.foldl (fun s f => s.wr f 0 0 (fv f v)) s
    if fv .HST_RCV_CTRL_GO v = 1 then s.takeChunk else s
  | .HST_MSIX => s.writeMsix r v
  -- the package
  | .GLB_VOID_CTRL => if s.seqState = vIdle then s.plainWrite r v else s
  | .GLB_HALT_CTRL =>
    let s := s.wr .GLB_HALT_CTRL_EN 0 0 (fv .GLB_HALT_CTRL_EN v)
    if fv .GLB_HALT_CTRL_HALTED v = 1 then s.resumeHalt else s
  | .RST_CTRL => s.writeRstCtrl v
  | .RST_TILE_HOLD => s.writeHolds kTile (32 * k) 32 v
  | .RST_PORT_HOLD => s.writeHolds kPort 0 32 v
  | .RST_MEMC_HOLD => s.writeHolds kMemc 0 16 v
  | .RST_FERRY_HOLD => s.writeHolds kFerry 0 16 v
  | .LHS_MB_CTRL => s.writeMailbox (fv .LHS_MB_CTRL_REQ v == 1) (fv .LHS_MB_CTRL_RSP v == 1)
  | .LHS_GOV_LIMIT => s.writeGovLimit (fv .LHS_GOV_LIMIT_LIMIT_W v)
  | .SEC_CTRL => s.writeSecCtrl v
  | .SEC_JOB_SECRET => s.writeSecret k (bits v 31 0)
  | .JRN_MAINT_REQ => s.writeMaintReq v
  | .TST_LB_CTRL => s.writeLoopback v
  | .TST_BIST_CTRL => s.bistStart (fv .TST_BIST_CTRL_UNITS v)
  | _ => if src = .lighthouse then (s.lighthouseWrite r v).getD (s.plainWrite r v) else s.plainWrite r v

/-! ### Who may write what -/

/-- The shutter that a block's instance lies behind (R399). -/
def shutterOf (b : Block) (i : Nat) : Option (Nat × Nat) :=
  match b with
  | .TILE | .ARR | .TSIG => some (kTile, i)
  | .TWY | .SLU => some (kPort, i)
  | .MEM | .SHG => some (kMemc, i)
  | _ => none

/-- Is an instance behind a shutter that is not open, or on a compute die while a bridge loopback takes the way there (R464)?
No tile runs then, so that the access comes from an I/O die. -/
def regShut (s : State) (r : RegRef) : Bool :=
  match shutterOf r.reg.spec.block r.inst with
  | none => false
  | some (k, i) => !s.isOpen k i || (k != kPort && s.bridgeLoopback)

/-- The bit that a block sets when it discards a write through the mirror (R398, R437, R440, R464, R490), by the BAR0 offset of
the write: the CLK and RST block, the SEC block with its buffers and its unplaced offsets, and the TST block but for telemetry;
`none` where the block takes one. -/
def mirrorRefused (s : State) (off : Nat) : Option State :=
  if 0x10000 ≤ off ∧ off < 0x20000 then some (s.setErr 0x02 rMirror 0)
  else if 0x30000 ≤ off ∧ off < 0x70000 then some (s.secFlag sMirror)
  else if 0x700000 ≤ off ∧ off < 0x708000 then some (s.tstFlag tMirror)
  else none

/-- Has a register a field that GLB_BOOT_LOCK locks? -/
def hasLocked (r : Reg) : Bool := r.spec.fields.any fun f => decide (f.spec.acc = .rwl)

/-- A write of a whole register from a source, at offset `off` (the register's own, or that of its part): what keeps it
from reaching the register, then its effect. `some` failure where a shutter has completed it with ERR_ISOLATED. DEDUCED
(assumption 20): of a write that holds a reserved encoding (R12) and that its block discards as well, the lock (R15) and
the discard of an enabled TIDE engine (R64) are judged first, and every other block's discard after the encoding. -/
def writeReg (s : State) (src : Source) (r : RegRef) (off v : Nat) : State × Option Fail :=
  if !s.hasInst r.reg.spec.block r.inst then (s, none)
  else if s.regShut r then (s, some .isolated)
  else
    let refused := if throughMirror src then s.mirrorRefused off else none
    match refused with
    | some t => (t, none)
    | none =>
      if hasLocked r.reg ∧ s.locked then (s.lockedWrite src off, none)
      else if s.tideLocked r then (s.tideDiscard r.inst, none)
      else if s.reservedValue r v then (s.reservedWrite src off, none)
      else (s.effect src r v, none)

end State

end Sys2Proof.Machine
end

