-- ==== Sys2Proof/Machine/RegAccess.lean ====
section
/-! DEFINITION. Accesses to BAR0 and to the register mirror: alignment and width (R9, R10, R496), the write stage and the
read latch of each source, the memory-like regions of BAR0, and which source reaches what (R367, R398, R408, R491). -/
namespace Sys2Proof.Machine

namespace State

/-! ### Stages and latches (R10) -/

/-- What a source's stage or latch holds of a register: 0 where it holds another one, or nothing. -/
def partOf (l : List Part) (src : Source) (r : RegRef) : Option Nat :=
  (l.find? fun p => decide (p.src = src ∧ p.reg = r.reg ∧ p.inst = r.inst ∧ p.idx = r.idx)).map (·.value)

/-- A stage or latch given to a register. -/
def setPart (l : List Part) (src : Source) (r : RegRef) (v : Nat) : List Part :=
  ⟨src, r.reg, r.inst, r.idx, v⟩ :: l.filter fun p => decide (p.src ≠ src)

/-- Is a register part of the MSI-X table or the PBA, which follow the PCI Express layout (R369)? DEDUCED (assumption 20): as
memory-like regions without a register name they have neither stage nor latch, and each 32-bit word is written and read on
its own; the PBA is laid out as 32 words of 64 bits. -/
def memoryLike (r : Reg) : Bool := r == .HST_MSIX || r == .HST_PBA

/-- The value that the lanes a narrow write leaves out are written with: the register's current value, W1C and W1S bits
as 0 (R496). -/
def heldValue (s : State) (r : RegRef) : Nat :=
  r.reg.spec.fields.foldl (fun v f =>
    if f.spec.acc = .w1c ∨ f.spec.acc = .w1s then v else v + s.view f r.inst r.idx % 2 ^ f.width * 2 ^ f.spec.lo) 0

/-- A read of 32 bits at an aligned offset (R9, R10). -/
def readPart (s : State) (src : Source) (off : Nat) : State × Except Fail Nat :=
  match regAt off with
  | none => (s, .ok 0)
  | some (r, place) =>
    if s.hasInst r.reg.spec.block r.inst ∧ s.regShut r then (s, .error .isolated)
    else
      let whole := s.viewReg r
      let part := fun (v : Nat) => bits v (8 * place + 31) (8 * place)
      if r.reg.spec.width ≤ 32 then (s, .ok whole)
      else if memoryLike r.reg then (s, .ok (part whole))
      else if place = 0 then ({ s with latches := setPart s.latches src r whole }, .ok (part whole))
      else (s, .ok (part ((partOf s.latches src r).getD whole)))

/-- A write of 32 bits (`n` = 4) or of an aligned 64-bit word (`n` = 8) of one register wider than 32 bits, or of the
whole of a 32-bit register (R9, R10). DEDUCED (assumption 20): a staging write to a register of an absent instance, whose
writes are discarded (R5), still takes its source's stage, which belongs to the source. -/
def writePart (s : State) (src : Source) (off n v : Nat) : State × Option Fail :=
  match regAt off with
  | none => (s, none)
  | some (r, place) =>
    let w := r.reg.spec.width
    if w ≤ 32 then s.writeReg src r off v
    else if memoryLike r.reg then s.writeReg src r off (withBits (s.heldValue r) (8 * place + 8 * n - 1) (8 * place) v)
    else
      let staged := (partOf s.stages src r).getD 0
      let value := withBits staged (8 * place + 8 * n - 1) (8 * place) v
      if w ≤ 8 * (place + n) then s.writeReg src r off value
      else if s.hasInst r.reg.spec.block r.inst ∧ s.regShut r then (s, some .isolated)
      else ({ s with stages := setPart s.stages src r value }, none)

/-! ### The regions of BAR0 without registers -/

/-- The memory-like regions of BAR0 (R339, R413, R440, R368): is an offset in one, and is it writable? -/
def bufferAt (off : Nat) : Option Bool :=
  if 0x21000 ≤ off ∧ off < 0x22000 then some true
  else if 0x22000 ≤ off ∧ off < 0x23000 then some false
  else if 0x40000 ≤ off ∧ off < 0x50000 then some false
  else if 0x50000 ≤ off ∧ off < 0x60000 then some true
  else if 0x60000 ≤ off ∧ off < 0x70000 then some false
  else if 0x180000 ≤ off ∧ off < 0x200000 then some true
  else none

/-- `n` bytes of a memory-like region: the identity area is what the porter shows of its key (R433), any other what its buffer
holds. -/
def bufferBytes (s : State) (off n : Nat) : List Byte :=
  if 0x60000 ≤ off ∧ off < 0x70000 then (List.range n).map fun i => s.identityByte (off - 0x60000 + i) else s.bufs.readN off n

/-- `n` bytes of the error record ring (R239). -/
def ringBytes (s : State) (off n : Nat) : Nat :=
  let words := SMap.get s.errRing ⟨(off - 0x610000) / 64, 0, 0⟩ []
  let w := at0 words ((off - 0x610000) / 8 % 8)
  bits w (8 * (off % 8) + 8 * n - 1) (8 * (off % 8))

/-- A write into a writable region: the request buffer takes none while REQ is 1 (R413). -/
def writeBuffer (s : State) (off n v : Nat) : State :=
  if off < 0x22000 ∧ s.flag .LHS_MB_CTRL_REQ then s.lhsFlag lMbox
  else { s with bufs := s.bufs.writeN off (leBytes n v) }

/-! ### Accesses -/

/-- Does the register mirror reach a block (R490, R491)? Not JRN, nor LHS. -/
def mirrored (off : Nat) : Bool :=
  !(decide (0x8000 ≤ off ∧ off < 0x10000) || decide (0x20000 ≤ off ∧ off < 0x30000))

/-- Is an access of `n` bytes aligned to its size, which is one of 1, 2, 4 and 8 (R496)? -/
def sized (off n : Nat) : Bool := [1, 2, 4, 8].contains n && off % n == 0

/-- A read of a BAR0 offset (R9, R10, R339, R496). -/
def readMap (s : State) (src : Source) (off n : Nat) : State × Except Fail Nat :=
  if throughMirror src ∧ !mirrored off then (s, .error .tileAddr)
  else if !sized off n then (s.reservedWrite src off, .ok 0)
  else if (bufferAt off).isSome then (s, .ok (leNat (s.bufferBytes off n)))
  else if 0x610000 ≤ off ∧ off < 0x614000 then (s, .ok (s.ringBytes off n))
  else if n = 8 then
    match s.readPart src off with
    | (s, .error f) => (s, .error f)
    | (s, .ok lo) =>
      match s.readPart src (off + 4) with
      | (s, .error f) => (s, .error f)
      | (s, .ok hi) => (s, .ok (lo + hi * 2 ^ 32))
  else
    let (s, x) := s.readPart src (off / 4 * 4)
    (s, x.map fun v => bits v (8 * (off % 4) + 8 * n - 1) (8 * (off % 4)))

/-- A write to a BAR0 offset (R9, R10, R339, R496). -/
def writeMap (s : State) (src : Source) (off n v : Nat) : State × Option Fail :=
  if throughMirror src ∧ !mirrored off then
    (if off / 4 * 4 = (RegRef.mk .JRN_MAINT_REQ 0 0).offset then s.setErr 0x0E jMirror 0 else s, some .tileAddr)
  else if !sized off n then (s.reservedWrite src off, none)
  else match (if throughMirror src then s.mirrorRefused off else none), bufferAt off with
    | some t, _ => (t, none)
    | none, some true => (s.writeBuffer off n v, none)
    | none, some false => (s, none)
    | none, none =>
      if n = 8 then
        match regAt off with
        | some (r, _) =>
          if 32 < r.reg.spec.width then s.writePart src off 8 v
          else
            let (s, a) := s.writePart src off 4 (v % 2 ^ 32)
            let (s, b) := s.writePart src (off + 4) 4 (v / 2 ^ 32)
            (s, a <|> b)
        | none => s.writePart src (off + 4) 4 (v / 2 ^ 32)
      else if n = 4 then s.writePart src off 4 v
      else match regAt (off / 4 * 4) with
        | none => (s, none)
        | some (r, place) =>
          let now := bits (s.heldValue r) (8 * place + 31) (8 * place)
          s.writePart src (off / 4 * 4) 4 (withBits now (8 * (off % 4) + 8 * n - 1) (8 * (off % 4)) v)

/-- Part `k` of a host request of several 32-bit parts, at offset `off`, without the byte lanes that `out` names (R496). -/
def writeLanes (s : State) (src : Source) (off k v : Nat) (out : List Nat) : State × Option Fail :=
  match regAt off with
  | none => (s, none)
  | some (r, place) =>
    let now := bits (s.heldValue r) (8 * place + 31) (8 * place)
    let w := (List.range 4).foldl (fun w b =>
      if out.contains (4 * k + b) then w else withBits w (8 * b + 7) (8 * b) (v / 2 ^ (8 * (4 * k + b)))) now
    s.writePart src off 4 w

/-- A host request of `n` bytes whose byte enables leave lanes out: each 32-bit part that has an enabled lane is written, the
other lanes with what they hold (R496). -/
def writeEnabled (s : State) (src : Source) (off n v : Nat) (out : List Nat) : State × Option Fail :=
  if !sized off n then (s.reservedWrite src off, none)
  else match bufferAt off with
    | some true => ((List.range n).foldl (fun s i =>
        if out.contains i then s else s.writeBuffer (off + i) 1 (v / 2 ^ (8 * i) % 256)) s, none)
    | some false => (s, none)
    | none => (List.range (n / 4)).foldl (fun (acc : State × Option Fail) k =>
        if (List.range 4).all fun b => out.contains (4 * k + b) then acc
        else
          let (s, f) := acc.1.writeLanes src (off + 4 * k) k v out
          (s, acc.2 <|> f)) (s, none)

/-! ### Who reaches what -/

/-- Does the endpoint answer the host at a BAR0 offset (R338, R367, R408, R472)? -/
def hostReaches (s : State) (off : Nat) : Bool :=
  s.boot.pwrok && !s.boot.perst && !s.boot.retry && s.tap.pcieLb == 0 &&
  (if s.flag .HST_STATUS_RECOVERY then
    decide (off < 0x8000) || decide (0x20000 ≤ off ∧ off < 0x30000) || decide (0x100000 ≤ off ∧ off < 0x200000)
   else if [1, 2, 3].contains (s.rd .RST_BOOT_FAULT) then decide (off < 0x8000) || decide (0x10000 ≤ off ∧ off < 0x20000)
   else true)

/-- Does the package have a source? -/
def hasSource (s : State) : Source → Bool
  | .host | .lighthouse => true
  | .ctx t c => decide (t < s.nTiles ∧ c < 4)
  | .engine t e => decide (t < s.nTiles ∧ e < 5)

/-- Can a source make an access at a BAR0 offset now? Lighthouse while something runs on it, a tile's own while the tile
is out of reset. -/
def canAccess (s : State) (src : Source) (off : Nat) : Bool :=
  match src with
  | .host => s.hostReaches off
  | .lighthouse => s.fw == fwRom || s.fw == fwRun || s.fw == fwRecovery
  | .ctx t _ | .engine t _ => s.tileUp t

/-- ERR_ISOLATED of a register access, in the words of its source's block (R237). -/
def regIsolated (s : State) (src : Source) (off : Nat) : State :=
  let (cls, inst, wk, w) := match src with
    | .host => (0x05, 0xFFFF, 5, 0)
    | .lighthouse => (0x03, 0xFFFF, 0, 0)
    | .ctx t c => (0x0C, t, 1, t * 8 + c)
    | .engine t e => (0x0C, t, 2, t * 8 + e)
  s.report { cls := cls, index := 0x84, inst := inst, void := s.running, objKind := 7, obj := off,
             waiterKind := wk, waiter := w }

/-- What a source's write of a BAR0 offset comes to, `off` its offset, `x` the write. -/
def access (s : State) (src : Source) (off : Nat) (x : State → State × Option Fail) : State :=
  if !s.canAccess src off then s
  else match x s with
    | (s, some .isolated) => s.regIsolated src off
    | (s, _) => s

/-- REGISTER_WRITE: `n` bytes of `v` written at a BAR0 offset by a source; `out` lists the byte lanes that the byte enables
of a host request leave out (R496). -/
def registerWrite (s : State) (src : Source) (off n v : Nat) (out : List Nat) : State :=
  s.access src off fun s =>
    if src = .host ∧ !out.isEmpty then s.writeEnabled src off n v out else s.writeMap src off n v

/-- A write of one whole register by a source. -/
def writeWhole (s : State) (src : Source) (r : RegRef) (v : Nat) : State :=
  s.access src r.offset fun s =>
    if throughMirror src ∧ !mirrored r.offset then
      (if r.reg = .JRN_MAINT_REQ then s.setErr 0x0E jMirror 0 else s, none)
    else s.writeReg src r r.offset v

/-- A write that changes one field of a register and gives every other the value it holds. -/
def writeField (s : State) (src : Source) (r : RegRef) (f : Fd) (x : Nat) : State :=
  s.writeWhole src r (withBits (s.heldValue r) f.spec.hi f.spec.lo x)

end State

end Sys2Proof.Machine
end

