-- ==== Sys2Proof/Machine/TileCore.lean ====
section
/-! DEFINITION. The scalar core at work (spec/04_tile.md, R95 to R99, R498, R499): fetch, the core's address map, loads and
stores, CSRs, exceptions, waits and the tile extension. -/
namespace Sys2Proof.Machine

/-- Where an access of the core goes once it is translated (R97): a device address in memory, or a BAR0 offset. -/
inductive CorePlace where
  | mem (a : Nat)
  | reg (off : Nat)
deriving DecidableEq, Repr

/-- The causes of the RISC-V exceptions that a context meets (R96). -/
def xFetch : Nat := 1
def xIllegal : Nat := 2
def xBreak : Nat := 3
def xLoadAlign : Nat := 4
def xLoad : Nat := 5
def xStoreAlign : Nat := 6
def xStore : Nat := 7
def xEcall : Nat := 11

namespace State

/-! ### Registers of a context -/

/-- A register of a context; x0 reads 0. -/
def x (s : State) (t c r : Nat) : BitVec 32 := if r = 0 then 0 else SMap.get (s.ctx t c).x ⟨r, 0, 0⟩ 0

/-- A register written; a write to x0 is discarded. -/
def setX (s : State) (t c r : Nat) (v : BitVec 32) : State :=
  if r = 0 then s else s.setCtx t c { s.ctx t c with x := SMap.set (s.ctx t c).x ⟨r, 0, 0⟩ 0 v }

/-- An instruction retired: minstret counts it, and the program counter goes on. -/
def retireTo (s : State) (t c : Nat) (pc : BitVec 32) : State :=
  s.setCtx t c { s.ctx t c with pc := pc, minstret := (s.ctx t c).minstret + 1 }

/-- An instruction of `n` bytes retired, its successor next. -/
def retire (s : State) (t c n : Nat) : State := s.retireTo t c ((s.ctx t c).pc + BitVec.ofNat 32 n)

/-- An instruction of `n` bytes retired with its result. -/
def result (s : State) (t c n rd : Nat) (v : BitVec 32) : State := (s.retire t c n).setX t c rd v

/-- A context blocked. -/
def block (s : State) (t c : Nat) (w : Wait) : State := s.setCtx t c { s.ctx t c with wait := w }

/-! ### Fetch (R97) -/

/-- The 16 bits of program store at a core address, or the address that faults. -/
def fetchHalf (s : State) (t c : Nat) (pc : BitVec 32) : State × Except (BitVec 32) Nat :=
  let a := pc.toNat
  let o := a - 0x00200000
  if a < 0x00200000 ∨ 0x00204000 ≤ a ∨ s.rd .TILE_CTX_PS_BOUND t c ≤ o then (s, .error pc)
  else match s.readSpan (ctxReq t c) (tileBase t + 0x70000 + s.rd .TILE_CTX_PS_BASE t c + o) 2 with
    | (s, .ok bs) => (s, .ok (leNat bs))
    | (s, .error _) => (s, .error pc)

/-- The instruction at a context's program counter, its word and its length in bytes, or the address that faults. -/
def fetchInsn (s : State) (t c : Nat) : State × Except (BitVec 32) (Insn × Nat × Nat) :=
  let pc := (s.ctx t c).pc
  match s.fetchHalf t c pc with
  | (s, .error a) => (s, .error a)
  | (s, .ok lo) =>
    if lo % 4 ≠ 3 then (s, .ok (Insn.expand16 lo, lo, 2))
    else match s.fetchHalf t c (pc + 2) with
      | (s, .error a) => (s, .error a)
      | (s, .ok hi) => (s, .ok (Insn.decode32 (hi * 65536 + lo), hi * 65536 + lo, 4))

/-- The context that holds a tile's core, with the instruction at its program counter and its length, where the fetch
does not fault. -/
def insnAt (s : State) (t : Nat) : Option (Nat × Insn × Nat) :=
  match s.onCore t with
  | none => none
  | some c =>
    match (s.fetchInsn t c).2 with
    | .error _ => none
    | .ok (i, _, n) => some (c, i, n)

/-- A tile's core at work on one instruction: `f` gives what the instruction does, or nothing where the instruction at
the program counter is not one of its kind. -/
def onCoreDo (s : State) (t : Nat) (f : Nat → Insn → Nat → Option (State → State)) : State :=
  match s.insnAt t with
  | none => s
  | some (c, i, n) =>
    match f c i n with
    | none => s
    | some g => g (s.takeCore t c)

/-! ### The core's address map (R97, R98) -/

/-- Where `n` bytes at a core address lie, or nothing where the access faults. -/
def corePlace (s : State) (t c a n : Nat) (store : Bool) : Option CorePlace :=
  if a < 0x50000 then (s.scratch t c a n).map .mem
  else if a < 0x80000 then none
  else if a < 0xD0000 then
    if s.waterline t ≤ a - 0x80000 then some (.mem (tileBase t + (a - 0x80000))) else none
  else if a < 0x100000 then none
  else if a < 0x110000 then some (.mem (tileBase t + 0x60000 + (a - 0x100000)))
  else if a < 0x200000 then none
  else if a < 0x204000 then
    if store ∨ s.rd .TILE_CTX_PS_BOUND t c < a - 0x200000 + n then none
    else some (.mem (tileBase t + 0x70000 + s.rd .TILE_CTX_PS_BASE t c + (a - 0x200000)))
  else if a < 0x300000 then none
  else if a < 0x304000 then some (.reg (0x1000000 + t * 0x4000 + (a - 0x300000)))
  else if a < 0x40000000 ∨ 0x80000000 ≤ a then none
  else
    let d := s.rd .TILE_CTX_FAR_BASE t c * 2 ^ 30 + (a - 0x40000000)
    if 0x380000000000 ≤ d then none
    else match s.target d with
      | .register off => if mirrored off then some (.reg off) else none
      | _ => some (.mem d)

/-- Is a device address that of another tile or of stack memory, so that a load from it blocks (R95)? -/
def isRemote (s : State) (t d : Nat) : Bool :=
  match s.target d with
  | .tile u _ => u != t
  | _ => true

/-- What the issuing tile records of an access that its target did not serve: ERR_ISOLATED in the tile's words, or
ERR_TILE_ADDR; every other failure has its own block's record (R237, R498). -/
def coreFailure (s : State) (t c : Nat) (f : Fail) (a : Nat) : State :=
  match f with
  | .isolated => s.reportIsolated 0x0C t a 1 (t * 8 + c)
  | .tileAddr => s.tileErr t tAddr a true 6 0 a 0 1 (t * 8 + c)
  | _ => s

/-- Loaded data as rd takes it. -/
def extend (size v : Nat) (signed : Bool) : BitVec 32 :=
  if signed then BitVec.signExtend 32 (BitVec.ofNat (8 * size) v) else BitVec.ofNat 32 v

/-- rd written by a load; a pair takes bits [31:0] and [63:32] (R99). -/
def loaded (s : State) (t c size rd v : Nat) (signed pair : Bool) : State :=
  if pair then (s.setX t c rd (BitVec.ofNat 32 v)).setX t c (rd + 1) (BitVec.ofNat 32 (v / 2 ^ 32))
  else s.setX t c rd (extend size v signed)

/-- A load of a context (R498): `len` bytes of instruction, `size` bytes at core address `a`. -/
def coreLoad (s : State) (t c len a rd size : Nat) (signed pair : Bool) (flaws : List Flaw) : State :=
  let tval := BitVec.ofNat 32 a
  if a % size ≠ 0 then s.trap t c xLoadAlign tval
  else match s.corePlace t c a size false with
    | none => s.trap t c xLoad tval
    | some (.reg off) =>
      match s.readMap (.ctx t c) off size with
      | (s, .ok v) => (s.retire t c len).loaded t c size rd v signed pair
      | (s, .error f) => ((if f = .isolated then s.regIsolated (.ctx t c) off else s)).trap t c xLoad tval
    | some (.mem d) =>
      if s.isRemote t d then
        let pc := (s.ctx t c).pc
        (s.setCtx t c { s.ctx t c with pc := pc + BitVec.ofNat 32 len }).block t c (.load d size rd signed pair pc tval)
      else if s.stalled d size then s
      else match (s.place (ctxReq t c) flaws).readSpan (ctxReq t c) d size with
        | (s, .ok bs) => (s.retire t c len).loaded t c size rd (leNat bs) signed pair
        | (s, .error f) => (s.coreFailure t c f d).trap t c xLoad tval

/-- A remote load returns (R498): its data, or a load access fault with mepc at the load. A tile whose shutter is closing gets
ERR_ISOLATED for it (R399). -/
def loadComplete (s : State) (t c : Nat) (flaws : List Flaw) : State :=
  match (s.ctx t c).wait with
  | .load d size rd signed pair pc core =>
    if !s.isOpen kTile t then
      let s := s.coreFailure t c .isolated d
      (s.setCtx t c { s.ctx t c with pc := pc }).trap t c xLoad core
    else if s.stalled d size then s
    else match (s.place (ctxReq t c) flaws).readSpan (ctxReq t c) d size with
      | (s, .ok bs) =>
        let y := s.ctx t c
        (s.setCtx t c { y with wait := .none, minstret := y.minstret + 1 }).loaded t c size rd (leNat bs) signed pair
      | (s, .error f) =>
        let s := s.coreFailure t c f d
        (s.setCtx t c { s.ctx t c with pc := pc }).trap t c xLoad core
  | _ => s

/-- The issuing tile's flags of a store that failed at its target (R498). -/
def storeFlag (s : State) (t : Nat) (f : Fail) (a : Nat) : State :=
  let s := if s.regVal .TILE_ERR_STATUS t 0 = 0 then s.wr .TILE_ERR_INFO_ADDR t 0 a else s
  s.setErr 0x0C (if f = .tileUe ∨ f = .memUe then tUe else tAddr) t

/-- A store of a context to a register (R9, R10, R498). -/
def storeReg (s : State) (t c off size v : Nat) : State :=
  match s.writeMap (.ctx t c) off size v with
  | (s, some .isolated) => (s.regIsolated (.ctx t c) off).storeFlag t .isolated (0x300000000000 + off)
  | (s, _) => s

/-- A store of a context (R498): `size` bytes of `v` at core address `a`. -/
def coreStore (s : State) (t c len a size v : Nat) (flaws : List Flaw) : State :=
  let tval := BitVec.ofNat 32 a
  if a % size ≠ 0 then s.trap t c xStoreAlign tval
  else match s.corePlace t c a size true with
    | none => s.trap t c xStore tval
    | some (.reg off) => (s.retire t c len).storeReg t c off size v
    | some (.mem d) =>
      if s.stalled d size then s
      else
        let s := (s.retire t c len).place (ctxReq t c) flaws
        match s.writeSpan (ctxReq t c) d (leBytes size v) with
        | (s, none) => s
        | (u, some f) => (u.coreFailure t c f d).storeFlag t f (match f with | .tileUe | .memUe => d / 64 * 64 | _ => d)

/-! ### CSRs (R95, R499) -/

/-- The CSRs of the core. -/
def csrs : List Nat := [0x300, 0x305, 0x341, 0x342, 0x343, 0xB00, 0xB80, 0xB02, 0xB82, 0xF14]

/-- A CSR read: mcycle counts tile cycles, of which the model knows no number, so that each read finds it later by a free
amount (assumption 24). -/
def csrRead (s : State) (t c n : Nat) : State × BitVec 32 :=
  let y := s.ctx t c
  match n with
  | 0x300 => (s, BitVec.ofNat 32 (0x1800 + y.mie.toNat * 8 + y.mpie.toNat * 128))
  | 0x305 => (s, y.mtvec)
  | 0x341 => (s, y.mepc)
  | 0x342 => (s, y.mcause)
  | 0x343 => (s, y.mtval)
  | 0xB02 => (s, y.minstret.extractLsb' 0 32)
  | 0xB82 => (s, y.minstret.extractLsb' 32 32)
  | 0xF14 => (s, BitVec.ofNat 32 (t * 4 + c))
  | _ =>
    let (k, s) := s.draw
    let m := y.mcycle + BitVec.ofNat 64 (Config.unstated 20 k)
    (s.setCtx t c { s.ctx t c with mcycle := m }, if n = 0xB00 then m.extractLsb' 0 32 else m.extractLsb' 32 32)

/-- One half of a 64-bit counter replaced. -/
def setHalf (m : BitVec 64) (high : Bool) (v : BitVec 32) : BitVec 64 :=
  if high then v ++ m.extractLsb' 0 32 else m.extractLsb' 32 32 ++ v

/-- A CSR written. mstatus has MIE and MPIE; MPP is machine mode always; the low bits of mtvec and mepc that have no
meaning read 0. -/
def csrWrite (s : State) (t c n : Nat) (v : BitVec 32) : State :=
  let y := s.ctx t c
  match n with
  | 0x300 => s.setCtx t c { y with mie := v.getLsbD 3, mpie := v.getLsbD 7 }
  | 0x305 => s.setCtx t c { y with mtvec := v &&& 0xFFFFFFFD#32 }
  | 0x341 => s.setCtx t c { y with mepc := v &&& 0xFFFFFFFE#32 }
  | 0x342 => s.setCtx t c { y with mcause := v }
  | 0x343 => s.setCtx t c { y with mtval := v }
  | 0xB00 => s.setCtx t c { y with mcycle := setHalf y.mcycle false v }
  | 0xB80 => s.setCtx t c { y with mcycle := setHalf y.mcycle true v }
  | 0xB02 => s.setCtx t c { y with minstret := setHalf y.minstret false v }
  | 0xB82 => s.setCtx t c { y with minstret := setHalf y.minstret true v }
  | _ => s

/-- An illegal-instruction exception. -/
def illegal (s : State) (t c word : Nat) : State :=
  s.trap t c xIllegal (if Config.trapValue xIllegal then BitVec.ofNat 32 word else 0)

/-- Does a CSR instruction write? CSRRS and CSRRC with x0, or with an immediate of 0, do not. -/
def csrWrites (f : CsrOp) (src : Nat) : Bool := decide (f = .write) || src != 0

/-- A CSR instruction. The instruction that writes minstret is not counted in it. -/
def csrAccess (s : State) (t c len : Nat) (f : CsrOp) (rd src n : Nat) (imm : Bool) (word : Nat) : State :=
  let writes := csrWrites f src
  if !csrs.contains n ∨ (writes ∧ n = 0xF14) then s.illegal t c word
  else
    let arg := if imm then BitVec.ofNat 32 src else s.x t c src
    let (s, old) := if f = .write ∧ rd = 0 then (s, 0#32) else s.csrRead t c n
    let new := match f with
      | .write => arg
      | .set => old ||| arg
      | .clear => old &&& ~~~arg
    let s := s.retire t c len
    (if writes then s.csrWrite t c n new else s).setX t c rd old

/-! ### The base instructions -/

/-- An instruction without a row of its own: the integer instructions, FENCE, which the core's own ordering makes a
no-op (R216, R217), and every reserved encoding. -/
def coreBase (s : State) (t c len word : Nat) (i : Insn) : Option State :=
  let pc := (s.ctx t c).pc
  let next := pc + BitVec.ofNat 32 len
  match i with
  | .lui rd imm => some (s.result t c len rd imm)
  | .auipc rd imm => some (s.result t c len rd (pc + imm))
  | .jal rd off => some ((s.retireTo t c (pc + off)).setX t c rd next)
  | .jalr rd rs1 off => some ((s.retireTo t c ((s.x t c rs1 + off) &&& 0xFFFFFFFE#32)).setX t c rd next)
  | .branch f rs1 rs2 off => some (s.retireTo t c (if f.holds (s.x t c rs1) (s.x t c rs2) then pc + off else next))
  | .opImm f rd rs1 imm => some (s.result t c len rd (f.run (s.x t c rs1) imm))
  | .op f rd rs1 rs2 => some (s.result t c len rd (f.run (s.x t c rs1) (s.x t c rs2)))
  | .mulDiv f rd rs1 rs2 => some (s.result t c len rd (f.run (s.x t c rs1) (s.x t c rs2)))
  | .fence => some (s.retire t c len)
  | .illegal => some (s.illegal t c word)
  | _ => none

/-- CORE_EXECUTE: the fetch, and an instruction without a row of its own, or the fetch's access fault. -/
def coreExecute (s : State) (t : Nat) (flaws : List Flaw) : State :=
  match s.onCore t with
  | none => s
  | some c =>
    match ((s.takeCore t c).place (ctxReq t c) flaws).fetchInsn t c with
    | (u, .error a) => u.trap t c xFetch a
    | (u, .ok (i, w, n)) => (u.coreBase t c n w i).getD s

/-- The word of the instruction at a context's program counter. -/
def wordAt (s : State) (t c : Nat) : Nat :=
  match (s.fetchInsn t c).2 with
  | .ok (_, w, _) => w
  | .error _ => 0

/-- The address a load or store names. -/
def effAddr (s : State) (t c rs1 : Nat) (off : BitVec 32) : Nat := (s.x t c rs1 + off).toNat

/-- MRET under the privileged rules of a hart with machine mode only. -/
def mret (s : State) (t c : Nat) : State :=
  let y := s.ctx t c
  (s.setCtx t c { y with mie := y.mpie, mpie := true }).retireTo t c y.mepc

/-! ### Engine queues (R99, R100, R101) -/

/-- A descriptor issued: queued with its ticket, or the context blocks while 16 are queued or running. -/
def issue (s : State) (t c e rd desc : Nat) : State :=
  let y := s.engine t e
  if 16 ≤ y.queue.length then
    (s.setEngine t e { y with blocked := y.blocked ++ [c] }).block t c (.queue e rd desc)
  else
    let (k, s) := s.enqueue t e c desc
    let s := s.setX t c rd (BitVec.ofNat 32 k)
    if e = eArray then s.headPass t else s

/-- TQ.ISSUE. -/
def tqIssue (s : State) (t c len e rd : Nat) (a : BitVec 32) (flaws : List Flaw) : State :=
  if a.toNat % 64 ≠ 0 then s.trap t c xLoadAlign a
  else match (if a.toNat < 0x50000 then s.scratch t c a.toNat 64 else none) with
    | none => s.trap t c xLoad a
    | some d =>
      if s.stalled d 64 then s
      else match (s.place (ctxReq t c) flaws).readSpan (ctxReq t c) d 64 with
        | (s, .ok bs) => (s.retire t c len).issue t c e rd (leNat bs)
        | (s, .error f) => (s.coreFailure t c f d).trap t c xLoad a

/-- TQ.FENCE. -/
def tqFence (s : State) (t c len e : Nat) (a : BitVec 32) : State :=
  let k := a.toNat % 65536
  let s := s.retire t c len
  if ticketDone (s.engine t e) k then s else s.block t c (.fence e k)

/-- TQ.STAT. -/
def tqStat (s : State) (t c len e rd : Nat) : State :=
  let y := s.engine t e
  s.result t c len rd (BitVec.ofNat 32 (y.completed * 65536 + y.queue.length % 32))

/-! ### Signals and barriers (R207, R210, R216, R217, R224) -/

/-- SIG.WAIT. A consume of amount 0 succeeds at once (R210). -/
def sigWait (s : State) (t c len rd : Nat) (a b : BitVec 32) : State :=
  let n := a.toNat % 64
  let m := b.toNat % 65536
  if m = 0 then s.result t c len rd 0
  else ((s.retire t c len).block t c (.counter n m rd)).beginWait t n ⟨c, m⟩

/-- SIG.TRY. -/
def sigTry (s : State) (t c len rd : Nat) (a b : BitVec 32) : State :=
  let n := a.toNat % 64
  let m := b.toNat % 65536
  if m = 0 then s.result t c len rd 1
  else if (s.waitersOn t n).isEmpty ∧ m ≤ s.cntValue t n then (s.cntTake t n m).result t c len rd 1
  else s.result t c len rd 0

/-- SIG.POST; the stores of a context are acknowledged before its next instruction. -/
def sigPost (s : State) (t c len : Nat) (lo hi : BitVec 32) : State :=
  (s.retire t c len).post (lo.toNat + hi.toNat * 2 ^ 32) none (.ctx t c)

/-- BAR.ARRIVE: the context blocks until its arrival is counted. -/
def barArrive (s : State) (t c len rd : Nat) (a : BitVec 32) : State :=
  (s.retire t c len).block t c (.arrive (a.toNat % 512) (bits a.toNat 31 31) rd)

/-- Has every signal that a context posted been applied, a message of it acknowledged by the first hop (R217)? -/
def postsApplied (s : State) (t c : Nat) : Bool :=
  !((s.flights.any fun f => decide (f.src = .ctx t c)) || s.postsOut (.ctx t c) || s.storesOut (.ctx t c))

/-- BAR_ARRIVAL_COUNT: the arrival counted, and rd due. -/
def arrivalCount (s : State) (t c : Nat) : State :=
  match (s.ctx t c).wait with
  | .arrive b err rd =>
    if !s.postsApplied t c then s
    else
      let (sense, s) := s.countArrival t c b (err == 1)
      match (s.ctx t c).wait with
      | .arrive _ _ _ => s.block t c (.served rd sense)
      | _ => s
  | _ => s

/-- BAR.WAIT. -/
def barWait (s : State) (t c len : Nat) (a b : BitVec 32) : State :=
  let n := a.toNat % 512
  let sense := b.toNat % 2
  let s := s.retire t c len
  if s.tileSense t n = sense then s else s.block t c (.barrier n sense false)

/-- CONTEXT_WAKE: a context whose wait has ended takes its result and may run. -/
def contextWake (s : State) (t c : Nat) : State :=
  match (s.ctx t c).wait with
  | .served rd v => (s.block t c .none).setX t c rd (BitVec.ofNat 32 v)
  | _ => s

/-- The limit of a wait expires (R234): a context's on a counter or a barrier, or the array's (`who` is 4). While a pause
holds the tile no limit runs (R235, R360). -/
def waitTimeout (s : State) (t who : Nat) : State :=
  if s.pausing then s
  else if who = 4 then
    let m := s.array t
    match (s.engine t eArray).queue.head? with
    | some q =>
      if m.waiting ∧ !m.reported then
        (s.counterTimeout t (Pd.waitCtr q.desc) (Pd.waitAmt q.desc) 4).setArray t { m with reported := true }
      else s
    | none => s
  else match (s.ctx t who).wait with
    | .counter n m rd =>
      ((s.counterTimeout t n m who).leaveCounter t n who).block t who (.served rd 1)
    | .barrier b sense false => (s.barrierWaitTimeout t who b).block t who (.barrier b sense true)
    | _ => s

/-! ### The rest of the tile extension (R99) -/

/-- TILE.YIELD: the core goes to the next runnable context. -/
def yieldCore (s : State) (t c len : Nat) : State :=
  let s := s.retire t c len
  s.takeCore t ((([(c + 1) % 4, (c + 2) % 4, (c + 3) % 4]).find? fun i => s.runnable t i).getD c)

/-- TILE.TMARK: the low word of the tidemark, and the high word latched. -/
def tmark (s : State) (t c len rd : Nat) : State :=
  let s := s.result t c len rd (BitVec.ofNat 32 s.tidemark)
  s.setCtx t c { s.ctx t c with tmarkHi := BitVec.ofNat 32 (s.tidemark / 2 ^ 32) }

/-- TILE.TIME: the low word of the package timestamp, and the high word latched. -/
def timeLow (s : State) (t c len rd : Nat) : State :=
  let s := s.result t c len rd (s.time.extractLsb' 0 32)
  s.setCtx t c { s.ctx t c with timeHi := s.time.extractLsb' 32 32 }

/-- TIDE.REL: a store to TIDE_RELEASE of I/O die 0 through the register mirror. -/
def tideRel (s : State) (t c len : Nat) (v : BitVec 32) : State :=
  (s.retire t c len).storeReg t c (RegRef.mk .TIDE_RELEASE 0 0).offset 4 v.toNat

end State

end Sys2Proof.Machine
end

