-- ==== Sys2Proof/Machine/Answer.lean ====
section
/-! DEFINITION. What a command answers, and the units that it may name (R1, R2, R92, R242, R265). -/
namespace Sys2Proof.Machine

/-- The outcome of a command. -/
abbrev Result := Host.Outcome State Fault Refusal

/-- A command answers the state it leads to. The queue of commands is not its own, and no command blows a fuse but the
one that ends a porter command (R425, R431). -/
def answer (s u : State) : Result := .next { u with pending := s.pending, fuses := s.fuses }

/-- A command of a unit that the package does not have changes nothing: there is nobody to make the access, and an absent
instance reads 0 and discards writes (R5, R492). -/
def answerIf (ok : Bool) (s u : State) : Result := if ok then answer s u else .next s

namespace State

def hasTile (s : State) (t : Nat) : Bool := decide (t < s.nTiles)

def hasCtx (s : State) (t c : Nat) : Bool := decide (t < s.nTiles ∧ c < 4)

def hasEngine (s : State) (t e : Nat) : Bool := decide (t < s.nTiles ∧ e < 5)

def hasDie (s : State) (d : Nat) : Bool := s.fuses.dieFitted d

/-- A context of a tide engine. -/
def hasTide (s : State) (d c : Nat) : Bool := s.fuses.dieFitted d && decide (c < 4)

def hasStack (s : State) (st : Nat) : Bool := decide (st < s.fuses.nStacks)

def hasPort (p : Nat) : Bool := decide (p < 32)

end State

end Sys2Proof.Machine
end

