-- ==== Sys2Proof/Machine/CoreCommands.lean ====
section
/-! DEFINITION. The commands of the scalar cores (R95 to R100, R498, R499), and the write of a register (R13). A command of
a core acts where the instruction at the program counter of the context that holds the core is one of its row; else it
changes nothing (DESIGN CHOICE, assumption 1). -/
namespace Sys2Proof.Machine

open State

/-- REGISTER_WRITE (R9, R10, R12 to R15, R494, R496). -/
def execRegisterWrite (src : Source) (addr size : Nat) (w : Written) (s : State) : Result :=
  answerIf (s.hasSource src) s (s.registerWrite src addr size w.value w.out)

/-- CORE_EXECUTE (R95, R96, R97). -/
def execCoreExecute (t : Nat) (flaws : List Flaw) (s : State) : Result :=
  answerIf (s.hasTile t) s (s.coreExecute t flaws)

/-- CORE_LOAD (R97, R98, R498). -/
def execCoreLoad (t : Nat) (flaws : List Flaw) (s : State) : Result :=
  answerIf (s.hasTile t) s (s.onCoreDo t fun c i n => match i with
    | .load rd rs1 size sg off => some fun s => s.coreLoad t c n (s.effAddr t c rs1 off) rd size sg false flaws
    | _ => none)

/-- CORE_STORE (R97, R98, R498). -/
def execCoreStore (t : Nat) (flaws : List Flaw) (s : State) : Result :=
  answerIf (s.hasTile t) s (s.onCoreDo t fun c i n => match i with
    | .store rs1 rs2 size off =>
      some fun s => s.coreStore t c n (s.effAddr t c rs1 off) size ((s.x t c rs2).toNat % 2 ^ (8 * size)) flaws
    | _ => none)

/-- LOAD_COMPLETE (R498). -/
def execLoadComplete (t c : Nat) (flaws : List Flaw) (s : State) : Result :=
  answerIf (s.hasCtx t c) s (s.loadComplete t c flaws)

/-- CSR_ACCESS (R95, R499). -/
def execCsrAccess (t : Nat) (s : State) : Result :=
  answerIf (s.hasTile t) s (s.onCoreDo t fun c i n => match i with
    | .csr f rd src csr imm => some fun s => s.csrAccess t c n f rd src csr imm (s.wordAt t c)
    | _ => none)

/-- FENCE_I (R499): an illegal-instruction exception. -/
def execFenceI (t : Nat) (s : State) : Result :=
  answerIf (s.hasTile t) s (s.onCoreDo t fun c i _ => match i with
    | .fenceI => some fun s => s.illegal t c (s.wordAt t c)
    | _ => none)

/-- WFI (R499): a no-op. -/
def execWfi (t : Nat) (s : State) : Result :=
  answerIf (s.hasTile t) s (s.onCoreDo t fun c i n => match i with
    | .wfi => some fun s => s.retire t c n
    | _ => none)

/-- MRET (R499). -/
def execMret (t : Nat) (s : State) : Result :=
  answerIf (s.hasTile t) s (s.onCoreDo t fun c i _ => match i with
    | .mret => some fun s => s.mret t c
    | _ => none)

/-- ECALL (R96, R499). -/
def execEcall (t : Nat) (s : State) : Result :=
  answerIf (s.hasTile t) s (s.onCoreDo t fun c i _ => match i with
    | .ecall => some fun s => s.trap t c xEcall 0
    | _ => none)

/-- EBREAK (R96, R499). -/
def execEbreak (t : Nat) (s : State) : Result :=
  answerIf (s.hasTile t) s (s.onCoreDo t fun c i _ => match i with
    | .ebreak => some fun s => s.trap t c xBreak (if Config.trapValue xBreak then (s.ctx t c).pc else 0)
    | _ => none)

/-- CONTEXT_WAKE (R95). -/
def execContextWake (t c : Nat) (s : State) : Result := answerIf (s.hasCtx t c) s (s.contextWake t c)

/-- TQ_ISSUE (R99, R100, R101). -/
def execTqIssue (t : Nat) (flaws : List Flaw) (s : State) : Result :=
  answerIf (s.hasTile t) s (s.onCoreDo t fun c i n => match i with
    | .tqIssue e rd rs1 => some fun s => s.tqIssue t c n e rd (s.x t c rs1) flaws
    | _ => none)

/-- TQ_FENCE (R99, R100). -/
def execTqFence (t : Nat) (s : State) : Result :=
  answerIf (s.hasTile t) s (s.onCoreDo t fun c i n => match i with
    | .tqFence e rs1 => some fun s => s.tqFence t c n e (s.x t c rs1)
    | _ => none)

/-- TQ_STAT (R99). -/
def execTqStat (t : Nat) (s : State) : Result :=
  answerIf (s.hasTile t) s (s.onCoreDo t fun c i n => match i with
    | .tqStat e rd => some fun s => s.tqStat t c n e rd
    | _ => none)

/-- SIG_WAIT (R99, R207, R210). -/
def execSigWait (t : Nat) (s : State) : Result :=
  answerIf (s.hasTile t) s (s.onCoreDo t fun c i n => match i with
    | .sigWait rd rs1 rs2 => some fun s => s.sigWait t c n rd (s.x t c rs1) (s.x t c rs2)
    | _ => none)

/-- SIG_TRY (R99, R207, R210). -/
def execSigTry (t : Nat) (s : State) : Result :=
  answerIf (s.hasTile t) s (s.onCoreDo t fun c i n => match i with
    | .sigTry rd rs1 rs2 => some fun s => s.sigTry t c n rd (s.x t c rs1) (s.x t c rs2)
    | _ => none)

/-- SIG_POST (R99, R213, R214, R216). -/
def execSigPost (t : Nat) (s : State) : Result :=
  answerIf (s.hasTile t) s (s.onCoreDo t fun c i n => match i with
    | .sigPost rs1 rs2 => some fun s => s.sigPost t c n (s.x t c rs1) (s.x t c rs2)
    | _ => none)

/-- BAR_ARRIVE (R99, R217, R224). -/
def execBarArrive (t : Nat) (s : State) : Result :=
  answerIf (s.hasTile t) s (s.onCoreDo t fun c i n => match i with
    | .barArrive rd rs1 => some fun s => s.barArrive t c n rd (s.x t c rs1)
    | _ => none)

/-- BAR_WAIT (R99, R224). -/
def execBarWait (t : Nat) (s : State) : Result :=
  answerIf (s.hasTile t) s (s.onCoreDo t fun c i n => match i with
    | .barWait rs1 rs2 => some fun s => s.barWait t c n (s.x t c rs1) (s.x t c rs2)
    | _ => none)

/-- TILE_HALT (R99). -/
def execTileHalt (t : Nat) (s : State) : Result :=
  answerIf (s.hasTile t) s (s.onCoreDo t fun c i n => match i with
    | .tileHalt => some fun s => (s.retire t c n).haltCtx t c
    | _ => none)

/-- TILE_YIELD (R99). -/
def execTileYield (t : Nat) (s : State) : Result :=
  answerIf (s.hasTile t) s (s.onCoreDo t fun c i n => match i with
    | .tileYield => some fun s => s.yieldCore t c n
    | _ => none)

/-- TILE_ID (R99). -/
def execTileId (t : Nat) (s : State) : Result :=
  answerIf (s.hasTile t) s (s.onCoreDo t fun c i n => match i with
    | .tileId rd => some fun s => s.result t c n rd (BitVec.ofNat 32 t)
    | _ => none)

/-- TILE_CTX (R99). -/
def execTileCtx (t : Nat) (s : State) : Result :=
  answerIf (s.hasTile t) s (s.onCoreDo t fun c i n => match i with
    | .tileCtx rd => some fun s => s.result t c n rd (BitVec.ofNat 32 c)
    | _ => none)

/-- TILE_TMARK (R21, R99). -/
def execTileTmark (t : Nat) (s : State) : Result :=
  answerIf (s.hasTile t) s (s.onCoreDo t fun c i n => match i with
    | .tileTmark rd => some fun s => s.tmark t c n rd
    | _ => none)

/-- TILE_TMARKH (R99). -/
def execTileTmarkh (t : Nat) (s : State) : Result :=
  answerIf (s.hasTile t) s (s.onCoreDo t fun c i n => match i with
    | .tileTmarkh rd => some fun s => s.result t c n rd (s.ctx t c).tmarkHi
    | _ => none)

/-- TILE_TIME (R99, R390). -/
def execTileTime (t : Nat) (s : State) : Result :=
  answerIf (s.hasTile t) s (s.onCoreDo t fun c i n => match i with
    | .tileTime rd => some fun s => s.timeLow t c n rd
    | _ => none)

/-- TILE_TIMEH (R99). -/
def execTileTimeh (t : Nat) (s : State) : Result :=
  answerIf (s.hasTile t) s (s.onCoreDo t fun c i n => match i with
    | .tileTimeh rd => some fun s => s.result t c n rd (s.ctx t c).timeHi
    | _ => none)

/-- TIDE_REL (R37, R50, R99). -/
def execTideRel (t : Nat) (s : State) : Result :=
  answerIf (s.hasTile t) s (s.onCoreDo t fun c i n => match i with
    | .tideRel rs1 => some fun s => s.tideRel t c n (s.x t c rs1)
    | _ => none)

/-- TILE_LD (R98, R99, R498). -/
def execTileLd (t : Nat) (flaws : List Flaw) (s : State) : Result :=
  answerIf (s.hasTile t) s (s.onCoreDo t fun c i n => match i with
    | .tileLd rd rs1 => some fun s => s.coreLoad t c n (s.x t c rs1).toNat rd 8 false true flaws
    | _ => none)

/-- TILE_SD (R98, R99, R498); x0 as rs2 stores zero. -/
def execTileSd (t : Nat) (flaws : List Flaw) (s : State) : Result :=
  answerIf (s.hasTile t) s (s.onCoreDo t fun c i n => match i with
    | .tileSd rs1 rs2 => some fun s =>
      let v := if rs2 = 0 then 0 else (s.x t c rs2).toNat + (s.x t c (rs2 + 1)).toNat * 2 ^ 32
      s.coreStore t c n (s.x t c rs1).toNat 8 v flaws
    | _ => none)

end Sys2Proof.Machine
end

