-- ==== Sys2Proof/Machine/Firmware.lean ====
section
/-! DEFINITION. What the firmware applies at order 7 of R407: the records of the shore configuration (R428). -/
namespace Sys2Proof.Machine

namespace State

/-- Record `i` of the shore payload in flash (R428): its BAR0 offset, the bytes of its access, and its value. -/
def shoreRecord (s : State) (i : Nat) : Nat × Nat × Nat :=
  let b := s.flashRead ((imageArea 1).1 + 0x140 + 16 * i) 16
  let w := spanNat b 0 8
  (bits w 25 0, if hasBit w 32 then 8 else 4, spanNat b 8 8)

/-- The number of records of the shore payload that its LENGTH holds. -/
def shoreRecords (s : State) : Nat :=
  let h := s.flashRead (imageArea 1).1 0x140
  min (spanNat h 0x108 4) ((spanNat h 8 4 - 64) / 16)

/-- The records from `i` on applied in order as writes of Lighthouse. -/
def applyRecords (s : State) (i : Nat) : Nat → State
  | 0 => s
  | n + 1 =>
    let (off, k, v) := s.shoreRecord i
    let s := s.access .lighthouse off fun s => s.writeMap .lighthouse off k (v % 2 ^ (8 * k))
    s.applyRecords (i + 1) n

/-- The shore configuration applied: its records, FLOW_K, the journal mounted, LINKS_EN, then GLB_BOOT_LOCK (R407
order 7, R447). -/
def shoreApply (s : State) : State :=
  if s.boot.order ≠ 6 ∨ !s.fwRuns then s
  else
    let k := spanNat (s.flashRead ((imageArea 1).1 + 0x104) 4) 0 4
    let s := s.applyRecords 0 s.shoreRecords
    let s := { s with lhs := { s.lhs with flowK := if k = 0 then 500 else k } }
    let s := s.mountJournal
    let s := (s.writeWhole .lighthouse ⟨.TWY_GLB_CTRL, 0, 0⟩ 1).writeWhole .lighthouse ⟨.GLB_BOOT_LOCK, 0, 0⟩ 1
    let s := s.setOrder 7 6
    { s with boot := { s.boot with retry := false } }

end State

end Sys2Proof.Machine
end

