-- ==== Sys2Proof/Machine/Pause.lean ====
section
/-! DEFINITION. What a pause saves to the context area and a resume restores from it (R254, R360 to R363, R382). -/
namespace Sys2Proof.Machine

namespace State

/-- The base of a tile's slot in the context area (R362). -/
def slotBase (s : State) (t : Nat) : Nat := s.fuses.ctxBase + t * 0x68000

/-- Where a byte of a tile lies in its slot (R362). -/
def slotOff (off : Nat) : Nat := if off < 0x50000 then off else off - 0x10000

/-- The addresses of tile memory that differ from zero, or may. -/
def tileCells (s : State) : List Nat :=
  (s.mem.cells.map (·.1)).filter (fun a => 0x200000000000 ≤ a && a < 0x300000000000) ++
  s.mem.zones.flatMap fun z => match z.region with
    | .span lo hi => if 0x200000000000 ≤ lo then (List.range (hi - lo)).map fun i => lo + i else []
    | .stack _ _ => []

/-- Every tile's memories copied into its slot: all other bytes of the slots are zero. -/
def saveTiles (s : State) (mem : Memory) : Memory :=
  s.tileCells.foldl (fun m a =>
    let t := (a - 0x200000000000) / 0x80000
    let off := (a - 0x200000000000) % 0x80000
    if t < s.nTiles ∧ tileOffValid off then m.write (s.slotBase t + slotOff off) (s.mem.read a) else m) mem

/-- Every tile's memories restored from its slot. -/
def restoreTiles (s : State) (mem : Memory) : Memory :=
  s.mem.cells.foldl (fun m c =>
    if c.1 < s.fuses.ctxBase ∨ s.fuses.ctxBase + 0x4E000000 ≤ c.1 then m
    else
      let t := (c.1 - s.fuses.ctxBase) / 0x68000
      let o := (c.1 - s.fuses.ctxBase) % 0x68000
      if t < s.nTiles ∧ o < 0x64000 then m.write (tileBase t + (if o < 0x50000 then o else o + 0x10000)) c.2 else m) mem

/-- Does a pause save a register: those of the tiles, of TIDE and of SIG, and the sequencer's state (R362, R382)? -/
def savedReg (r : Reg) : Bool := [Block.TILE, .ARR, .TSIG, .TIDE, .SIG].contains r.spec.block || r == .GLB_VOID_STATUS

/-- The registers that a pause saves, or all others, as stored. -/
def savedRegs (s : State) (keep : Bool) : SMap Nat := s.regs.filter fun e => savedReg (Fd.ofNat e.1.a).spec.reg == keep

/-- The registers of a block's instance as they read, at their offsets (R362). -/
def blockImage (s : State) (b : Block) (inst : Nat) (mem : Memory) (base : Nat) : Memory :=
  b.regs.foldl (fun m r =>
    (List.range r.spec.count).foldl (fun m i =>
      m.writeN (base + r.spec.off + i * r.spec.stride) (leBytes (r.spec.width / 8) (s.viewReg ⟨r, inst, i⟩))) m) mem

/-- The bytes of the context area, which lies across all stacks, counted at each controller (R244, R261). -/
def countArea (s : State) (f : Fd) : State :=
  (List.range 0x50000).foldl (fun s i => s.count f (stackOf s.fuses.nStacks (s.fuses.ctxBase + 4096 * i)) 0 4096) s

/-- The save (R362): the context area holds the header, the tiles' memories and the register images. Contexts, latches and
queues lie in the tile state beside the image of the window, and guards, surveys and nonces in areas of their own, in
layouts that the rule does not give: those bytes are free, and what they hold is kept as the saved state. -/
def saveJob (s : State) : State :=
  let base := s.fuses.ctxBase
  let (k, s) := (s.countArea .MEM_WR_BYTES_COUNT).draw
  let m := s.mem.clear (.span base (base + 0x50000000))
  let m := m.lose (.span (base + 0x4E300000) (base + 0x4F401000)) k
  let m := (List.range s.nTiles).foldl (fun m t => m.lose (.span (s.slotBase t + 0x64000) (s.slotBase t + 0x68000)) k) m
  let m := s.saveTiles m
  let m := (List.range s.nTiles).foldl (fun m t =>
    let at_ := s.slotBase t + 0x64000
    s.blockImage .TSIG t (s.blockImage .ARR t (s.blockImage .TILE t m at_) (at_ + 0x1000)) (at_ + 0x2000)) m
  let m := (List.range 4).foldl (fun m d => s.blockImage .TIDE d m (base + 0x4E100000 + d * 0x40000)) m
  let m := s.blockImage .SIG 0 m (base + 0x4E200000)
  let m := s.errRing.foldl (fun m e => m.writeN (base + 0x4E210000 + 64 * e.1.a) (wordBytes e.2)) m
  let m := m.writeN (base + 0x4E000000) (leBytes 32 (2 ^ 36 + 2 ^ 32 + s.rd .HST_JOB_TAG_JOB + s.tidemark * 2 ^ 64 +
    s.time.toNat * 2 ^ 128 + s.attempt * 2 ^ 192))
  { s with
    mem := m
    hst := { s.hst with saved := some {
      regs := s.savedRegs true, ctxs := s.ctxs, engines := s.engines, arrays := s.arrays, current := s.current
      waiters := s.waiters, nonces := s.nonces, xferSeqs := s.xferSeqs, tctxs := s.tctxs, books := s.books
      shingles := s.shingles, guards := s.guards, packets := s.packets, heldPackets := s.heldPackets, bars := s.bars
      senses := s.senses, tileSenses := s.tileSenses, holdQueue := s.holdQueue, entry := s.entry
      seqReleased := s.seqReleased, cause := s.cause, voidGate := s.voidGate
      errRing := s.errRing } } }

/-- Orders 4 and 5 of R360: units past SOP are complete, and the save is made. -/
def pauseUnits (s : State) : State :=
  if s.jobState ≠ jobPausing ∨ s.hst.order ≠ 4 ∨ !s.unitsDone then s
  else let s := s.saveJob; { s with hst := { s.hst with order := 5 } }

/-- The saved state restored (R363). -/
def restoreJob (s : State) : State :=
  match s.hst.saved with
  | none => s
  | some v =>
    let m := (List.range s.nTiles).foldl (fun m t => m.clear (.span (tileBase t) (tileBase t + 0x80000))) s.mem
    let s := { s with
      mem := s.restoreTiles m
      ctxs := v.ctxs, engines := v.engines, arrays := v.arrays, current := v.current, waiters := v.waiters
      nonces := v.nonces, xferSeqs := v.xferSeqs, tctxs := v.tctxs, books := v.books, shingles := v.shingles
      guards := v.guards, packets := v.packets, heldPackets := v.heldPackets, bars := v.bars, senses := v.senses
      tileSenses := v.tileSenses, holdQueue := v.holdQueue, entry := v.entry, seqReleased := v.seqReleased, cause := v.cause
      voidGate := v.voidGate, errRing := v.errRing }
    v.regs.foldl (fun s e => { s with regs := SMap.insert s.regs e.1 e.2 }) { s with regs := s.savedRegs false }

/-- Does the header of the context area, its word 0, name the job that a resume asks for (R363)? -/
def headerNames (s : State) (w0 : Nat) : Bool := hasBit w0 36 && bits w0 31 0 == s.rd .HST_JOB_TAG_JOB

/-- Word 0 of the header as the restore reads it (R362, R363). -/
def readHeader (s : State) : State × Except Fail (List Byte) := s.readSpan saveReq (s.fuses.ctxBase + 0x4E000000) 8

/-- The lines of the context area that hold an uncorrectable error, lowest first. -/
def badArea (s : State) : Option (Nat × Nat) :=
  ((s.mem.bad.filter fun w => decide (s.fuses.ctxBase ≤ w.addr ∧ w.addr < s.fuses.memory)).mergeSort
    fun x y => decide (x.addr ≤ y.addr)).head?.map fun w => (w.addr, w.synd)

/-- The restore's reads of the context area (R244, R248, R363): it lies across all stacks, so that a controller behind a
shutter that is not open, or a line with an uncorrectable error, leaves it without data. -/
def readArea (s : State) : State × Option Fail :=
  if (List.range s.fuses.nStacks).any fun st => !s.isOpen kMemc st then (s, some .isolated)
  else match s.badArea with
    | some (a, y) => (s.memUncorrectable saveReq a y, some .memUe)
    | none => (s.countArea .MEM_RD_BYTES_COUNT, none)

/-- JOB_RESUME (R363). Where a controller refuses a read of the context area the command completes with 0x04, and the state
stays PAUSED (R347; DEDUCED, assumption 28). -/
def resumeJob (s : State) : State :=
  match s.headJob opResume with
  | none => s
  | some c =>
    if s.jobState = jobScouring then s
    else if s.jobState ≠ jobPaused then s.endJob c 0x01 0
    else match s.readHeader with
    | (t, .error f) => let t := t.hostFailed f (s.fuses.ctxBase + 0x4E000000); t.endJob c 0x04 (t.firstSeq s)
    | (t, .ok bs) =>
      if !s.headerNames (leNat bs) then t.endJob c 0x01 0
      else match t.readArea with
        | (t, some f) => let t := t.hostFailed f s.fuses.ctxBase; t.endJob c 0x04 (t.firstSeq s)
        | (t, none) => t.restoreJob.goOn.endJob c 0 0

end State

end Sys2Proof.Machine
end

