-- ==== Sys2Proof/Machine/HostCommands.lean ====
section
/-! DEFINITION. The commands of the host interface and the job sequencer (spec/13_host_jobs.md). -/
namespace Sys2Proof.Machine

namespace State

/-- NOP: the command of a queue that starts next completes, where it is one (R346, R348). -/
def startNop (s : State) (q : Nat) : State :=
  match s.takeStarted q opNop with
  | none => s
  | some (c, s) => s.complete c 0x00 0

/-- The package has 64 queue pairs and 16 ferries (R345, R350). -/
def hasQueue (q : Nat) : Bool := decide (q < 64)

def hasFerry (ch : Nat) : Bool := decide (ch < 16)

end State

open State

/-- CONFIG_REQUEST (R338). -/
def execConfigRequest (s : State) : Result := answer s s.configRequest

/-- FUNCTION_LEVEL_RESET (R338, R364). -/
def execFunctionLevelReset (s : State) : Result := answer s s.functionReset

/-- BAR2_ACCESS (R341, R342). -/
def execBar2Access (off len : Nat) (data : Option (List Byte)) (s : State) : Result := answer s (s.bar2 off len data)

/-- BAR2_STALLED_READ_COMPLETE (R342). -/
def execBar2StalledReadComplete (s : State) : Result := answer s s.bar2Resume

/-- HOST_SIG_WRITE: a write of HST_HOST_SIG.VECTOR (R344). -/
def execHostSigWrite (src : Source) (vector : Nat) (s : State) : Result :=
  answerIf (s.hasSource src) s (s.writeWhole src ⟨.HST_HOST_SIG, 0, 0⟩ vector)

/-- SQ_TAIL_WRITE: a write of HST_SQ_TAIL (R345, R349). -/
def execSqTailWrite (src : Source) (q value : Nat) (s : State) : Result :=
  answerIf (s.hasSource src && hasQueue q) s (s.writeWhole src ⟨.HST_SQ_TAIL, 0, q⟩ value)

/-- CQ_HEAD_WRITE: a write of HST_CQ_HEAD (R345, R349). -/
def execCqHeadWrite (src : Source) (q value : Nat) (s : State) : Result :=
  answerIf (s.hasSource src && hasQueue q) s (s.writeWhole src ⟨.HST_CQ_HEAD, 0, q⟩ value)

/-- QUEUE_CFG_WRITE: a write of HST_Q_CFG (R345, R369). -/
def execQueueCfgWrite (src : Source) (q value : Nat) (s : State) : Result :=
  answerIf (s.hasSource src && hasQueue q) s (s.writeWhole src ⟨.HST_Q_CFG, 0, q⟩ value)

/-- SUBMISSION_FETCH (R345, R346, R348). -/
def execSubmissionFetch (q : Nat) (s : State) : Result := answerIf (hasQueue q) s (s.fetch q)

/-- NOP (R346). -/
def execNop (q : Nat) (s : State) : Result := answerIf (hasQueue q) s (s.startNop q)

/-- FERRY (R350 to R352). `link`: the host returns an error for the ferry's data. -/
def execFerry (q : Nat) (flaws : List Flaw) (link : Bool) (s : State) : Result :=
  answerIf (hasQueue q) s (s.startFerry q flaws link)

/-- FERRY_COMPLETE (R347, R353). -/
def execFerryComplete (ch : Nat) (s : State) : Result := answerIf (hasFerry ch) s (s.completeFerry ch)

/-- JOB_OPEN (R355, R356). `link`: the host returns an error for the manifest. -/
def execJobOpen (link : Bool) (s : State) : Result := answer s (s.openJob link)

/-- JOB_START (R7, R358). -/
def execJobStart (s : State) : Result := answer s s.startJob

/-- JOB_PAUSE (R360). -/
def execJobPause (s : State) : Result := answer s s.pauseJob

/-- PAUSE_DRAINED (R360, R362, R382). -/
def execPauseDrained (s : State) : Result := answer s s.pauseDrained

/-- PAUSE_UNITS_DONE (R360, R362). -/
def execPauseUnitsDone (s : State) : Result := answer s s.pauseUnits

/-- PAUSE_SAVE_DONE (R360, R362). -/
def execPauseSaveDone (s : State) : Result := answer s s.pauseSaved

/-- PAUSE_TIMEOUT (R361). -/
def execPauseTimeout (s : State) : Result := answer s s.pauseTimeout

/-- JOB_RESUME (R363). -/
def execJobResume (s : State) : Result := answer s s.resumeJob

/-- JOB_KILL (R354, R364). -/
def execJobKill (s : State) : Result := answer s s.killJob

/-- SCOUR_TILES_DONE (R364, R397). -/
def execScourTilesDone (s : State) : Result := answer s s.scourTilesDone

/-- SCOUR_COMPLETE (R364, R436). -/
def execScourComplete (s : State) : Result := answer s s.scourDone

/-- RECOVERY_CHUNK: a write of HST_RCV_CTRL (R368). -/
def execRecoveryChunk (src : Source) (value : Nat) (s : State) : Result :=
  answerIf (s.hasSource src) s (s.writeWhole src ⟨.HST_RCV_CTRL, 0, 0⟩ value)

/-- RECOVERY_CHUNK_WRITTEN (R368). -/
def execRecoveryChunkWritten (s : State) : Result := answer s s.chunkWritten

/-- RECOVERY_VERIFY_DONE (R368). -/
def execRecoveryVerifyDone (s : State) : Result := answer s s.recoveryVerified

end Sys2Proof.Machine
end

