-- ==== Sys2Proof/Machine/JournalCommands.lean ====
section
/-! DEFINITION. The commands of the strandline journal, of maintenance and of the flash (spec/17_journal_calibration.md). -/
namespace Sys2Proof.Machine

namespace State

/-- The value of a write of JRN_MAINT_REQ that asks for one thing. -/
def maintValue (f : Fd) (a i param : Nat) : Nat :=
  2 ^ f.spec.lo + a % 8 * 2 ^ 16 + param % 256 * 2 ^ 8 + i % 256

end State

/-- JRN_READ (R445, R454). -/
def execJrnRead (s : State) : Result := answer s s.jrnRead

/-- JRN_WRITE (R444, R449, R451, R454). -/
def execJrnWrite (s : State) : Result := answer s s.jrnWrite

/-- JRN_DELETE (R444, R454). -/
def execJrnDelete (s : State) : Result := answer s s.jrnDelete

/-- RESTORE_FACTORY (R453). -/
def execRestoreFactory (s : State) : Result := answer s s.restoreFactory

/-- JRN_COMPACT (R454). -/
def execJrnCompact (s : State) : Result := answer s s.jrnCompact

/-- MAINT_START (R454, R458). -/
def execMaintStart (s : State) : Result := answer s s.maintStart

/-- MAINT_CANCEL (R454, R460). -/
def execMaintCancel (s : State) : Result := answer s s.maintCancel

/-- OPTION_WRITE (R454). -/
def execOptionWrite (s : State) : Result := answer s s.optionWrite

/-- OPTION_COMMIT (R455). -/
def execOptionCommit (s : State) : Result := answer s s.optionCommit

/-- MAINT_LOG_READ (R454). -/
def execMaintLogRead (s : State) : Result := answer s s.maintLogRead

/-- FLASH_COMMAND (R441, R442, R472, R473). -/
def execFlashCommand (who : FlashSource) (addr : Nat) (op : FlashOp) (s : State) : Result :=
  answer s (s.flashFrom who addr op)

/-- START: a write of JRN_MAINT_REQ with START (R456, R458). -/
def execStart (src : Source) (a i param : Nat) (s : State) : Result :=
  answerIf (s.hasSource src) s
    (s.writeWhole src ⟨.JRN_MAINT_REQ, 0, 0⟩ (State.maintValue .JRN_MAINT_REQ_START a i param))

/-- CANCEL: a write of JRN_MAINT_REQ with CANCEL (R460). -/
def execCancel (src : Source) (a i param : Nat) (s : State) : Result :=
  answerIf (s.hasSource src) s
    (s.writeWhole src ⟨.JRN_MAINT_REQ, 0, 0⟩ (State.maintValue .JRN_MAINT_REQ_CANCEL a i param))

/-- MAINT_SCHEDULE (R459). -/
def execMaintSchedule (s : State) : Result := answer s s.mSchedule

/-- MAINT_END (R444, R456, R457, R460): instance `i` of activity `a` ends with the outcome `last` for `reason`; `recs` are
the calibration records that it appends, and `vals` the results it measured. -/
def execMaintEnd (a i last reason : Nat) (recs : List (Nat × List Nat)) (vals : List Nat) (s : State) : Result :=
  answer s (s.mEnd a i last reason recs vals)

/-- MAINT_QUEUE_TIMEOUT (R459). -/
def execMaintQueueTimeout (a i : Nat) (s : State) : Result := answer s (s.mTimeoutOf a i)

/-- EYE_SCAN_TIMER (R461). -/
def execEyeScanTimer (s : State) : Result := answer s s.eyeScans

/-- COMPACTION_START (R450). -/
def execCompactionStart (s : State) : Result := answer s s.compactionStart

/-- COMPACTION_COMMIT (R450, R451). -/
def execCompactionCommit (s : State) : Result := answer s s.compactionCommit

end Sys2Proof.Machine
end

