-- ==== Sys2Proof/Machine/LighthouseCommands.lean ====
section
/-! DEFINITION. The commands of Lighthouse and of the limits of power and heat (spec/16_lighthouse_security.md). -/
namespace Sys2Proof.Machine

/-- MB_REQUEST: a write of 1 to LHS_MB_CTRL.REQ (R413). -/
def execMbRequest (src : Source) (s : State) : Result :=
  answerIf (s.hasSource src) s (s.writeField src ⟨.LHS_MB_CTRL, 0, 0⟩ .LHS_MB_CTRL_REQ 1)

/-- GET_VERSION (R414). -/
def execGetVersion (s : State) : Result := answer s s.getVersion

/-- GET_TELEMETRY (R414). -/
def execGetTelemetry (s : State) : Result := answer s s.getTelemetry

/-- SET_TJ_TARGET (R414). -/
def execSetTjTarget (target : Nat) (s : State) : Result := answer s (s.setTjTarget target)

/-- SET_VALVE_TARGET (R414). -/
def execSetValveTarget (target : Nat) (s : State) : Result := answer s (s.setValveTarget target)

/-- POWER_OFF (R414). -/
def execPowerOff (s : State) : Result := answer s s.powerOff

/-- POWER_OFF_DELAY (R414, R479). -/
def execPowerOffDelay (s : State) : Result := answer s s.powerOffDelay

/-- MGMT_SEND (R414, R424). -/
def execMgmtSend (loc len : Nat) (payload : List Nat) (s : State) : Result := answer s (s.mgmtSend loc len payload)

/-- MGMT_PACKET_RECEIVE (R283, R376, R424). `tagOk`: the packet's tag verifies. -/
def execMgmtPacketReceive (words : List Nat) (x : Sealed) (s : State) : Result :=
  answer s (s.takeMgmt words (s.tagOk x))

/-- TELEMETRY_SAMPLE (R415, R417, R439). -/
def execTelemetrySample (sample : Sample) (s : State) : Result := answer s (s.telemetrySample sample)

/-- GOV_LIMIT_WRITE: a write of LHS_GOV_LIMIT (R417). -/
def execGovLimitWrite (src : Source) (value : Nat) (s : State) : Result :=
  answerIf (s.hasSource src) s (s.writeWhole src ⟨.LHS_GOV_LIMIT, 0, 0⟩ value)

/-- CAP_SAMPLE (R418). -/
def execCapSample (power : Nat) (s : State) : Result := answer s (s.capSample power)

/-- THERMAL_TRIP (R419). -/
def execThermalTrip (die sensor : Nat) (s : State) : Result := answerIf (s.tripSensor die sensor) s (s.thermalTrip die sensor)

/-- VOLTAGE_REQUEST (R420). -/
def execVoltageRequest (rail mv : Nat) (s : State) : Result := answerIf (decide (rail < 12)) s (s.voltageRequest rail mv)

/-- VALVE_LOOP (R421). -/
def execValveLoop (s : State) : Result := answer s s.valveLoop

/-- FLOW_WINDOW (R422). -/
def execFlowWindow (pulses : Nat) (s : State) : Result := answer s (s.flowWindow pulses)

/-- INPUT_UNDERVOLTAGE (R485). -/
def execInputUndervoltage (low : Bool) (s : State) : Result := answer s (s.inputVoltage low)

end Sys2Proof.Machine
end

