-- ==== Sys2Proof/Machine/LinkCommands.lean ====
section
/-! DEFINITION. The commands of the Tideway ports and of their sluice tables (spec/10_tideway.md,
spec/11_arbitration.md). A command after which a port may no longer be UP ends its eye scan or retrain (R460). -/
namespace Sys2Proof.Machine

open State

/-- DATA_FLIT_RECEIVE (R275 to R277, R282, R298). -/
def execDataFlitReceive (p : Nat) (flit : Flit) (s : State) : Result := answerIf (hasPort p) s ((s.takeFlit p flit).endScans p)

/-- GCM_GROUP_VERIFY (R48, R220, R283). -/
def execGcmGroupVerify (group : Group) (p : Nat) (x : Sealed) (s : State) : Result :=
  answerIf (hasPort p) s (s.verifyGroup group p (s.tagOk x))

/-- ACK (R275, R277, R279). -/
def execAck (p seq : Nat) (totals : List Nat) (s : State) : Result := answerIf (hasPort p) s (s.takeAckRecord p seq totals)

/-- NAK (R277, R278). -/
def execNak (p seq : Nat) (s : State) : Result := answerIf (hasPort p) s ((s.takeNak p seq).endScans p)

/-- TIME (R279, R290). -/
def execTime (p sent arrived mine : Nat) (s : State) : Result := answerIf (hasPort p) s (s.takeTime p sent arrived mine)

/-- IDENT (R287, R288). -/
def execIdent (p loc kind port quads serial epoch : Nat) (totals : List Nat) (s : State) : Result :=
  answerIf (hasPort p) s ((s.takeIdent p loc kind port quads serial epoch totals).endScans p)

/-- OFF (R294). -/
def execOff (p : Nat) (s : State) : Result := answerIf (hasPort p) s ((s.takeOff p).endScans p)

/-- REPLAY_TIMEOUT (R277, R278). -/
def execReplayTimeout (p : Nat) (s : State) : Result := answerIf (hasPort p) s ((s.replay p).endScans p)

/-- ACK_SEND_TIMER (R275, R279). -/
def execAckSendTimer (p : Nat) (s : State) : Result := answerIf (hasPort p) s (s.sendAck p)

/-- IDENT_REPEAT (R287). -/
def execIdentRepeat (p : Nat) (s : State) : Result := answerIf (hasPort p) s (s.repeatIdent p)

/-- TIME_SEND (R290). -/
def execTimeSend (p : Nat) (s : State) : Result := answerIf (hasPort p) s (s.sendTime p)

/-- TRAINING_STAGE_DONE (R287). -/
def execTrainingStageDone (p : Nat) (stage : Training) (s : State) : Result :=
  answerIf (hasPort p) s ((s.stageDone p stage).endScans p)

/-- TRAIN_TIMEOUT (R287). -/
def execTrainTimeout (p : Nat) (s : State) : Result := answerIf (hasPort p) s ((s.trainTimeout p).endScans p)

/-- SIGNAL_DETECT (R287). -/
def execSignalDetect (p : Nat) (s : State) : Result := answerIf (hasPort p) s (s.signalDetect p)

/-- LANE_LOCK_LOSS (R297). -/
def execLaneLockLoss (p : Nat) (s : State) : Result := answerIf (hasPort p) s ((s.laneLoss p).endScans p)

/-- PORT_ENABLE_WRITE: a write of TWY_PORT_CTRL.ENABLE (R293, R295, R296). -/
def execPortEnableWrite (src : Source) (p : Nat) (on : Bool) (s : State) : Result :=
  answerIf (s.hasSource src) s (s.writeField src ⟨.TWY_PORT_CTRL, p, 0⟩ .TWY_PORT_CTRL_ENABLE (b2n on))

/-- RETRAIN: a write of 1 to TWY_PORT_CTRL.RETRAIN (R293, R296). -/
def execRetrain (src : Source) (p : Nat) (s : State) : Result :=
  answerIf (s.hasSource src) s (s.writeField src ⟨.TWY_PORT_CTRL, p, 0⟩ .TWY_PORT_CTRL_RETRAIN 1)

/-- DRAIN_COMPLETE (R294, R295). -/
def execDrainComplete (p : Nat) (s : State) : Result := answerIf (hasPort p) s (s.drainDone p)

/-- DRAIN_TIMEOUT (R294). -/
def execDrainTimeout (p : Nat) (s : State) : Result := answerIf (hasPort p) s (s.drainTimeout p)

/-- CREDIT_ALLOT_WRITE: a write of TWY_PORT_CREDIT (R276). -/
def execCreditAllotWrite (src : Source) (p value : Nat) (s : State) : Result :=
  answerIf (s.hasSource src) s (s.writeWhole src ⟨.TWY_PORT_CREDIT, p, 0⟩ value)

/-- TWY_XFER_REQUEST: the eight words of TWY_XFER, the last one written (R285). -/
def execTwyXferRequest (src : Source) (words : List Nat) (s : State) : Result :=
  answerIf (s.hasSource src) s
    (s.writeWhole src ⟨.TWY_XFER, 0, 0⟩ ((words.take 8).zipIdx.foldl (fun v x => v + x.1 % 2 ^ 64 * 2 ^ (64 * x.2)) 0))

/-- XFER_SEND (R286). -/
def execXferSend (d : Nat) (s : State) : Result := answerIf (s.hasDie d) s (s.sendXfer d)

/-- XFER_LSIG (R285). -/
def execXferLsig (tag : Nat) (s : State) : Result := answer s (s.xferDone tag)

/-- TRANSIT_FORWARD (R291, R292). -/
def execTransitForward (p loc icls flits : Nat) (x : Transit) (s : State) : Result :=
  answerIf (hasPort p) s (s.forwardTransit p loc icls flits x)

/-- SLOT_ADVANCE (R308, R309, R312, R314). -/
def execSlotAdvance (slot : SlotTime) (s : State) : Result :=
  answerIf (hasPort slot.port) s (s.advanceSlot slot.port slot.idle)

/-- COMMIT: a write of 1 to SLU_CTRL.COMMIT (R314, R315). -/
def execCommit (src : Source) (p : Nat) (s : State) : Result :=
  answerIf (s.hasSource src) s (s.writeField src ⟨.SLU_CTRL, p, 0⟩ .SLU_CTRL_COMMIT 1)

/-- SLU_RANK_WRITE: a write of SLU_RANK (R316). -/
def execSluRankWrite (src : Source) (p value : Nat) (s : State) : Result :=
  answerIf (s.hasSource src) s (s.writeWhole src ⟨.SLU_RANK, p, 0⟩ value)

/-- SLU_SHADOW_WRITE: a write of SLU_SHADOW (R314). -/
def execSluShadowWrite (src : Source) (p i value : Nat) (s : State) : Result :=
  answerIf (s.hasSource src) s (s.writeWhole src ⟨.SLU_SHADOW, p, i⟩ value)

end Sys2Proof.Machine
end

