-- ==== Sys2Proof/Machine/MemoryCommands.lean ====
section
/-! DEFINITION. The commands of the memory controllers and of arbitration (spec/09_memory.md, spec/11_arbitration.md). -/
namespace Sys2Proof.Machine

namespace State

/-- MEM_ACCESS: a read, or a write of `data`, of stack memory by a requester (R243, R245 to R249, R254, R255). While a
stack it reaches is being zeroed it waits (R258). -/
def memAccess (s : State) (req : Req) (a n : Nat) (data : Option (List Byte)) (flaws : List Flaw) : State :=
  match s.target a with
  | .stack | .hole =>
    if s.stalled a n then s
    else
      let s := s.place req flaws
      match data with
      | none => (s.readSpan req a n).1
      | some bs => (s.writeSpan req a (bs.take n)).1
  | _ => s

/-- May a zero fill of the scour or of the porter's sequence start now (R257, R259, R364)? -/
def zeroDue (s : State) : ZeroSource → Bool
  | .scour => s.jobState == jobScouring
  | .porter => match s.hst.jobs with
    | c :: _ => s.hst.active && decide (c.op = opOpen) && s.flag .MEM_XTS_KEYED
    | [] => false
  | .other => false

/-- MEM_ZERO_START (R258, R259). -/
def zeroStart (s : State) (who : ZeroSource) (st : Nat) : State :=
  if who = .other then s.setErr 0x09 2 st
  else if s.zeroDue who ∧ s.isOpen kMemc st then s.zeroStack st
  else s

end State

/-- MEM_ACCESS (R243, R245 to R249, R254, R255, R258). -/
def execMemAccess (req : Req) (addr len : Nat) (data : Option (List Byte)) (flaws : List Flaw) (s : State) : Result :=
  answer s (s.memAccess req addr len data flaws)

/-- REFRESH (R250): it moves no state but time. -/
def execRefresh (st channel _bank : Nat) (s : State) : Result :=
  answerIf (s.hasStack st && decide (channel < 16)) s s

/-- REFRESH_RATE_CHANGE (R250). -/
def execRefreshRateChange (st : Nat) (temp : Int) (s : State) : Result := answerIf (s.hasStack st) s (s.setRefresh st temp)

/-- SCRUB_READ (R251, R252). -/
def execScrubRead (st : Nat) (found : Found) (s : State) : Result := answerIf (s.hasStack st) s (s.scrubRead st found)

/-- MEM_ZERO_START (R258, R259). -/
def execMemZeroStart (who : ZeroSource) (st : Nat) (s : State) : Result := answerIf (s.hasStack st) s (s.zeroStart who st)

/-- ZERO_FILL_DONE (R258, R356, R364). -/
def execZeroFillDone (st : Nat) (s : State) : Result := answerIf (s.hasStack st) s (s.zeroDone st)

/-- MEM_RGN_MIRROR_WRITE: a write of MEM_RGN_MIRROR (R255, R262). -/
def execMemRgnMirrorWrite (src : Source) (value : Nat) (s : State) : Result :=
  answerIf (s.hasSource src) s (s.writeWhole src ⟨.MEM_RGN_MIRROR, 0, 0⟩ value)

/-- MIRROR_DISARM (R255). -/
def execMirrorDisarm (s : State) : Result := answer s s.disarmMirror

/-- BACKOFF_EXPIRY (R304). -/
def execBackoffExpiry (point : Point) (who : Nat) (cycle : ArbCycle) (s : State) : Result :=
  answerIf (s.hasPoint point) s (s.presentAgain point who cycle)

/-- ARB_STARVATION (R306, R317). -/
def execArbStarvation (point : Point) (s : State) : Result := answerIf (s.hasPoint point) s (s.starve point)

end Sys2Proof.Machine
end

