-- ==== Sys2Proof/Machine/PorterCommands.lean ====
section
/-! DEFINITION. The commands of the porter (spec/16_lighthouse_security.md, R425 to R437, R440). -/
namespace Sys2Proof.Machine

namespace State

/-- A write of 1 to one command bit of SEC_CTRL. -/
def secWrite (s : State) (src : Source) (f : Fd) : State :=
  s.writeWhole src ⟨.SEC_CTRL, 0, 0⟩ (2 ^ f.spec.lo)

end State

/-- SEC_JOB_SECRET_WRITE: a write of a word of SEC_JOB_SECRET (R427). -/
def execSecJobSecretWrite (src : Source) (i value : Nat) (s : State) : Result :=
  answerIf (s.hasSource src) s (s.writeWhole src ⟨.SEC_JOB_SECRET, 0, i⟩ value)

/-- QUOTE (R433, R434, R437). -/
def execQuote (src : Source) (s : State) : Result := answerIf (s.hasSource src) s (s.secWrite src .SEC_CTRL_QUOTE)

/-- QUOTE_READY (R434). -/
def execQuoteReady (s : State) : Result := answer s s.quoteReady

/-- UNLOCK (R435 to R437). -/
def execUnlock (src : Source) (s : State) : Result := answerIf (s.hasSource src) s (s.secWrite src .SEC_CTRL_UNLOCK)

/-- ENROL (R431, R437). -/
def execEnrol (src : Source) (s : State) : Result := answerIf (s.hasSource src) s (s.secWrite src .SEC_CTRL_ENROL)

/-- REKEY (R427, R437). -/
def execRekey (src : Source) (s : State) : Result := answerIf (s.hasSource src) s (s.secWrite src .SEC_CTRL_REKEY)

/-- SVN_FW (R430, R437). -/
def execSvnFw (src : Source) (s : State) : Result := answerIf (s.hasSource src) s (s.secWrite src .SEC_CTRL_SVN_FW)

/-- SVN_SHORE (R430, R437). -/
def execSvnShore (src : Source) (s : State) : Result := answerIf (s.hasSource src) s (s.secWrite src .SEC_CTRL_SVN_SHORE)

/-- CLEAR_SECRET (R440). -/
def execClearSecret (src : Source) (s : State) : Result :=
  answerIf (s.hasSource src) s (s.secWrite src .SEC_CTRL_CLEAR_SECRET)

/-- SEC_COMMAND_DONE (R425, R430, R431, R437): the one command that blows fuses. -/
def execSecCommandDone (s : State) : Result := .next { s.secDone with pending := s.pending }

/-- ENTROPY_FAIL (R437). -/
def execEntropyFail (s : State) : Result := answer s s.entropyFails

/-- ENTROPY_PASS (R437). -/
def execEntropyPass (s : State) : Result := answer s s.entropyPasses

end Sys2Proof.Machine
end

