-- ==== Sys2Proof/Machine/ResetCommands.lean ====
section
/-! DEFINITION. The commands of clocks, resets, shutters and the boot (spec/15_clocks_reset_boot.md). -/
namespace Sys2Proof.Machine

namespace State

/-- HOLD_WRITE: a write of the register that holds the hold bit of a block, which changes that bit alone (R401). -/
def holdWrite (s : State) (src : Source) (kind i : Nat) (on : Bool) : State :=
  let (f, idx, b) := holdFd kind i
  let r : RegRef := ⟨f.spec.reg, 0, idx⟩
  s.writeWhole src r (withBits (s.heldValue r) b b (b2n on))

end State

/-- PWROK_FALL (R393, R394, R407). -/
def execPwrokFall (s : State) : Result := answer s s.pwrokFall

/-- PWROK_RISE (R394, R407): the strap pins, the level that HS_EN takes, and whether production test access is given
(R473). -/
def execPwrokRise (pins : Nat) (hsEnDef prodtest : Bool) (s : State) : Result := answer s (s.pwrokRise pins hsEnDef prodtest)

/-- PERST_ASSERT (R393, R394). -/
def execPerstAssert (s : State) : Result := answer s s.perstAssert

/-- PERST_RELEASE (R396, R407). -/
def execPerstRelease (s : State) : Result := answer s s.perstRelease

/-- TRAY_RST_ASSERT (R393, R394). -/
def execTrayRstAssert (s : State) : Result := answer s s.trayAssert

/-- TRAY_RST_RELEASE (R396, R407). -/
def execTrayRstRelease (s : State) : Result := answer s s.trayRelease

/-- PKG: a write of 1 to RST_CTRL.PKG (R393, R394, R398). -/
def execPkg (src : Source) (s : State) : Result :=
  answerIf (s.hasSource src) s (s.writeField src ⟨.RST_CTRL, 0, 0⟩ .RST_CTRL_PKG 1)

/-- COMPUTE: a write of RST_CTRL.COMPUTE (R393, R397, R398). -/
def execCompute (src : Source) (on : Bool) (s : State) : Result :=
  answerIf (s.hasSource src) s (s.writeField src ⟨.RST_CTRL, 0, 0⟩ .RST_CTRL_COMPUTE (b2n on))

/-- HOLD_WRITE: a write of a hold bit (R398, R399, R401). Kinds are those of R402. -/
def execHoldWrite (src : Source) (kind i : Nat) (on : Bool) (s : State) : Result :=
  answerIf (s.hasSource src && s.hasBlock kind i) s (s.holdWrite src kind i on)

/-- SHUTTER_CLOSED (R399, R401, R402). `isolated` counts the transfers that ended with ERR_ISOLATED. -/
def execShutterClosed (kind i isolated : Nat) (s : State) : Result :=
  answerIf (s.hasBlock kind i) s (s.shutterClosed kind i isolated)

/-- SHUTTER_OPENED (R400). -/
def execShutterOpened (kind i : Nat) (s : State) : Result := answerIf (s.hasBlock kind i) s (s.shutterOpened kind i)

/-- FUSE_LOAD_DONE (R403, R404, R407, R432). -/
def execFuseLoadDone (s : State) : Result := answer s s.fuseLoadDone

/-- CLOCKS_LOCKED (R388, R407, R408). -/
def execClocksLocked (s : State) : Result := answer s s.clocksLocked

/-- PLL_UNLOCK (R389). -/
def execPllUnlock (domain : Nat) (s : State) : Result := answerIf (clockPresent s.fuses domain) s (s.pllUnlock domain)

/-- MEM_TRAIN_DONE (R243, R407, R408). -/
def execMemTrainDone (st : Nat) (ok : Bool) (s : State) : Result := answerIf (s.hasStack st) s (s.memTrainDone st ok)

/-- ROM_VERIFY_DONE (R407, R408, R429). -/
def execRomVerifyDone (s : State) : Result := answer s s.romVerified

/-- TILES_RELEASE (R366, R407). -/
def execTilesRelease (s : State) : Result := answer s s.tilesRelease

/-- SHORE_CONFIG_APPLY (R407, R428, R447). -/
def execShoreConfigApply (s : State) : Result := answer s s.shoreApply

/-- WATCHDOG_EXPIRY (R393, R412). -/
def execWatchdogExpiry (s : State) : Result := answer s s.watchdogExpiry

/-- RESET_PULSE_END (R393, R396). `pkg`: the software package reset's, else the watchdog's. -/
def execResetPulseEnd (pkg : Bool) (s : State) : Result := answer s (s.pulseEnd pkg)

/-- RRS_WINDOW_END (R338). -/
def execRrsWindowEnd (s : State) : Result := answer s s.rrsEnd

end Sys2Proof.Machine
end

