-- ==== Sys2Proof/Machine/ShingleCommands.lean ====
section
/-! DEFINITION. The commands of the survey units and the recoders (spec/07_shingle_codec.md). -/
namespace Sys2Proof.Machine

/-- SURVEY_OPEN: a write of SHG_SV_CTRL with OPEN (R186, R205). -/
def execSurveyOpen (src : Source) (st value : Nat) (s : State) : Result :=
  answerIf (s.hasSource src) s (s.writeWhole src ⟨.SHG_SV_CTRL, st, 0⟩ (setBit value 0))

/-- SURVEY_FEED: a write of SHG_SV_FEED (R186, R187, R190). -/
def execSurveyFeed (src : Source) (st value : Nat) (s : State) : Result :=
  answerIf (s.hasSource src) s (s.writeWhole src ⟨.SHG_SV_FEED, st, 0⟩ value)

/-- SURVEY_FEED_DONE (R187). -/
def execSurveyFeedDone (st : Nat) (s : State) : Result := answerIf (s.hasStack st) s (s.feedDone st)

/-- SURVEY_FINISH: a write of 1 to SHG_SV_CTRL.FINISH (R188, R190). -/
def execSurveyFinish (src : Source) (st : Nat) (s : State) : Result :=
  answerIf (s.hasSource src) s (s.writeField src ⟨.SHG_SV_CTRL, st, 0⟩ .SHG_SV_CTRL_FINISH 1)

/-- SURVEY_BOOKS_WRITTEN (R179, R188, R189). -/
def execSurveyBooksWritten (st : Nat) (s : State) : Result := answerIf (s.hasStack st) s (s.writeBooks st)

/-- SURVEY_PROGRESS_TIMEOUT (R190). -/
def execSurveyProgressTimeout (st : Nat) (s : State) : Result := answerIf (s.hasStack st) s (s.surveyStall st)

/-- RECODE_OPEN: a write of 1 to SHG_RC_CTRL.OPEN (R203, R204). -/
def execRecodeOpen (src : Source) (st : Nat) (s : State) : Result :=
  answerIf (s.hasSource src) s (s.writeField src ⟨.SHG_RC_CTRL, st, 0⟩ .SHG_RC_CTRL_OPEN 1)

/-- RECODE_FEED: a write of SHG_RC_FEED (R203, R205). -/
def execRecodeFeed (src : Source) (st value : Nat) (s : State) : Result :=
  answerIf (s.hasSource src) s (s.writeWhole src ⟨.SHG_RC_FEED, st, 0⟩ value)

/-- RECODE_SEGMENT_DONE (R203, R204). -/
def execRecodeSegmentDone (st : Nat) (s : State) : Result := answerIf (s.hasStack st) s (s.recodeDone st)

/-- RECODE_FINISH: a write of 1 to SHG_RC_CTRL.FINISH (R203). -/
def execRecodeFinish (src : Source) (st : Nat) (s : State) : Result :=
  answerIf (s.hasSource src) s (s.writeField src ⟨.SHG_RC_CTRL, st, 0⟩ .SHG_RC_CTRL_FINISH 1)

end Sys2Proof.Machine
end

