-- ==== Sys2Proof/Machine/Transfer.lean ====
section
/-! DEFINITION. What the transfer engines of a tile do (R102 to R107, R165 to R172, R198, R202): COPY, MCAST, EXPAND_W,
EXPAND_ACC, CONVERT and COMPRESS. A run is read whole before it is written. -/
namespace Sys2Proof.Machine

/-- An engine's failure: why, and the address it names (R105). -/
abbrev EngFail := Fail × Nat

namespace State

/-! ### Accesses of an engine -/

/-- The address at which an access of `n` bytes from `a` fails. -/
def failAt (s : State) (req : Req) (f : Fail) (a n : Nat) : Nat :=
  match f with
  | .tileUe | .memUe => ((s.firstBad a n).map (·.1)).getD a
  | .range => max a s.fuses.memory
  | .isolated => match s.target a with
    | .stack => (((spanLines a n).find? fun l => !s.reachesStack req (stackOf s.fuses.nStacks (64 * l))).map (64 * ·)).getD a
    | _ => a
  | .tileAddr => match s.target a with
    | .tile t off => if off < 0x50000 then tileBase t + 0x50000 else tileBase t + 0x74000
    | _ => a
  | .region => a

/-- `n` aligned 64-bit words of the register mirror read from BAR0 offset `off` on. -/
def readMirror (s : State) (src : Source) (off : Nat) : Nat → State × Except EngFail (List Byte)
  | 0 => (s, .ok [])
  | n + 1 =>
    match s.readMap src off 8 with
    | (s, .error f) => (s, .error (f, 0x300000000000 + off))
    | (s, .ok v) =>
      match s.readMirror src (off + 8) n with
      | (s, .error e) => (s, .error e)
      | (s, .ok bs) => (s, .ok (leBytes 8 v ++ bs))

/-- Aligned 64-bit words written into the register mirror. -/
def writeMirror64 (s : State) (src : Source) (off : Nat) (bs : List Byte) : Nat → State × Option EngFail
  | 0 => (s, none)
  | n + 1 =>
    match s.writeMap src off 8 (leNat (bs.take 8)) with
    | (s, some f) => (s, some (f, 0x300000000000 + off))
    | (s, none) => s.writeMirror64 src (off + 8) (bs.drop 8) n

/-- A read of a tile engine. -/
def engRead (s : State) (t e a n : Nat) : State × Except EngFail (List Byte) :=
  match s.target a with
  | .register off => s.readMirror (.engine t e) off (n / 8)
  | _ =>
    match s.readSpan (engineReq t e) a n with
    | (s, .ok bs) => (s, .ok bs)
    | (u, .error f) => (u, .error (f, s.failAt (engineReq t e) f a n))

/-- A write of a tile engine. -/
def engWrite (s : State) (t e a : Nat) (bs : List Byte) : State × Option EngFail :=
  match s.target a with
  | .register off => s.writeMirror64 (.engine t e) off bs (bs.length / 8)
  | _ =>
    match s.writeSpan (engineReq t e) a bs with
    | (s, none) => (s, none)
    | (u, some f) => (u, some (f, s.failAt (engineReq t e) f a bs.length))

/-- A descriptor that ends: completed, or failed at an address (R105). -/
def endRuns (s : State) (t e : Nat) (tiles : List Nat) : Option EngFail → State
  | none => s.endDesc t e 0 0 0 tiles
  | some (f, a) => s.failDesc t e f a

/-- The head of a transfer engine's queue that asks for operation `op` and is not refused. -/
def headOp (s : State) (t e op : Nat) : Option QEntry :=
  (s.headReady t e).filter fun q => decide (e ≤ eDrain) && Xd.op q.desc == op && !s.headRefused t e q

/-- Must a descriptor wait, for one of the spans it touches? -/
def anyStalled (s : State) (spans : List (Nat × Nat)) : Bool := spans.any fun x => s.stalled x.1 x.2

/-- The runs of a descriptor: source and destination of each (R102). -/
def runsOf (d : Nat) : List (Nat × Nat) :=
  (List.range (Xd.runs d)).map fun i => (Xd.src d + i * Xd.srcStride d, Xd.dst d + i * Xd.dstStride d)

/-- Runs done one after another, up to the first that fails. -/
def eachRun (s : State) (f : State → Nat × Nat → State × Option EngFail) : List (Nat × Nat) → State × Option EngFail
  | [] => (s, none)
  | r :: rs =>
    match f s r with
    | (s, some e) => (s, some e)
    | (s, none) => s.eachRun f rs

/-! ### COPY and MCAST (R103, R119) -/

/-- One run copied. -/
def copyRun (s : State) (t e n : Nat) (r : Nat × Nat) : State × Option EngFail :=
  match s.engRead t e r.1 n with
  | (s, .error x) => (s, some x)
  | (s, .ok bs) => s.engWrite t e r.2 bs

/-- COPY. -/
def copy (s : State) (t e : Nat) (flaws : List Flaw) : State :=
  match s.headOp t e Xd.oCopy with
  | none => s
  | some q =>
    let n := Xd.inner q.desc
    let rs := runsOf q.desc
    if s.anyStalled (rs.flatMap fun r => [(r.1, n), (r.2, n)]) then s
    else
      let (s, x) := (s.place (engineReq t e) flaws).eachRun (fun s r => s.copyRun t e n r) rs
      s.endRuns t e [] x

/-- Does a rectangle name a row above the logical rows, and so a logical ID that is not enabled (R119; DEDUCED,
assumption 21)? -/
def rectBad (s : State) (rect : Nat) : Bool :=
  decide (s.fuses.logicalRows ≤ bits rect 8 4) || decide (s.fuses.logicalRows ≤ bits rect 13 9)

/-- Does a destination tile refuse a multicast write of `n` bytes at an offset (R119)? DESIGN CHOICE (assumption 40): a
write that lies only in part in a range that R119 refuses is refused whole in that tile. -/
def mcastRefused (s : State) (u off n : Nat) : Bool := !tileSpanValid off n || decide (off < s.waterline u)

/-- A multicast write: each destination tile that refuses it, or lies behind a shutter that is not open, writes nothing,
and the write completes with the first failure (R119; DEDUCED, assumption 21). -/
def mcastWrite (s : State) (t e rect off : Nat) (bs : List Byte) : State × Option EngFail :=
  let start := if s.rectBad rect then some (Fail.tileAddr, tileBase s.nTiles + off) else none
  (s.fuses.rectTiles rect).foldl (fun (acc : State × Option EngFail) u =>
    let (s, x) := if s.mcastRefused u off bs.length then (acc.1, some (Fail.tileAddr, tileBase u + off))
      else acc.1.engWrite t e (tileBase u + off) bs
    (s, acc.2 <|> x)) (s, start)

/-- One run of a multicast. -/
def mcastRun (s : State) (t e rect n : Nat) (r : Nat × Nat) : State × Option EngFail :=
  match s.engRead t e r.1 n with
  | (s, .error x) => (s, some x)
  | (s, .ok bs) => s.mcastWrite t e rect r.2 bs

/-- The spans that a multicast of `n` bytes at an offset writes. -/
def mcastSpans (s : State) (rect off n : Nat) : List (Nat × Nat) :=
  (s.fuses.rectTiles rect).map fun u => (tileBase u + off, n)

/-- MCAST. -/
def mcast (s : State) (t e : Nat) (flaws : List Flaw) : State :=
  match s.headOp t e Xd.oMcast with
  | none => s
  | some q =>
    let n := Xd.inner q.desc
    let rect := Xd.rect q.desc
    let rs := runsOf q.desc
    if s.anyStalled (rs.flatMap fun r => (r.1, n) :: s.mcastSpans rect r.2 n) then s
    else
      let (s, x) := (s.place (engineReq t e) flaws).eachRun (fun s r => s.mcastRun t e rect n r) rs
      s.endRuns t e (s.fuses.rectTiles rect) x

/-! ### EXPAND_W and EXPAND_ACC (R103, R107, R198) -/

/-- A fetch that has failed with ERR_SHINGLE: a resend slot armed, the block asked for again, and the descriptor ended
with its block index (R60, R105, R107). A block read in place (`inPlace`) voids the step: nobody is asked, and the void
clears the slot that was armed (R198). -/
def shingleFailed (s : State) (t : Nat) (h : List Nat) (acc : Bool) (j addr : Nat) (inPlace : Bool) : State :=
  let s := s.armResend t (Hdr.strand h) (Hdr.dir h) (Hdr.lap h) addr
  let s := if inPlace then
      match s.matchSlot t (Hdr.strand h) (Hdr.dir h) (Hdr.lap h) with
      | some i => s.disarmSlot t i
      | none => s
    else s.askAgain (Hdr.strand h) (Hdr.dir h) (Hdr.lap h) acc j
  s.endDesc t eFeedB 0x01 j addr []

/-- The tide context whose store a segment's blocks use, by its header; none where no valid context carries its strand and
direction (R192). -/
def headCtx (s : State) (h : List Nat) : Option (Nat × Nat) := s.tideFind (Hdr.strand h) (Hdr.dir h)

/-- One weight block expanded and multicast: `none` when it is done, or the state in which the descriptor has ended. -/
def expandOne (s : State) (t d : Nat) (h : List Nat) (n : Nat) : State × Bool :=
  let e := Hdr.mapEntry h n
  let payload := hw h 24
  let addr := payload + 16 * MapEntry.offset e
  let dc := s.headCtx h
  let inPlace := match dc with
    | none => true
    | some (i, c) => payload != s.landAddr i c (Hdr.lap h)
  match s.expandBlock dc (Hdr.cbSlot h) 0 addr (MapEntry.raw e) (MapEntry.stored e) (some (MapEntry.stored e)) inPlace with
  | (s, .shingle) => (s.shingleFailed t h false n addr inPlace, false)
  | (s, .failed f a) => (s.failDesc t eFeedB f a, false)
  | (s, .bytes bs) =>
    match s.mcastWrite t eFeedB (Xd.rect d) (Xd.dst d + 4096 * n) bs with
    | (s, some (f, a)) => (s.failDesc t eFeedB f a, false)
    | (s, none) => (s, true)

/-- Blocks expanded in ascending order, up to the first that ends the descriptor. -/
def expandBlocks (s : State) (one : State → Nat → State × Bool) : List Nat → State × Bool
  | [] => (s, true)
  | n :: ns =>
    match one s n with
    | (s, false) => (s, false)
    | (s, true) => s.expandBlocks one ns

/-- The spans that the blocks of a header are fetched from, with the books of the coded ones (R192, R258). -/
def weightSpans (s : State) (h : List Nat) (ns : List Nat) : List (Nat × Nat) :=
  (ns.map fun n =>
    let e := Hdr.mapEntry h n
    (hw h 24 + 16 * MapEntry.offset e, if MapEntry.raw e then 4096 else max (MapEntry.stored e) 16)) ++
  s.bookSpans (s.headCtx h) (Hdr.cbSlot h) 4

/-- EXPAND_W. -/
def expandW (s : State) (t : Nat) (flaws : List Flaw) : State :=
  match s.headOp t eFeedB Xd.oExpandW with
  | none => s
  | some q =>
    let d := q.desc
    let ns := (List.range 16).filter fun n => hasBit (Xd.blocks d) n
    let rect := Xd.rect d
    if s.anyStalled ((Xd.src d, 256) :: (s.weightSpans (bytesWords (s.mem.readN (Xd.src d) 256)) ns ++
        ns.flatMap fun n => s.mcastSpans rect (Xd.dst d + 4096 * n) 4096)) then s
    else
      match (s.place (engineReq t eFeedB) flaws).engRead t eFeedB (Xd.src d) 256 with
      | (s, .error (f, a)) => s.failDesc t eFeedB f a
      | (s, .ok bs) =>
        let h := bytesWords bs
        if ns.any fun n => !MapEntry.present (Hdr.mapEntry h n) then
          s.endDesc t eFeedB 0x06 (bits (Xd.src d) 45 6) (Xd.src d) []
        else
          match s.expandBlocks (fun s n => s.expandOne t d h n) ns with
          | (s, false) => s
          | (s, true) => s.endDesc t eFeedB 0 0 0 (s.fuses.rectTiles rect)

/-- Does a range lie whole in a tile's own working or accumulator SRAM? -/
def ownSram (t a n : Nat) : Bool :=
  decide (tileBase t ≤ a ∧ a + n ≤ tileBase t + 0x50000) ||
  decide (tileBase t + 0x60000 ≤ a ∧ a + n ≤ tileBase t + 0x70000)

/-- One accumulator block expanded into the issuing tile: raw, or coded in the bytes that its own header declares. -/
def expandAccOne (s : State) (t d : Nat) (h : List Nat) (j : Nat) : State × Bool :=
  let addr := hw h 25 + 4096 * j
  let raw := hasBit (hw h 26) j
  let dc := s.headCtx h
  let len := min 4096 (16 + (Codec.blockHead (s.mem.readN addr 16)).codedLen)
  let inPlace := match dc with
    | none => true
    | some (i, _) => s.tideResident i
  match s.expandBlock dc (Hdr.accCbSlot h) 1 addr raw len none inPlace with
  | (s, .shingle) => (s.shingleFailed t h true j addr inPlace, false)
  | (s, .failed f a) => (s.failDesc t eFeedB f a, false)
  | (s, .bytes bs) =>
    match s.engWrite t eFeedB (Xd.dst d + 4096 * (j - Xd.accFirst d)) bs with
    | (s, some (f, a)) => (s.failDesc t eFeedB f a, false)
    | (s, none) => (s, true)

/-- EXPAND_ACC. -/
def expandAcc (s : State) (t : Nat) (flaws : List Flaw) : State :=
  match s.headOp t eFeedB Xd.oExpandAcc with
  | none => s
  | some q =>
    let d := q.desc
    let n := Xd.accLast d + 1 - Xd.accFirst d
    let peek := bytesWords (s.mem.readN (Xd.src d) 256)
    if s.anyStalled ([(Xd.src d, 256), (hw peek 25 + 4096 * Xd.accFirst d, 4096 * n), (Xd.dst d, 4096 * n)] ++
        s.bookSpans (s.headCtx peek) (Hdr.accCbSlot peek) 4) then s
    else
      match (s.place (engineReq t eFeedB) flaws).engRead t eFeedB (Xd.src d) 256 with
      | (s, .error (f, a)) => s.failDesc t eFeedB f a
      | (s, .ok bs) =>
        let h := bytesWords bs
        if Xd.accLast d < Xd.accFirst d ∨ hw h 27 ≤ Xd.accLast d then s.refuseDesc t eFeedB
        else if !ownSram t (Xd.dst d) (4096 * n) then s.failDesc t eFeedB .tileAddr (Xd.dst d)
        else
          match s.expandBlocks (fun s j => s.expandAccOne t d h j) ((List.range n).map (Xd.accFirst d + ·)) with
          | (s, false) => s
          | (s, true) => s.endDesc t eFeedB 0 0 0 []

/-! ### CONVERT (R165 to R172) -/

/-- The rounding of an element of a conversion: to nearest even, or stochastic with the word of R170, whose index has bits
[63:48] zero here (R172). -/
def rounding (s : State) (mode tensor e : Nat) : Rounding :=
  if mode = 1 then .stochastic (srWord s.seed tensor s.tidemark (e % 2 ^ 48)) else .nearestEven

/-- Elements of a run of bytes. -/
def elemsOf (f : Fmt) (bs : List Byte) : List Nat :=
  let v := leNat bs
  (List.range (bs.length * 8 / f.width)).map fun i => elemAt v f.width i

/-- Element codes as bytes. -/
def packBytes (f : Fmt) (cs : List Nat) : List Byte := leBytes (cs.length * f.width / 8) (packElems f.width cs)

/-- One run converted between formats neither of which is MX; `pos` is the number of elements before it. -/
def convertRun (s : State) (t d : Nat) (src dst : Fmt) (r : Nat × Nat × Nat) : State × Option EngFail :=
  match s.engRead t eDrain r.1 (Xd.inner d) with
  | (s, .error x) => (s, some x)
  | (s, .ok bs) =>
    let out := (elemsOf src bs).zipIdx.map fun (x : Nat × Nat) =>
      dst.encode (s.rounding (Xd.round d) (Xd.tensor d) (Xd.elemBase d + r.2.2 + x.2)) (src.decode false x.1)
    s.engWrite t eDrain r.2.1 (packBytes dst out)

/-- Runs of a CONVERT with their positions, done in order. -/
def convertRuns (s : State) (f : State → Nat × Nat × Nat → State × Option EngFail) :
    List (Nat × Nat × Nat) → State × Option EngFail
  | [] => (s, none)
  | r :: rs =>
    match f s r with
    | (s, some e) => (s, some e)
    | (s, none) => s.convertRuns f rs

/-- Where the scale byte of block (r, j) lies among the scale bytes (R168): `g` runs share a block where a run holds 32
elements. -/
def scaleOff (p runs len r j : Nat) : Nat :=
  if len = 32 then let g := r / 32; 64 * (g / p) + 32 * (g % p) + j
  else p * runs * (j / p) + p * r + j % p

/-- The bytes of the scale area of an MX side. -/
def scaleBytes (p runs len : Nat) : Nat :=
  if len = 32 then 64 * ((runs / 32 + p - 1) / p) else p * runs * ((len / 32 + p - 1) / p)

/-- The blocks of a conversion (R168): for each, its scale's place and its elements, each by run and place in the run. -/
def mxBlocks (p runs len : Nat) : List (Nat × List (Nat × Nat)) :=
  if len = 32 then
    (List.range (runs / 32)).flatMap fun g => (List.range 32).map fun n =>
      (scaleOff p runs len (32 * g) n, (List.range 32).map fun k => (32 * g + k, n))
  else
    (List.range runs).flatMap fun r => (List.range (len / 32)).map fun j =>
      (scaleOff p runs len r j, (List.range 32).map fun k => (r, 32 * j + k))

/-- P of R168. -/
def mxP (f : Fmt) : Nat := match f with | .mxE3m2 | .mxE2m3 | .mxFp4 => 2 | _ => 1

/-- A list of `n` zeros with the values of a table of places. -/
def scatter (n : Nat) (xs : List (Nat × Nat)) : List Nat :=
  xs.foldl (fun l x => setAt l x.1 x.2) (List.replicate n 0)

/-- The runs of one side read whole. -/
def readRuns (s : State) (t n : Nat) : List Nat → State × Except EngFail (List (List Byte))
  | [] => (s, .ok [])
  | a :: as =>
    match s.engRead t eDrain a n with
    | (s, .error x) => (s, .error x)
    | (s, .ok bs) =>
      match s.readRuns t n as with
      | (s, .error x) => (s, .error x)
      | (s, .ok bss) => (s, .ok (bs :: bss))

/-- A conversion into an MX format (R167, R168). -/
def convertToMx (s : State) (t d : Nat) (src dst : Fmt) : State × Option EngFail :=
  let runs := Xd.runs d
  let len := Xd.inner d * 8 / src.width
  let p := mxP dst
  match s.readRuns t (Xd.inner d) ((runsOf d).map (·.1)) with
  | (s, .error x) => (s, some x)
  | (s, .ok bss) =>
    let vals := bss.map fun bs => (elemsOf src bs).map fun c => src.decode false c
    let at_ := fun (x : Nat × Nat) => (vals.getD x.1 []).getD x.2 (Val.zero false)
    let blocks := (mxBlocks p runs len).map fun b =>
      let rnd := fun k => s.rounding (Xd.round d) (Xd.tensor d)
        (Xd.elemBase d + ((b.2.getD k (0, 0)).1 * len + (b.2.getD k (0, 0)).2))
      (b, mxBlock dst rnd (b.2.map at_))
    let elems := scatter (runs * len) (blocks.flatMap fun b =>
      (b.1.2.zip b.2.2).map fun y => (y.1.1 * len + y.1.2, y.2))
    let scales := scatter (scaleBytes p runs len) (blocks.map fun b => (b.1.1, b.2.1))
    match s.engWrite t eDrain (Xd.dst d) (packBytes dst elems) with
    | (s, some x) => (s, some x)
    | (s, none) => s.engWrite t eDrain (Xd.dst d + Xd.dstStride d) (scales.map (BitVec.ofNat 8 ·))

/-- A conversion from an MX format (R155, R165, R168). -/
def convertFromMx (s : State) (t d : Nat) (src dst : Fmt) : State × Option EngFail :=
  let runs := Xd.runs d
  let len := Xd.inner d * 8 / dst.width
  let p := mxP src
  match s.engRead t eDrain (Xd.src d) (runs * len * src.width / 8) with
  | (s, .error x) => (s, some x)
  | (s, .ok es) =>
    match s.engRead t eDrain (Xd.src d + Xd.srcStride d) (scaleBytes p runs len) with
    | (s, .error x) => (s, some x)
    | (s, .ok ss) =>
      let codes := elemsOf src es
      let out := scatter (runs * len) ((mxBlocks p runs len).flatMap fun b =>
        b.2.map fun x =>
          let i := x.1 * len + x.2
          (i, dst.encode (s.rounding (Xd.round d) (Xd.tensor d) (Xd.elemBase d + i))
            (mxVal src (ss.getD b.1 0).toNat (codes.getD i 0))))
      s.eachRun (fun s r => s.engWrite t eDrain r.2 (packBytes dst ((out.drop (r.1 * len)).take len)))
        ((List.range runs).map fun i => (i, Xd.dst d + i * Xd.dstStride d))

/-- Does a CONVERT with an MX side break R168? -/
def mxBad (d : Nat) (src dst : Fmt) : Bool :=
  let other := if src.isMx then dst else src
  let len := Xd.inner d * 8 / other.width
  !(other == .fp32 || other == .bf16 || other == .fp16) || len % 32 != 0 || (len == 32 && Xd.runs d % 32 != 0)

/-- The spans a CONVERT touches. -/
def convertSpans (d : Nat) (src dst : Fmt) : List (Nat × Nat) :=
  let runs := Xd.runs d
  let side := fun (mx : Bool) (f : Fmt) (base stride n len : Nat) =>
    if mx then [(base, runs * len * f.width / 8), (base + stride, scaleBytes (mxP f) runs len)]
    else (List.range runs).map fun i => (base + i * stride, n)
  let len := Xd.inner d * 8 / (if src.isMx then dst else src).width
  side src.isMx src (Xd.src d) (Xd.srcStride d) (Xd.inner d) len ++
  side dst.isMx dst (Xd.dst d) (Xd.dstStride d) (len * dst.width / 8) len

/-- CONVERT. -/
def convert (s : State) (t : Nat) (flaws : List Flaw) : State :=
  match s.headOp t eDrain Xd.oConvert with
  | none => s
  | some q =>
    let d := q.desc
    match Fmt.ofCode (Xd.srcFmt d), Fmt.ofCode (Xd.dstFmt d) with
    | some src, some dst =>
      if (src.isMx || dst.isMx) && mxBad d src dst then s.refuseDesc t eDrain
      else if s.anyStalled (convertSpans d src dst) then s
      else
        let s := s.place (engineReq t eDrain) flaws
        let (s, x) :=
          if dst.isMx then s.convertToMx t d src dst
          else if src.isMx then s.convertFromMx t d src dst
          else
            let len := Xd.inner d * 8 / src.width
            s.convertRuns (fun s r => s.convertRun t d src dst r)
              ((runsOf d).zipIdx.map fun (x : (Nat × Nat) × Nat) => (x.1.1, x.1.2, x.2 * len))
        s.endRuns t eDrain [] x
    | _, _ => s

/-! ### COMPRESS (R194, R202) -/

/-- The accumulator slot and block of a context that an address lies in (R68). -/
def accPlace (s : State) (d c a : Nat) : Option (Nat × Nat) :=
  let u := 65536 * s.tideU d c
  let base := s.accAddr d c 0
  if u = 0 ∨ a < base ∨ base + u * s.tideW d c ≤ a then none else some ((a - base) / u, (a - base) % u / 4096)

/-- Bit `j` of word `w` of a slot's header-array entry set or cleared, as the controller makes it (R202). -/
def headBit (s : State) (d c slot w j : Nat) (on : Bool) : State × Option EngFail :=
  let a := s.headAddr d c slot + 8 * w
  match s.readSpan shingleReq a 8 with
  | (s, .error f) => (s, some (f, a))
  | (s, .ok bs) =>
    match s.writeSpan shingleReq a (leBytes 8 (withBits (leNat bs) j j (b2n on))) with
    | (s, some f) => (s, some (f, a))
    | (s, none) => (s, none)

/-- One block compressed: written coded, filled up to a multiple of 16 bytes, or raw (R193), and the landing record of its
slot updated. -/
def compressRun (s : State) (t d : Nat) (dc : Option (Nat × Nat)) (books : List Codec.Book) (r : Nat × Nat) :
    State × Option EngFail :=
  match s.engRead t eDrain r.1 4096 with
  | (s, .error x) => (s, some x)
  | (s, .ok bs) =>
    let st := stackOf s.fuses.nStacks r.2
    let (s, out, raw) := if Xd.epoch d = 0 then (s.bump .SHG_CMP_RAW_COUNT st 0 1, bs, true)
      else s.compressBlock st (Xd.srcFmt d) (Xd.epoch d) books bs
    match s.engWrite t eDrain r.2 (padTo 16 out) with
    | (s, some x) => (s, some x)
    | (s, none) =>
      match dc.bind fun x => (s.accPlace x.1 x.2 r.2).map fun y => (x, y) with
      | none => (s, none)
      | some ((i, c), slot, j) =>
        match s.headBit i c slot 26 j raw with
        | (s, some x) => (s, some x)
        | (s, none) => s.headBit i c slot 28 j true

/-- The destinations of a COMPRESS. -/
def compressRuns (d : Nat) : List (Nat × Nat) :=
  (List.range (Xd.runs d)).map fun i => (Xd.src d + i * Xd.srcStride d, Xd.dst d + 4096 * i)

/-- Does the form of a COMPRESS break R202? -/
def compressBad (d : Nat) : Bool := Xd.inner d != 4096 || Xd.dst d % 4096 != 0

/-- The header-array words that hold the ACC_BLOCKS of the accumulator slots a COMPRESS writes, each with the block it writes
there (R68, R202). Without a valid context of T_STRAND and T_DIR there are no slots. -/
def compressSlots (s : State) (d : Nat) (dc : Option (Nat × Nat)) : List (Nat × Nat) :=
  match dc with
  | none => []
  | some (i, c) => (compressRuns d).filterMap fun r =>
      (s.accPlace i c r.2).map fun x => (s.headAddr i c x.1 + 8 * 27, x.2)

/-- Does every block lie below its slot's A (R71, R202)? -/
def compressFits (s : State) : List (Nat × Nat) → State × Except EngFail Bool
  | [] => (s, .ok true)
  | (a, j) :: xs =>
    match s.readSpan shingleReq a 8 with
    | (s, .error f) => (s, .error (f, a))
    | (s, .ok bs) => if leNat bs ≤ j then (s, .ok false) else s.compressFits xs

/-- COMPRESS. A destination outside stack memory has no compressor: ERR_TILE_ADDR (DEDUCED, assumption 22). -/
def compress (s : State) (t : Nat) (flaws : List Flaw) : State :=
  match s.headOp t eDrain Xd.oCompress with
  | none => s
  | some q =>
    let d := q.desc
    let dc := s.tideFind (Xd.strand d) (Xd.dir d)
    let slots := s.compressSlots d dc
    if compressBad d then s.refuseDesc t eDrain
    else if s.anyStalled (((compressRuns d).flatMap fun r => [(r.1, 4096), (r.2, 4096)]) ++ (slots.map fun x => (x.1, 8)) ++
        s.bookSpans dc (Xd.cbSlot d) 4) then s
    else
      match (s.place (engineReq t eDrain) flaws).compressBooks dc (Xd.cbSlot d) (Xd.srcFmt d) (Xd.epoch d) with
      | (s, .error (f, a)) => s.failDesc t eDrain f a
      | (s, .ok none) => s.refuseDesc t eDrain
      | (s, .ok (some books)) =>
        match s.compressFits slots with
        | (s, .error (f, a)) => s.failDesc t eDrain f a
        | (s, .ok false) => s.refuseDesc t eDrain
        | (s, .ok true) =>
          let (s, x) := s.eachRun (fun s r => match s.target r.2 with
            | .stack => s.compressRun t d dc books r
            | _ => (s, some (.tileAddr, r.2))) (compressRuns d)
          s.endRuns t eDrain [] x

/-! ### DESCRIPTOR_COMPLETE (R101, R103) -/

/-- The head descriptor of an engine completes: refused before it starts, or as it has ended, once no write of the engine waits
for room in a full queue (R101, R215). -/
def descComplete (s : State) (t e : Nat) : State :=
  let x := s.engine t e
  match x.done, s.headReady t e with
  | some _, _ => if s.waitsFrom (.engine t e) then s else s.completeHead t e
  | none, some q => if e ≠ eArray ∧ s.headRefused t e q then (s.refuseDesc t e).completeHead t e else s
  | none, none => s

end State

end Sys2Proof.Machine
end

