-- ==== Sys2Proof/Machine/Vector.lean ====
section
/-! DEFINITION. The vector unit (R109 to R111, R173 to R176): operands as rows of 32 elements in the tile's own SRAM,
widened to FP32, and results narrowed to the format of D. -/
namespace Sys2Proof.Machine

/-- The operations of R110. -/
inductive Vop where
  | convert | add | sub | mul | fma | max | min | scale | exp2 | log2 | recip | rsqrt | rowsum | rowmax | select
deriving DecidableEq, Repr

/-- The VOP code of an operation. -/
def Vop.code : Vop → Nat
  | .convert => 0x00 | .add => 0x01 | .sub => 0x02 | .mul => 0x03 | .fma => 0x04 | .max => 0x05 | .min => 0x06
  | .scale => 0x07 | .exp2 => 0x08 | .log2 => 0x09 | .recip => 0x0A | .rsqrt => 0x0B | .rowsum => 0x0C | .rowmax => 0x0D
  | .select => 0x0E

/-- FP32 subtraction, multiplication and the fused multiply-add, rounded once (R173). -/
def subFp32 (a b : Nat) : Nat := roundFp32 (Val.add (ofFp32 a) (Val.neg (ofFp32 b)))
def mulFp32 (a b : Nat) : Nat := roundFp32 (Val.mul (ofFp32 a) (ofFp32 b))
def fmaFp32 (a b c : Nat) : Nat := roundFp32 (Val.add (Val.mul (ofFp32 a) (ofFp32 b)) (ofFp32 c))

/-- The sums of neighbouring pairs (R111). -/
def pairSums : List Nat → List Nat
  | a :: b :: xs => addFp32 a b :: pairSums xs
  | xs => xs

/-- The fixed binary tree over 32 lanes (R111). -/
def treeSum (xs : List Nat) : Nat := (pairSums (pairSums (pairSums (pairSums (pairSums xs))))).headD 0

/-- The maximum of the lanes (R173). -/
def laneMax : List Nat → Nat
  | [] => 0
  | x :: xs => xs.foldl maxFp32 x

/-- The FP32 results of a row of 32 lanes (R110, R111). -/
def Vop.row (v : Vop) (d : Nat) (a b c : List Nat) : List Nat :=
  let zip2 := fun (f : Nat → Nat → Nat) => a.zipWith f b
  match v with
  | .convert => a
  | .add => zip2 addFp32
  | .sub => zip2 subFp32
  | .mul => zip2 mulFp32
  | .fma => (a.zip b).zipWith (fun (x : Nat × Nat) z => fmaFp32 x.1 x.2 z) c
  | .max => zip2 maxFp32
  | .min => zip2 minFp32
  | .scale => a.map fun x => fmaFp32 x (Vd.s d) (Vd.t d)
  | .exp2 => a.map exp2Fp32
  | .log2 => a.map log2Fp32
  | .recip => a.map recipFp32
  | .rsqrt => a.map rsqrtFp32
  | .rowsum => treeSum a :: List.replicate 31 0
  | .rowmax => laneMax a :: List.replicate 31 0
  | .select => (a.zip b).zipWith (fun (x : Nat × Nat) z => selectFp32 x.1 x.2 z) c

namespace State

/-- A widened operand (R110, R165): FP32 codes, a NaN as the canonical one. -/
def widen (f : Fmt) (bs : List Byte) : List Nat := (elemsOf f bs).map fun c => roundFp32 (f.decode false c)

/-- An operand's format, offset and bytes. -/
def operand (code off rows : Nat) : Fmt × Nat × Nat :=
  let f := (Fmt.ofCode code).getD .fp32
  (f, off, rows * 32 * f.width / 8)

/-- The operands that an operation reads. -/
def operandsOf (d : Nat) : List (Fmt × Nat × Nat) :=
  ([operand (Vd.fmtA d) (Vd.a d) (Vd.rows d), operand (Vd.fmtB d) (Vd.b d) (Vd.rows d),
    operand (Vd.fmtC d) (Vd.c d) (Vd.rows d)]).take (Vd.operands (Vd.vop d))

/-- Does an operand lie in working or accumulator SRAM (R109)? DESIGN CHOICE (assumption 40): R109 names no code for one that
does not; the descriptor ends with ERR_TILE_ADDR at the operand's first byte. -/
def localOk (off n : Nat) : Bool := decide (off + n ≤ 0x50000) || decide (0x60000 ≤ off ∧ off + n ≤ 0x70000)

/-- The operands of a descriptor read whole, up to the first that fails. -/
def readOperands (s : State) (t : Nat) : List (Fmt × Nat × Nat) → State × Except EngFail (List (List Nat))
  | [] => (s, .ok [])
  | (f, off, n) :: xs =>
    match s.engRead t eVector (tileBase t + off) n with
    | (s, .error x) => (s, .error x)
    | (s, .ok bs) =>
      match s.readOperands t xs with
      | (s, .error x) => (s, .error x)
      | (s, .ok l) => (s, .ok (widen f bs :: l))

/-- The bytes of D: every row's results narrowed with ROUND, element 32r + l taking index ELEM_BASE + 32r + l (R110,
R172). -/
def vectorOut (s : State) (v : Vop) (d : Nat) (xs : List (List Nat)) : List Byte :=
  let dst := (Fmt.ofCode (Vd.fmtD d)).getD .fp32
  let rowOf := fun (k r : Nat) => ((xs.getD k []).drop (32 * r)).take 32
  let codes := (List.range (Vd.rows d)).flatMap fun r => v.row d (rowOf 0 r) (rowOf 1 r) (rowOf 2 r)
  packBytes dst (codes.zipIdx.map fun (x : Nat × Nat) =>
    dst.encode (s.rounding (Vd.round d) (Vd.tensor d) (Vd.elemBase d + x.2)) (ofFp32 x.1))

/-- A vector operation on the descriptor at the head of the queue. -/
def vector (s : State) (t : Nat) (v : Vop) (flaws : List Flaw) : State :=
  match s.headReady t eVector with
  | none => s
  | some q =>
    let d := q.desc
    if Vd.vop d ≠ v.code ∨ Vd.refused d then s
    else
      let ins := operandsOf d
      let (_, off, n) := operand (Vd.fmtD d) (Vd.dst d) (Vd.rows d)
      if s.anyStalled (((off, n) :: ins.map (·.2)).map fun x => (tileBase t + x.1, x.2)) then s
      else match ((ins.map (·.2)) ++ [(off, n)]).find? fun x => !localOk x.1 x.2 with
        | some x => s.failDesc t eVector .tileAddr (tileBase t + x.1)
        | none =>
          match (s.place (engineReq t eVector) flaws).readOperands t ins with
          | (s, .error (f, a)) => s.failDesc t eVector f a
          | (s, .ok xs) =>
            match s.engWrite t eVector (tileBase t + off) (s.vectorOut v d xs) with
            | (s, some (f, a)) => s.failDesc t eVector f a
            | (s, none) => s.endDesc t eVector 0 0 0 []

end State

end Sys2Proof.Machine
end

