-- ==== Sys2Proof/Machine/TileCommands.lean ====
section
/-! DEFINITION. The commands of a tile's engines, its array, its waterline and its contexts' control (spec/04_tile.md,
spec/05_matrix_array.md). A command of an engine acts where the descriptor at the head of its queue asks for it. -/
namespace Sys2Proof.Machine

namespace State

/-- The resend signals among those that reach a tile (R108): one that an armed slot matches clears it, and is applied; any
other is counted and gone. The signals that are applied. -/
def settleResends (s : State) (fs : List Flight) : State × List Flight :=
  fs.foldl (fun (acc : State × List Flight) f =>
    let (s, on) := acc
    let w := f.word
    if SigWord.kind w ≠ 2 ∨ !s.isOpen kTile f.tile then (s, on ++ [f])
    else match s.matchSlot f.tile (bits w 35 34) (bits w 36 36) (bits w 61 37) with
      | none => (s.bump .TILE_RESEND_DROP_COUNT f.tile 0 1, on)
      | some i => (s.disarmSlot f.tile i, on ++ [f])) (s, [])

/-- The signals that reach one counter in one tile cycle, resend signals among them (R108, R209). -/
def cycleSignals (s : State) (t n : Nat) (fs : List Flight) : State :=
  let (s, on) := s.settleResends fs
  s.applySignals t n on

/-- A resend signal at a tile (R108): applied where an armed slot matches it, else counted. -/
def arriveResend (s : State) (f : Flight) : State := s.cycleSignals f.tile (SigWord.counter f.word) [f]

/-- A resend signal on its way arrives. -/
def takeResendSignal (s : State) (pick : Nat) : State :=
  match s.mayArrive pick with
  | none => s
  | some f =>
    if SigWord.kind f.word ≠ 2 then s else { s with flights := s.flights.eraseIdx pick }.arriveResend f

/-- May signal `j` reach counter `n` of a tile in this tile cycle (R209)? -/
def arrivesAt (s : State) (t n j : Nat) : Bool :=
  match s.mayArrive j with
  | none => false
  | some g => !g.remote && g.tile == t && SigWord.counter g.word == n

/-- The signals of `js`, and the state in which they are on their way no more. -/
def takeFlights (s : State) (js : List Nat) : List Flight × State :=
  let get := fun (js : List Nat) => js.filterMap fun j => s.flights[j]?
  (get js, { s with flights := get ((List.range s.flights.length).filter fun j => !js.contains j) })

/-- The signals of `picks` that reach counter `n` of a tile in this tile cycle (R209). -/
def cyclePicks (s : State) (t n : Nat) (picks : List Nat) : List Nat :=
  (List.range s.flights.length).filter fun j => picks.contains j && s.arrivesAt t n j

/-- Signal `pick` arrives, with those of `more` that arrive at its counter in the same tile cycle (R209). A context's remote
word leaves as its message, for which its later posts wait (R216, R218). -/
def takeFlight (s : State) (pick : Nat) (more : List Nat) : State :=
  match s.mayArrive pick with
  | none => s
  | some f =>
    if SigWord.kind f.word = 2 then s
    else if f.remote then
      { s with flights := s.flights.eraseIdx pick }.sendWord f.word f.amount
        (match f.src with | .ctx t c => .post t c | _ => .nobody)
    else
      let n := SigWord.counter f.word
      let (fs, s) := s.takeFlights (pick :: (s.cyclePicks f.tile n more).filter fun j => j != pick)
      s.cycleSignals f.tile n fs

/-- A write of SIG_CNT by a source with the signals that reach the counter in the same tile cycle: the write, the adds, the
subtractions, and then the waiters (R209). -/
def writeCntCycle (s : State) (src : Source) (t n : Nat) (w : CntWrite) : State :=
  let (fs, s) := s.takeFlights (s.cyclePicks t n w.picks)
  let s := ((s.setWaiters t n []).writeWhole src ⟨.SIG_CNT, t, n⟩ w.value).setWaiters t n (s.waitersOn t n)
  s.cycleSignals t n fs

end State

/-- COPY (R103), on a feeder or the drain engine. -/
def execCopy (t e : Nat) (flaws : List Flaw) (s : State) : Result := answerIf (s.hasEngine t e) s (s.copy t e flaws)

/-- MCAST (R103). -/
def execMcast (t e : Nat) (flaws : List Flaw) (s : State) : Result := answerIf (s.hasEngine t e) s (s.mcast t e flaws)

/-- EXPAND_W (R103, R106 to R108). -/
def execExpandW (t : Nat) (flaws : List Flaw) (s : State) : Result := answerIf (s.hasTile t) s (s.expandW t flaws)

/-- EXPAND_ACC (R103). -/
def execExpandAcc (t : Nat) (flaws : List Flaw) (s : State) : Result := answerIf (s.hasTile t) s (s.expandAcc t flaws)

/-- CONVERT (R103, R167 to R172). -/
def execConvert (t : Nat) (flaws : List Flaw) (s : State) : Result := answerIf (s.hasTile t) s (s.convert t flaws)

/-- COMPRESS (R103, R202). -/
def execCompress (t : Nat) (flaws : List Flaw) (s : State) : Result := answerIf (s.hasTile t) s (s.compress t flaws)

/-- DESCRIPTOR_COMPLETE (R101, R104 to R106); a descriptor of the array ends as its pass does (R139). -/
def execDescriptorComplete (t e : Nat) (s : State) : Result :=
  answerIf (s.hasEngine t e) s (if e = eArray then s.completePass t else s.descComplete t e)

/-- VOP_CONVERT (R110). -/
def execVopConvert (t : Nat) (flaws : List Flaw) (s : State) : Result := answerIf (s.hasTile t) s (s.vector t .convert flaws)

/-- VOP_ADD (R110). -/
def execVopAdd (t : Nat) (flaws : List Flaw) (s : State) : Result := answerIf (s.hasTile t) s (s.vector t .add flaws)

/-- VOP_SUB (R110). -/
def execVopSub (t : Nat) (flaws : List Flaw) (s : State) : Result := answerIf (s.hasTile t) s (s.vector t .sub flaws)

/-- VOP_MUL (R110). -/
def execVopMul (t : Nat) (flaws : List Flaw) (s : State) : Result := answerIf (s.hasTile t) s (s.vector t .mul flaws)

/-- VOP_FMA (R110). -/
def execVopFma (t : Nat) (flaws : List Flaw) (s : State) : Result := answerIf (s.hasTile t) s (s.vector t .fma flaws)

/-- VOP_MAX (R110). -/
def execVopMax (t : Nat) (flaws : List Flaw) (s : State) : Result := answerIf (s.hasTile t) s (s.vector t .max flaws)

/-- VOP_MIN (R110). -/
def execVopMin (t : Nat) (flaws : List Flaw) (s : State) : Result := answerIf (s.hasTile t) s (s.vector t .min flaws)

/-- VOP_SCALE (R110). -/
def execVopScale (t : Nat) (flaws : List Flaw) (s : State) : Result := answerIf (s.hasTile t) s (s.vector t .scale flaws)

/-- VOP_EXP2 (R110, R174 to R176). -/
def execVopExp2 (t : Nat) (flaws : List Flaw) (s : State) : Result := answerIf (s.hasTile t) s (s.vector t .exp2 flaws)

/-- VOP_LOG2 (R110, R174 to R176). -/
def execVopLog2 (t : Nat) (flaws : List Flaw) (s : State) : Result := answerIf (s.hasTile t) s (s.vector t .log2 flaws)

/-- VOP_RECIP (R110, R174 to R176). -/
def execVopRecip (t : Nat) (flaws : List Flaw) (s : State) : Result := answerIf (s.hasTile t) s (s.vector t .recip flaws)

/-- VOP_RSQRT (R110, R174 to R176). -/
def execVopRsqrt (t : Nat) (flaws : List Flaw) (s : State) : Result := answerIf (s.hasTile t) s (s.vector t .rsqrt flaws)

/-- VOP_ROWSUM (R111). -/
def execVopRowsum (t : Nat) (flaws : List Flaw) (s : State) : Result := answerIf (s.hasTile t) s (s.vector t .rowsum flaws)

/-- VOP_ROWMAX (R111). -/
def execVopRowmax (t : Nat) (flaws : List Flaw) (s : State) : Result := answerIf (s.hasTile t) s (s.vector t .rowmax flaws)

/-- VOP_SELECT (R110). -/
def execVopSelect (t : Nat) (flaws : List Flaw) (s : State) : Result := answerIf (s.hasTile t) s (s.vector t .select flaws)

/-- GEMM (R124 to R133, R137 to R139). -/
def execGemm (t : Nat) (flaws : List Flaw) (frozen : Bool) (s : State) : Result :=
  answerIf (s.hasTile t) s (s.startPass t flaws frozen)

/-- ARRAY_RESUME (R144). -/
def execArrayResume (t : Nat) (s : State) : Result := answerIf (s.hasTile t) s (s.resumeArray t)

/-- PASS_COMPLETE (R101, R139). -/
def execPassComplete (t : Nat) (s : State) : Result := answerIf (s.hasTile t) s (s.completePass t)

/-- ARR_STOP: a write of ARR_CTRL.STOP (R146). -/
def execArrStop (src : Source) (t : Nat) (on : Bool) (s : State) : Result :=
  answerIf (s.hasSource src) s (s.writeField src ⟨.ARR_CTRL, t, 0⟩ .ARR_CTRL_STOP (b2n on))

/-- ABORT: a write of 1 to ARR_CTRL.ABORT (R148). -/
def execAbort (src : Source) (t : Nat) (s : State) : Result :=
  answerIf (s.hasSource src) s (s.writeField src ⟨.ARR_CTRL, t, 0⟩ .ARR_CTRL_ABORT 1)

/-- WATERLINE_WRITE: a write of TILE_WATERLINE.LEVEL (R112). -/
def execWaterlineWrite (src : Source) (t level : Nat) (s : State) : Result :=
  answerIf (s.hasSource src) s (s.writeWhole src ⟨.TILE_WATERLINE, t, 0⟩ level)

/-- WATERLINE_REWRITE_DONE (R112). -/
def execWaterlineRewriteDone (t : Nat) (s : State) : Result := answerIf (s.hasTile t) s (s.waterlineDone t)

/-- RESEND_SIGNAL_APPLY (R108). -/
def execResendSignalApply (pick : Nat) (s : State) : Result := answer s (s.takeResendSignal pick)

/-- CTX_RUN_WRITE: a write of TILE_CTX_CTRL (R123). -/
def execCtxRunWrite (src : Source) (t c value : Nat) (s : State) : Result :=
  answerIf (s.hasSource src) s (s.writeWhole src ⟨.TILE_CTX_CTRL, t, c⟩ value)

/-- GLB_TILE_RANK_WRITE (R122). -/
def execGlbTileRankWrite (src : Source) (value : Nat) (s : State) : Result :=
  answerIf (s.hasSource src) s (s.writeWhole src ⟨.GLB_TILE_RANK, 0, 0⟩ value)

end Sys2Proof.Machine
end

