-- ==== Sys2Proof/Machine/SignalCommands.lean ====
section
/-! DEFINITION. The commands of signals, guarded transfers and barriers (spec/08_signals_barriers.md), and of the void
sequencer (spec/14_determinism.md). -/
namespace Sys2Proof.Machine

namespace State

/-- SIGNAL: a message of the SIGNAL class that is none of CREDIT, RESEND, BAR_ARRIVE and BAR_RELEASE (R218, R229). -/
def signalMessage (s : State) (ws : List Nat) : State :=
  if [0x01, 0x02, 0x11, 0x12].contains (Msg.type ws) then s else s.takeMessage ws

/-- BAR_ARRIVE and BAR_RELEASE: a message of type `type` (R225, R229). -/
def barMessage (s : State) (type : Nat) (ws : List Nat) : State := if Msg.type ws = type then s.takeMessage ws else s

end State

/-- SIGNAL_APPLY (R207 to R211, R214 to R216): the signals that arrive at one counter in one tile cycle, the first of which
says at which counter. -/
def execSignalApply (picks : List Nat) (s : State) : Result :=
  match picks with
  | [] => answer s s
  | pick :: more => answer s (s.takeFlight pick more)

/-- SIG_CNT_WRITE: a write of SIG_CNT, with the signals that reach the counter in the same tile cycle (R207, R209, R211). -/
def execSigCntWrite (src : Source) (t n : Nat) (w : CntWrite) (s : State) : Result :=
  answerIf (s.hasSource src) s (s.writeCntCycle src t n w)

/-- SIG_CNT_CFG_WRITE: a write of SIG_CNT_CFG (R241). -/
def execSigCntCfgWrite (src : Source) (t n value : Nat) (s : State) : Result :=
  answerIf (s.hasSource src) s (s.writeWhole src ⟨.SIG_CNT_CFG, t, n⟩ value)

/-- WAIT_TIMEOUT (R233, R234). `who` is a context, or 4 for the array. -/
def execWaitTimeout (t who : Nat) (s : State) : Result := answerIf (s.hasEngine t who) s (s.waitTimeout t who)

/-- SIGNAL (R218, R229, R230). -/
def execSignal (words : List Nat) (s : State) : Result := answer s (s.signalMessage words)

/-- GUARD_PACKET_ARRIVE (R219 to R221, R255). -/
def execGuardPacketArrive (packet : Packet) (s : State) : Result :=
  answerIf (State.hasPort packet.port) s (s.takePacket { packet with stored := false, verified := false, waits := false, failed := false })

/-- GUARD_HELD_PACKET_ACCEPT (R221). -/
def execGuardHeldPacketAccept (s : State) : Result := answer s s.takeHeld

/-- GUARD_PACKET_WRITTEN (R220). -/
def execGuardPacketWritten (i : Nat) (s : State) : Result := answer s (s.packetWritten i)

/-- GUARD_TIMEOUT (R221). -/
def execGuardTimeout (die tag : Nat) (s : State) : Result := answerIf (s.hasDie die) s (s.guardTimeout die tag)

/-- BAR_ARRIVAL_COUNT (R217, R224 to R227). -/
def execBarArrivalCount (t c : Nat) (s : State) : Result := answerIf (s.hasCtx t c) s (s.arrivalCount t c)

/-- BAR_ARRIVE_MSG (R225, R227, R229, R230). -/
def execBarArriveMsg (words : List Nat) (s : State) : Result := answer s (s.barMessage 0x11 words)

/-- BAR_RELEASE_MSG (R225, R227, R229, R230). -/
def execBarReleaseMsg (words : List Nat) (s : State) : Result := answer s (s.barMessage 0x12 words)

/-- BARRIER_TIMEOUT (R228). -/
def execBarrierTimeout (b : Nat) (s : State) : Result := answerIf (decide (b < 512)) s (s.barTimeout b)

/-- SIG_BAR_CFG_WRITE: a write of SIG_BAR_CFG (R227). -/
def execSigBarCfgWrite (src : Source) (b value : Nat) (s : State) : Result :=
  answerIf (s.hasSource src) s (s.writeWhole src ⟨.SIG_BAR_CFG, 0, b⟩ value)

/-- CLEAR_BAR: a write of 1 to SIG_CTRL.CLEAR_BAR (R240). -/
def execClearBar (src : Source) (s : State) : Result :=
  answerIf (s.hasSource src) s (s.writeField src ⟨.SIG_CTRL, 0, 0⟩ .SIG_CTRL_CLEAR_BAR 1)

/-- SIG_TIDEMARK_WRITE: a write of SIG_TIDEMARK (R21). -/
def execSigTidemarkWrite (src : Source) (value : Nat) (s : State) : Result :=
  answerIf (s.hasSource src) s (s.writeWhole src ⟨.SIG_TIDEMARK, 0, 0⟩ value)

/-- VOID_SEQ_QUIESCE (R374 to R376): the sequencer takes up the void that waits. -/
def execVoidSeqQuiesce (s : State) : Result := answer s s.voidSequence

/-- VOID_NOTICE (R376, R381). -/
def execVoidNotice (words : List Nat) (s : State) : Result := answer s (s.takeNotice words)

/-- VOID_QUIESCE_DONE (R375). -/
def execVoidQuiesceDone (s : State) : Result := answer s s.quiesceDone

/-- HALT_RESUME: a write of 1 to GLB_HALT_CTRL.HALTED (R384). -/
def execHaltResume (src : Source) (s : State) : Result :=
  answerIf (s.hasSource src) s (s.writeField src ⟨.GLB_HALT_CTRL, 0, 0⟩ .GLB_HALT_CTRL_HALTED 1)

/-- VOID_CTRL_WRITE: a write of GLB_VOID_CTRL (R385). -/
def execVoidCtrlWrite (src : Source) (value : Nat) (s : State) : Result :=
  answerIf (s.hasSource src) s (s.writeWhole src ⟨.GLB_VOID_CTRL, 0, 0⟩ value)

end Sys2Proof.Machine
end

