-- ==== Sys2Proof/Machine/TestCommands.lean ====
section
/-! DEFINITION. The commands of loopback, self-test and the test access port (spec/18_test.md). -/
namespace Sys2Proof.Machine

/-- LOOPBACK_SELECT: a write of KIND, MODE and PORT of TST_LB_CTRL (R463, R464). -/
def execLoopbackSelect (src : Source) (kind mode port : Nat) (s : State) : Result :=
  answerIf (s.hasSource src) s
    (s.writeWhole src ⟨.TST_LB_CTRL, 0, 0⟩ (kind % 8 * 2 ^ 12 + mode % 8 * 2 ^ 9 + port % 32))

/-- RUN: a write of 1 to TST_LB_CTRL.RUN (R465). -/
def execRun (src : Source) (s : State) : Result :=
  answerIf (s.hasSource src) s (s.writeField src ⟨.TST_LB_CTRL, 0, 0⟩ .TST_LB_CTRL_RUN 1)

/-- LOOPBACK_END (R465): `bits` compared on each counter, and the errors of each. -/
def execLoopbackEnd (bits : Nat) (errs : List Nat) (s : State) : Result := answer s (s.lbEnd bits errs)

/-- BIST_START: a write of TST_BIST_CTRL.UNITS (R467). -/
def execBistStart (src : Source) (units : Nat) (s : State) : Result :=
  answerIf (s.hasSource src) s (s.writeWhole src ⟨.TST_BIST_CTRL, 0, 0⟩ units)

/-- BIST_END (R469): the failing units in the order in which they were found, each with its index and address. -/
def execBistEnd (fails : List (Nat × Nat × Nat)) (s : State) : Result := answer s (s.bistEnd fails)

/-- TAP_RESET (R470): IDCODE is selected. -/
def execTapReset (s : State) : Result := answer s s.tapReset

/-- IDCODE (R470). -/
def execIdcode (s : State) : Result := answer s (s.setTap State.irIdcode)

/-- SAMPLE_PRELOAD (R470). -/
def execSamplePreload (cells : Nat) (s : State) : Result := answer s (s.samplePins cells)

/-- EXTEST (R470, R471). -/
def execExtest (s : State) : Result := answer s (s.drivePins State.irExtest)

/-- CLAMP (R470, R471). -/
def execClamp (s : State) : Result := answer s (s.drivePins State.irClamp)

/-- HIGHZ (R470, R471). -/
def execHighz (s : State) : Result := answer s (s.drivePins State.irHighz)

/-- IJTAG (R470, R472, R473). -/
def execIjtag (x : Instrument) (s : State) : Result := answer s (s.ijtag x)

/-- DEBUG (R435, R436, R470). -/
def execDebug (op : DebugOp) (s : State) : Result := answer s (s.debugModule op)

/-- BYPASS (R470). -/
def execBypass (s : State) : Result := answer s (s.setTap State.irBypass)

end Sys2Proof.Machine
end

