-- ==== Sys2Proof/Machine/TideCommands.lean ====
section
/-! DEFINITION. The commands of the tide engines (spec/02_tide.md, spec/03_home_update.md). -/
namespace Sys2Proof.Machine

namespace State

/-- A step of a tide engine that reads or writes stack memory: it waits while a zero fill or a loopback holds the stacks (R258,
R464). -/
def tideStep (s : State) (u : State) : State := if s.zeroing || s.memLoopback then s else u

/-- CODEBOOK_INSTALL: the landed frame in the slot of lap position `p`, where its turn has come (R54). -/
def tryInstall (s : State) (d c p : Nat) : State :=
  match s.slotAt d c p with
  | none => s
  | some x =>
    if Hdr.isFrame x.head && x.landed && !x.bad && !x.installed && !s.framePending d c (Hdr.cbSlot x.head) p then
      s.installFrame d c x
    else s

/-- CREDIT_TIMER: 1 µs after an advance that has not been reported (R41). -/
def creditTimer (s : State) (d c : Nat) : State :=
  if s.tideOn d c ∧ (s.tctx d c).reported < s.ownMark d c then s.sendCredit d c else s

/-- Does a tide message name the strand and direction of a context (R44)? On a folded strand the two ends turn a leg into
the other, so that the strand decides alone (DEDUCED, assumption 11). -/
def forContext (s : State) (d c : Nat) (ws : List Nat) : Bool :=
  decide (bits (at0 ws 0) 9 8 = s.tideStrand d c) &&
    (s.tideFolded d || decide (bits (at0 ws 0) 10 10 = s.tideDir d c))

/-- A tide message received (R44, R229): one that fails its check is a bad message; `type` is its row. An engine that is off
takes no tide traffic (R64). -/
def tideMessage (s : State) (type d c : Nat) (ws : List Nat) (f : State → State) : State :=
  if !Msg.checkOk ws then s.badMessage ws
  else if Msg.type ws = type ∧ s.tideOn d c ∧ s.forContext d c ws then f s
  else s

/-- TIDE_QUIESCENT: nothing of the job is in flight on an engine that pauses (R62). -/
def tideQuiescent (s : State) (d : Nat) : State :=
  if s.flag .TIDE_CTRL_PAUSE d ∧ s.tideQuiet d then s.wr .TIDE_STATUS_QUIESCENT d 0 1 else s

/-- TIDE_STALL_TIMEOUT: a running context has not moved for its limit (R61). The record names OWN_MARK as the lap position
(DEDUCED, assumption 11). -/
def tideStall (s : State) (d c : Nat) : State :=
  if s.ctxActive d c then s.tideErr eStall d c (s.ownMark d c) (s.downMark d c) false else s

end State

/-- SEGMENT_INJECT (R32, R34, R40, R184, R497). -/
def execSegmentInject (d c : Nat) (s : State) : Result := answerIf (s.hasTide d c) s (s.tideStep (s.walkerStep d c))

/-- CONTEXT_SEND_NEXT (R46, R47, R51). -/
def execContextSendNext (d c : Nat) (s : State) : Result := answerIf (s.hasTide d c) s (s.tideStep (s.sendNext d c))

/-- SEGMENT_ARRIVE (R30, R42, R47, R52, R56, R59, R60, R69, R77 to R79). -/
def execSegmentArrive (d c : Nat) (seg : Seg) (s : State) : Result := answerIf (s.hasTide d c) s (s.tideStep (s.arriveSegment d c seg))

/-- LANDING_COMPLETE (R45, R48, R54, R56). -/
def execLandingComplete (d c p : Nat) (s : State) : Result := answerIf (s.hasTide d c) s (s.tideStep (s.landingDone d c p))

/-- CODEBOOK_INSTALL (R54, R182). -/
def execCodebookInstall (d c p : Nat) (s : State) : Result := answerIf (s.hasTide d c) s (s.tideStep (s.tryInstall d c p))

/-- TIDE_RELEASE: a write of TIDE_RELEASE (R50). -/
def execTideRelease (src : Source) (d value : Nat) (s : State) : Result :=
  answerIf (s.hasSource src) s (s.writeWhole src ⟨.TIDE_RELEASE, d, 0⟩ value)

/-- CREDIT_TIMER (R41). -/
def execCreditTimer (d c : Nat) (s : State) : Result := answerIf (s.hasTide d c) s (s.creditTimer d c)

/-- CREDIT (R41, R44). -/
def execCredit (d c : Nat) (words : List Nat) (s : State) : Result :=
  answerIf (s.hasTide d c) s (s.tideMessage 0x01 d c words fun s => s.takeCredit d c words)

/-- RESEND (R44, R60, R81, R82). -/
def execResend (d c : Nat) (words : List Nat) (target : Nat) (s : State) : Result :=
  answerIf (s.hasTide d c) s (s.tideMessage 0x02 d c words fun s => s.tideStep (s.takeResend d c words target))

/-- TIDE_ENABLE: a write of 1 to TIDE_CTRL.ENABLE (R38, R49). -/
def execTideEnable (src : Source) (d : Nat) (s : State) : Result :=
  answerIf (s.hasSource src) s (s.writeField src ⟨.TIDE_CTRL, d, 0⟩ .TIDE_CTRL_ENABLE 1)

/-- TIDE_PAUSE: a write of TIDE_CTRL.PAUSE (R62). -/
def execTidePause (src : Source) (d : Nat) (on : Bool) (s : State) : Result :=
  answerIf (s.hasSource src) s (s.writeField src ⟨.TIDE_CTRL, d, 0⟩ .TIDE_CTRL_PAUSE (b2n on))

/-- TIDE_QUIESCENT (R62). -/
def execTideQuiescent (d : Nat) (s : State) : Result := answerIf (s.hasDie d) s (s.tideQuiescent d)

/-- TIDE_VOID: a write of 1 to TIDE_CTRL.VOID (R63). -/
def execTideVoid (src : Source) (d : Nat) (s : State) : Result :=
  answerIf (s.hasSource src) s (s.writeField src ⟨.TIDE_CTRL, d, 0⟩ .TIDE_CTRL_VOID 1)

/-- TIDE_STALL_TIMEOUT (R61). -/
def execTideStallTimeout (d c : Nat) (s : State) : Result := answerIf (s.hasTide d c) s (s.tideStall d c)

/-- WANT_MARK_WRITE: a write of TIDE_SD_WANT_MARK (R55, R56). -/
def execWantMarkWrite (src : Source) (d c mark : Nat) (s : State) : Result :=
  answerIf (s.hasSource src) s (s.writeWhole src ⟨.TIDE_SD_WANT_MARK, d, c⟩ mark)

/-- TIDE_WANT_SET: a write of a word of TIDE_WANT (R55). -/
def execTideWantSet (src : Source) (idx value : Nat) (s : State) : Result :=
  answerIf (s.hasSource src) s (s.writeWhole src ⟨.TIDE_WANT, 0, idx⟩ value)

end Sys2Proof.Machine
end

