-- ==== Sys2Proof/Machine/Dispatch.lean ====
section
/-! DEFINITION. The meaning of every command: one arm for each row of spec/opcode_table.json, each one direct call. -/
namespace Sys2Proof.Machine

/-- What a command does to everything but the queue of commands. -/
def exec (i : Instr) (s : State) : Host.Outcome State Fault Refusal :=
  match i with
  | .registerWrite src addr size w => Sys2Proof.Machine.execRegisterWrite src addr size w s
  | .coreExecute t flaws => Sys2Proof.Machine.execCoreExecute t flaws s
  | .coreLoad t flaws => Sys2Proof.Machine.execCoreLoad t flaws s
  | .coreStore t flaws => Sys2Proof.Machine.execCoreStore t flaws s
  | .loadComplete t c flaws => Sys2Proof.Machine.execLoadComplete t c flaws s
  | .csrAccess t => Sys2Proof.Machine.execCsrAccess t s
  | .fenceI t => Sys2Proof.Machine.execFenceI t s
  | .wfi t => Sys2Proof.Machine.execWfi t s
  | .mret t => Sys2Proof.Machine.execMret t s
  | .ecall t => Sys2Proof.Machine.execEcall t s
  | .ebreak t => Sys2Proof.Machine.execEbreak t s
  | .contextWake t c => Sys2Proof.Machine.execContextWake t c s
  | .tqIssue t flaws => Sys2Proof.Machine.execTqIssue t flaws s
  | .tqFence t => Sys2Proof.Machine.execTqFence t s
  | .tqStat t => Sys2Proof.Machine.execTqStat t s
  | .sigWait t => Sys2Proof.Machine.execSigWait t s
  | .sigTry t => Sys2Proof.Machine.execSigTry t s
  | .sigPost t => Sys2Proof.Machine.execSigPost t s
  | .barArrive t => Sys2Proof.Machine.execBarArrive t s
  | .barWait t => Sys2Proof.Machine.execBarWait t s
  | .tileHalt t => Sys2Proof.Machine.execTileHalt t s
  | .tileYield t => Sys2Proof.Machine.execTileYield t s
  | .tileId t => Sys2Proof.Machine.execTileId t s
  | .tileCtx t => Sys2Proof.Machine.execTileCtx t s
  | .tileTmark t => Sys2Proof.Machine.execTileTmark t s
  | .tileTmarkh t => Sys2Proof.Machine.execTileTmarkh t s
  | .tileTime t => Sys2Proof.Machine.execTileTime t s
  | .tileTimeh t => Sys2Proof.Machine.execTileTimeh t s
  | .tideRel t => Sys2Proof.Machine.execTideRel t s
  | .tileLd t flaws => Sys2Proof.Machine.execTileLd t flaws s
  | .tileSd t flaws => Sys2Proof.Machine.execTileSd t flaws s
  | .copy t e flaws => Sys2Proof.Machine.execCopy t e flaws s
  | .mcast t e flaws => Sys2Proof.Machine.execMcast t e flaws s
  | .expandW t flaws => Sys2Proof.Machine.execExpandW t flaws s
  | .expandAcc t flaws => Sys2Proof.Machine.execExpandAcc t flaws s
  | .convert t flaws => Sys2Proof.Machine.execConvert t flaws s
  | .compress t flaws => Sys2Proof.Machine.execCompress t flaws s
  | .descriptorComplete t e => Sys2Proof.Machine.execDescriptorComplete t e s
  | .vopConvert t flaws => Sys2Proof.Machine.execVopConvert t flaws s
  | .vopAdd t flaws => Sys2Proof.Machine.execVopAdd t flaws s
  | .vopSub t flaws => Sys2Proof.Machine.execVopSub t flaws s
  | .vopMul t flaws => Sys2Proof.Machine.execVopMul t flaws s
  | .vopFma t flaws => Sys2Proof.Machine.execVopFma t flaws s
  | .vopMax t flaws => Sys2Proof.Machine.execVopMax t flaws s
  | .vopMin t flaws => Sys2Proof.Machine.execVopMin t flaws s
  | .vopScale t flaws => Sys2Proof.Machine.execVopScale t flaws s
  | .vopExp2 t flaws => Sys2Proof.Machine.execVopExp2 t flaws s
  | .vopLog2 t flaws => Sys2Proof.Machine.execVopLog2 t flaws s
  | .vopRecip t flaws => Sys2Proof.Machine.execVopRecip t flaws s
  | .vopRsqrt t flaws => Sys2Proof.Machine.execVopRsqrt t flaws s
  | .vopRowsum t flaws => Sys2Proof.Machine.execVopRowsum t flaws s
  | .vopRowmax t flaws => Sys2Proof.Machine.execVopRowmax t flaws s
  | .vopSelect t flaws => Sys2Proof.Machine.execVopSelect t flaws s
  | .gemm t flaws frozen => Sys2Proof.Machine.execGemm t flaws frozen s
  | .arrayResume t => Sys2Proof.Machine.execArrayResume t s
  | .passComplete t => Sys2Proof.Machine.execPassComplete t s
  | .arrStop src t on => Sys2Proof.Machine.execArrStop src t on s
  | .abort src t => Sys2Proof.Machine.execAbort src t s
  | .waterlineWrite src t level => Sys2Proof.Machine.execWaterlineWrite src t level s
  | .waterlineRewriteDone t => Sys2Proof.Machine.execWaterlineRewriteDone t s
  | .resendSignalApply pick => Sys2Proof.Machine.execResendSignalApply pick s
  | .ctxRunWrite src t c value => Sys2Proof.Machine.execCtxRunWrite src t c value s
  | .glbTileRankWrite src value => Sys2Proof.Machine.execGlbTileRankWrite src value s
  | .segmentInject d c => Sys2Proof.Machine.execSegmentInject d c s
  | .contextSendNext d c => Sys2Proof.Machine.execContextSendNext d c s
  | .segmentArrive d c seg => Sys2Proof.Machine.execSegmentArrive d c seg s
  | .landingComplete d c p => Sys2Proof.Machine.execLandingComplete d c p s
  | .codebookInstall d c p => Sys2Proof.Machine.execCodebookInstall d c p s
  | .tideRelease src d value => Sys2Proof.Machine.execTideRelease src d value s
  | .creditTimer d c => Sys2Proof.Machine.execCreditTimer d c s
  | .credit d c words => Sys2Proof.Machine.execCredit d c words s
  | .resend d c words target => Sys2Proof.Machine.execResend d c words target s
  | .tideEnable src d => Sys2Proof.Machine.execTideEnable src d s
  | .tidePause src d on => Sys2Proof.Machine.execTidePause src d on s
  | .tideQuiescent d => Sys2Proof.Machine.execTideQuiescent d s
  | .tideVoid src d => Sys2Proof.Machine.execTideVoid src d s
  | .tideStallTimeout d c => Sys2Proof.Machine.execTideStallTimeout d c s
  | .wantMarkWrite src d c mark => Sys2Proof.Machine.execWantMarkWrite src d c mark s
  | .tideWantSet src idx value => Sys2Proof.Machine.execTideWantSet src idx value s
  | .signalApply picks => Sys2Proof.Machine.execSignalApply picks s
  | .sigCntWrite src t n w => Sys2Proof.Machine.execSigCntWrite src t n w s
  | .sigCntCfgWrite src t n value => Sys2Proof.Machine.execSigCntCfgWrite src t n value s
  | .waitTimeout t who => Sys2Proof.Machine.execWaitTimeout t who s
  | .signal words => Sys2Proof.Machine.execSignal words s
  | .guardPacketArrive packet => Sys2Proof.Machine.execGuardPacketArrive packet s
  | .guardHeldPacketAccept => Sys2Proof.Machine.execGuardHeldPacketAccept s
  | .guardPacketWritten k => Sys2Proof.Machine.execGuardPacketWritten k s
  | .guardTimeout die tag => Sys2Proof.Machine.execGuardTimeout die tag s
  | .barArrivalCount t c => Sys2Proof.Machine.execBarArrivalCount t c s
  | .barArriveMsg words => Sys2Proof.Machine.execBarArriveMsg words s
  | .barReleaseMsg words => Sys2Proof.Machine.execBarReleaseMsg words s
  | .barrierTimeout b => Sys2Proof.Machine.execBarrierTimeout b s
  | .sigBarCfgWrite src b value => Sys2Proof.Machine.execSigBarCfgWrite src b value s
  | .clearBar src => Sys2Proof.Machine.execClearBar src s
  | .sigTidemarkWrite src value => Sys2Proof.Machine.execSigTidemarkWrite src value s
  | .memAccess req addr len data flaws => Sys2Proof.Machine.execMemAccess req addr len data flaws s
  | .refresh st channel bank => Sys2Proof.Machine.execRefresh st channel bank s
  | .refreshRateChange st temp => Sys2Proof.Machine.execRefreshRateChange st temp s
  | .scrubRead st found => Sys2Proof.Machine.execScrubRead st found s
  | .memZeroStart who st => Sys2Proof.Machine.execMemZeroStart who st s
  | .zeroFillDone st => Sys2Proof.Machine.execZeroFillDone st s
  | .memRgnMirrorWrite src value => Sys2Proof.Machine.execMemRgnMirrorWrite src value s
  | .mirrorDisarm => Sys2Proof.Machine.execMirrorDisarm s
  | .dataFlitReceive p flit => Sys2Proof.Machine.execDataFlitReceive p flit s
  | .gcmGroupVerify group p x => Sys2Proof.Machine.execGcmGroupVerify group p x s
  | .ack p seq totals => Sys2Proof.Machine.execAck p seq totals s
  | .nak p seq => Sys2Proof.Machine.execNak p seq s
  | .time p sent arrived mine => Sys2Proof.Machine.execTime p sent arrived mine s
  | .ident p loc kind port quads serial epoch totals => Sys2Proof.Machine.execIdent p loc kind port quads serial epoch totals s
  | .off p => Sys2Proof.Machine.execOff p s
  | .replayTimeout p => Sys2Proof.Machine.execReplayTimeout p s
  | .ackSendTimer p => Sys2Proof.Machine.execAckSendTimer p s
  | .identRepeat p => Sys2Proof.Machine.execIdentRepeat p s
  | .timeSend p => Sys2Proof.Machine.execTimeSend p s
  | .trainingStageDone p stage => Sys2Proof.Machine.execTrainingStageDone p stage s
  | .trainTimeout p => Sys2Proof.Machine.execTrainTimeout p s
  | .signalDetect p => Sys2Proof.Machine.execSignalDetect p s
  | .laneLockLoss p => Sys2Proof.Machine.execLaneLockLoss p s
  | .portEnableWrite src p on => Sys2Proof.Machine.execPortEnableWrite src p on s
  | .retrain src p => Sys2Proof.Machine.execRetrain src p s
  | .drainComplete p => Sys2Proof.Machine.execDrainComplete p s
  | .drainTimeout p => Sys2Proof.Machine.execDrainTimeout p s
  | .creditAllotWrite src p value => Sys2Proof.Machine.execCreditAllotWrite src p value s
  | .twyXferRequest src words => Sys2Proof.Machine.execTwyXferRequest src words s
  | .xferSend d => Sys2Proof.Machine.execXferSend d s
  | .xferLsig tag => Sys2Proof.Machine.execXferLsig tag s
  | .transitForward p loc icls flits x => Sys2Proof.Machine.execTransitForward p loc icls flits x s
  | .slotAdvance slot => Sys2Proof.Machine.execSlotAdvance slot s
  | .backoffExpiry point who cycle => Sys2Proof.Machine.execBackoffExpiry point who cycle s
  | .arbStarvation point => Sys2Proof.Machine.execArbStarvation point s
  | .commit src p => Sys2Proof.Machine.execCommit src p s
  | .sluRankWrite src p value => Sys2Proof.Machine.execSluRankWrite src p value s
  | .sluShadowWrite src p k value => Sys2Proof.Machine.execSluShadowWrite src p k value s
  | .configRequest => Sys2Proof.Machine.execConfigRequest s
  | .functionLevelReset => Sys2Proof.Machine.execFunctionLevelReset s
  | .bar2Access off len data => Sys2Proof.Machine.execBar2Access off len data s
  | .bar2StalledReadComplete => Sys2Proof.Machine.execBar2StalledReadComplete s
  | .hostSigWrite src vector => Sys2Proof.Machine.execHostSigWrite src vector s
  | .sqTailWrite src q value => Sys2Proof.Machine.execSqTailWrite src q value s
  | .cqHeadWrite src q value => Sys2Proof.Machine.execCqHeadWrite src q value s
  | .queueCfgWrite src q value => Sys2Proof.Machine.execQueueCfgWrite src q value s
  | .submissionFetch q => Sys2Proof.Machine.execSubmissionFetch q s
  | .nop q => Sys2Proof.Machine.execNop q s
  | .ferry q flaws link => Sys2Proof.Machine.execFerry q flaws link s
  | .ferryComplete ch => Sys2Proof.Machine.execFerryComplete ch s
  | .jobOpen link => Sys2Proof.Machine.execJobOpen link s
  | .jobStart => Sys2Proof.Machine.execJobStart s
  | .jobPause => Sys2Proof.Machine.execJobPause s
  | .pauseDrained => Sys2Proof.Machine.execPauseDrained s
  | .pauseUnitsDone => Sys2Proof.Machine.execPauseUnitsDone s
  | .pauseSaveDone => Sys2Proof.Machine.execPauseSaveDone s
  | .pauseTimeout => Sys2Proof.Machine.execPauseTimeout s
  | .jobResume => Sys2Proof.Machine.execJobResume s
  | .jobKill => Sys2Proof.Machine.execJobKill s
  | .scourTilesDone => Sys2Proof.Machine.execScourTilesDone s
  | .scourComplete => Sys2Proof.Machine.execScourComplete s
  | .recoveryChunk src value => Sys2Proof.Machine.execRecoveryChunk src value s
  | .recoveryVerifyDone => Sys2Proof.Machine.execRecoveryVerifyDone s
  | .voidSeqQuiesce => Sys2Proof.Machine.execVoidSeqQuiesce s
  | .voidNotice words => Sys2Proof.Machine.execVoidNotice words s
  | .voidQuiesceDone => Sys2Proof.Machine.execVoidQuiesceDone s
  | .haltResume src => Sys2Proof.Machine.execHaltResume src s
  | .voidCtrlWrite src value => Sys2Proof.Machine.execVoidCtrlWrite src value s
  | .pwrokFall => Sys2Proof.Machine.execPwrokFall s
  | .pwrokRise pins hsEnDef prodtest => Sys2Proof.Machine.execPwrokRise pins hsEnDef prodtest s
  | .perstAssert => Sys2Proof.Machine.execPerstAssert s
  | .perstRelease => Sys2Proof.Machine.execPerstRelease s
  | .trayRstAssert => Sys2Proof.Machine.execTrayRstAssert s
  | .trayRstRelease => Sys2Proof.Machine.execTrayRstRelease s
  | .pkg src => Sys2Proof.Machine.execPkg src s
  | .compute src on => Sys2Proof.Machine.execCompute src on s
  | .holdWrite src kind k on => Sys2Proof.Machine.execHoldWrite src kind k on s
  | .shutterClosed kind k isolated => Sys2Proof.Machine.execShutterClosed kind k isolated s
  | .shutterOpened kind k => Sys2Proof.Machine.execShutterOpened kind k s
  | .fuseLoadDone => Sys2Proof.Machine.execFuseLoadDone s
  | .clocksLocked => Sys2Proof.Machine.execClocksLocked s
  | .pllUnlock domain => Sys2Proof.Machine.execPllUnlock domain s
  | .memTrainDone st ok => Sys2Proof.Machine.execMemTrainDone st ok s
  | .romVerifyDone => Sys2Proof.Machine.execRomVerifyDone s
  | .tilesRelease => Sys2Proof.Machine.execTilesRelease s
  | .shoreConfigApply => Sys2Proof.Machine.execShoreConfigApply s
  | .watchdogExpiry => Sys2Proof.Machine.execWatchdogExpiry s
  | .mbRequest src => Sys2Proof.Machine.execMbRequest src s
  | .getVersion => Sys2Proof.Machine.execGetVersion s
  | .getTelemetry => Sys2Proof.Machine.execGetTelemetry s
  | .setTjTarget target => Sys2Proof.Machine.execSetTjTarget target s
  | .setValveTarget target => Sys2Proof.Machine.execSetValveTarget target s
  | .powerOff => Sys2Proof.Machine.execPowerOff s
  | .powerOffDelay => Sys2Proof.Machine.execPowerOffDelay s
  | .mgmtSend loc len payload => Sys2Proof.Machine.execMgmtSend loc len payload s
  | .mgmtPacketReceive words x => Sys2Proof.Machine.execMgmtPacketReceive words x s
  | .telemetrySample sample => Sys2Proof.Machine.execTelemetrySample sample s
  | .govLimitWrite src value => Sys2Proof.Machine.execGovLimitWrite src value s
  | .capSample power => Sys2Proof.Machine.execCapSample power s
  | .thermalTrip die sensor => Sys2Proof.Machine.execThermalTrip die sensor s
  | .voltageRequest rail mv => Sys2Proof.Machine.execVoltageRequest rail mv s
  | .valveLoop => Sys2Proof.Machine.execValveLoop s
  | .flowWindow pulses => Sys2Proof.Machine.execFlowWindow pulses s
  | .inputUndervoltage low => Sys2Proof.Machine.execInputUndervoltage low s
  | .secJobSecretWrite src k value => Sys2Proof.Machine.execSecJobSecretWrite src k value s
  | .quote src => Sys2Proof.Machine.execQuote src s
  | .quoteReady => Sys2Proof.Machine.execQuoteReady s
  | .unlock src => Sys2Proof.Machine.execUnlock src s
  | .enrol src => Sys2Proof.Machine.execEnrol src s
  | .rekey src => Sys2Proof.Machine.execRekey src s
  | .svnFw src => Sys2Proof.Machine.execSvnFw src s
  | .svnShore src => Sys2Proof.Machine.execSvnShore src s
  | .clearSecret src => Sys2Proof.Machine.execClearSecret src s
  | .entropyFail => Sys2Proof.Machine.execEntropyFail s
  | .jrnRead => Sys2Proof.Machine.execJrnRead s
  | .jrnWrite => Sys2Proof.Machine.execJrnWrite s
  | .jrnDelete => Sys2Proof.Machine.execJrnDelete s
  | .restoreFactory => Sys2Proof.Machine.execRestoreFactory s
  | .jrnCompact => Sys2Proof.Machine.execJrnCompact s
  | .maintStart => Sys2Proof.Machine.execMaintStart s
  | .maintCancel => Sys2Proof.Machine.execMaintCancel s
  | .optionWrite => Sys2Proof.Machine.execOptionWrite s
  | .optionCommit => Sys2Proof.Machine.execOptionCommit s
  | .maintLogRead => Sys2Proof.Machine.execMaintLogRead s
  | .flashCommand who addr op => Sys2Proof.Machine.execFlashCommand who addr op s
  | .start src a k param => Sys2Proof.Machine.execStart src a k param s
  | .cancel src a k param => Sys2Proof.Machine.execCancel src a k param s
  | .maintSchedule => Sys2Proof.Machine.execMaintSchedule s
  | .maintEnd a k last reason recs vals => Sys2Proof.Machine.execMaintEnd a k last reason recs vals s
  | .maintQueueTimeout a k => Sys2Proof.Machine.execMaintQueueTimeout a k s
  | .eyeScanTimer => Sys2Proof.Machine.execEyeScanTimer s
  | .compactionStart => Sys2Proof.Machine.execCompactionStart s
  | .compactionCommit => Sys2Proof.Machine.execCompactionCommit s
  | .loopbackSelect src kind mode port => Sys2Proof.Machine.execLoopbackSelect src kind mode port s
  | .run src => Sys2Proof.Machine.execRun src s
  | .loopbackEnd bits errs => Sys2Proof.Machine.execLoopbackEnd bits errs s
  | .bistStart src units => Sys2Proof.Machine.execBistStart src units s
  | .bistEnd fails => Sys2Proof.Machine.execBistEnd fails s
  | .tapReset => Sys2Proof.Machine.execTapReset s
  | .idcode => Sys2Proof.Machine.execIdcode s
  | .samplePreload cells => Sys2Proof.Machine.execSamplePreload cells s
  | .extest => Sys2Proof.Machine.execExtest s
  | .clamp => Sys2Proof.Machine.execClamp s
  | .highz => Sys2Proof.Machine.execHighz s
  | .ijtag x => Sys2Proof.Machine.execIjtag x s
  | .debug op => Sys2Proof.Machine.execDebug op s
  | .bypass => Sys2Proof.Machine.execBypass s
  | .surveyOpen src st value => Sys2Proof.Machine.execSurveyOpen src st value s
  | .surveyFeed src st value => Sys2Proof.Machine.execSurveyFeed src st value s
  | .surveyFeedDone st => Sys2Proof.Machine.execSurveyFeedDone st s
  | .surveyFinish src st => Sys2Proof.Machine.execSurveyFinish src st s
  | .surveyBooksWritten st => Sys2Proof.Machine.execSurveyBooksWritten st s
  | .surveyProgressTimeout st => Sys2Proof.Machine.execSurveyProgressTimeout st s
  | .recodeOpen src st => Sys2Proof.Machine.execRecodeOpen src st s
  | .recodeFeed src st value => Sys2Proof.Machine.execRecodeFeed src st value s
  | .recodeSegmentDone st => Sys2Proof.Machine.execRecodeSegmentDone st s
  | .recodeFinish src st => Sys2Proof.Machine.execRecodeFinish src st s
  | .resetPulseEnd pkg => Sys2Proof.Machine.execResetPulseEnd pkg s
  | .entropyPass => Sys2Proof.Machine.execEntropyPass s
  | .secCommandDone => Sys2Proof.Machine.execSecCommandDone s
  | .recoveryChunkWritten => Sys2Proof.Machine.execRecoveryChunkWritten s
  | .rrsWindowEnd => Sys2Proof.Machine.execRrsWindowEnd s

end Sys2Proof.Machine
end

