-- ==== Sys2Proof/Machine/Frame.lean ====
section
/-! DEFINITION. The state with some of its parts left out: two states that agree so differ in those parts at most. The
frames of the statements are said with these. -/
namespace Sys2Proof.Machine.State

/-- Without the registers and the interrupts sent. -/
def noInt (s : State) : State := { s with regs := [], irqs := [] }

/-- Without what an error report changes: the registers, the interrupts sent, the error ring with what is held for it, and
the cause of a void. -/
def noRec (s : State) : State := { s with regs := [], irqs := [], errRing := [], errHeld := [], errSeq := 0, cause := none }

/-- Without what an error of a tide engine changes: a report, and whose first error TIDE_ERR_INFO holds. -/
def noTideRec (s : State) : State := { s.noRec with tideInfo := [] }

/-- Without the contexts and the holders of the cores. -/
def noCtx (s : State) : State := { s with ctxs := [], current := [] }

/-- Without what an exception of a context changes. -/
def noHalt (s : State) : State := s.noRec.noCtx

/-- Without the registers. -/
def noRegs (s : State) : State := { s with regs := [] }

/-- Without what the end of a wait, and the waits it lets end, change. -/
def noWait (s : State) : State := { s.noHalt with waiters := [], arrays := [] }

/-- Without the memory and the engines' queues. -/
def noEng (s : State) : State := { s with mem := Memory.empty, engines := [] }

/-- Without the registers and the contexts of the tide engines. -/
def noTide (s : State) : State := { s with regs := [], tctxs := [] }

end Sys2Proof.Machine.State
end

