-- ==== Sys2Proof/WellFormed.lean ====
section
/-! DEFINITION. Which commands are well formed: every operand inside the range that its field, register or index has in
the spec. Well-formedness speaks of the command alone; what a package does not have (R5) is a matter of its state. -/
namespace Sys2Proof

open Sys2Proof.Machine

/-- An index of one of `n` things. -/
def below (n x : Nat) : Bool := decide (x < n)

/-- A value of `w` bits. -/
def word (w x : Nat) : Bool := decide (x < 2 ^ w)

/-- 64-bit words, as messages carry them. -/
def wordsOk (ws : List Nat) : Bool := ws.all fun w => word 64 w

/-- Bytes, at most `n` of them. -/
def bytesOk (n : Nat) (bs : List Nat) : Bool := decide (bs.length ≤ n) && bs.all fun b => word 8 b

/-- The cumulative credit totals of the six classes, of 4 bytes each (R279). -/
def totalsOk (ts : List Nat) : Bool := decide (ts.length = 6) && ts.all fun t => word 32 t

/-- An access size (R496). -/
def sizeOk (n : Nat) : Bool := [1, 2, 4, 8].contains n

/-- An access inside one 64-byte line (R245). -/
def lineOk (a n : Nat) : Bool := decide (1 ≤ n ∧ a % 64 + n ≤ 64)

/-- An access of at least a byte inside the 64 GiB of BAR2 (R341). -/
def spanOk (off n : Nat) : Bool := decide (1 ≤ n ∧ off + n ≤ 2 ^ 36)

/-- Data of a write: as many bytes as the access has. -/
def dataOk (n : Nat) (data : Option (List Byte)) : Bool := data.all fun bs => decide (bs.length = n)

/-- A block with a shutter (R402): tiles, ports, memory controllers, ferries. -/
def blockOk (kind i : Nat) : Bool :=
  match kind with
  | 1 => below 3072 i
  | 2 => below 32 i
  | 3 => below 16 i
  | 4 => below 16 i
  | _ => false

/-- An instance of a maintenance activity (R456): JRN_MAINT_REQ has 3 bits for the activity and 8 for the instance. -/
def instOk (a i : Nat) : Bool := below 8 a && below 256 i

/-- Calibration records: keys of 64 bits, values of up to 40 bytes (R443). -/
def recsOk (rs : List (Nat × List Nat)) : Bool := rs.all fun r => word 64 r.1 && bytesOk 40 r.2

/-- Failing units of a self-test (R469): unit, index, address. -/
def failsOk (fs : List (Nat × Nat × Nat)) : Bool := fs.all fun f => below 4 f.1 && word 48 f.2.2

/-- A source of register writes (R10). -/
def Machine.Source.wf : Source → Bool
  | .host | .lighthouse => true
  | .ctx t c => below 3072 t && below 4 c
  | .engine t e => below 3072 t && below 5 e

/-- An error in a read: a device address, a syndrome (MEM_ERR_SYND has four 16-bit symbols), up to three bits or symbols. -/
def Machine.Flaw.wf (f : Flaw) : Bool := word 48 f.addr && word 64 f.synd && below 4 f.errs

/-- A requester of the controllers (R260). -/
def Machine.Req.wf (r : Req) : Bool := word 16 r.num && word 4 r.waiterKind && word 32 r.waiter

/-- A shared resource (R300). -/
def Machine.Point.wf : Point → Bool
  | .bank t b => below 3072 t && below 10 b
  | .fabric t port => below 3072 t && below 5 port
  | .memory st => below 16 st
  | .egress p => below 32 p

/-- What a scrub read finds. -/
def Machine.Found.wf : Found → Bool
  | .clean => true
  | .symbols n y => below 4 n && word 64 y
  | .moved y => word 64 y

/-- A flit: four words of header and 32 of body (R269). -/
def Machine.Flit.wf (f : Flit) : Bool :=
  decide (f.header.length = 4) && wordsOk f.header && decide (f.body.length = 32) && wordsOk f.body

/-- A segment: 32 words of header (R26, R67), ORIGIN, NONCE, ciphertext and tags (R281). -/
def Machine.Seg.wf (x : Seg) : Bool :=
  decide (x.head.length = 32) && wordsOk x.head && word 10 x.origin && word 40 x.nonce && wordsOk x.cipher &&
    x.tags.all (word 128 ·)

/-- A group and its tag (R280, R281). -/
def Machine.Sealed.wf (x : Sealed) : Bool :=
  below 8 x.cls && word 10 x.origin && word 40 x.nonce && word 8 x.index && wordsOk x.aad && wordsOk x.words && word 128 x.tag

/-- A TRANSIT unit: at least a flit, 32 words a flit, a tag for each group (R291). -/
def Machine.Transit.wf (flits : Nat) (x : Transit) : Bool :=
  decide (1 ≤ flits) && below 2 x.tm0 && word 2 x.att && word 10 x.origin && word 40 x.nonce && wordsOk x.guard &&
    decide (x.words.length = 32 * flits) && wordsOk x.words && decide (x.tags.length = (flits + 15) / 16) &&
    x.tags.all (word 128 ·) && x.pads.all (below flits ·)

/-- A cycle at a point: requesters, a row, and the inputs and outputs of a router (R116, R300, R301). -/
def Machine.ArbCycle.wf (x : ArbCycle) : Bool :=
  x.present.all (below 8 ·) && below 5120 x.row && x.packets.all fun y => below 5 y.1 && y.2.all (below 5 ·)

/-- A guarded packet (R219, R286). -/
def Machine.Packet.wf (x : Packet) : Bool :=
  below 32 x.port && word 32 x.tag && word 20 x.count && word 64 x.sig && word 48 x.addr && below 8 x.cls

/-- A verified group's place. -/
def Machine.Group.wf : Group → Bool
  | .slot d c p => below 4 d && below 4 c && word 25 p
  | .none | .packet _ | .mgmt => true

/-- A telemetry sample (R439). -/
def Machine.Sample.wf (x : Sample) : Bool :=
  word 32 x.volt && word 32 x.power && word 32 x.peak && word 64 x.energy && decide (x.rails.length ≤ 12) &&
    decide (x.gov.length ≤ 4)

/-- What SRAM_DIRECT writes into an SRAM of an I/O die or of a controller. -/
def Machine.DieSram.wf : DieSram → Bool
  | .record slot ws => below 256 slot && decide (ws.length ≤ 8) && ws.all (word 64)
  | .guards _ => true
  | .replay p fs => below 32 p && decide (fs.length ≤ 512)
  | .book d c k _ => below 4 d && below 4 c && below 32 k
  | .survey st j x ways => below 16 st && below 4 j && below 4096 x && decide (ways.length = 4)

/-- An instrument of the IEEE 1687 network (R472): PCIE_LB has three modes and 16 counters. -/
def Machine.Instrument.wf : Instrument → Bool
  | .pcieLb m => below 3 m
  | .pcieEnd n errs => word 64 n && decide (errs.length ≤ 16)
  | .sramDirect a bs => word 48 a && bytesOk 65536 bs
  | .sramDie x => x.wf
  | .temp | .clocks | .flash | .pcieRun | .scan _ | .analog => true

/-- A flash command: a page of at most 256 bytes, or a sector (R441). -/
def Machine.FlashOp.wf : FlashOp → Bool
  | .program bs => bytesOk 256 bs
  | .erase => true

/-- Is a command well formed? -/
def Instr.wf : Instr → Bool
  | .registerWrite src addr size w => src.wf && word 26 addr && sizeOk size && word (8 * size) w.value &&
      w.out.all (fun i => decide (i < size)) && (w.out.isEmpty || (decide (src = .host) && decide (4 ≤ size)))
  | .coreExecute t flaws => below 3072 t && flaws.all Flaw.wf
  | .coreLoad t flaws => below 3072 t && flaws.all Flaw.wf
  | .coreStore t flaws => below 3072 t && flaws.all Flaw.wf
  | .loadComplete t c flaws => below 3072 t && below 4 c && flaws.all Flaw.wf
  | .csrAccess t => below 3072 t
  | .fenceI t => below 3072 t
  | .wfi t => below 3072 t
  | .mret t => below 3072 t
  | .ecall t => below 3072 t
  | .ebreak t => below 3072 t
  | .contextWake t c => below 3072 t && below 4 c
  | .tqIssue t flaws => below 3072 t && flaws.all Flaw.wf
  | .tqFence t => below 3072 t
  | .tqStat t => below 3072 t
  | .sigWait t => below 3072 t
  | .sigTry t => below 3072 t
  | .sigPost t => below 3072 t
  | .barArrive t => below 3072 t
  | .barWait t => below 3072 t
  | .tileHalt t => below 3072 t
  | .tileYield t => below 3072 t
  | .tileId t => below 3072 t
  | .tileCtx t => below 3072 t
  | .tileTmark t => below 3072 t
  | .tileTmarkh t => below 3072 t
  | .tileTime t => below 3072 t
  | .tileTimeh t => below 3072 t
  | .tideRel t => below 3072 t
  | .tileLd t flaws => below 3072 t && flaws.all Flaw.wf
  | .tileSd t flaws => below 3072 t && flaws.all Flaw.wf
  | .copy t e flaws => below 3072 t && below 5 e && flaws.all Flaw.wf
  | .mcast t e flaws => below 3072 t && below 5 e && flaws.all Flaw.wf
  | .expandW t flaws => below 3072 t && flaws.all Flaw.wf
  | .expandAcc t flaws => below 3072 t && flaws.all Flaw.wf
  | .convert t flaws => below 3072 t && flaws.all Flaw.wf
  | .compress t flaws => below 3072 t && flaws.all Flaw.wf
  | .descriptorComplete t e => below 3072 t && below 5 e
  | .vopConvert t flaws => below 3072 t && flaws.all Flaw.wf
  | .vopAdd t flaws => below 3072 t && flaws.all Flaw.wf
  | .vopSub t flaws => below 3072 t && flaws.all Flaw.wf
  | .vopMul t flaws => below 3072 t && flaws.all Flaw.wf
  | .vopFma t flaws => below 3072 t && flaws.all Flaw.wf
  | .vopMax t flaws => below 3072 t && flaws.all Flaw.wf
  | .vopMin t flaws => below 3072 t && flaws.all Flaw.wf
  | .vopScale t flaws => below 3072 t && flaws.all Flaw.wf
  | .vopExp2 t flaws => below 3072 t && flaws.all Flaw.wf
  | .vopLog2 t flaws => below 3072 t && flaws.all Flaw.wf
  | .vopRecip t flaws => below 3072 t && flaws.all Flaw.wf
  | .vopRsqrt t flaws => below 3072 t && flaws.all Flaw.wf
  | .vopRowsum t flaws => below 3072 t && flaws.all Flaw.wf
  | .vopRowmax t flaws => below 3072 t && flaws.all Flaw.wf
  | .vopSelect t flaws => below 3072 t && flaws.all Flaw.wf
  | .gemm t flaws _ => below 3072 t && flaws.all Flaw.wf
  | .arrayResume t => below 3072 t
  | .passComplete t => below 3072 t
  | .arrStop src t _ => src.wf && below 3072 t
  | .abort src t => src.wf && below 3072 t
  | .waterlineWrite src t level => src.wf && below 3072 t && word 32 level
  | .waterlineRewriteDone t => below 3072 t
  | .resendSignalApply _ => true
  | .ctxRunWrite src t c value => src.wf && below 3072 t && below 4 c && word 64 value
  | .glbTileRankWrite src value => src.wf && word 64 value
  | .segmentInject d c => below 4 d && below 4 c
  | .contextSendNext d c => below 4 d && below 4 c
  | .segmentArrive d c seg => below 4 d && below 4 c && seg.wf
  | .landingComplete d c p => below 4 d && below 4 c && word 25 p
  | .codebookInstall d c p => below 4 d && below 4 c && word 25 p
  | .tideRelease src d value => src.wf && below 4 d && word 64 value
  | .creditTimer d c => below 4 d && below 4 c
  | .credit d c words => below 4 d && below 4 c && wordsOk words
  | .resend d c words target => below 4 d && below 4 c && wordsOk words && word 10 target
  | .tideEnable src d => src.wf && below 4 d
  | .tidePause src d _ => src.wf && below 4 d
  | .tideQuiescent d => below 4 d
  | .tideVoid src d => src.wf && below 4 d
  | .tideStallTimeout d c => below 4 d && below 4 c
  | .wantMarkWrite src d c mark => src.wf && below 4 d && below 4 c && word 25 mark
  | .tideWantSet src idx value => src.wf && below 64 idx && word 64 value
  | .signalApply picks => !picks.isEmpty
  | .sigCntWrite src t n w => src.wf && below 3072 t && below 64 n && word 64 w.value
  | .sigCntCfgWrite src t n value => src.wf && below 3072 t && below 64 n && word 64 value
  | .waitTimeout t who => below 3072 t && below 5 who
  | .signal words => wordsOk words
  | .guardPacketArrive packet => packet.wf
  | .guardHeldPacketAccept => true
  | .guardPacketWritten _ => true
  | .guardTimeout die tag => below 4 die && word 32 tag
  | .barArrivalCount t c => below 3072 t && below 4 c
  | .barArriveMsg words => wordsOk words
  | .barReleaseMsg words => wordsOk words
  | .barrierTimeout b => below 512 b
  | .sigBarCfgWrite src b value => src.wf && below 512 b && word 64 value
  | .clearBar src => src.wf
  | .sigTidemarkWrite src value => src.wf && word 64 value
  | .memAccess req addr len data flaws =>
    req.wf && word 48 addr && lineOk addr len && dataOk len data && flaws.all Flaw.wf
  | .refresh st channel bank => below 16 st && below 16 channel && below 64 bank
  | .refreshRateChange st _ => below 16 st
  | .scrubRead st found => below 16 st && found.wf
  | .memZeroStart _ st => below 16 st
  | .zeroFillDone st => below 16 st
  | .memRgnMirrorWrite src value => src.wf && word 64 value
  | .mirrorDisarm => true
  | .dataFlitReceive p flit => below 32 p && flit.wf
  | .gcmGroupVerify group p x => group.wf && below 32 p && x.wf
  | .ack p seq totals => below 32 p && word 10 seq && totalsOk totals
  | .nak p seq => below 32 p && word 10 seq
  | .time p sent arrived mine => below 32 p && word 64 sent && word 64 arrived && word 64 mine
  | .ident p loc kind port quads serial epoch totals =>
    below 32 p && word 10 loc && below 8 kind && below 32 port && word 8 quads && word 64 serial && word 32 epoch && totalsOk totals
  | .off p => below 32 p
  | .replayTimeout p => below 32 p
  | .ackSendTimer p => below 32 p
  | .identRepeat p => below 32 p
  | .timeSend p => below 32 p
  | .trainingStageDone p _ => below 32 p
  | .trainTimeout p => below 32 p
  | .signalDetect p => below 32 p
  | .laneLockLoss p => below 32 p
  | .portEnableWrite src p _ => src.wf && below 32 p
  | .retrain src p => src.wf && below 32 p
  | .drainComplete p => below 32 p
  | .drainTimeout p => below 32 p
  | .creditAllotWrite src p value => src.wf && below 32 p && word 64 value
  | .twyXferRequest src words => src.wf && wordsOk words
  | .xferSend d => below 4 d
  | .xferLsig tag => word 32 tag
  | .transitForward p loc icls flits x => below 32 p && word 10 loc && below 8 icls && x.wf flits
  | .slotAdvance slot => below 32 slot.port && below 17 slot.idle
  | .backoffExpiry point who cycle => point.wf && below 8 who && cycle.wf
  | .arbStarvation point => point.wf
  | .commit src p => src.wf && below 32 p
  | .sluRankWrite src p value => src.wf && below 32 p && word 64 value
  | .sluShadowWrite src p i value => src.wf && below 32 p && below 8 i && word 64 value
  | .configRequest => true
  | .functionLevelReset => true
  | .bar2Access o len data => word 36 o && spanOk o len && dataOk len data
  | .bar2StalledReadComplete => true
  | .hostSigWrite src vector => src.wf && word 64 vector
  | .sqTailWrite src q value => src.wf && below 64 q && word 64 value
  | .cqHeadWrite src q value => src.wf && below 64 q && word 64 value
  | .queueCfgWrite src q value => src.wf && below 64 q && word 64 value
  | .submissionFetch q => below 64 q
  | .nop q => below 64 q
  | .ferry q flaws _ => below 64 q && flaws.all Flaw.wf
  | .ferryComplete ch => below 16 ch
  | .jobOpen _ => true
  | .jobStart => true
  | .jobPause => true
  | .pauseDrained => true
  | .pauseUnitsDone => true
  | .pauseSaveDone => true
  | .pauseTimeout => true
  | .jobResume => true
  | .jobKill => true
  | .scourTilesDone => true
  | .scourComplete => true
  | .recoveryChunk src value => src.wf && word 64 value
  | .recoveryVerifyDone => true
  | .voidSeqQuiesce => true
  | .voidNotice words => wordsOk words
  | .voidQuiesceDone => true
  | .haltResume src => src.wf
  | .voidCtrlWrite src value => src.wf && word 64 value
  | .pwrokFall => true
  | .pwrokRise _ _ _ => true
  | .perstAssert => true
  | .perstRelease => true
  | .trayRstAssert => true
  | .trayRstRelease => true
  | .pkg src => src.wf
  | .compute src _ => src.wf
  | .holdWrite src kind i _ => src.wf && blockOk kind i
  | .shutterClosed kind i isolated => blockOk kind i && word 16 isolated
  | .shutterOpened kind i => blockOk kind i
  | .fuseLoadDone => true
  | .clocksLocked => true
  | .pllUnlock domain => below 40 domain
  | .memTrainDone st _ => below 16 st
  | .romVerifyDone => true
  | .tilesRelease => true
  | .shoreConfigApply => true
  | .watchdogExpiry => true
  | .mbRequest src => src.wf
  | .getVersion => true
  | .getTelemetry => true
  | .setTjTarget target => word 16 target
  | .setValveTarget target => word 16 target
  | .powerOff => true
  | .powerOffDelay => true
  | .mgmtSend loc _ payload => word 10 loc && bytesOk 256 payload
  | .mgmtPacketReceive words x => wordsOk words && x.wf
  | .telemetrySample sample => sample.wf
  | .govLimitWrite src value => src.wf && word 64 value
  | .capSample power => word 32 power
  | .thermalTrip die sensor => below 8 die && below 64 sensor
  | .voltageRequest rail mv => below 12 rail && word 16 mv
  | .valveLoop => true
  | .flowWindow _ => true
  | .inputUndervoltage _ => true
  | .secJobSecretWrite src i value => src.wf && below 8 i && word 64 value
  | .quote src => src.wf
  | .quoteReady => true
  | .unlock src => src.wf
  | .enrol src => src.wf
  | .rekey src => src.wf
  | .svnFw src => src.wf
  | .svnShore src => src.wf
  | .clearSecret src => src.wf
  | .entropyFail => true
  | .jrnRead => true
  | .jrnWrite => true
  | .jrnDelete => true
  | .restoreFactory => true
  | .jrnCompact => true
  | .maintStart => true
  | .maintCancel => true
  | .optionWrite => true
  | .optionCommit => true
  | .maintLogRead => true
  | .flashCommand _ addr op => word 32 addr && op.wf
  | .start src a i param => src.wf && instOk a i && word 8 param
  | .cancel src a i param => src.wf && instOk a i && word 8 param
  | .maintSchedule => true
  | .maintEnd a i last reason recs vals => instOk a i && below 8 last && word 8 reason && recsOk recs && wordsOk vals
  | .maintQueueTimeout a i => instOk a i
  | .eyeScanTimer => true
  | .compactionStart => true
  | .compactionCommit => true
  | .loopbackSelect src kind mode port => src.wf && below 8 kind && below 8 mode && below 32 port
  | .run src => src.wf
  | .loopbackEnd _ errs => wordsOk errs
  | .bistStart src units => src.wf && word 32 units
  | .bistEnd fails => failsOk fails
  | .tapReset => true
  | .idcode => true
  | .samplePreload _ => true
  | .extest => true
  | .clamp => true
  | .highz => true
  | .ijtag x => x.wf
  | .debug _ => true
  | .bypass => true
  | .surveyOpen src st value => src.wf && below 16 st && word 64 value
  | .surveyFeed src st value => src.wf && below 16 st && word 64 value
  | .surveyFeedDone st => below 16 st
  | .surveyFinish src st => src.wf && below 16 st
  | .surveyBooksWritten st => below 16 st
  | .surveyProgressTimeout st => below 16 st
  | .recodeOpen src st => src.wf && below 16 st
  | .recodeFeed src st value => src.wf && below 16 st && word 64 value
  | .recodeSegmentDone st => below 16 st
  | .recodeFinish src st => src.wf && below 16 st
  | .resetPulseEnd _ => true
  | .entropyPass => true
  | .secCommandDone => true
  | .recoveryChunkWritten => true
  | .rrsWindowEnd => true

end Sys2Proof
end

