-- ==== Sys2Proof/Safety.lean ====
section
/-! DEFINITION. What counts as a safe run: one in which no step ends in a fault or a refusal. -/
namespace Sys2Proof.Safety

open Sys2Proof.Machine

/-- Is every command that waits well formed? -/
def queueWf (s : State) : Bool := s.pending.all Instr.wf

/-- A step that goes on. -/
def goesOn (s t : State) : Prop := step s = .next t

/-- The states that some number of steps leads to. -/
inductive Reaches (s : State) : State → Prop where
  | here : Reaches s s
  | step {t u : State} : Reaches s t → goesOn t u → Reaches s u

/-- A run from `s` is safe while no step of it faults or is refused. -/
def Safe (s : State) : Prop := ∀ t, Reaches s t → ∃ u, goesOn t u

end Sys2Proof.Safety
end

