-- ==== Sys2Proof/Certificates/Slice0/Obligations.lean ====
section
/-! DEFINITION. The statements of this row about the package, for the provers. -/

namespace Sys2Proof.Claims

open Sys2Proof.Machine Sys2Proof.Machine.State

/-! ### Words of the statements -/

/-- Tile `t` exists, context `c` (0 to 3) holds its core, and the instruction `i` of `n` bytes stands at its program counter. -/
def runs (s : State) (t c : Nat) (i : Insn) (n : Nat) : Prop :=
  t < s.nTiles ∧ c < 4 ∧ s.insnAt t = some (c, i, n)

/-- Nothing but context `c` of tile `t` has changed, and who holds that tile's core. -/
def onlyCtx (s u : State) (t c : Nat) : Prop :=
  (∀ t' c', ¬(t' = t ∧ c' = c) → u.ctx t' c' = s.ctx t' c') ∧ u.noCtx = s.noCtx

/-- Context `c` holds the core of tile `t`. -/
def holdsCore (u : State) (t c : Nat) : Prop := SMap.get u.current ⟨t, 0, 0⟩ 0 = c

/-- The context after an instruction of `n` bytes that does not jump: its pc and minstret go on. -/
def after (y : Ctx) (n : Nat) : Ctx := { y with pc := y.pc + BitVec.ofNat 32 n, minstret := y.minstret + 1 }

/-- An instruction has ended with `v` for rd (nothing is written where rd is x0) and its context, its registers apart, as
`y`; it has changed nothing else. -/
def givesCtx (s u : State) (t c rd : Nat) (v : BitVec 32) (y : Ctx) : Prop :=
  (∀ r, u.x t c r = if r = rd ∧ r ≠ 0 then v else s.x t c r) ∧
  u.ctx t c = { y with x := (u.ctx t c).x } ∧ onlyCtx s u t c ∧ holdsCore u t c

/-- An instruction of `n` bytes has ended with `v` for rd, and has changed nothing else. -/
def gives (s u : State) (t c n rd : Nat) (v : BitVec 32) : Prop := givesCtx s u t c rd v (after (s.ctx t c) n)

/-- Context `c` of tile `t` has trapped to its mtvec (R96): mepc, mcause, mtval and mstatus as at a trap of a hart with
machine mode only, and nothing else changed. -/
def trapped (s u : State) (t c cause : Nat) (tval : BitVec 32) : Prop :=
  u.ctx t c = { s.ctx t c with mepc := (s.ctx t c).pc, mcause := BitVec.ofNat 32 cause, mtval := tval,
                               mpie := (s.ctx t c).mie, mie := false, pc := (s.ctx t c).mtvec &&& 0xFFFFFFFC#32 } ∧
  onlyCtx s u t c ∧ holdsCore u t c

/-- A signal that the context has posted is still on its way, a message of one waits at a port or for the first hop's
acknowledgement, or a store of the context waits for room in a full queue (R216, R217). -/
def outstanding (s : State) (t c : Nat) : Prop :=
  (∃ f ∈ s.flights, f.src = .ctx t c) ∨ s.storesOut (.ctx t c) = true ∨
  ∃ e ∈ s.links, (∃ u ∈ e.2.queue, u.owner = .post t c) ∨ ∃ f ∈ e.2.replay, f.owner = .post t c

/-- The registers of a tile and of the records that a halt for want of a handler changes. -/
def haltRegs : List Reg :=
  [.TILE_CTX_CTRL, .TILE_CTX_CAUSE, .TILE_CTX_TVAL, .TILE_ERR_STATUS, .TILE_ERR_INFO, .HST_STATUS, .HST_PBA,
   .SIG_ERR_HEAD, .SIG_ERR_DROPPED, .SIG_STATUS]

/-- Every register field outside the registers `rs` reads as before. -/
def regsBut (s u : State) (rs : List Reg) : Prop := ∀ f i x, f.spec.reg ∉ rs → u.rd f i x = s.rd f i x

/-- Context `c` of tile `t` has halted because its mtvec is 0 (R96): mepc, mcause and mtval written as at a trap, mstatus
and pc as they were; RUN cleared and HALTED set; TILE_CTX_CAUSE, TILE_CTX_TVAL and TILE_ERR_STATUS.TRAP; the step is not
voided. -/
def halted (s u : State) (t c cause : Nat) (tval : BitVec 32) : Prop :=
  u.ctx t c = { s.ctx t c with mepc := (s.ctx t c).pc, mcause := BitVec.ofNat 32 cause, mtval := tval } ∧
  u.rd .TILE_CTX_CTRL_RUN t c = 0 ∧ u.rd .TILE_CTX_CTRL_HALTED t c = 1 ∧
  u.rd .TILE_CTX_CAUSE_CAUSE t c = cause ∧ u.rd .TILE_CTX_TVAL_TVAL t c = tval.toNat ∧
  u.flag .TILE_ERR_STATUS_TRAP t = true ∧ u.rd .SIG_STATUS_VOIDED = s.rd .SIG_STATUS_VOIDED ∧
  u.errSeq = (s.errSeq + 1) % 2 ^ 32 ∧ regsBut s u haltRegs ∧
  (∀ t' c', ¬(t' = t ∧ c' = c) → u.ctx t' c' = s.ctx t' c') ∧ u.noHalt = s.noHalt ∧ u.cause = s.cause

/-- An exception of cause `cause` has been taken: a trap, or a halt where there is no handler (R96). -/
def raised (s u : State) (t c cause : Nat) (tval : BitVec 32) : Prop :=
  if (s.ctx t c).mtvec = 0 then halted s u t c cause tval else trapped s u t c cause tval

/-- What a machine CSR of a context reads as (R95, R499): mstatus has MIE, MPIE and an MPP of machine mode; mhartid tells
the contexts apart. mcycle and mcycleh are not here: they count a time that the model does not have. -/
def csrValue (y : Ctx) (t c : Nat) : Nat → Option (BitVec 32)
  | 0x300 => some (BitVec.ofNat 32 (0x1800 + y.mie.toNat * 8 + y.mpie.toNat * 128))
  | 0x305 => some y.mtvec
  | 0x341 => some y.mepc
  | 0x342 => some y.mcause
  | 0x343 => some y.mtval
  | 0xB02 => some (y.minstret.extractLsb' 0 32)
  | 0xB82 => some (y.minstret.extractLsb' 32 32)
  | 0xF14 => some (BitVec.ofNat 32 (t * 4 + c))
  | _ => none

/-- A context after a write of one of those CSRs. -/
def csrPut (y : Ctx) (v : BitVec 32) : Nat → Ctx
  | 0x300 => { y with mie := v.getLsbD 3, mpie := v.getLsbD 7 }
  | 0x305 => { y with mtvec := v &&& 0xFFFFFFFD#32 }
  | 0x341 => { y with mepc := v &&& 0xFFFFFFFE#32 }
  | 0x342 => { y with mcause := v }
  | 0x343 => { y with mtval := v }
  | 0xB02 => { y with minstret := y.minstret.extractLsb' 32 32 ++ v }
  | 0xB82 => { y with minstret := v ++ y.minstret.extractLsb' 0 32 }
  | _ => y

/-- The operation of a CSR instruction on the old value and its argument. -/
def csrNew : CsrOp → BitVec 32 → BitVec 32 → BitVec 32
  | .write, _, a => a
  | .set, old, a => old ||| a
  | .clear, old, a => old &&& ~~~a

/-- No zero fill and no loopback holds the stacks back from the tide engines (R258, R464). -/
def stacksFree (s : State) : Prop := s.zeroing = false ∧ s.memLoopback = false

/-- A control record of a port as it goes out: the words of its 32-byte slot (R279). -/
def control (p : Nat) (ws : List Nat) : Sent := { port := p, cls := cControl, dest := none, guard := [], words := ws }

/-- The state with one more control record handed to a port, in slot 0 of a control flit (R279). -/
def sends (s : State) (x : Sent) : State := ({ s with outbox := s.outbox ++ [x] } : State).putPlain x.port 1 x.words

/-- Neither an eye scan nor a retrain of port `p` runs that the port's leaving UP could end (R460). -/
def noScans (s : State) (p : Nat) : Prop := s.mState 1 p ≠ 2 ∧ s.mState 2 p ≠ 2

/-- `n` bytes at device address `d` lie in the memories of tile `t` (R119), may be reached now, and hold no uncorrectable
error. -/
def tileReady (s : State) (t d n : Nat) : Prop :=
  (∃ o, s.target d = .tile t o ∧ tileSpanValid o n = true) ∧ s.stalled d n = false ∧ s.firstBad d n = none

/-- Memory has changed in the bytes from `d` on alone, which now are `bs`. -/
def stored (m m' : Memory) (d : Nat) (bs : List Byte) : Prop :=
  m'.readN d bs.length = bs ∧ ∀ a, a < d ∨ d + bs.length ≤ a → m'.read a = m.read a

/-- The fields listed take the values listed, cut to their widths; every other register field reads as before. -/
def puts (s u : State) (l : List (Fd × Nat × Nat × Nat)) : Prop :=
  (∀ w ∈ l, u.rd w.1 w.2.1 w.2.2.1 = w.2.2.2 % 2 ^ w.1.width) ∧
  ∀ f i x, (∀ w ∈ l, (f, i, x) ≠ (w.1, w.2.1, w.2.2.1)) → u.rd f i x = s.rd f i x

/-- The fields listed take the values listed, and nothing else changes. -/
def onlyPuts (s u : State) (l : List (Fd × Nat × Nat × Nat)) : Prop := puts s u l ∧ u.noRegs = s.noRegs

/-- `u` is `s` after one error report of class `cls`, INDEX `index` and instance `inst`, which voids the step or does
not. -/
def reports (s u : State) (cls index inst : Nat) (void : Bool) : Prop :=
  ∃ e : Err, e.cls = cls ∧ e.index = index ∧ e.inst = inst ∧ e.void = void ∧ u = s.report e

/-- A write of the value `v` of the whole register `r` by `src` reaches the register: the source and the register are
there and the source can make the access; no shutter, no rule of the mirror, no lock and no engine in use keeps it away;
and it places no reserved encoding (R9, R12, R15, R398, R399, R491). -/
def takes (s : State) (src : Source) (r : RegRef) (v : Nat) : Prop :=
  s.hasSource src = true ∧ s.canAccess src r.offset = true ∧
  (throughMirror src = true → mirrored r.offset = true ∧ s.mirrorRefused r.offset = none) ∧
  s.hasInst r.reg.spec.block r.inst = true ∧ s.regShut r = false ∧
  ¬(hasLocked r.reg = true ∧ s.locked = true) ∧ s.tideLocked r = false ∧ s.reservedValue r v = false

/-- The value of a register with one field changed and every other field as it is (W1C and W1S bits 0). -/
def withField (s : State) (r : RegRef) (f : Fd) (x : Nat) : Nat := withBits (s.heldValue r) f.spec.hi f.spec.lo x

/-- What a field holds after a write of `y` to it over `x`, by its access code (R13). -/
def written (a : Access) (w x y : Nat) : Nat :=
  match a with
  | .rw | .rwl => y
  | .w1c => (x - Nat.land x y) % 2 ^ w
  | .w1s => Nat.lor x y % 2 ^ w
  | .ro | .wo => x

/-- Registers whose write does nothing but what the access codes of their fields say. -/
def plainRegs : List Reg :=
  [.TIDE_STALL_LIMIT, .TIDE_ERR_STATUS, .TIDE_INT_EN, .TILE_ERR_STATUS, .SHG_LIMIT, .SHG_ERR_STATUS, .SIG_ERR_STATUS,
   .SIG_INT_EN, .SIG_PKN, .SIG_GUARD_LIMIT, .SIG_BAR_LIMIT, .SIG_ROUTE, .SIG_TILE_LIMIT, .SIG_ERR_TAIL, .MEM_ERR_STATUS,
   .MEM_INT_EN, .MEM_CE_THRESH, .MEM_ARB_RANK, .MEM_SCRUB_CFG, .TWY_ERR_STATUS, .TWY_PORT_LIMITS, .TWY_LOC_ROUTE,
   .TWY_PKN_LOC, .SLU_ERR_STATUS, .SLU_LIMITS, .SLU_RANK, .HST_ERR_STATUS, .HST_INT_EN, .HST_PAUSE_LIMIT, .RST_ERR_STATUS,
   .LHS_ERR_STATUS, .SEC_ERR_STATUS, .JRN_ERR_STATUS, .TST_ERR_STATUS, .TST_LB_TIME]

/-- The descriptor at the head of engine `e` of tile `t` has ended without an error, its signal due in `tiles`; apart from
memory nothing else has changed. -/
def ends (s u : State) (t e : Nat) (tiles : List Nat) : Prop :=
  u.engine t e = { s.engine t e with done := some ⟨0, 0, 0, tiles⟩ } ∧
  (∀ t' e', ¬(t' = t ∧ e' = e) → u.engine t' e' = s.engine t' e') ∧ u.noEng = s.noEng

/-- The command of a vector operation. -/
def vopInstr : Vop → Nat → Instr
  | .convert, t => .vopConvert t [] | .add, t => .vopAdd t [] | .sub, t => .vopSub t [] | .mul, t => .vopMul t []
  | .fma, t => .vopFma t [] | .max, t => .vopMax t [] | .min, t => .vopMin t [] | .scale, t => .vopScale t []
  | .exp2, t => .vopExp2 t [] | .log2, t => .vopLog2 t [] | .recip, t => .vopRecip t [] | .rsqrt, t => .vopRsqrt t []
  | .rowsum, t => .vopRowsum t [] | .rowmax, t => .vopRowmax t [] | .select, t => .vopSelect t []

end Sys2Proof.Claims

section

open Sys2Proof Sys2Proof.Machine Sys2Proof.Machine.State Sys2Proof.Claims

/-! ### The queue and the step -/

/-- A step takes the command at the front of the queue: it is exec of that command on the state with the queue's rest. -/
def Sys2Proof.Claims.StepRunsTheFront : Prop :=
  ∀ (c : Instr) (s : State), step { s with pending := c :: s.pending } = exec c s

/-- A step on an empty queue lets one reference cycle pass, in which the timestamp advances by 10 ns, or while a slew is
outstanding by 9 or 11 in one cycle of 100; nothing else changes. While PWROK is low or a reset of warm reach is held it
does not count (R390; that the empty queue is a cycle is the model's choice: assumption 2). -/
def Sys2Proof.Claims.EmptyQueueIsOneCycle : Prop :=
  ∀ s : State, s.pending = [] →
    (s.boot.pwrok = false ∨ s.warmHeld = true → step s = .next s) ∧
    (s.boot.pwrok = true → s.warmHeld = false →
      ∃ u, step s = .next u ∧ { u with time := s.time, slew := s.slew, slewTick := s.slewTick } = s ∧
        u.slewTick = (s.slewTick + 1) % 100 ∧
        (s.slew = 0 ∨ u.slewTick ≠ 0 → u.time = s.time + 10 ∧ u.slew = s.slew) ∧
        (0 < s.slew → u.slewTick = 0 → u.time = s.time + 11 ∧ u.slew = s.slew - 1) ∧
        (s.slew < 0 → u.slewTick = 0 → u.time = s.time + 9 ∧ u.slew = s.slew + 1))

/-- A step: the command at the front of the queue runs on the state with the queue's rest, and an empty queue lets one
reference cycle pass (the latter the model's choice: assumption 2). It rests on choices of the model beside the rules, in
assumptions 2 and 3. -/
def Obligations.StepTakesTheFront : Prop := Claims.StepRunsTheFront ∧ Claims.EmptyQueueIsOneCycle

/-! ### The scalar cores (spec/04_tile.md) -/

/-- TILE.ID, TILE.CTX, TILE.TMARKH, TILE.TIMEH and TQ.STAT write one value to rd (R99). -/
def Sys2Proof.Claims.TileReads : Prop :=
  ∀ (s : State) (t c n rd : Nat),
    (runs s t c (.tileId rd) n → ∃ u, exec (.tileId t) s = .next u ∧ gives s u t c n rd (BitVec.ofNat 32 t)) ∧
    (runs s t c (.tileCtx rd) n → ∃ u, exec (.tileCtx t) s = .next u ∧ gives s u t c n rd (BitVec.ofNat 32 c)) ∧
    (runs s t c (.tileTmarkh rd) n →
      ∃ u, exec (.tileTmarkh t) s = .next u ∧ gives s u t c n rd (s.ctx t c).tmarkHi) ∧
    (runs s t c (.tileTimeh rd) n →
      ∃ u, exec (.tileTimeh t) s = .next u ∧ gives s u t c n rd (s.ctx t c).timeHi) ∧
    (∀ e, runs s t c (.tqStat e rd) n →
      ∃ u, exec (.tqStat t) s = .next u ∧ gives s u t c n rd
        (BitVec.ofNat 32 ((s.engine t e).completed * 2 ^ 16 + (s.engine t e).queue.length % 32)))

/-- TILE.TMARK and TILE.TIME write the low word to rd and latch the high one (R99). -/
def Sys2Proof.Claims.TileLatches : Prop :=
  ∀ (s : State) (t c n rd : Nat),
    (runs s t c (.tileTmark rd) n →
      ∃ u, exec (.tileTmark t) s = .next u ∧ givesCtx s u t c rd (BitVec.ofNat 32 s.tidemark)
        { after (s.ctx t c) n with tmarkHi := BitVec.ofNat 32 (s.tidemark / 2 ^ 32) }) ∧
    (runs s t c (.tileTime rd) n →
      ∃ u, exec (.tileTime t) s = .next u ∧ givesCtx s u t c rd (s.time.extractLsb' 0 32)
        { after (s.ctx t c) n with timeHi := s.time.extractLsb' 32 32 })

/-- The instructions that read the tile's own registers and counters, and those that latch a high half (R99). It rests on
choices of the model beside the rules, in assumption 24. -/
def Obligations.TileRegisterReads : Prop := Claims.TileReads ∧ Claims.TileLatches

/-- WFI does nothing; TILE.HALT clears RUN and sets HALTED; TILE.YIELD gives the core to the next runnable context in
ascending circular order (R95, R99, R499). -/
def Sys2Proof.Claims.TileControl : Prop :=
  ∀ (s : State) (t c n : Nat),
    (runs s t c .wfi n → ∃ u, exec (.wfi t) s = .next u ∧ gives s u t c n 0 0) ∧
    (runs s t c .tileHalt n →
      ∃ u, exec (.tileHalt t) s = .next u ∧ u.ctx t c = after (s.ctx t c) n ∧
        u.rd .TILE_CTX_CTRL_RUN t c = 0 ∧ u.rd .TILE_CTX_CTRL_HALTED t c = 1 ∧
        regsBut s u [.TILE_CTX_CTRL, .HST_STATUS, .HST_PBA] ∧
        (∀ t' c', ¬(t' = t ∧ c' = c) → u.ctx t' c' = s.ctx t' c') ∧
        u.noInt.noCtx = s.noInt.noCtx) ∧
    (runs s t c .tileYield n →
      ∃ u, exec (.tileYield t) s = .next u ∧ u.ctx t c = after (s.ctx t c) n ∧ onlyCtx s u t c ∧
        (s.runnable t ((c + 1) % 4) = true → holdsCore u t ((c + 1) % 4)) ∧
        (s.runnable t ((c + 1) % 4) = false → s.runnable t ((c + 2) % 4) = true → holdsCore u t ((c + 2) % 4)) ∧
        (s.runnable t ((c + 1) % 4) = false → s.runnable t ((c + 2) % 4) = false →
          s.runnable t ((c + 3) % 4) = true → holdsCore u t ((c + 3) % 4)) ∧
        ((∀ i, i < 4 → i ≠ c → s.runnable t i = false) → holdsCore u t c))

/-- ECALL, EBREAK and FENCE.I raise their exceptions, and MRET returns from one (R96, R499). What mtval holds at the
last two is left open by R96 (assumption 23). -/
def Sys2Proof.Claims.TileExceptions : Prop :=
  ∀ (s : State) (t c n : Nat),
    (runs s t c .ecall n →
      ∃ u, exec (.ecall t) s = .next u ∧ raised s u t c 11 0) ∧
    (runs s t c .ebreak n →
      ∃ u tval, exec (.ebreak t) s = .next u ∧ raised s u t c 3 tval) ∧
    (runs s t c .fenceI n →
      ∃ u tval, exec (.fenceI t) s = .next u ∧ raised s u t c 2 tval) ∧
    (runs s t c .mret n →
      ∃ u, exec (.mret t) s = .next u ∧ onlyCtx s u t c ∧ holdsCore u t c ∧
        u.ctx t c = { s.ctx t c with mie := (s.ctx t c).mpie, mpie := true, pc := (s.ctx t c).mepc,
                                     minstret := (s.ctx t c).minstret + 1 })

/-- The instructions that act on the core itself, and those that raise an exception or return from one (R95, R96, R99,
R499). It rests on choices of the model beside the rules, in assumption 23. -/
def Obligations.TileControlAndTraps : Prop := Claims.TileControl ∧ Claims.TileExceptions

/-- CSR_ACCESS: rd takes the old value and the CSR the new one; a read of mcycle gives a free value; any other CSR, and a
write of mhartid, is an illegal instruction (R95, R499). It rests on choices of the model beside the rules, in assumptions
23 and 24. -/
def Obligations.CsrAccess : Prop :=
  ∀ (s : State) (t c n : Nat) (f : CsrOp) (rd src csr : Nat) (imm : Bool), runs s t c (.csr f rd src csr imm) n →
    let arg := if imm then BitVec.ofNat 32 src else s.x t c src
    let writes := f = .write ∨ src ≠ 0
    (∀ old, csrValue (s.ctx t c) t c csr = some old → ¬(csr = 0xF14 ∧ writes) →
      ∃ u, exec (.csrAccess t) s = .next u ∧
        ((writes → givesCtx s u t c rd old (csrPut (after (s.ctx t c) n) (csrNew f old arg) csr)) ∧
         (¬writes → gives s u t c n rd old))) ∧
    (csr = 0xB00 ∨ csr = 0xB80 → ∃ u v m, exec (.csrAccess t) s = .next u ∧
      (∀ r, u.x t c r = if r = rd ∧ r ≠ 0 then v else s.x t c r) ∧
      u.ctx t c = { after (s.ctx t c) n with x := (u.ctx t c).x, mcycle := m } ∧
      (∀ t' c', ¬(t' = t ∧ c' = c) → u.ctx t' c' = s.ctx t' c') ∧ { u with fresh := s.fresh }.noCtx = s.noCtx) ∧
    ((csrValue (s.ctx t c) t c csr = none ∧ csr ≠ 0xB00 ∧ csr ≠ 0xB80) ∨ (csr = 0xF14 ∧ writes) →
      ∃ u tval, exec (.csrAccess t) s = .next u ∧ raised s u t c 2 tval)

/-- CORE_EXECUTE, where the fetch meets no error: the integer instructions write their result, jumps and branches set the
pc, a reserved encoding is an illegal instruction, and a pc outside the program store is an access fault (R95 to R97). It
rests on choices of the model beside the rules, in assumption 23. -/
def Obligations.CoreExecutes : Prop :=
  ∀ (s : State) (t c n : Nat),
    (∀ f rd rs1 imm, runs s t c (.opImm f rd rs1 imm) n →
      ∃ u, exec (.coreExecute t []) s = .next u ∧ gives s u t c n rd (f.run (s.x t c rs1) imm)) ∧
    (∀ f rd rs1 rs2, runs s t c (.op f rd rs1 rs2) n →
      ∃ u, exec (.coreExecute t []) s = .next u ∧ gives s u t c n rd (f.run (s.x t c rs1) (s.x t c rs2))) ∧
    (∀ f rd rs1 rs2, runs s t c (.mulDiv f rd rs1 rs2) n →
      ∃ u, exec (.coreExecute t []) s = .next u ∧ gives s u t c n rd (f.run (s.x t c rs1) (s.x t c rs2))) ∧
    (∀ rd imm, runs s t c (.lui rd imm) n →
      ∃ u, exec (.coreExecute t []) s = .next u ∧ gives s u t c n rd imm) ∧
    (∀ rd imm, runs s t c (.auipc rd imm) n →
      ∃ u, exec (.coreExecute t []) s = .next u ∧ gives s u t c n rd ((s.ctx t c).pc + imm)) ∧
    (runs s t c .fence n → ∃ u, exec (.coreExecute t []) s = .next u ∧ gives s u t c n 0 0) ∧
    (∀ rd off, runs s t c (.jal rd off) n →
      ∃ u, exec (.coreExecute t []) s = .next u ∧ givesCtx s u t c rd (after (s.ctx t c) n).pc
        { after (s.ctx t c) n with pc := (s.ctx t c).pc + off }) ∧
    (∀ rd rs1 off, runs s t c (.jalr rd rs1 off) n →
      ∃ u, exec (.coreExecute t []) s = .next u ∧ givesCtx s u t c rd (after (s.ctx t c) n).pc
        { after (s.ctx t c) n with pc := (s.x t c rs1 + off) &&& 0xFFFFFFFE#32 }) ∧
    (∀ f rs1 rs2 off, runs s t c (.branch f rs1 rs2 off) n →
      ∃ u, exec (.coreExecute t []) s = .next u ∧ givesCtx s u t c 0 0 { after (s.ctx t c) n with
        pc := if f.holds (s.x t c rs1) (s.x t c rs2) then (s.ctx t c).pc + off else (after (s.ctx t c) n).pc }) ∧
    (runs s t c .illegal n → ∃ u tval, exec (.coreExecute t []) s = .next u ∧ raised s u t c 2 tval) ∧
    (t < s.nTiles → s.onCore t = some c →
      (s.ctx t c).pc.toNat < 0x200000 ∨ 0x204000 ≤ (s.ctx t c).pc.toNat ∨
        s.rd .TILE_CTX_PS_BOUND t c ≤ (s.ctx t c).pc.toNat - 0x200000 →
      ∃ u, exec (.coreExecute t []) s = .next u ∧ raised s u t c 1 (s.ctx t c).pc)

/-- CORE_LOAD and TILE_LD of the tile's own memories, and the faults found at issue (R97, R98, R99, R498). -/
def Sys2Proof.Claims.LocalLoads : Prop :=
  ∀ (s : State) (t c n : Nat),
    (∀ rd rs1 size sg off, runs s t c (.load rd rs1 size sg off) n →
      let a := s.effAddr t c rs1 off
      (∀ d, a % size = 0 → s.corePlace t c a size false = some (.mem d) → tileReady s t d size →
        ∃ u, exec (.coreLoad t []) s = .next u ∧ gives s u t c n rd (State.extend size (leNat (s.mem.readN d size)) sg)) ∧
      (a % size ≠ 0 → ∃ u, exec (.coreLoad t []) s = .next u ∧ raised s u t c 4 (BitVec.ofNat 32 a)) ∧
      (a % size = 0 → s.corePlace t c a size false = none →
        ∃ u, exec (.coreLoad t []) s = .next u ∧ raised s u t c 5 (BitVec.ofNat 32 a))) ∧
    (∀ rd rs1, rd ≠ 0 → runs s t c (.tileLd rd rs1) n →
      let a := (s.x t c rs1).toNat
      (∀ d, a % 8 = 0 → s.corePlace t c a 8 false = some (.mem d) → tileReady s t d 8 →
        ∃ u, exec (.tileLd t []) s = .next u ∧
          (∀ r, u.x t c r = if r = rd then BitVec.ofNat 32 (leNat (s.mem.readN d 8))
            else if r = rd + 1 then BitVec.ofNat 32 (leNat (s.mem.readN d 8) / 2 ^ 32) else s.x t c r) ∧
          u.ctx t c = { after (s.ctx t c) n with x := (u.ctx t c).x } ∧ onlyCtx s u t c) ∧
      (a % 8 ≠ 0 → ∃ u, exec (.tileLd t []) s = .next u ∧ raised s u t c 4 (s.x t c rs1)) ∧
      (a % 8 = 0 → s.corePlace t c a 8 false = none →
        ∃ u, exec (.tileLd t []) s = .next u ∧ raised s u t c 5 (s.x t c rs1)))

/-- CORE_STORE and TILE_SD to the tile's own memories write their bytes and nothing else; the faults found at issue write
nothing (R97, R98, R99, R498). -/
def Sys2Proof.Claims.LocalStores : Prop :=
  ∀ (s : State) (t c n : Nat),
    (∀ rs1 rs2 size off, runs s t c (.store rs1 rs2 size off) n →
      let a := s.effAddr t c rs1 off
      (∀ d, a % size = 0 → s.corePlace t c a size true = some (.mem d) → tileReady s t d size →
        ∃ u, exec (.coreStore t []) s = .next u ∧
          stored s.mem u.mem d (leBytes size ((s.x t c rs2).toNat % 2 ^ (8 * size))) ∧
          u.ctx t c = after (s.ctx t c) n ∧ onlyCtx { s with mem := u.mem } u t c) ∧
      (a % size ≠ 0 → ∃ u, exec (.coreStore t []) s = .next u ∧ raised s u t c 6 (BitVec.ofNat 32 a)) ∧
      (a % size = 0 → s.corePlace t c a size true = none →
        ∃ u, exec (.coreStore t []) s = .next u ∧ raised s u t c 7 (BitVec.ofNat 32 a))) ∧
    (∀ rs1 rs2, runs s t c (.tileSd rs1 rs2) n →
      let a := (s.x t c rs1).toNat
      let v := if rs2 = 0 then 0 else (s.x t c rs2).toNat + (s.x t c (rs2 + 1)).toNat * 2 ^ 32
      (∀ d, a % 8 = 0 → s.corePlace t c a 8 true = some (.mem d) → tileReady s t d 8 →
        ∃ u, exec (.tileSd t []) s = .next u ∧ stored s.mem u.mem d (leBytes 8 v) ∧
          u.ctx t c = after (s.ctx t c) n ∧ onlyCtx { s with mem := u.mem } u t c) ∧
      (a % 8 ≠ 0 → ∃ u, exec (.tileSd t []) s = .next u ∧ raised s u t c 6 (s.x t c rs1)) ∧
      (a % 8 = 0 → s.corePlace t c a 8 true = none →
        ∃ u, exec (.tileSd t []) s = .next u ∧ raised s u t c 7 (s.x t c rs1)))

/-- Loads from the tile's own memories and stores to them (R97, R98, R99, R498). It rests on choices of the model beside
the rules, in assumptions 6 and 23. -/
def Obligations.LocalAccesses : Prop := Claims.LocalLoads ∧ Claims.LocalStores

/-- A load from another tile or from stack memory blocks its context; LOAD_COMPLETE brings the data, or ERR_ISOLATED and
a load access fault where the tile's own shutter is not open; CONTEXT_WAKE gives a context whose wait has ended its
result (R95, R399, R498). It rests on choices of the model beside the rules, in assumptions 6 and 30. -/
def Obligations.RemoteLoads : Prop :=
  ∀ (s : State) (t c n : Nat),
    (∀ rd rs1 size sg off d, runs s t c (.load rd rs1 size sg off) n →
      s.effAddr t c rs1 off % size = 0 → s.corePlace t c (s.effAddr t c rs1 off) size false = some (.mem d) →
      s.isRemote t d = true →
      ∃ u, exec (.coreLoad t []) s = .next u ∧ onlyCtx s u t c ∧
        u.ctx t c = { s.ctx t c with
          pc := (s.ctx t c).pc + BitVec.ofNat 32 n
          wait := .load d size rd sg false (s.ctx t c).pc (BitVec.ofNat 32 (s.effAddr t c rs1 off)) }) ∧
    (∀ d size rd sg pc core v bs, t < s.nTiles → c < 4 → (s.ctx t c).wait = .load d size rd sg false pc core →
      s.isOpen kTile t = true → s.stalled d size = false → s.readSpan (State.ctxReq t c) d size = (v, .ok bs) →
      ∃ u, exec (.loadComplete t c []) s = .next u ∧
        (∀ r, u.x t c r = if r = rd ∧ r ≠ 0 then State.extend size (leNat bs) sg else s.x t c r) ∧
        u.ctx t c = { s.ctx t c with x := (u.ctx t c).x, wait := .none, minstret := (s.ctx t c).minstret + 1 } ∧
        (∀ t' c', ¬(t' = t ∧ c' = c) → u.ctx t' c' = s.ctx t' c') ∧ u.noCtx = v.noCtx ∧ bs = s.mem.readN d size) ∧
    (∀ d size rd sg pc core, t < s.nTiles → c < 4 → (s.ctx t c).wait = .load d size rd sg false pc core →
      s.isOpen kTile t = false → (s.ctx t c).mtvec ≠ 0 →
      ∃ u v, exec (.loadComplete t c []) s = .next u ∧ reports s v 0x0C 0x84 t s.running ∧
        u = v.setCtx t c { s.ctx t c with
          wait := .none, mepc := pc, mcause := 5, mtval := core, mpie := (s.ctx t c).mie, mie := false
          pc := (s.ctx t c).mtvec &&& 0xFFFFFFFC#32 }) ∧
    (∀ rd v, t < s.nTiles → c < 4 → (s.ctx t c).wait = .served rd v →
      ∃ u, exec (.contextWake t c) s = .next u ∧
        (∀ r, u.x t c r = if r = rd ∧ r ≠ 0 then BitVec.ofNat 32 v else s.x t c r) ∧
        u.ctx t c = { s.ctx t c with x := (u.ctx t c).x, wait := .none } ∧ onlyCtx s u t c)

/-! ### Signals, barriers and queues of the cores (spec/04_tile.md, spec/08_signals_barriers.md) -/

/-- SIG.WAIT takes its amount, or waits behind the counter's waiters; SIG.TRY takes it or gives 0 (R99, R207, R210). -/
def Sys2Proof.Claims.SignalWaits : Prop :=
  ∀ (s : State) (t c n rd rs1 rs2 : Nat),
    let k := (s.x t c rs1).toNat % 64
    let m := (s.x t c rs2).toNat % 65536
    let v := s.rd .SIG_CNT_VALUE t k
    let took : List (Fd × Nat × Nat × Nat) :=
      [(.SIG_CNT_VALUE, t, k, v - m), (.SIG_CNT_TAKEN_TAKEN, t, k, s.rd .SIG_CNT_TAKEN_TAKEN t k + m)]
    (runs s t c (.sigWait rd rs1 rs2) n →
      (m = 0 → ∃ u, exec (.sigWait t) s = .next u ∧ gives s u t c n rd 0) ∧
      (m ≠ 0 → s.waitersOn t k = [] → m ≤ v →
        ∃ u, exec (.sigWait t) s = .next u ∧ puts s u took ∧ u.waitersOn t k = [] ∧
          u.ctx t c = { after (s.ctx t c) n with wait := .served rd 0 } ∧
          onlyCtx { s with regs := u.regs, waiters := u.waiters } u t c) ∧
      (m ≠ 0 → (∀ w, (s.waitersOn t k ++ [(⟨c, m⟩ : Waiter)]).head? = some w → v < w.amount) →
        ∃ u, exec (.sigWait t) s = .next u ∧ u.waitersOn t k = s.waitersOn t k ++ [⟨c, m⟩] ∧
          (∀ t' k', ¬(t' = t ∧ k' = k) → u.waitersOn t' k' = s.waitersOn t' k') ∧
          u.ctx t c = { after (s.ctx t c) n with wait := .counter k m rd } ∧
          onlyCtx { s with waiters := u.waiters } u t c)) ∧
    (runs s t c (.sigTry rd rs1 rs2) n →
      (m = 0 → ∃ u, exec (.sigTry t) s = .next u ∧ gives s u t c n rd 1) ∧
      (m ≠ 0 → s.waitersOn t k = [] → m ≤ v →
        ∃ u, exec (.sigTry t) s = .next u ∧ puts s u took ∧ gives { s with regs := u.regs } u t c n rd 1) ∧
      (m ≠ 0 → s.waitersOn t k ≠ [] ∨ v < m →
        ∃ u, exec (.sigTry t) s = .next u ∧ gives s u t c n rd 0))

/-- SIG.POST sends its word on its way, to a tile of the package or to another package; a word that R214 rejects goes
nowhere, with ERR_SIG_WORD, and the step is voided (R99, R213, R214). -/
def Sys2Proof.Claims.SignalPosts : Prop :=
  ∀ (s : State) (t c n rs1 rs2 : Nat), runs s t c (.sigPost rs1 rs2) n →
    let w := (s.x t c rs1).toNat + (s.x t c rs2).toNat * 2 ^ 32
    let pkn := bits w 60 51
    let remote := hasBit w 61 = true ∧ pkn ≠ s.rd .SIG_PKN_PKN
    let good := bits w 63 62 < 2 ∧ bits w 15 0 ≠ 0 ∧ bits w 50 34 = 0 ∧ bits w 33 22 < s.nTiles
    (good → ¬remote →
      ∃ u, exec (.sigPost t) s = .next u ∧ u.flights = s.flights ++ [⟨w, bits w 33 22, bits w 15 0, .ctx t c, false, s.storesOut (.ctx t c)⟩] ∧
        u.ctx t c = after (s.ctx t c) n ∧ onlyCtx { s with flights := u.flights } u t c) ∧
    (good → remote → s.flag .SIG_ROUTE_VALID 0 pkn = true →
      ∃ u, exec (.sigPost t) s = .next u ∧ u.flights = s.flights ++ [⟨w, 0, bits w 15 0, .ctx t c, true, s.storesOut (.ctx t c)⟩] ∧
        u.ctx t c = after (s.ctx t c) n ∧ onlyCtx { s with flights := u.flights } u t c) ∧
    (¬good ∨ (remote ∧ s.flag .SIG_ROUTE_VALID 0 pkn = false) →
      ∃ u v, exec (.sigPost t) s = .next u ∧ v.ctx t c = after (s.ctx t c) n ∧ onlyCtx s v t c ∧
        reports v u 0x0A 3 t true)

/-- The instructions of the cores that wait for signals and post them (R99, R207, R210, R213, R214). It rests on
choices of the model beside the rules, in assumptions 6 and 30. -/
def Obligations.SignalInstructions : Prop := Claims.SignalWaits ∧ Claims.SignalPosts

/-- BAR.ARRIVE blocks until its arrival is counted, which is not before every signal that the context has posted is
applied, or acknowledged by the first hop of its way; rd then takes the sense awaited. BAR.WAIT ends at once where the
tile's sense is the one it names, else it waits (R99, R217, R224, R227). It rests on choices of the model beside the
rules, in assumptions 6 and 27. -/
def Obligations.BarrierArrivals : Prop :=
  ∀ (s : State) (t c n : Nat),
    (∀ rd rs1, runs s t c (.barArrive rd rs1) n →
      ∃ u, exec (.barArrive t) s = .next u ∧ onlyCtx s u t c ∧ u.ctx t c = { after (s.ctx t c) n with
        wait := .arrive ((s.x t c rs1).toNat % 512) (bits (s.x t c rs1).toNat 31 31) rd }) ∧
    (∀ rs1 rs2, runs s t c (.barWait rs1 rs2) n →
      let b := (s.x t c rs1).toNat % 512
      let sense := (s.x t c rs2).toNat % 2
      (s.tileSense t b = sense → ∃ u, exec (.barWait t) s = .next u ∧ gives s u t c n 0 0) ∧
      (s.tileSense t b ≠ sense →
        ∃ u, exec (.barWait t) s = .next u ∧ onlyCtx s u t c ∧
          u.ctx t c = { after (s.ctx t c) n with wait := .barrier b sense false })) ∧
    (∀ b err rd, t < s.nTiles → c < 4 → (s.ctx t c).wait = .arrive b err rd →
      let sense := 1 - s.rd .SIG_BAR_STATE_SENSE 0 b
      let y : Ctx := { s.ctx t c with wait := .served rd sense }
      let count := (s.rd .SIG_BAR_STATE_ARRIVED 0 b + 1) % 2 ^ Fd.SIG_BAR_STATE_ARRIVED.width
      (outstanding s t c → exec (.barArrivalCount t c) s = .next s) ∧
      (¬outstanding s t c → s.barValid b = true → count ≠ s.rd .SIG_BAR_CFG_EXPECT 0 b →
        ∃ u, exec (.barArrivalCount t c) s = .next u ∧
          puts s u ((.SIG_BAR_STATE_ARRIVED, 0, b, count) :: if err = 1 then [(.SIG_BAR_STATE_ERR, 0, b, 1)] else []) ∧
          u.ctx t c = y ∧ onlyCtx { s with regs := u.regs } u t c) ∧
      (¬outstanding s t c → s.barValid b = false →
        ∃ u v, exec (.barArrivalCount t c) s = .next u ∧ u = v.setCtx t c y ∧ reports s v 0x0A 5 0xFFFF true))

/-- TQ.ISSUE queues the descriptor with the next ticket in rd, or blocks while 16 are queued or running; TQ.FENCE ends
once its ticket is complete (R99, R100, R101). It rests on choices of the model beside the rules, in assumption 34. -/
def Obligations.QueueInstructions : Prop :=
  ∀ (s : State) (t c n : Nat),
    (∀ e rd rs1 d, runs s t c (.tqIssue e rd rs1) n →
      let a := (s.x t c rs1).toNat
      let x := s.engine t e
      let k := (x.issued + 1) % 65536
      let desc := leNat (s.mem.readN d 64)
      a % 64 = 0 → a < 0x50000 → s.scratch t c a 64 = some d → tileReady s t d 64 →
      (x.queue.length < 16 → e ≠ eArray →
        ∃ u, exec (.tqIssue t []) s = .next u ∧
          gives { s with engines := u.engines } u t c n rd (BitVec.ofNat 32 k) ∧
          u.engine t e = { x with queue := x.queue ++ [⟨desc, c, k⟩], issued := k } ∧
          ∀ t' e', ¬(t' = t ∧ e' = e) → u.engine t' e' = s.engine t' e') ∧
      (x.queue.length < 16 → e = eArray →
        ∃ u, exec (.tqIssue t []) s = .next u ∧ (u.engine t e).queue = x.queue ++ [⟨desc, c, k⟩] ∧
          (u.engine t e).issued = k ∧ u.mem = s.mem ∧
          ∀ r, u.x t c r = if r = rd ∧ r ≠ 0 then BitVec.ofNat 32 k else s.x t c r) ∧
      (16 ≤ x.queue.length →
        ∃ u, exec (.tqIssue t []) s = .next u ∧ u.engine t e = { x with blocked := x.blocked ++ [c] } ∧
          (∀ t' e', ¬(t' = t ∧ e' = e) → u.engine t' e' = s.engine t' e') ∧
          u.ctx t c = { after (s.ctx t c) n with wait := .queue e rd desc } ∧
          onlyCtx { s with engines := u.engines } u t c)) ∧
    (∀ e rd rs1, runs s t c (.tqIssue e rd rs1) n →
      let a := (s.x t c rs1).toNat
      (a % 64 ≠ 0 → ∃ u, exec (.tqIssue t []) s = .next u ∧ raised s u t c 4 (s.x t c rs1)) ∧
      (a % 64 = 0 → 0x50000 ≤ a ∨ s.scratch t c a 64 = none →
        ∃ u, exec (.tqIssue t []) s = .next u ∧ raised s u t c 5 (s.x t c rs1))) ∧
    (∀ e rs1, runs s t c (.tqFence e rs1) n →
      let k := (s.x t c rs1).toNat % 65536
      let done := ((s.engine t e).completed + 65536 - k) % 65536 < 32768
      (done → ∃ u, exec (.tqFence t) s = .next u ∧ gives s u t c n 0 0) ∧
      (¬done → ∃ u, exec (.tqFence t) s = .next u ∧ onlyCtx s u t c ∧
        u.ctx t c = { after (s.ctx t c) n with wait := .fence e k }))

/-- The limit of a wait on a counter ends it with 1 in rd; that of a wait on a barrier, or of the array's, is reported and
the wait goes on; while a pause holds the tile no limit runs (R233, R234, R235). -/
def Sys2Proof.Claims.WaitLimits : Prop :=
  ∀ (s : State) (t c : Nat), t < s.nTiles → c < 4 →
    (s.pausing = true → exec (.waitTimeout t c) s = .next s ∧ exec (.waitTimeout t 4) s = .next s) ∧
    (∀ k m rd, s.pausing = false → (s.ctx t c).wait = .counter k m rd →
      ∃ u, exec (.waitTimeout t c) s = .next u ∧ u.ctx t c = { s.ctx t c with wait := .served rd 1 } ∧
        (∀ w ∈ u.waitersOn t k, w.who ≠ c) ∧ u.errSeq = (s.errSeq + 1) % 2 ^ 32 ∧
        u.rd .SIG_STATUS_VOIDED = s.rd .SIG_STATUS_VOIDED ∧ u.noWait = s.noWait) ∧
    (∀ b sense, s.pausing = false → (s.ctx t c).wait = .barrier b sense false →
      ∃ u v, exec (.waitTimeout t c) s = .next u ∧ reports s v 0x0A 0 t false ∧
        u = v.setCtx t c { s.ctx t c with wait := .barrier b sense true }) ∧
    (∀ q, s.pausing = false → (s.engine t eArray).queue.head? = some q → (s.array t).waiting = true → (s.array t).reported = false →
      ∃ u v, exec (.waitTimeout t 4) s = .next u ∧ reports s v 0x0A 0 t false ∧
        u = v.setArray t { s.array t with reported := true })

/-! ### Registers (spec/01_conventions.md) -/

/-- REGISTER_WRITE of the four bytes of a register that no rule keeps from it: each field takes what its access code
gives it, and nothing else changes but for the times at which patrol scrubs have entered their states (R9, R13, R462).
It rests on choices of the model beside the rules, in assumptions 5 and 20. -/
def Obligations.PlainRegisterWrites : Prop :=
  ∀ (s : State) (src : Source) (r : RegRef) (v : Nat), r.reg ∈ plainRegs → regAt r.offset = some (r, 0) →
    bufferAt r.offset = none → r.offset % 4 = 0 → r.reg.spec.width ≤ 32 → takes s src r v →
    ∃ u, exec (.registerWrite src r.offset 4 ⟨v, []⟩) s = .next u ∧
      (∀ f ∈ r.reg.spec.fields,
        u.rd f r.inst r.idx = written f.spec.acc f.width (s.rd f r.inst r.idx) (fv f v)) ∧
      (∀ f i x, ¬(f.spec.reg = r.reg ∧ i = r.inst ∧ x = r.idx) → u.rd f i x = s.rd f i x) ∧
      (r.reg ≠ .MEM_SCRUB_CFG → u.noRegs = s.noRegs) ∧ { u.noRegs with jrn := s.jrn } = s.noRegs

/-- Writes that do not reach a register: an access that is not aligned to its size, or one that places a reserved
encoding, sets GLB_STATUS.RSVD_WR; one to a register that GLB_BOOT_LOCK locks sets LOCK_WR; the lower half of a 64-bit
register is staged for its source, but for the entries of the MSI-X tables (R9, R10, R12, R15, R494, R496). It rests on
choices of the model beside the rules, in assumptions 5 and 20. -/
def Obligations.RegisterWritesHeld : Prop :=
  ∀ (s : State) (src : Source) (off v : Nat), s.hasSource src = true → s.canAccess src off = true →
    (throughMirror src = true → mirrored off = true) →
    (∀ size, ¬([1, 2, 4, 8].contains size = true ∧ off % size = 0) →
      ∃ u, exec (.registerWrite src off size ⟨v, []⟩) s = .next u ∧ u.flag .GLB_STATUS_RSVD_WR = true ∧
        regsBut s u [.GLB_STATUS, .GLB_STATUS_ADDR] ∧ u.noRegs = s.noRegs) ∧
    (∀ r : RegRef, r.offset = off → regAt off = some (r, 0) → bufferAt off = none → off % 8 = 0 →
      s.hasInst r.reg.spec.block r.inst = true → s.regShut r = false →
      (throughMirror src = true → s.mirrorRefused off = none) →
      (r.reg.spec.width ≤ 32 → hasLocked r.reg = true → s.locked = true →
        ∃ u, exec (.registerWrite src off 4 ⟨v, []⟩) s = .next u ∧ u.flag .GLB_STATUS_LOCK_WR = true ∧
          regsBut s u [.GLB_STATUS, .GLB_STATUS_ADDR] ∧ u.noRegs = s.noRegs) ∧
      (r.reg.spec.width ≤ 32 → ¬(hasLocked r.reg = true ∧ s.locked = true) → s.tideLocked r = false →
        s.reservedValue r v = true →
        ∃ u, exec (.registerWrite src off 4 ⟨v, []⟩) s = .next u ∧ u.flag .GLB_STATUS_RSVD_WR = true ∧
          regsBut s u [.GLB_STATUS, .GLB_STATUS_ADDR] ∧ u.noRegs = s.noRegs) ∧
      (32 < r.reg.spec.width → memoryLike r.reg = false →
        ∃ u p, exec (.registerWrite src off 4 ⟨v, []⟩) s = .next u ∧ u = { s with stages := p :: u.stages.tail } ∧
          p.src = src ∧ p.reg = r.reg ∧ p.inst = r.inst ∧ p.idx = r.idx ∧ bits p.value 31 0 = v % 2 ^ 32 ∧
          ∀ q ∈ u.stages.tail, q ∈ s.stages ∧ q.src ≠ src))

/-! ### Registers of a tile (spec/04_tile.md, spec/05_matrix_array.md) -/

/-- TILE_CTX_CTRL written: RUN starts a context that is not halted at TILE_CTX_PC; a RUN that finds HALTED set has no
effect but HALTED's own clearing; RUN cleared stops the context (R123). It rests on choices of the model beside the rules,
in assumptions 5 and 34. -/
def Obligations.ContextRunWrites : Prop :=
  ∀ (s : State) (src : Source) (t c v : Nat), takes s src ⟨.TILE_CTX_CTRL, t, c⟩ v →
    let run := fv .TILE_CTX_CTRL_RUN v = 1
    let clear : List (Fd × Nat × Nat × Nat) :=
      if fv .TILE_CTX_CTRL_HALTED v = 1 then [(.TILE_CTX_CTRL_HALTED, t, c, 0)] else []
    (run → s.flag .TILE_CTX_CTRL_HALTED t c = false → s.flag .TILE_CTX_CTRL_RUN t c = false →
      ∃ u, exec (.ctxRunWrite src t c v) s = .next u ∧ puts s u ((.TILE_CTX_CTRL_RUN, t, c, 1) :: clear) ∧
        u.ctx t c = { s.ctx t c with pc := BitVec.ofNat 32 (0x200000 + 2 * s.rd .TILE_CTX_PC_PC t c), wait := .none,
                                     ran := true } ∧
        onlyCtx { s with regs := u.regs } u t c) ∧
    (run → s.flag .TILE_CTX_CTRL_HALTED t c = true →
      ∃ u, exec (.ctxRunWrite src t c v) s = .next u ∧ onlyPuts s u clear) ∧
    (¬run → s.flag .TILE_CTX_CTRL_RUN t c = true → (s.ctx t c).wait = .none →
      ∃ u, exec (.ctxRunWrite src t c v) s = .next u ∧ u.rd .TILE_CTX_CTRL_RUN t c = 0 ∧
        regsBut s u [.TILE_CTX_CTRL, .HST_STATUS, .HST_PBA] ∧ u.noInt.noCtx = s.noInt.noCtx ∧
        ∀ t' c', u.ctx t' c' = s.ctx t' c')

/-- TILE_WATERLINE.LEVEL written: the same level changes nothing; a tile in use keeps its level, with
TILE_ERR_STATUS.WATERLINE; else the level moves, the rows it passes are rewritten as zero, and REWRITING says so until
they are done (R112). -/
def Sys2Proof.Claims.WaterlineMoves : Prop :=
  (∀ (s : State) (src : Source) (t v : Nat), takes s src ⟨.TILE_WATERLINE, t, 0⟩ v →
    let new := fv .TILE_WATERLINE_LEVEL v
    let old := s.rd .TILE_WATERLINE_LEVEL t
    let busy := (∃ e < 5, (s.engine t e).queue ≠ []) ∨ (s.array t).started = true ∨ s.remoteLoads t = true
    let moved (a : Nat) := tileBase t + 0x4000 * min new old ≤ a ∧ a < tileBase t + 0x4000 * max new old
    (new = old → exec (.waterlineWrite src t v) s = .next s) ∧
    (new ≠ old → busy →
      ∃ u, exec (.waterlineWrite src t v) s = .next u ∧ u.flag .TILE_ERR_STATUS_WATERLINE t = true ∧
        u.rd .TILE_WATERLINE_LEVEL t = old ∧ u.rd .SIG_STATUS_VOIDED = s.rd .SIG_STATUS_VOIDED ∧ u.noRec = s.noRec) ∧
    (new ≠ old → ¬busy →
      ∃ u, exec (.waterlineWrite src t v) s = .next u ∧
        puts s u [(.TILE_WATERLINE_LEVEL, t, 0, new), (.TILE_WATERLINE_REWRITING, t, 0, 1)] ∧
        (∀ a, moved a → u.mem.read a = 0) ∧ (∀ a, ¬moved a → u.mem.read a = s.mem.read a) ∧
        { u with mem := s.mem }.noRegs = s.noRegs)) ∧
  (∀ (s : State) (t : Nat), t < s.nTiles →
    ∃ u, exec (.waterlineRewriteDone t) s = .next u ∧ onlyPuts s u [(.TILE_WATERLINE_REWRITING, t, 0, 0)])

/-- ARR_CTRL.STOP set ends a wait of the array and its prefetch; STOP cleared lets its queue go on (R146). -/
def Sys2Proof.Claims.ArrayStops : Prop :=
  ∀ (s : State) (src : Source) (t : Nat),
    (takes s src ⟨.ARR_CTRL, t, 0⟩ (withField s ⟨.ARR_CTRL, t, 0⟩ .ARR_CTRL_STOP 1) → s.rd .ARR_CTRL_STOP t = 0 →
      let m := s.array t
      ∃ u, exec (.arrStop src t true) s = .next u ∧ u.flag .ARR_CTRL_STOP t = true ∧
        u.array t = { m with waiting := false, prefetch := false } ∧
        (m.waiting = false → puts s u [(.ARR_CTRL_STOP, t, 0, 1)] ∧ u.noWait = s.noWait) ∧
        (m.waiting = true → (∀ n < 64, ∀ w ∈ u.waitersOn t n, w.who ≠ 4) ∧
          { u with fresh := s.fresh }.noWait = s.noWait)) ∧
    (takes s src ⟨.ARR_CTRL, t, 0⟩ (withField s ⟨.ARR_CTRL, t, 0⟩ .ARR_CTRL_STOP 0) → s.rd .ARR_CTRL_STOP t = 1 →
      ∃ u, exec (.arrStop src t false) s = .next u ∧ u.flag .ARR_CTRL_STOP t = false ∧
        ((s.engine t eArray).queue = [] → onlyPuts s u [(.ARR_CTRL_STOP, t, 0, 0)])) ∧
    (∀ on : Bool, takes s src ⟨.ARR_CTRL, t, 0⟩ (withField s ⟨.ARR_CTRL, t, 0⟩ .ARR_CTRL_STOP (b2n on)) →
      s.rd .ARR_CTRL_STOP t = b2n on → exec (.arrStop src t on) s = .next s)

/-- ARR_CTRL.ABORT empties the array's queue, leaves its accumulator buffers undefined, and touches no other memory; a
context that was blocked on the full queue may issue then (R148). -/
def Sys2Proof.Claims.ArrayAborts : Prop :=
  ∀ (s : State) (src : Source) (t : Nat),
    takes s src ⟨.ARR_CTRL, t, 0⟩ (withField s ⟨.ARR_CTRL, t, 0⟩ .ARR_CTRL_ABORT 1) → s.rd .ARR_CTRL_STOP t ≤ 1 →
      let x := s.engine t eArray
      ∃ u, exec (.abort src t) s = .next u ∧ u.flag .ARR_STATUS_ABORTED t = true ∧ u.flights = s.flights ∧
        (∀ a, a < tileBase t + 0x60000 ∨ tileBase t + 0x70000 ≤ a → u.mem.read a = s.mem.read a) ∧
        (u.engine t eArray).completed = x.issued ∧
        (x.blocked = [] → u.array t = MatArray.init ∧
          u.engine t eArray = { x with queue := [], completed := x.issued, done := none } ∧
          ∀ n < 64, ∀ w ∈ u.waitersOn t n, w.who ≠ 4)

/-- The stops of the array (R146, R148). It rests on choices of the model beside the rules, in assumption 35. -/
def Obligations.ArrayControl : Prop := Claims.ArrayStops ∧ Claims.ArrayAborts

/-- GLB_TILE_RANK written: the order, of which every tile's TILE_ARB_RANK is a copy (R122). -/
def Sys2Proof.Claims.TileRank : Prop :=
  ∀ (s : State) (src : Source) (v : Nat), takes s src ⟨.GLB_TILE_RANK, 0, 0⟩ v →
    (∀ e ∈ s.regs, e.1.a ≠ Fd.TILE_ARB_RANK_ORDER.ctorIdx) →
    ∃ u, exec (.glbTileRankWrite src v) s = .next u ∧ u.noRegs = s.noRegs ∧
      u.rd .GLB_TILE_RANK_ORDER = fv .GLB_TILE_RANK_ORDER v ∧
      (∀ t, u.rd .TILE_ARB_RANK_ORDER t = fv .GLB_TILE_RANK_ORDER v) ∧
      regsBut s u [.GLB_TILE_RANK, .TILE_ARB_RANK] ∧
      ∀ n < 7, ∃ i < 7, bits (fv .GLB_TILE_RANK_ORDER v) (3 * i + 2) (3 * i) = n

/-- The waterline of a tile, and the ranks of its requesters (R112, R122). It rests on choices of the model beside the
rules, in assumption 5. -/
def Obligations.WaterlineAndRank : Prop := Claims.WaterlineMoves ∧ Claims.TileRank

/-! ### Descriptors (spec/04_tile.md, spec/05_matrix_array.md, spec/06_numerics.md) -/

/-- COPY and MCAST move their runs one after another and change no other byte, in the memories of tiles: a run is read
whole, then written, by MCAST into every tile of its rectangle (R102, R103, R119). It rests on choices of the model beside
the rules, in assumptions 21, 34 and 40. -/
def Obligations.CopiesAndMulticasts : Prop :=
  ∀ (s : State) (t e : Nat) (q : QEntry), t < s.nTiles → e < 3 → s.headReady t e = some q →
    s.headRefused t e q = false →
    let n := Xd.inner q.desc
    let rect := s.fuses.rectTiles (Xd.rect q.desc)
    (Xd.op q.desc = Xd.oCopy → (∀ r ∈ runsOf q.desc, tileReady s t r.1 n ∧ tileReady s t r.2 n) →
      ∃ u, exec (.copy t e []) s = .next u ∧ ends s u t e [] ∧
        u.mem = (runsOf q.desc).foldl (fun m r => m.writeN r.2 (m.readN r.1 n)) s.mem) ∧
    (Xd.op q.desc = Xd.oMcast → s.rectBad (Xd.rect q.desc) = false →
      (∀ r ∈ runsOf q.desc, tileReady s t r.1 n ∧ ∀ k ∈ rect,
        tileReady s k (tileBase k + r.2) n ∧ s.target (tileBase k + r.2) = .tile k r.2 ∧ s.waterline k ≤ r.2 ∧
        s.reachesTile (engineReq t e) k = true) →
      ∃ u, exec (.mcast t e []) s = .next u ∧ ends s u t e rect ∧
        u.mem = (runsOf q.desc).foldl (fun m r =>
          rect.foldl (fun m' k => m'.writeN (tileBase k + r.2) (m.readN r.1 n)) m) s.mem)

/-- CONVERT between two formats that are not MX: every element of every run is decoded, rounded by ROUND with the word of
its own element index, and encoded (R103, R165 to R172). -/
def Sys2Proof.Claims.Conversions : Prop :=
  ∀ (s : State) (t : Nat) (q : QEntry) (src dst : Fmt), t < s.nTiles → s.headReady t eDrain = some q →
    s.headRefused t eDrain q = false →
    let d := q.desc
    let n := Xd.inner d
    let len := n * 8 / src.width
    let out (m : Memory) (r : Nat × Nat) (i : Nat) : List Byte :=
      packBytes dst ((elemsOf src (m.readN r.1 n)).zipIdx.map fun (x : Nat × Nat) =>
        dst.encode (s.rounding (Xd.round d) (Xd.tensor d) (Xd.elemBase d + i * len + x.2)) (src.decode false x.1))
    Xd.op d = Xd.oConvert → Fmt.ofCode (Xd.srcFmt d) = some src → Fmt.ofCode (Xd.dstFmt d) = some dst →
    src.isMx = false → dst.isMx = false →
    (∀ r ∈ runsOf d, tileReady s t r.1 n ∧ tileReady s t r.2 (len * dst.width / 8)) →
    ∃ u, exec (.convert t []) s = .next u ∧ ends s u t eDrain [] ∧
      u.mem = (runsOf d).zipIdx.foldl (fun m x => m.writeN x.1.2 (out m x.1 x.2)) s.mem

/-- EXPAND_W, EXPAND_ACC and COMPRESS of one block: the block as the expander, or the compressor, gives it is written
where the descriptor says, and the descriptor ends without an error; no stack that it reads is being zeroed (R103, R198,
R202, R258). -/
def Sys2Proof.Claims.ExpandsAndCompresses : Prop :=
  ∀ (s : State) (t : Nat) (q : QEntry) (v w x y : State) (hb bs : List Byte) (n : Nat), t < s.nTiles →
    let d := q.desc
    let h := bytesWords hb
    let dc := v.headCtx h
    (s.headReady t eFeedB = some q → s.headRefused t eFeedB q = false → Xd.op d = Xd.oExpandW → n < 16 →
      (∀ k < 16, hasBit (Xd.blocks d) k = decide (k = n)) → s.stalled (Xd.src d) 256 = false →
      (∀ k ∈ s.fuses.rectTiles (Xd.rect d), s.stalled (tileBase k + (Xd.dst d + 4096 * n)) 4096 = false) →
      (∀ p ∈ s.weightSpans (bytesWords (s.mem.readN (Xd.src d) 256)) [n], s.stalled p.1 p.2 = false) →
      s.engRead t eFeedB (Xd.src d) 256 = (v, .ok hb) →
      let e := Hdr.mapEntry h n
      let addr := hw h 24 + 16 * MapEntry.offset e
      MapEntry.present e = true →
      v.expandBlock dc (Hdr.cbSlot h) 0 addr (MapEntry.raw e) (MapEntry.stored e) (some (MapEntry.stored e))
        (dc.all fun x => hw h 24 != v.landAddr x.1 x.2 (Hdr.lap h)) = (w, .bytes bs) →
      w.mcastWrite t eFeedB (Xd.rect d) (Xd.dst d + 4096 * n) bs = (x, none) →
      ∃ u, exec (.expandW t []) s = .next u ∧ u.mem = x.mem ∧
        u.engine t eFeedB = { x.engine t eFeedB with done := some ⟨0, 0, 0, x.fuses.rectTiles (Xd.rect d)⟩ }) ∧
    (s.headReady t eFeedB = some q → s.headRefused t eFeedB q = false → Xd.op d = Xd.oExpandAcc →
      Xd.accFirst d = n → Xd.accLast d = n → s.stalled (Xd.src d) 256 = false → s.stalled (Xd.dst d) 4096 = false →
      let peek := bytesWords (s.mem.readN (Xd.src d) 256)
      s.stalled (hw peek 25 + 4096 * n) 4096 = false →
      (∀ p ∈ s.bookSpans (s.headCtx peek) (Hdr.accCbSlot peek) 4, s.stalled p.1 p.2 = false) →
      s.engRead t eFeedB (Xd.src d) 256 = (v, .ok hb) → n < hw h 27 → ownSram t (Xd.dst d) 4096 = true →
      v.expandBlock dc (Hdr.accCbSlot h) 1 (hw h 25 + 4096 * n) (hasBit (hw h 26) n)
        (min 4096 (16 + (Codec.blockHead (v.mem.readN (hw h 25 + 4096 * n) 16)).codedLen)) none
        (dc.all fun x => v.tideResident x.1) = (w, .bytes bs) →
      w.engWrite t eFeedB (Xd.dst d) bs = (x, none) →
      ∃ u, exec (.expandAcc t []) s = .next u ∧ u.mem = x.mem ∧
        u.engine t eFeedB = { x.engine t eFeedB with done := some ⟨0, 0, 0, []⟩ }) ∧
    (s.headReady t eDrain = some q → s.headRefused t eDrain q = false → Xd.op d = Xd.oCompress → Xd.runs d = 1 →
      Xd.epoch d = 0 →
      let st := stackOf v.fuses.nStacks (Xd.dst d)
      let dc := s.tideFind (Xd.strand d) (Xd.dir d)
      compressBad d = false → s.stalled (Xd.src d) 4096 = false → s.stalled (Xd.dst d) 4096 = false →
      (∀ p ∈ s.compressSlots d dc, s.stalled p.1 8 = false) →
      (∀ p ∈ s.bookSpans dc (Xd.cbSlot d) 4, s.stalled p.1 p.2 = false) →
      s.compressFits (s.compressSlots d dc) = (y, .ok true) → y.target (Xd.dst d) = .stack →
      y.engRead t eDrain (Xd.src d) 4096 = (v, .ok bs) →
      (v.bump .SHG_CMP_RAW_COUNT st 0 1).engWrite t eDrain (Xd.dst d) (padTo 16 bs) = (x, none) →
      (∀ i c, dc = some (i, c) → x.accPlace i c (Xd.dst d) = none) →
      ∃ u, exec (.compress t []) s = .next u ∧ u.mem = x.mem ∧
        u.engine t eDrain = { x.engine t eDrain with done := some ⟨0, 0, 0, []⟩ })

/-- The descriptors that convert formats and that expand or compress blocks (R103, R165 to R172, R198, R202). It rests on
choices of the model beside the rules, in assumptions 22, 29 and 34. -/
def Obligations.CodecAndConversions : Prop := Claims.Conversions ∧ Claims.ExpandsAndCompresses

/-- The head descriptor completes: its status record is written, its signal goes out where it has not failed, and its
ticket is the last completed, once no write of the engine waits for room in a full queue; a failure is recorded and
voids the step as R105 says, and sends no signal (R101, R104 to R106). It rests on choices of the model beside the
rules, in assumption 30. -/
def Obligations.DescriptorCompletes : Prop :=
  ∀ (s : State) (t e : Nat) (q : QEntry) (rest : List QEntry) (r : Done), t < s.nTiles → e < 5 →
    (exec (.descriptorComplete t eArray) s = exec (.passComplete t) s) ∧
    (e ≠ eArray → (s.engine t e).queue = q :: rest → (s.engine t e).done = some r → (s.engine t e).blocked = [] →
      s.waitsFrom (.engine t e) = false →
      ∃ u, exec (.descriptorComplete t e) s = .next u ∧
        u.engine t e = { s.engine t e with queue := rest, completed := q.ticket, done := none } ∧
        (r.code = 0 → ∀ off a, descStatus e q.desc = some (off, true) → s.scratch t q.ctx (8 * off) 8 = some a →
          tileReady s t a 8 → stored s.mem u.mem a (leBytes 8 (r.detail * 2 ^ 24 + q.ticket * 2 ^ 8))) ∧
        (r.code = 0 → (∀ off, descStatus e q.desc ≠ some (off, true)) → u.mem = s.mem) ∧
        (r.code = 0 → ∀ w n, descSignal e q.desc = some (w, n) → descToRect e q.desc = false →
          bits w 63 62 < 2 → bits w 50 34 = 0 → bits w 33 22 < s.nTiles → hasBit w 61 = false →
          u.flights = s.flights ++ [⟨w, bits w 33 22, n, .engine t e, false, false⟩]) ∧
        (descSignal e q.desc = none ∨ r.code ≠ 0 → u.flights = s.flights) ∧
        (r.code = 0x05 → u.flag .TILE_ERR_STATUS_ADDR t = true ∧ u.rd .SIG_STATUS_VOIDED = 1) ∧
        (r.code = 0x06 → u.flag .TILE_ERR_STATUS_DESC t = true ∧ u.rd .SIG_STATUS_VOIDED = 1))

/-- The fifteen vector operations: operands read and widened to FP32, the operation on each row of 32 lanes, and the
results narrowed and written to D (R109 to R111, R172). It rests on choices of the model beside the rules, in assumptions
8 and 40. -/
def Obligations.VectorOperations : Prop :=
  ∀ (s : State) (t : Nat) (v : Vop) (q : QEntry), t < s.nTiles → s.headReady t eVector = some q →
    Vd.vop q.desc = v.code → Vd.refused q.desc = false →
    let d := q.desc
    let ins := operandsOf d
    let out := operand (Vd.fmtD d) (Vd.dst d) (Vd.rows d)
    (∀ x ∈ ins, localOk x.2.1 x.2.2 = true ∧ tileReady s t (tileBase t + x.2.1) x.2.2) →
    localOk out.2.1 out.2.2 = true → tileReady s t (tileBase t + out.2.1) out.2.2 →
    ∃ u, exec (vopInstr v t) s = .next u ∧ ends s u t eVector [] ∧
      u.mem = s.mem.writeN (tileBase t + out.2.1)
        (s.vectorOut v d (ins.map fun x => widen x.1 (s.mem.readN (tileBase t + x.2.1) x.2.2)))

/-- GEMM: every accumulator element of the pass's rows takes its start value plus the group sums in ascending K, and no
other byte changes; a pass that reads an uncorrectable error ends with ERR_TILE_UE and changes its own rows at most. Which
block ARR_CUR.BLOCK shows until the pass completes is open (R124 to R133, R137 to R139, R147). -/
def Sys2Proof.Claims.MatrixPasses : Prop :=
  ∀ (s : State) (t : Nat) (frozen : Bool) (q : QEntry) (b a : Fmt) (p : Pd.Pair), t < s.nTiles → s.tileUp t = true →
    (s.engine t eArray).queue.head? = some q → (s.engine t eArray).done = none →
    (s.array t).started = true ∨
      (s.pausing = false ∧ (s.array t).waiting = false ∧ s.flag .ARR_CTRL_STOP t = false ∧ Pd.refused q.desc = false ∧
        s.statusOutside t eArray q = false ∧ Pd.misplaced q.desc (s.waterline t) = none ∧ Pd.waitEn q.desc = false) →
    s.gateDepth t < 64 → s.flag .TILE_WATERLINE_REWRITING t = false → Pd.forms q.desc = some (b, a, p) →
    let d := q.desc
    let lo := tileBase t + accOff (Pd.accBuf d) (Pd.accRow d) 0
    let inRows (k : Nat) := lo ≤ k ∧ k < lo + 128 * Pd.tokens d
    (s.passBad t d b a p = none →
      ∃ u n, n < Pd.blocks d ∧ exec (.gemm t [] frozen) s = .next u ∧ puts s u [(.ARR_CUR_BLOCK, t, 0, n)] ∧
        (u.array t).started = true ∧ (u.array t).frozen = frozen ∧
        (u.engine t eArray).done = some ⟨0, 0, 0, []⟩ ∧
        (∀ m n, m < Pd.tokens d → n < 32 →
          leNat (u.mem.readN (tileBase t + accOff (Pd.accBuf d) (Pd.accRow d + m) n) 4) =
            s.accElem t d b a p m n % 2 ^ 32) ∧
        ∀ k, ¬inRows k → u.mem.read k = s.mem.read k) ∧
    (∀ l, s.passBad t d b a p = some l →
      ∃ u, exec (.gemm t [] frozen) s = .next u ∧ u.flag .TILE_ERR_STATUS_UE t = true ∧
        u.rd .SIG_STATUS_VOIDED = 1 ∧ (∃ r, (u.engine t eArray).done = some r ∧ r.code = 0x02 ∧ r.addr = l) ∧
        ∀ k, ¬inRows k → u.mem.read k = s.mem.read k)

/-- A pass that reaches the head of the queue and has an amount to wait for waits at its counter, and starts in the cycle in
which it has it; one that reaches a counter that covers its amount, with no waiter before it, starts at once (R138, R139,
R210). -/
def Sys2Proof.Claims.PassesStart : Prop :=
  ∀ (s : State) (t : Nat) (q : QEntry), t < s.nTiles → s.headReady t eArray = some q → (s.array t).started = false →
    (s.array t).waiting = false → s.flag .ARR_CTRL_STOP t = false → Pd.refused q.desc = false →
    s.statusOutside t eArray q = false → Pd.misplaced q.desc (s.waterline t) = none → Pd.waitEn q.desc = true →
    let n := Pd.waitCtr q.desc
    let m := Pd.waitAmt q.desc
    (s.waitersOn t n = [] → s.rd .SIG_CNT_VALUE t n < m →
      ∃ u, exec (.gemm t [] false) s = .next u ∧ (u.array t).waiting = true ∧ (u.array t).started = false ∧
        u.waitersOn t n = [⟨4, m⟩] ∧ u.noWait = s.noWait ∧ ∀ f i x, u.rd f i x = s.rd f i x) ∧
    (s.waitersOn t n = [] → m ≤ s.rd .SIG_CNT_VALUE t n →
      ∃ u, exec (.gemm t [] false) s = .next u ∧ (u.array t).started = true ∧ (u.array t).waiting = false ∧
        u.waitersOn t n = [] ∧ u.rd .SIG_CNT_VALUE t n = s.rd .SIG_CNT_VALUE t n - m)

/-- A frozen array goes on; a pass that has run completes: its ticket, ARR_PASSES and ARR_CUR; a frozen pass does not
complete (R139, R144, R150). -/
def Sys2Proof.Claims.PassesComplete : Prop :=
  ∀ (s : State) (t : Nat), t < s.nTiles →
    ((s.array t).frozen = false → exec (.arrayResume t) s = .next s) ∧
    ((s.array t).frozen = true →
      ∃ u, exec (.arrayResume t) s = .next u ∧ u.array t = { s.array t with frozen := false } ∧
        regsBut s u [.ARR_STALL_A, .ARR_STALL_B] ∧ u.mem = s.mem ∧ u.engine t eArray = s.engine t eArray) ∧
    ((s.array t).started = true → (s.array t).frozen = true → exec (.passComplete t) s = .next s) ∧
    (∀ q rest r, (s.array t).started = true → (s.array t).frozen = false → s.gateDepth t < 64 →
      (s.engine t eArray).queue = q :: rest → (s.engine t eArray).done = some r → (s.engine t eArray).blocked = [] →
      ∃ u, exec (.passComplete t) s = .next u ∧ (u.engine t eArray).queue = rest ∧
        (u.engine t eArray).completed = q.ticket ∧ (rest = [] → (u.array t).started = false) ∧
        u.rd .ARR_CUR_TICKET t = q.ticket % 65536 ∧ (r.code = 0 → u.rd .ARR_CUR_BLOCK t = Pd.blocks q.desc - 1) ∧
        u.rd .ARR_PASSES_COUNT t = min (s.rd .ARR_PASSES_COUNT t + 1) (2 ^ Fd.ARR_PASSES_COUNT.width - 1))

/-- The passes of the matrix array, and their end (R124 to R133, R137 to R139, R144, R147, R150). It rests on choices of
the model beside the rules, in assumptions 25 and 35. -/
def Obligations.MatrixArray : Prop := Claims.MatrixPasses ∧ Claims.PassesStart ∧ Claims.PassesComplete

/-! ### The tide (spec/02_tide.md, spec/03_home_update.md) -/

/-- A segment that arrives: it waits while a zero fill or a loopback holds the stacks; an engine that is off takes none;
one of the next step is held; one of another attempt is counted as stale and discarded; an unsound header, or one of
another job, is ERR_TIDE_HEADER and voids the step; a wanted forward segment of this step is landed in the slot of its
lap position, which waits for its writes, and is queued for cut-through inside the window (R30, R42, R47, R48, R52). It
rests on choices of the model beside the rules, in assumptions 11, 30 and 41. -/
def Obligations.SegmentsArrive : Prop :=
  ∀ (s : State) (d c : Nat) (g : Seg), s.hasTide d c = true →
    let h := g.head
    let p := Hdr.lap h
    let sound := Hdr.sound h = true ∧ Hdr.job h = s.rd .TIDE_JOB_JOB d
    (s.tideOn d c = false ∨ ¬stacksFree s → exec (.segmentArrive d c g) s = .next s) ∧
    (stacksFree s → s.tideOn d c = true → (s.tctx d c).held ≠ [] ∨ (sound ∧ Hdr.tidemark h = s.tidemark + 1) →
      ∃ u, exec (.segmentArrive d c g) s = .next u ∧ u = s.setTctx d c { s.tctx d c with held := (s.tctx d c).held ++ [g] }) ∧
    (stacksFree s → s.tideOn d c = true → (s.tctx d c).held = [] → sound → Hdr.tidemark h = s.tidemark →
      Hdr.attempt h ≠ s.rd .TIDE_ATTEMPT_ATTEMPT d ∨ (s.tctx d c).voided = true →
      ∃ u, exec (.segmentArrive d c g) s = .next u ∧ onlyPuts s u [(.TIDE_SD_STALE_COUNT, d, c,
        min (s.rd .TIDE_SD_STALE_COUNT d c + 1) (2 ^ 32 - 1))]) ∧
    (stacksFree s → s.tideOn d c = true → (s.tctx d c).held = [] → ¬sound →
      ∃ u, exec (.segmentArrive d c g) s = .next u ∧ u.flag .TIDE_ERR_STATUS_HEADER d = true ∧
        u.rd .SIG_STATUS_VOIDED = 1 ∧ u.noTideRec = s.noTideRec) ∧
    (∀ v, stacksFree s → s.tideOn d c = true → (s.tctx d c).held = [] → (s.tctx d c).voided = false → sound →
      Hdr.tidemark h = s.tidemark → Hdr.attempt h = s.rd .TIDE_ATTEMPT_ATTEMPT d → Hdr.resend h = false → Hdr.isBackward h = false →
      Hdr.expert h = false → s.tideFolded d = false →
      (SMap.find (s.tctx d c).slots ⟨p % s.tideW d c, 0, 0⟩).isSome = false → s.landSegment d c g = (v, true) →
      let ends := Hdr.home h = s.tideDown d c
      ∃ u x, exec (.segmentArrive d c g) s = .next u ∧
        SMap.find (u.tctx d c).slots ⟨p % v.tideW d c, 0, 0⟩ = some x ∧ x.p = p ∧ x.state = .arriving ∧
        x.addr = s.landAddr d c p ∧ x.lands = true ∧ x.landed = false ∧ x.onward = (if ends then .none else .due) ∧
        u.mem = v.mem ∧
        (u.tctx d c).cut = if p < s.downMark d c + s.tideW d c ∧ ¬ends then (v.tctx d c).cut ++ [g] else (v.tctx d c).cut)

/-- What a context sends: nothing where it is off or has no candidate; the head of its cut-through queue, which leaves the
queue; or its next lap-list entry, as SEGMENT_INJECT does. An entry with a reserved bit or KIND, or a lap position not above
the one before, is ERR_TIDE_LAPLIST; a forward entry that passes the checks is injected: the walker passes it, and the lap
is kept for a resend (R32, R34, R40, R46, R47). -/
def Sys2Proof.Claims.SegmentsSent : Prop :=
  ∀ (s : State) (d c : Nat), s.hasTide d c = true →
    (s.tideOn d c = false ∨ firstCandidate (s.candidates d c) = none ∨ (s.tctx d c).voided = true ∨ ¬stacksFree s →
      exec (.contextSendNext d c) s = .next s) ∧
    ((∀ p e, firstCandidate (s.candidates d c) ≠ some (p, .walk e)) → exec (.segmentInject d c) s = .next s) ∧
    (∀ p g gs, stacksFree s → s.tideOn d c = true → (s.tctx d c).voided = false →
      firstCandidate (s.candidates d c) = some (p, .cut) → (s.tctx d c).cut = g :: gs →
      ∃ u, exec (.contextSendNext d c) s = .next u ∧ (u.tctx d c).cut = gs) ∧
    (∀ p e, stacksFree s → s.tideOn d c = true → (s.tctx d c).voided = false →
      firstCandidate (s.candidates d c) = some (p, .walk e) →
      exec (.segmentInject d c) s = exec (.contextSendNext d c) s ∧
      (∀ v, s.lapRead d c = (v, .ok e) →
        LapEntry.reserved e ≠ 0 ∨ LapEntry.kind e = 3 ∨ (∃ q, (v.tctx d c).last = some q ∧ LapEntry.lap e ≤ q) →
        ∃ u, exec (.segmentInject d c) s = .next u ∧ u.flag .TIDE_ERR_STATUS_LAPLIST d = true ∧
          u.rd .SIG_STATUS_VOIDED = 1 ∧ (u.tctx d c).stopped = true) ∧
      ∀ v w x dir bs, s.lapRead d c = (v, .ok e) → LapEntry.reserved e = 0 → LapEntry.kind e = 0 →
        (∀ q, (v.tctx d c).last = some q → q < LapEntry.lap e) → LapEntry.index e < v.rd .TIDE_DIR_COUNT_COUNT d →
        v.dirRead d c (LapEntry.index e) = (w, some dir) → DirEntry.valid dir = true →
        DirEntry.home dir = w.tidePos d c → DirEntry.strand dir = w.tideStrand d c → DirEntry.dir dir = w.tideDir d c →
        DirEntry.lap dir = LapEntry.lap e →
        w.tideRead d c (DirEntry.addr dir) (256 * (DirEntry.length dir + 2)) = (x, .ok bs) →
        ∃ u l, exec (.segmentInject d c) s = .next u ∧ (u.tctx d c).last = some (LapEntry.lap e) ∧
          (u.tctx d c).laps = (x.tctx d c).laps ++ [l] ∧ l.p = LapEntry.lap e ∧ l.addr = DirEntry.addr dir + 256)

/-- A segment whose writes are acknowledged: one with no book to wait for raises its landing signal in every tile of its
class; a resent copy raises it again, marked as such. A landed frame installs its book once no landed segment refers to
the entry (R45, R48, R54, R60). -/
def Sys2Proof.Claims.LandingsSignal : Prop :=
  ∀ (s : State) (d c p : Nat) (x : Slot), s.hasTide d c = true → s.slotAt d c p = some x →
    let k := Hdr.lclass x.head
    let n := s.rd .TIDE_LCLASS_COUNTER 0 k
    let word (again : Bool) := if again then 2 ^ 63 + Hdr.lap x.head * 2 ^ 37 + s.tideDir d c * 2 ^ 36 +
      s.tideStrand d c * 2 ^ 34 + n * 2 ^ 16 else n * 2 ^ 16
    let flights (again : Bool) := s.flights ++ (s.fuses.rectTiles (s.classRect k)).map fun t =>
      (⟨word again, t, s.rd .TIDE_LCLASS_AMOUNT 0 k, .tide d c, false, false⟩ : Flight)
    (¬stacksFree s → exec (.landingComplete d c p) s = .next s ∧ exec (.codebookInstall d c p) s = .next s) ∧
    (stacksFree s → 0 < x.again →
      ∃ u, exec (.landingComplete d c p) s = .next u ∧ u.flights = flights true ∧
        u = { s.setSlot d c { x with again := x.again - 1 } with flights := u.flights }) ∧
    (x.again = 0 → x.landed = true ∨ x.lands = false → exec (.landingComplete d c p) s = .next s) ∧
    (stacksFree s → x.again = 0 → x.landed = false → x.lands = true → x.bad = false → x.want = .yes →
      Hdr.isBackward x.head = false → Hdr.isFrame x.head = false → Hdr.epoch x.head = 0 → x.addr = s.landAddr d c p →
      ∃ u, exec (.landingComplete d c p) s = .next u ∧ u.flights = flights false ∧
        u.rd .TIDE_SD_LANDED_COUNT d c = min (s.rd .TIDE_SD_LANDED_COUNT d c + 1) (2 ^ 32 - 1) ∧
        u.tctxs = (s.setSlot d c { x with landed := true, state := .signalled, refs := [] }).tctxs) ∧
    (Hdr.isFrame x.head = false ∨ x.landed = false ∨ x.bad = true ∨ x.installed = true ∨
        s.framePending d c (Hdr.cbSlot x.head) p = true ∨ s.refCount d c (Hdr.cbSlot x.head) p ≠ 0 →
      exec (.codebookInstall d c p) s = .next s) ∧
    (∀ v w bs, stacksFree s → Hdr.isFrame x.head = true → x.landed = true → x.bad = false → x.installed = false →
      s.framePending d c (Hdr.cbSlot x.head) p = false → s.refCount d c (Hdr.cbSlot x.head) p = 0 →
      s.tideRead d c x.addr (256 * Hdr.payloadFlits x.head) = (v, .ok bs) → frameOk x.head bs = true →
      let b := Codec.head bs
      v.tideWrite d c (v.storeAddr d c (Hdr.cbSlot x.head)) (bs.take (64 + 4 * b.size)) = (w, none) →
      ∃ u, exec (.codebookInstall d c p) s = .next u ∧
        SMap.get u.books ⟨(w.storeOwner d c).1, (w.storeOwner d c).2, Hdr.cbSlot x.head⟩ none =
          some ⟨b.home, b.tensor, b.plane, b.epoch, b.format, b.grad⟩)

/-- What a tide context sends, and the landing signals of what it has received (R32, R34, R40, R45 to R48, R54, R60). It
rests on choices of the model beside the rules, in assumptions 6, 11 and 41. -/
def Obligations.SegmentsSentAndLanded : Prop := Claims.SegmentsSent ∧ Claims.LandingsSignal

/-- A release counts towards the releases that the class of its slot asks for, and the last of them lets the slot drain;
one that no signalled slot takes is ERR_TIDE_RELEASE and changes no slot. TIDE.REL writes TIDE_RELEASE of I/O die 0
(R37, R50, R99). -/
def Sys2Proof.Claims.TideReleases : Prop :=
  (∀ (s : State) (src : Source) (i v : Nat), takes s src ⟨.TIDE_RELEASE, i, 0⟩ v →
    let p := fv .TIDE_RELEASE_LAP_POS v
    let ctx := s.tideFind (fv .TIDE_RELEASE_STRAND v) (fv .TIDE_RELEASE_DIR v)
    (∀ d c x, ctx = some (d, c) → SMap.find (s.tctx d c).slots ⟨p % s.tideW d c, 0, 0⟩ = some x → x.p = p →
      x.state = .signalled → x.releases + 1 < s.classReleases (Hdr.lclass x.head) →
      ∃ u, exec (.tideRelease src i v) s = .next u ∧ u = s.setSlot d c { x with releases := x.releases + 1 }) ∧
    (∀ d c x, ctx = some (d, c) → SMap.find (s.tctx d c).slots ⟨p % s.tideW d c, 0, 0⟩ = some x → x.p = p →
      x.state = .signalled → x.releases + 1 = s.classReleases (Hdr.lclass x.head) →
      let y : Slot := { x with
        releases := x.releases + 1, state := .draining
        onward := if Hdr.isBackward x.head = true ∧ x.home = false then .due else x.onward }
      exec (.tideRelease src i v) s = .next ((s.setSlot d c y).settle d c)) ∧
    (∀ d c, ctx = some (d, c) →
      (∀ x, SMap.find (s.tctx d c).slots ⟨p % s.tideW d c, 0, 0⟩ = some x →
        x.p ≠ p ∨ x.state ≠ .signalled ∨ s.classReleases (Hdr.lclass x.head) ≤ x.releases) →
      ∃ u, exec (.tideRelease src i v) s = .next u ∧ u.flag .TIDE_ERR_STATUS_RELEASE d = true ∧
        u.rd .SIG_STATUS_VOIDED = s.rd .SIG_STATUS_VOIDED ∧ u.noTideRec = s.noTideRec) ∧
    (ctx = none → ∃ u, exec (.tideRelease src i v) s = .next u ∧ u.flag .TIDE_ERR_STATUS_RELEASE i = true ∧
      u.rd .SIG_STATUS_VOIDED = s.rd .SIG_STATUS_VOIDED ∧ u.noTideRec = s.noTideRec)) ∧
  (∀ (s : State) (t c n rs1 : Nat), runs s t c (.tideRel rs1) n →
    let v := (s.x t c rs1).toNat
    ∃ w, onlyCtx s w t c ∧ w.ctx t c = after (s.ctx t c) n ∧
      (takes w (.ctx t c) ⟨.TIDE_RELEASE, 0, 0⟩ v →
        exec (.tideRel t) s = .next (w.releaseLap 0 (fv .TIDE_RELEASE_STRAND v) (fv .TIDE_RELEASE_DIR v)
          (fv .TIDE_RELEASE_LAP_POS v))))

/-- CREDIT, RESEND, the credit timer and the stall limit (R41, R44, R60, R61, R81). -/
def Sys2Proof.Claims.TideMessages : Prop :=
  ∀ (s : State) (d c : Nat), s.hasTide d c = true →
    (∀ ws, Msg.checkOk ws = false →
      (∃ u, exec (.credit d c ws) s = .next u ∧ reports s u 0x0A 6 0xFFFF true) ∧
      ∀ n, ∃ u, exec (.resend d c ws n) s = .next u ∧ reports s u 0x0A 6 0xFFFF true) ∧
    (∀ ws, Msg.checkOk ws = true → s.tideOn d c = false →
      exec (.credit d c ws) s = .next s ∧ ∀ n, exec (.resend d c ws n) s = .next s) ∧
    (∀ ws, Msg.checkOk ws = true → Msg.type ws = 0x01 → s.tideOn d c = true → s.forContext d c ws = true →
      (Msg.tidemark ws = s.tidemark + 1 →
        ∃ u, exec (.credit d c ws) s = .next u ∧
          u = s.setTctx d c { s.tctx d c with heldCredit := max (s.tctx d c).heldCredit (Msg.mark ws) }) ∧
      (Msg.tidemark ws = s.tidemark → Msg.attempt ws = s.rd .TIDE_ATTEMPT_ATTEMPT d → (s.tctx d c).voided = false →
        (Msg.mark ws ≤ s.downMark d c → exec (.credit d c ws) s = .next s) ∧
        (s.downMark d c < Msg.mark ws →
          ∃ u, exec (.credit d c ws) s = .next u ∧ u.downMark d c = Msg.mark ws ∧ u.mem = s.mem)) ∧
      (Msg.tidemark ws = s.tidemark → Msg.attempt ws ≠ s.rd .TIDE_ATTEMPT_ATTEMPT d ∨ (s.tctx d c).voided = true →
        ∃ u, exec (.credit d c ws) s = .next u ∧ onlyPuts s u [(.TIDE_SD_STALE_COUNT, d, c,
          min (s.rd .TIDE_SD_STALE_COUNT d c + 1) (2 ^ 32 - 1))])) ∧
    (∀ ws n, Msg.checkOk ws = true → Msg.type ws = 0x02 → s.tideOn d c = true → s.forContext d c ws = true → stacksFree s →
      Msg.tidemark ws = s.tidemark →
      Msg.attempt ws = s.rd .TIDE_ATTEMPT_ATTEMPT d → (s.tctx d c).voided = false →
      (Msg.tideDest ws ≠ s.tidePos d c →
        exec (.resend d c ws n) s = .next (s.originate (s.rd .TIDE_SD_CFG_RX_PORT d c) cSignal 1 none [] ws)) ∧
      (∀ l v pay, Msg.tideDest ws = s.tidePos d c → hasBit (Msg.acc ws) 15 = false →
        (s.tctx d c).laps.find? (fun l => l.p == Msg.lap ws) = some l →
        s.tideRead d c l.addr (256 * Hdr.payloadFlits l.head) = (v, .ok pay) →
        ∃ u h, exec (.resend d c ws n) s = .next u ∧ Hdr.resend h = true ∧ Hdr.target h = n % 1024 ∧
          Hdr.resendMask h = Msg.blocks ws ∧ Hdr.lap h = Hdr.lap l.head ∧
          (∀ k < 16, MapEntry.present (Hdr.mapEntry h k) =
            (hasBit (Msg.blocks ws) k && MapEntry.present (Hdr.mapEntry l.head k))) ∧
          u.outbox = (v.sendSegment d c ⟨h, (pickBlocks l.head pay (Msg.blocks ws)).2, [], 0, 0, [], []⟩ true).outbox)) ∧
    (s.tideOn d c = true → (s.tctx d c).reported < s.ownMark d c →
      ∃ u, exec (.creditTimer d c) s = .next u ∧ (u.tctx d c).reported = s.ownMark d c ∧ u.mem = s.mem) ∧
    (s.tideOn d c = false ∨ s.ownMark d c ≤ (s.tctx d c).reported → exec (.creditTimer d c) s = .next s) ∧
    (s.ctxActive d c = false → exec (.tideStallTimeout d c) s = .next s) ∧
    (s.ctxActive d c = true →
      ∃ u, exec (.tideStallTimeout d c) s = .next u ∧ u.flag .TIDE_ERR_STATUS_STALL d = true ∧
        u.rd .SIG_STATUS_VOIDED = s.rd .SIG_STATUS_VOIDED ∧ u.noTideRec = s.noTideRec)

/-- The releases of landed segments, and the messages and timers of the tide (R37, R41, R44, R50, R60, R61, R81, R99). It
rests on choices of the model beside the rules, in assumptions 11, 36 and 41. -/
def Obligations.TideMessagesAndReleases : Prop := Claims.TideReleases ∧ Claims.TideMessages

/-- TIDE_CTRL: ENABLE starts every walker at entry 0 where the checks pass, else it is ERR_TIDE_CONFIG and the engine stays
off; PAUSE and QUIESCENT; VOID frees every slot, lets nothing go out until the walkers start again, and leaves the
marks, the want table and the installed books at their start, and memory as it is (R38, R49, R62, R63). -/
def Sys2Proof.Claims.TideControl : Prop :=
  ∀ (s : State) (src : Source) (d : Nat),
    let r : RegRef := ⟨.TIDE_CTRL, d, 0⟩
    s.rd .TIDE_CTRL_MODE d < 4 → s.rd .TIDE_CTRL_PAUSE d < 2 → s.rd .TIDE_CTRL_ENABLE d < 2 →
    (takes s src r (withField s r .TIDE_CTRL_ENABLE 1) → s.flag .TIDE_CTRL_ENABLE d = false →
      (s.tideEnableOk d = true →
        ∃ u, exec (.tideEnable src d) s = .next u ∧ u.flag .TIDE_CTRL_ENABLE d = true ∧
          (∀ i, SMap.get u.dcache ⟨d, i, 0⟩ none = none) ∧ u.mem = s.mem ∧
          ∀ c < 4, u.rd .TIDE_SD_INJ_NEXT d c = 0 ∧ u.rd .TIDE_SD_LANDED_COUNT d c = 0 ∧
            (u.tctx d c) = { s.tctx d c with last := none, stopped := false, voided := false }) ∧
      (s.tideEnableOk d = false →
        ∃ u, exec (.tideEnable src d) s = .next u ∧ u.flag .TIDE_CTRL_ENABLE d = false ∧
          u.flag .TIDE_ERR_STATUS_CONFIG d = true ∧ u.noTideRec = s.noTideRec)) ∧
    (∀ on : Bool, takes s src r (withField s r .TIDE_CTRL_PAUSE (b2n on)) →
      s.flag .TIDE_CTRL_ENABLE d = true ∧ s.flag .TIDE_CTRL_PAUSE d ≠ on →
      ∃ u, exec (.tidePause src d on) s = .next u ∧
        puts s u ((.TIDE_CTRL_PAUSE, d, 0, b2n on) :: if on then [] else [(.TIDE_STATUS_QUIESCENT, d, 0, 0)]) ∧
        u.noRegs = s.noRegs) ∧
    (takes s src r (withField s r .TIDE_CTRL_VOID 1) →
      ∃ u, exec (.tideVoid src d) s = .next u ∧ u.mem = s.mem ∧ (∀ c cb, SMap.get u.books ⟨d, c, cb⟩ none = none) ∧
        (∀ i, SMap.get u.dcache ⟨d, i, 0⟩ none = none) ∧ (∀ k, u.rd .TIDE_WANT_WANT 0 k = 0) ∧
        ∀ c < 4, u.rd .TIDE_SD_MARKS_OWN_MARK d c = 0 ∧ u.rd .TIDE_SD_MARKS_DOWN_MARK d c = 0 ∧
          u.rd .TIDE_SD_WANT_MARK_MARK d c = 0 ∧ (u.tctx d c).slots = [] ∧ (u.tctx d c).cut = [] ∧
          (u.tctx d c).voided = true) ∧
    (s.hasDie d = true →
      (s.flag .TIDE_CTRL_PAUSE d = true ∧ s.tideQuiet d = true →
        ∃ u, exec (.tideQuiescent d) s = .next u ∧ onlyPuts s u [(.TIDE_STATUS_QUIESCENT, d, 0, 1)]) ∧
      (¬(s.flag .TIDE_CTRL_PAUSE d = true ∧ s.tideQuiet d = true) → exec (.tideQuiescent d) s = .next s))

/-- WANT_MARK only rises; the bits of TIDE_WANT are set by writing ones (R55). -/
def Sys2Proof.Claims.WantWrites : Prop :=
  ∀ (s : State) (src : Source),
    (∀ d c v, takes s src ⟨.TIDE_SD_WANT_MARK, d, c⟩ v →
      let m := fv .TIDE_SD_WANT_MARK_MARK v
      (m ≤ s.rd .TIDE_SD_WANT_MARK_MARK d c → exec (.wantMarkWrite src d c v) s = .next s) ∧
      (s.rd .TIDE_SD_WANT_MARK_MARK d c < m →
        ∃ u, exec (.wantMarkWrite src d c v) s = .next u ∧ u.rd .TIDE_SD_WANT_MARK_MARK d c = m ∧ u.mem = s.mem)) ∧
    (∀ k v, takes s src ⟨.TIDE_WANT, 0, k⟩ v →
      ∃ u, exec (.tideWantSet src k v) s = .next u ∧
        onlyPuts s u [(.TIDE_WANT_WANT, 0, k, Nat.lor (s.rd .TIDE_WANT_WANT 0 k) (fv .TIDE_WANT_WANT v))])

/-- The control of a tide engine, and its want table (R38, R49, R55, R62, R63). It rests on choices of the model beside
the rules, in assumptions 11 and 41. -/
def Obligations.TideControlAndWants : Prop := Claims.TideControl ∧ Claims.WantWrites


/-! ### Signal words, messages, guards and the void sequencer (spec/08_signals_barriers.md, spec/14_determinism.md) -/

/-- A signal that arrives: discarded with ERR_ISOLATED behind a shutter that is not open; else its amount is added to,
or taken from, VALUE and ADDED, which stop at the counter's highest value or at 0 with the bit, the record and the void
that say so; waiters are served in their order; two adds that arrive in one tile cycle count as their sum. The remote
word of a context leaves as a SIGNAL message, for which the context's later posts wait. A resend signal arms nothing: it
is applied where an armed slot of the tile matches it, which it disarms, else it is counted (R108, R207 to R211, R214,
R216, R218). It rests on choices of the model beside the rules, in assumption 6. -/
def Obligations.SignalsApplied : Prop :=
  ∀ (s : State) (pick : Nat) (f : Flight), s.mayArrive pick = some f →
    let t := f.tile
    let n := SigWord.counter f.word
    let v := s.rd .SIG_CNT_VALUE t n
    let added := s.rd .SIG_CNT_ADDED_ADDED t n
    let bounded := s.flag .SIG_CNT_CFG_MODE t n
    let cap := if bounded then s.rd .SIG_CNT_CFG_BOUND t n else 0xFFFF
    let w : State := { s with flights := s.flights.eraseIdx pick }
    let up : List (Fd × Nat × Nat × Nat) := [(.SIG_CNT_ADDED_ADDED, t, n, added + f.amount)]
    let down : List (Fd × Nat × Nat × Nat) := [(.SIG_CNT_ADDED_ADDED, t, n, added + (2 ^ 48 - f.amount % 2 ^ 48))]
    (SigWord.kind f.word ≠ 2 →
      (∀ more t' c', f.remote = true → f.src = .ctx t' c' → s.flag .SIG_ROUTE_VALID 0 (SigWord.pkn f.word) = true →
        exec (.signalApply (pick :: more)) s = .next (w.originate (s.rd .SIG_ROUTE_PORT 0 (SigWord.pkn f.word)) cSignal 1
          (some (SigWord.pkn f.word)) [] (s.message 0x10 (SigWord.pkn f.word) 0 (withBits f.word 15 0 f.amount))
          (.post t' c'))) ∧
      (∀ j g, f.remote = false → j ≠ pick → s.mayArrive j = some g → g.remote = false → SigWord.kind f.word = 0 →
        SigWord.kind g.word = 0 → g.tile = t → SigWord.counter g.word = n → s.isOpen kTile t = true → s.waitersOn t n = [] →
        v + f.amount + g.amount ≤ cap →
        ∃ u, exec (.signalApply [pick, j]) s = .next (u.setWaiters t n []) ∧
          onlyPuts { s with flights := (s.flights.eraseIdx (max pick j)).eraseIdx (min pick j) } u
            [(.SIG_CNT_VALUE, t, n, v + f.amount + g.amount), (.SIG_CNT_ADDED_ADDED, t, n, added + f.amount + g.amount)]) ∧
      (f.remote = false → s.isOpen kTile t = false → ∃ u, exec (.signalApply [pick]) s = .next u ∧ reports w u 0x0A 0x84 t s.running) ∧
      (f.remote = false → s.isOpen kTile t = true → s.waitersOn t n = [] →
        (SigWord.kind f.word = 0 → v + f.amount ≤ cap →
          ∃ u, exec (.signalApply [pick]) s = .next (u.setWaiters t n []) ∧
            onlyPuts w u ((.SIG_CNT_VALUE, t, n, v + f.amount) :: up)) ∧
        (SigWord.kind f.word = 0 → cap < v + f.amount →
          ∃ u x, exec (.signalApply [pick]) s = .next (u.setWaiters t n []) ∧
            onlyPuts w x ((.SIG_CNT_VALUE, t, n, cap) :: (.SIG_TILE_OVER_OVER, t, 0, setBit (s.rd .SIG_TILE_OVER_OVER t) n) :: up) ∧
            reports x u 0x0A (if bounded then 2 else 1) t true) ∧
        (SigWord.kind f.word = 1 → f.amount ≤ v →
          ∃ u, exec (.signalApply [pick]) s = .next (u.setWaiters t n []) ∧
            onlyPuts w u ((.SIG_CNT_VALUE, t, n, v - f.amount) :: down)) ∧
        (SigWord.kind f.word = 1 → v < f.amount →
          ∃ u x, exec (.signalApply [pick]) s = .next (u.setWaiters t n []) ∧
            onlyPuts w x ((.SIG_CNT_VALUE, t, n, 0) :: (.SIG_TILE_UNDER_UNDER, t, 0, setBit (s.rd .SIG_TILE_UNDER_UNDER t) n) :: down) ∧
            reports x u 0x0A 1 t true)) ∧
      (f.remote = false → s.isOpen kTile t = true → SigWord.kind f.word = 0 → v + f.amount ≤ cap → v + f.amount < 2 ^ 16 →
        (∀ c m rest k b rd, s.waitersOn t n = ⟨c, m⟩ :: rest → (∀ z ∈ rest, v + f.amount - m < z.amount) →
          m ≤ v + f.amount → c < 4 → (s.ctx t c).wait = .counter k b rd →
          ∃ u, exec (.signalApply [pick]) s = .next u ∧
            puts s u ([(.SIG_CNT_VALUE, t, n, v + f.amount - m),
              (.SIG_CNT_TAKEN_TAKEN, t, n, s.rd .SIG_CNT_TAKEN_TAKEN t n + m)] ++ up) ∧
            u.ctx t c = { s.ctx t c with wait := .served rd 0 } ∧ u.waitersOn t n = rest ∧
            onlyCtx { w with regs := u.regs, waiters := u.waiters } u t c) ∧
        (∀ z rest, s.waitersOn t n = z :: rest → v + f.amount < z.amount →
          ∃ u, exec (.signalApply [pick]) s = .next u ∧ puts s u ((.SIG_CNT_VALUE, t, n, v + f.amount) :: up) ∧
            u.waitersOn t n = z :: rest ∧ u.ctxs = s.ctxs))) ∧
    (SigWord.kind f.word = 2 → s.isOpen kTile t = true →
      let slot := s.matchSlot t (bits f.word 35 34) (bits f.word 36 36) (bits f.word 61 37)
      (slot = none → (∀ z, (s.waitersOn t n).head? = some z → v < z.amount) →
        ∃ u, exec (.resendSignalApply pick) s = .next (u.setWaiters t n (s.waitersOn t n)) ∧ onlyPuts w u [(.TILE_RESEND_DROP_COUNT, t, 0,
          min (s.rd .TILE_RESEND_DROP_COUNT t + 1) (2 ^ Fd.TILE_RESEND_DROP_COUNT.width - 1))]) ∧
      (∀ i, slot = some i → s.waitersOn t n = [] → v + f.amount ≤ cap →
        ∃ u, exec (.resendSignalApply pick) s = .next (u.setWaiters t n []) ∧
          onlyPuts w u ([(.TILE_RESEND_ARM_VALID, t, i, 0), (.TILE_RESEND_ARM_DIR, t, i, 0),
            (.TILE_RESEND_ARM_STRAND, t, i, 0), (.TILE_RESEND_ARM_LAP_POS, t, i, 0),
            (.SIG_CNT_VALUE, t, n, v + f.amount)] ++ up)))

/-- The registers of the signal unit that do more than hold a value: a counter is set, its ADDED to TAKEN plus the
value, before the adds of the same cycle; a counter with waiters keeps its mode, a barrier under way its configuration,
with SIG_ERR_STATUS.CONFIG; CLEAR_BAR puts every barrier object back; SIG_TIDEMARK is written by the host at a load, and
by nothing else; GLB_VOID_CTRL is written while the sequencer is idle; HALTED written with 1 sends the sense that was
withheld (R21, R207, R209, R227, R240, R241, R384, R385). It rests on choices of the model beside the rules, in
assumptions 5 and 20. -/
def Obligations.SignalRegisters : Prop :=
  ∀ (s : State) (src : Source),
    (∀ t n v, takes s src ⟨.SIG_CNT, t, n⟩ v → s.waitersOn t n = [] →
      let x := fv .SIG_CNT_VALUE v
      let cap := if s.flag .SIG_CNT_CFG_MODE t n then s.rd .SIG_CNT_CFG_BOUND t n else 0xFFFF
      (∃ u, exec (.sigCntWrite src t n ⟨v, []⟩) s = .next (u.setWaiters t n []) ∧
        onlyPuts s u [(.SIG_CNT_VALUE, t, n, x), (.SIG_CNT_ADDED_ADDED, t, n, s.rd .SIG_CNT_TAKEN_TAKEN t n + x)]) ∧
      ∀ j g, s.mayArrive j = some g → g.remote = false → SigWord.kind g.word = 0 → g.tile = t → SigWord.counter g.word = n →
        s.isOpen kTile t = true → x + g.amount ≤ cap →
        ∃ u, exec (.sigCntWrite src t n ⟨v, [j]⟩) s = .next (u.setWaiters t n []) ∧
          onlyPuts { s with flights := s.flights.eraseIdx j } u [(.SIG_CNT_VALUE, t, n, x + g.amount),
            (.SIG_CNT_ADDED_ADDED, t, n, s.rd .SIG_CNT_TAKEN_TAKEN t n + x + g.amount)]) ∧
    (∀ t n v, takes s src ⟨.SIG_CNT_CFG, t, n⟩ v →
      (s.waitersOn t n = [] →
        ∃ u, exec (.sigCntCfgWrite src t n v) s = .next u ∧
          onlyPuts s u [(.SIG_CNT_CFG_MODE, t, n, fv .SIG_CNT_CFG_MODE v), (.SIG_CNT_CFG_BOUND, t, n, fv .SIG_CNT_CFG_BOUND v)]) ∧
      (s.waitersOn t n ≠ [] →
        ∃ u, exec (.sigCntCfgWrite src t n v) s = .next u ∧ u.flag .SIG_ERR_STATUS_CONFIG = true ∧ u.noInt = s.noInt ∧
          regsBut s u [.SIG_ERR_STATUS, .HST_PBA])) ∧
    (∀ b v, takes s src ⟨.SIG_BAR_CFG, 0, b⟩ v →
      (s.rd .SIG_BAR_STATE_ARRIVED 0 b = 0 →
        ∃ u, exec (.sigBarCfgWrite src b v) s = .next u ∧
          onlyPuts s u ([.SIG_BAR_CFG_VALID, .SIG_BAR_CFG_STEP, .SIG_BAR_CFG_ROOT, .SIG_BAR_CFG_PKGS,
            .SIG_BAR_CFG_EXPECT].map fun f => (f, 0, b, fv f v))) ∧
      (s.rd .SIG_BAR_STATE_ARRIVED 0 b ≠ 0 →
        ∃ u, exec (.sigBarCfgWrite src b v) s = .next u ∧ u.flag .SIG_ERR_STATUS_CONFIG = true ∧ u.noInt = s.noInt ∧
          regsBut s u [.SIG_ERR_STATUS, .HST_PBA])) ∧
    (∀ v, takes s src ⟨.SIG_TIDEMARK, 0, 0⟩ v →
      (src = .host ∧ s.jobState = jobLoading →
        ∃ u, exec (.sigTidemarkWrite src v) s = .next u ∧
          onlyPuts s u [(.SIG_TIDEMARK_TIDEMARK, 0, 0, fv .SIG_TIDEMARK_TIDEMARK v)]) ∧
      (¬(src = .host ∧ s.jobState = jobLoading) → exec (.sigTidemarkWrite src v) s = .next s)) ∧
    (takes s src ⟨.SIG_CTRL, 0, 0⟩ (withField s ⟨.SIG_CTRL, 0, 0⟩ .SIG_CTRL_CLEAR_BAR 1) →
      ∃ u, exec (.clearBar src) s = .next u ∧ u.guards = [] ∧ u.packets = [] ∧ u.holdQueue = [] ∧
        (∀ b < 512, u.rd .SIG_BAR_STATE_SENSE 0 b = 0 ∧ u.rd .SIG_BAR_STATE_ARRIVED 0 b = 0 ∧ u.rd .SIG_BAR_STATE_GEN 0 b = 0 ∧
          u.rd .SIG_BAR_STATE_ERR 0 b = 0 ∧ u.rd .SIG_BAR_STATE_LAST_ERR 0 b = 0 ∧ u.bar b = BarPhase.init) ∧
        (∀ t b, u.tileSense t b = 0) ∧ regsBut s u [.SIG_BAR_STATE]) ∧
    (∀ v, takes s src ⟨.GLB_VOID_CTRL, 0, 0⟩ v →
      (s.rd .GLB_VOID_STATUS_STATE = 0 →
        ∃ u, exec (.voidCtrlWrite src v) s = .next u ∧
          onlyPuts s u ([.GLB_VOID_CTRL_EN, .GLB_VOID_CTRL_STEP_BAR, .GLB_VOID_CTRL_REPLAY_BAR, .GLB_VOID_CTRL_MAX].map
            fun f => (f, 0, 0, fv f v))) ∧
      (s.rd .GLB_VOID_STATUS_STATE ≠ 0 → exec (.voidCtrlWrite src v) s = .next s)) ∧
    (takes s src ⟨.GLB_HALT_CTRL, 0, 0⟩ (withField s ⟨.GLB_HALT_CTRL, 0, 0⟩ .GLB_HALT_CTRL_HALTED 1) →
      s.flag .GLB_HALT_CTRL_HALTED = true → s.rd .GLB_HALT_CTRL_EN < 2 →
      (∀ b, s.barValid b = true → s.barStep b = true → b < 512 →
        (∀ b' < 512, s.barValid b' = true → s.barStep b' = true → b' = b) →
        ∃ u, exec (.haltResume src) s = .next u ∧ puts s u [(.GLB_HALT_CTRL_HALTED, 0, 0, 0), (.GLB_HALT_CTRL_EN, 0, 0, s.rd .GLB_HALT_CTRL_EN)] ∧
          (∀ t, u.tileSense t b = s.rd .SIG_BAR_STATE_SENSE 0 b % 2) ∧
          ∀ t c x, (s.ctx t c).wait = .barrier b (s.rd .SIG_BAR_STATE_SENSE 0 b % 2) x → (u.ctx t c).wait = .served 0 0))

/-- Messages of the SIGNAL class: a wrong one is ERR_SIG_MSG; one for another package goes on unchanged by its route; one
of this step and attempt is applied, one of another attempt counted as stale, one of the next step held. A SIGNAL posts
its word. A BAR_ARRIVE is counted at the root in the arrival mask; one that R227 does not admit is ERR_SIG_BARRIER. A
BAR_RELEASE releases: LAST_ERR, SENSE, GEN, ARRIVED and ERR, then SENSE to every tile and its waiters; that of the step
barrier with flag 0 begins the next step, with flag 1 it leaves the tidemark and sets STEP_VOID (R218, R223 to R230). It
rests on choices of the model beside the rules, in assumption 27. -/
def Obligations.BarrierMessages : Prop :=
  ∀ (s : State) (ws : List Nat), Msg.type ws = 0x10 ∨ Msg.type ws = 0x11 ∨ Msg.type ws = 0x12 →
    let c : Instr := if Msg.type ws = 0x10 then .signal ws else if Msg.type ws = 0x11 then .barArriveMsg ws else .barReleaseMsg ws
    let b := Msg.barrier ws
    let gen := bits (hw ws 1) 31 0
    let flag := hasBit (hw ws 1) 32
    let here := Msg.checkOk ws = true ∧ Msg.dest ws = s.pkn
    let now := here ∧ Msg.tidemark ws = s.tidemark ∧ Msg.attempt ws = s.attempt
    let sense := s.rd .SIG_BAR_STATE_SENSE 0 b
    let done : List (Fd × Nat × Nat × Nat) :=
      [(.SIG_BAR_STATE_LAST_ERR, 0, b, b2n flag), (.SIG_BAR_STATE_SENSE, 0, b, 1 - sense),
       (.SIG_BAR_STATE_GEN, 0, b, s.barGen b + 1), (.SIG_BAR_STATE_ARRIVED, 0, b, 0), (.SIG_BAR_STATE_ERR, 0, b, 0)]
    (Msg.checkOk ws = false → ∃ u, exec c s = .next u ∧ reports s u 0x0A 6 0xFFFF true) ∧
    (Msg.checkOk ws = true → Msg.dest ws ≠ s.pkn → s.flag .SIG_ROUTE_VALID 0 (Msg.dest ws) = true →
      exec c s = .next (s.originate (s.rd .SIG_ROUTE_PORT 0 (Msg.dest ws)) cSignal 1 (some (Msg.dest ws)) [] ws)) ∧
    (Msg.checkOk ws = true → Msg.dest ws ≠ s.pkn → s.flag .SIG_ROUTE_VALID 0 (Msg.dest ws) = false →
      ∃ u, exec c s = .next u ∧ reports s u 0x0A 6 0xFFFF true) ∧
    (here → Msg.tidemark ws = s.tidemark → Msg.attempt ws ≠ s.attempt →
      ∃ u, exec c s = .next u ∧ onlyPuts s u [(.SIG_STALE_COUNT, 0, 0,
        min (s.rd .SIG_STALE_COUNT + 1) (2 ^ Fd.SIG_STALE_COUNT.width - 1))]) ∧
    (here → s.tidemark < 2 ^ 64 - 1 → Msg.tidemark ws = s.tidemark + 1 → s.holdQueue.length < 64 →
      exec c s = .next { s with holdQueue := s.holdQueue ++ [ws] }) ∧
    (here → Msg.tidemark ws ≠ s.tidemark → Msg.tidemark ws ≠ (s.tidemark + 1) % 2 ^ 64 →
      ∃ u, exec c s = .next u ∧ reports s u 0x0A 6 0xFFFF true) ∧
    (now → Msg.type ws = 0x10 → exec c s = .next (s.post (hw ws 1) none (.message (Msg.src ws)))) ∧
    (now → Msg.type ws = 0x11 →
      let member := s.barValid b = true ∧ s.pkn = s.barRoot b ∧ s.barRoot b ≤ Msg.src ws ∧
        Msg.src ws < s.barRoot b + s.barPkgs b ∧ gen = s.barGen b
      let mask := setBit (s.bar b).mask (Msg.src ws - s.barRoot b)
      (¬member → ∃ u, exec c s = .next u ∧ reports s u 0x0A 5 0xFFFF true) ∧
      (member → mask ≠ 2 ^ s.barPkgs b - 1 →
        exec c s = .next (s.setBar b { s.bar b with mask := mask, flag := (s.bar b).flag || flag }))) ∧
    (now → Msg.type ws = 0x12 →
      (s.barValid b = false → ∃ u, exec c s = .next u ∧ reports s u 0x0A 5 0xFFFF true) ∧
      (s.barValid b = true → s.barStep b = false → b ≠ s.replayBar → sense < 2 →
        ∃ u, exec c s = .next u ∧ puts s u done ∧ u.bar b = BarPhase.init ∧ (∀ t, u.tileSense t b = 1 - sense) ∧
          ∀ t x y, (s.ctx t x).wait = .barrier b (1 - sense) y → (u.ctx t x).wait = .served 0 0) ∧
      (s.barValid b = true → s.barStep b = true → flag = true → s.seqState = 0 → s.seqArmed = false → sense < 2 →
        ∃ u, exec c s = .next u ∧
          puts s u ([(.SIG_STATUS_STEP_VOID, 0, 0, 1), (.GLB_VOID_COUNT_COUNT, 0, 0,
            min (s.rd .GLB_VOID_COUNT_COUNT + 1) (2 ^ Fd.GLB_VOID_COUNT_COUNT.width - 1))] ++ done) ∧
          ∀ t, u.tileSense t b = 1 - sense) ∧
      (s.barValid b = true → s.barStep b = true → flag = false → s.seqState = 0 → s.flag .GLB_HALT_CTRL_EN = false →
        s.holdQueue = [] → s.guards = [] → sense < 2 → (∀ d x, (s.tctx d x).held = []) → (∀ p, (s.link p).held = []) →
        ∃ u, exec c s = .next u ∧ u.tidemark = (s.tidemark + 1) % 2 ^ 64 ∧ u.attempt = 0 ∧
          u.barGen b = (s.barGen b + 1) % 2 ^ 32 ∧ u.rd .SIG_BAR_STATE_SENSE 0 b = 1 - sense ∧
          ∀ t, u.tileSense t b = 1 - sense))

/-- The limit of a barrier: the root names the lowest member missing and how many others there are, a member itself, once
a phase; the barrier keeps waiting (R228). -/
def Sys2Proof.Claims.BarrierLimits : Prop :=
  ∀ (s : State) (b : Nat), b < 512 → s.barValid b = true → (s.bar b).reported = false →
    let missing := (List.range (s.barPkgs b)).filter fun i => !hasBit (s.bar b).mask i
    (∀ m more, s.pkn = s.barRoot b → (s.bar b).mask ≠ 0 → missing = m :: more →
      exec (.barrierTimeout b) s = .next ((s.setBar b { s.bar b with reported := true }).report
        { cls := 0x0A, index := 0, inst := 0xFFFF, void := false, objKind := 2, obj := b, waiterKind := 3,
          waiter := s.barRoot b + m, waiters := more.length, d5 := s.rd .SIG_BAR_LIMIT_LIMIT_US 0 b, d6 := s.barGen b })) ∧
    (s.pkn ≠ s.barRoot b → (s.bar b).done = true →
      exec (.barrierTimeout b) s = .next ((s.setBar b { s.bar b with reported := true }).report
        { cls := 0x0A, index := 0, inst := 0xFFFF, void := false, objKind := 2, obj := b, waiterKind := 3,
          waiter := s.pkn, waiters := 0, d5 := s.rd .SIG_BAR_LIMIT_LIMIT_US 0 b, d6 := s.barGen b }))

/-- The limits of waits and of barriers (R228, R233, R234). It rests on choices of the model beside the rules, in
assumptions 27 and 31. -/
def Obligations.WaitAndBarrierLimits : Prop := Claims.WaitLimits ∧ Claims.BarrierLimits

/-- Guarded transfers: the first packet of a tag opens an entry, one that does not fit it fails it; each packet written
and verified counts, and the signal is applied here when all are counted and LAST has come, never before; while the
die's table is full a packet of a new tag is held (R219 to R221). It rests on choices of the model beside the rules, in
assumptions 27 and 36. -/
def Obligations.GuardedTransfers : Prop :=
  ∀ (s : State),
    (∀ k : Packet, k.port < 32 →
      let die := s.portDie k.port
      let here := s.guards.filter fun g => g.die == die
      let word : Option Nat := if k.last then some k.sig else none
      (∀ v, s.guardOf die k.tag = none → here.length < 256 → 0 < k.count →
        (∀ x ∈ s.packets, ¬(s.portDie x.port = die ∧ x.tag = k.tag)) → k.cls ≠ cMirror →
        s.stalled k.addr k.data.length = false →
        ({ s with guards := s.guards ++ [⟨die, k.tag, k.count, 0, word⟩] } : State).writeSpan
          { num := 0, waiterKind := 3, waiter := bits k.tag 31 22 } k.addr k.data = (v, none) →
        ∃ u, exec (.guardPacketArrive k) s = .next u ∧ u.guardOf die k.tag = some ⟨die, k.tag, k.count, 0, word⟩ ∧
          u.mem = v.mem ∧ u.packets = v.packets ++ [{ k with stored := true, verified := false, waits := false, failed := false }]) ∧
      (s.guardOf die k.tag = none → 256 ≤ here.length →
        exec (.guardPacketArrive k) s =
          .next { s with heldPackets := s.heldPackets ++
            [{ k with stored := false, verified := false, waits := false, failed := false }] }) ∧
      (∀ g, s.guardOf die k.tag = some g → k.count ≠ g.count →
        ∃ u, exec (.guardPacketArrive k) s = .next u ∧ u.guardOf die k.tag = none ∧ u.flights = s.flights ∧
          u.rd .SIG_STATUS_VOIDED = 1 ∧ u.flag .SIG_ERR_STATUS_GUARD = true ∧ u.mem = s.mem)) ∧
    ((∀ k ∈ s.heldPackets, s.packetFits k = false) → exec .guardHeldPacketAccept s = .next s) ∧
    (∀ k, s.heldPackets.find? s.packetFits = some k → k.port < 32 → k.stored = false → k.verified = false →
      k.waits = false → k.failed = false →
      exec .guardHeldPacketAccept s =
        exec (.guardPacketArrive k) { s with heldPackets := removeFirst s.packetFits s.heldPackets }) ∧
    (∀ i k g, s.packets[i]? = some k → k.stored = true → k.verified = true → k.waits = false → k.failed = false →
      s.guards = [g] → s.portDie k.port = g.die → k.tag = g.tag →
      (g.sig = none ∨ g.written + 1 ≠ g.count →
        ∃ u, exec (.guardPacketWritten i) s = .next u ∧ u.guards = [{ g with written := g.written + 1 }] ∧
          u.flights = s.flights ∧ u.packets = s.packets.eraseIdx i) ∧
      (∀ w, g.sig = some w → g.written + 1 = g.count →
        ∃ (u v : State), exec (.guardPacketWritten i) s = .next u ∧ v.guards = [] ∧ v.regs = s.regs ∧ v.flights = s.flights ∧
          u = v.postHere w (.guard g.tag))) ∧
    (∀ die tag g, s.hasDie die = true → s.guardOf die tag = some g →
      ∃ u, exec (.guardTimeout die tag) s = .next u ∧ u.guardOf die tag = none ∧ u.flights = s.flights ∧
        u.rd .SIG_STATUS_VOIDED = 1 ∧ u.flag .SIG_ERR_STATUS_GUARD = true)

/-- The void sequencer: a void of the package's own begins QUIESCE where the sequencer is armed and idle, as a notice of
this step and attempt does; in QUIESCE every context is stopped, every resend slot disarmed and every tide engine freed;
once the writes and signals are done, the package completes its part of the step barrier with the flag, unless it
already has (R374 to R376, R381). It rests on choices of the model beside the rules, in assumption 27. -/
def Obligations.VoidSequence : Prop :=
  ∀ (s : State),
    (s.cause = none → exec .voidSeqQuiesce s = .next s) ∧
    (∀ cls index, s.cause = some (cls, index) → s.seqState = 0 → s.seqArmed = true →
      ∃ u : State, exec .voidSeqQuiesce s = .next (u.sendNotices cls index) ∧ u.rd .GLB_VOID_STATUS_STATE = 1 ∧ u.rd .GLB_VOID_STATUS_REMOTE = 0 ∧
        u.rd .GLB_VOID_STATUS_CLASS = cls % 2 ^ Fd.GLB_VOID_STATUS_CLASS.width ∧
        u.rd .GLB_VOID_STATUS_INDEX = index % 2 ^ Fd.GLB_VOID_STATUS_INDEX.width ∧ u.cause = none ∧
        u.voidGate = true ∧ u.xfers = [] ∧ u.xferQueues = [] ∧ u.tidemark = s.tidemark ∧ u.attempt = s.attempt ∧
        u.flights = s.flights ∧ (∀ t c, u.rd .TILE_CTX_CTRL_RUN t c = 0) ∧ (∀ t i, u.rd .TILE_RESEND_ARM_VALID t i = 0) ∧
        (∀ t < s.nTiles, ∀ e < 5, (s.engine t e).blocked = [] → (u.engine t e).queue = []) ∧
        ∀ d < 4, ∀ c < 4, (u.tctx d c).slots = [] ∧ (u.tctx d c).held = (s.tctx d c).held) ∧
    (∀ ws, (bits (hw ws 3) 63 32 ≠ crc32c ((wordsBytes (ws.take 4)).take 28) ∨ s.seqState ≠ 0 ∨ s.seqArmed = false ∨
        bits (hw ws 0) 31 0 ≠ s.rd .TIDE_JOB_JOB ∨ hw ws 1 ≠ s.tidemark ∨ bits (hw ws 2) 7 0 ≠ s.attempt) →
      exec (.voidNotice ws) s = .next s) ∧
    (∀ ws, bits (hw ws 3) 63 32 = crc32c ((wordsBytes (ws.take 4)).take 28) → s.seqState = 0 → s.seqArmed = true →
      bits (hw ws 0) 31 0 = s.rd .TIDE_JOB_JOB → hw ws 1 = s.tidemark → bits (hw ws 2) 7 0 = s.attempt → s.cause = none →
      ∃ u, exec (.voidNotice ws) s = .next u ∧ u.rd .SIG_STATUS_VOIDED = 1 ∧ u.rd .GLB_VOID_STATUS_STATE = 1 ∧
        u.rd .GLB_VOID_STATUS_REMOTE = 1 ∧ u.rd .GLB_VOID_STATUS_SRC = bits (hw ws 0) 41 32 ∧ u.voidGate = true ∧
        u.tidemark = s.tidemark ∧ (∀ t c, u.rd .TILE_CTX_CTRL_RUN t c = 0) ∧
        ∀ d < 4, ∀ c < 4, (u.tctx d c).slots = []) ∧
    (s.seqState ≠ 1 ∨ s.unitsDone = false → exec .voidQuiesceDone s = .next s) ∧
    (s.seqState = 1 → s.unitsDone = true → s.seqReleased = false →
      ¬((s.bar s.stepBar).done = true ∧ (s.bar s.stepBar).sent = true) → s.barPkgs s.stepBar ≠ 1 → s.pkn ≠ s.barRoot s.stepBar →
      s.flag .SIG_ROUTE_VALID 0 (s.barRoot s.stepBar) = true →
      ∃ (u v : State), exec .voidQuiesceDone s = .next u ∧ onlyPuts s { v with bars := s.bars } [(.GLB_VOID_STATUS_STATE, 0, 0, 2)] ∧
        (v.bar s.stepBar).done = true ∧ (v.bar s.stepBar).sent = true ∧
        u = v.sendMessage (s.barRoot s.stepBar) (s.message 0x11 (s.barRoot s.stepBar) s.stepBar (s.barGen s.stepBar + 2 ^ 32)))


/-! ### Memory controllers and arbitration (spec/09_memory.md, spec/11_arbitration.md) -/

/-- An access to stack memory in one line. A read gives no change but its count; above the fitted memory it is
ERR_MEM_RANGE; a line with an uncorrectable error is ERR_MEM_UE and stays as it is; a whole line written is repaired, a
part line is merged into the line that is read for it, and refused where that line has such an error; a write into the
context area or the armed mirror region is ERR_MEM_REGION and changes no byte; while the stack is zeroed the access
waits (R243, R248, R249, R254, R255, R258). It rests on choices of the model beside the rules, in assumptions 10, 28 and
30. -/
def Obligations.StackAccesses : Prop :=
  ∀ (s : State) (req : Req) (a n : Nat),
    let line := 64 * (a / 64)
    let st := stackOf s.fuses.nStacks line
    let failed (u : State) (k inst : Nat) (void : Bool) : Prop := ∃ w, reports w u 0x09 k inst void ∧ w.noRegs = s.noRegs ∧
      regsBut s w [.MEM_ERR_INFO, .MEM_ERR_SYND, .MEM_UE_COUNT, .MEM_WR_BYTES]
    (s.target a = .stack → s.stalled a n = true →
      ∀ data, exec (.memAccess req a n data []) s = .next s) ∧
    (s.target a = .hole → s.stalled a n = false →
      ∀ data, ∃ u, exec (.memAccess req a n data []) s = .next u ∧ failed u 1 0 s.running) ∧
    (s.target a = .stack → s.stalled a n = false → 0 < n → a + n ≤ line + 64 → line + 64 ≤ s.fuses.memory →
      (s.reachesStack req st = true →
        (s.mem.badIn a n = none →
          ∃ u, exec (.memAccess req a n none []) s = .next u ∧
            onlyPuts s u [(.MEM_RD_BYTES_COUNT, st, 0, s.rd .MEM_RD_BYTES_COUNT st + n)]) ∧
        (∀ y, s.mem.badIn a n = some y →
          ∃ u, exec (.memAccess req a n none []) s = .next u ∧ failed u 0 st s.running ∧ u.mem = s.mem)) ∧
      (∀ bs : List Byte, bs.length = n → req.saver = false → req.mirrorFrom = none →
        let mine := s.fuses.ctxBase < a + n
        let base := s.rd .MEM_RGN_MIRROR_BASE * 2 ^ 24
        let mirror := s.flag .MEM_RGN_MIRROR_ARMED = true ∧ s.rd .MEM_RGN_MIRROR_SIZE ≠ 0 ∧ base < a + n ∧ a < base + s.rd .MEM_RGN_MIRROR_SIZE * 2 ^ 24
        (mine ∨ mirror →
          ∃ u, exec (.memAccess req a n (some bs) []) s = .next u ∧ failed u 2 (stackOf s.fuses.nStacks a) s.running ∧
            u.mem = s.mem) ∧
        (¬mine → ¬mirror → s.reachesStack req st = true →
          (s.mem.badAt a = none ∨ n = 64 →
            ∃ u, exec (.memAccess req a n (some bs) []) s = .next u ∧ stored s.mem u.mem a bs ∧
              u.mem.bad = (if s.mem.badAt a = none then s.mem.bad
                else s.mem.bad.filter fun w => !decide (a ≤ w.addr ∧ w.addr + w.size ≤ a + 64)) ∧
              puts s u ((.MEM_WR_BYTES_COUNT, st, 0, s.rd .MEM_WR_BYTES_COUNT st + n) ::
                if n = 64 then [] else [(.MEM_RD_BYTES_COUNT, st, 0, s.rd .MEM_RD_BYTES_COUNT st + 64)]) ∧
              { u with mem := s.mem }.noRegs = s.noRegs) ∧
          (∀ y, s.mem.badAt a = some y → n < 64 →
            ∃ u, exec (.memAccess req a n (some bs) []) s = .next u ∧ failed u 0 st s.running ∧ u.mem = s.mem))))

/-- Refresh, patrol scrub and zero fills: a temperature sets the refresh rate, which returns to a longer window only 2 °C
below its threshold; a scrub read moves on by a line and leaves the line's bytes as they are, counting
one symbol in error, with the line that it writes back, and reporting more; a zero fill leaves every byte of its stack zero,
counted as written, and only the scour and the porter start one (R250 to R252, R258, R259, R261). -/
def Sys2Proof.Claims.ControllerActivities : Prop :=
  ∀ (s : State) (st : Nat), s.hasStack st = true →
    (∀ ch bank, ch < 16 → exec (.refresh st ch bank) s = .next s) ∧
    (∀ t : Int,
      let cur := s.rd .MEM_REFRESH_RATE st
      let rate := if 95 < t ∨ (93 < t ∧ cur = 2) then 2 else if 85 < t ∨ (83 < t ∧ 1 ≤ cur) then 1 else 0
      ∃ u, exec (.refreshRateChange st t) s = .next u ∧
        onlyPuts s u [(.MEM_REFRESH_RATE, st, 0, rate), (.MEM_TEMP_TEMP, st, 0, (t % 256).toNat)]) ∧
    (s.scrubbing st = false → ∀ f, exec (.scrubRead st f) s = .next s) ∧
    (s.scrubbing st = true →
      let line := s.rd .MEM_SCRUB_POS_LINE st
      let a := deviceAddr s.fuses.nStacks st (64 * line)
      let move : List (Fd × Nat × Nat × Nat) := [(.MEM_SCRUB_POS_LINE, st, 0, (line + 1) % (s.fuses.stackGib * 2 ^ 24)),
        (.MEM_RD_BYTES_COUNT, st, 0, s.rd .MEM_RD_BYTES_COUNT st + 64)]
      (s.mem.badAt a = none → ∃ u, exec (.scrubRead st .clean) s = .next u ∧ onlyPuts s u move) ∧
      (∀ y, s.mem.badAt a = none → (s.rd .MEM_CE_COUNT_COUNT (stackOf s.fuses.nStacks a) + 1) %
          s.rd .MEM_CE_THRESH_THRESH (stackOf s.fuses.nStacks a) ≠ 0 →
        ∃ u, exec (.scrubRead st (.symbols 1 y)) s = .next u ∧ onlyPuts s u ((.MEM_CE_COUNT_COUNT, stackOf s.fuses.nStacks a, 0,
          min (s.rd .MEM_CE_COUNT_COUNT (stackOf s.fuses.nStacks a) + 1) (2 ^ 32 - 1)) ::
          (.MEM_WR_BYTES_COUNT, stackOf s.fuses.nStacks a, 0, s.rd .MEM_WR_BYTES_COUNT (stackOf s.fuses.nStacks a) + 64) ::
          move)) ∧
      (∀ k y, 1 < k → s.mem.badAt a = none →
        ∃ u w, exec (.scrubRead st (.symbols k y)) s = .next u ∧ reports w u 0x09 4 st false ∧
          w.mem = s.mem.mark ⟨a, 64, y⟩ ∧ { w with mem := s.mem }.noRegs = s.noRegs) ∧
      (∀ y, s.mem.badAt a = some y →
        ∃ u w, exec (.scrubRead st .clean) s = .next u ∧ reports w u 0x09 4 st false ∧ w.noRegs = s.noRegs ∧
          regsBut s w [.MEM_SCRUB_POS, .MEM_RD_BYTES, .MEM_UE_COUNT, .MEM_ERR_INFO, .MEM_ERR_SYND])) ∧
    (∃ u, exec (.memZeroStart .other st) s = .next u ∧ u.flag .MEM_ERR_STATUS_REGION st = true ∧ u.noInt = s.noInt ∧
      regsBut s u [.MEM_ERR_STATUS, .HST_PBA]) ∧
    (s.jobState = jobScouring → s.isOpen kMemc st = true →
      ∃ u, exec (.memZeroStart .scour st) s = .next u ∧
        puts s u [(.MEM_STATUS_ZEROING, st, 0, 1), (.MEM_ZERO_START, st, 0, 1),
          (.MEM_WR_BYTES_COUNT, st, 0, s.rd .MEM_WR_BYTES_COUNT st + s.fuses.stackGib * 2 ^ 30)] ∧
        (∀ a < 0x200000000000, u.mem.read a = if stackOf s.fuses.nStacks a = st then 0 else s.mem.read a) ∧
        { u with mem := s.mem }.noRegs = s.noRegs) ∧
    (s.flag .MEM_STATUS_ZEROING st = true → s.hst.active = false → (∀ k, (s.shingle k).rcOpening = false) →
      ∃ u, exec (.zeroFillDone st) s = .next u ∧ onlyPuts s u [(.MEM_STATUS_ZEROING, st, 0, 0), (.MEM_ZERO_START, st, 0, 0)])

/-- MEM_RGN_MIRROR written: an armed region keeps BASE and SIZE, with MEM_ERR_STATUS.REGION, and takes ARMED; clearing
ARMED waits for the MIRROR writes already accepted (R255). -/
def Sys2Proof.Claims.MirrorRegion : Prop :=
  (∀ (s : State) (src : Source) (v : Nat), takes s src ⟨.MEM_RGN_MIRROR, 0, 0⟩ v →
    let base := fv .MEM_RGN_MIRROR_BASE v
    let size := fv .MEM_RGN_MIRROR_SIZE v
    let armed := fv .MEM_RGN_MIRROR_ARMED v = 1
    let same := base = s.rd .MEM_RGN_MIRROR_BASE ∧ size = s.rd .MEM_RGN_MIRROR_SIZE
    let pending := ∃ k ∈ s.packets, k.cls = cMirror
    (s.flag .MEM_RGN_MIRROR_ARMED = false →
      ∃ u, exec (.memRgnMirrorWrite src v) s = .next u ∧ puts s u [(.MEM_RGN_MIRROR_BASE, 0, 0, base),
        (.MEM_RGN_MIRROR_SIZE, 0, 0, size), (.MEM_RGN_MIRROR_ARMED, 0, 0, if armed then 1 else 0)] ∧
        { u with disarm := s.disarm }.noRegs = s.noRegs) ∧
    (s.flag .MEM_RGN_MIRROR_ARMED = true →
      ∃ u, exec (.memRgnMirrorWrite src v) s = .next u ∧ u.rd .MEM_RGN_MIRROR_BASE = s.rd .MEM_RGN_MIRROR_BASE ∧
        u.rd .MEM_RGN_MIRROR_SIZE = s.rd .MEM_RGN_MIRROR_SIZE ∧
        (u.flag .MEM_RGN_MIRROR_ARMED = true ↔ armed ∨ pending) ∧
        (pending → (u.disarm = true ↔ ¬armed)) ∧
        (u.flag .MEM_ERR_STATUS_REGION = true ↔ ¬same ∨ s.flag .MEM_ERR_STATUS_REGION = true) ∧ u.mem = s.mem)) ∧
  (∀ s : State,
    let pending := ∃ k ∈ s.packets, k.cls = cMirror
    (s.disarm = false ∨ pending → exec .mirrorDisarm s = .next s) ∧
    (s.disarm = true → ¬pending →
      ∃ u, exec .mirrorDisarm s = .next u ∧ puts s u [(.MEM_RGN_MIRROR_ARMED, 0, 0, 0)] ∧ u.disarm = false ∧
        { u with disarm := s.disarm }.noRegs = s.noRegs))

/-- What a memory controller does of its own, and the mirror region (R250 to R252, R255, R258, R259). It rests on choices
of the model beside the rules, in assumption 28. -/
def Obligations.ControllerDuties : Prop := Claims.ControllerActivities ∧ Claims.MirrorRegion

/-- A cycle of a point: at a bank, a router output or a controller the grant goes, where nobody holds it or the holder is at
a break point, to the highest in the point's ranking of those that request and are not masked; a grant resets the
requester's count, a refusal raises it, to 11 at most. At an egress port a class that no longer requests is forgotten, and
one that another class keeps out is refused again. A row of working SRAM is presented for at its own bank alone (R116, R300
to R305). -/
def Sys2Proof.Claims.Arbitration : Prop :=
  (∀ (s : State) (p : Point) (who : Nat) (c : ArbCycle), s.hasPoint p = true → (∀ e, p ≠ .egress e) →
    (cycleFits p c = false → exec (.backoffExpiry p who c) s = .next s) ∧
    (cycleFits p c = true →
    let asks := s.cycleRequests p who c
    let winner := if s.holderOf p = none ∨ c.brk = true then (s.ranking p).find? asks.contains else s.holderOf p
    let count (w : Nat) := match s.backoffs.find? fun b => b.point == p && b.who == w with
      | none => 1 | some b => min (b.refusals + 1) 11
    (∀ w ∈ asks, (w = who ∨ w ∈ c.present) ∧ s.masked p w = false) ∧
    ∃ u, exec (.backoffExpiry p who c) s = .next u ∧ u.holderOf p = winner ∧ (∀ q, q ≠ p → u.holderOf q = s.holderOf q) ∧
      (∀ w ∈ asks, winner ≠ some w → (⟨p, w, count w⟩ : Backoff) ∈ u.backoffs) ∧
      (∀ w ∈ asks, winner = some w → ∀ b ∈ u.backoffs, ¬(b.point = p ∧ b.who = w)) ∧
      (∀ b ∈ s.backoffs, ¬(b.point = p ∧ b.who ∈ asks) → b ∈ u.backoffs) ∧
      { u with backoffs := s.backoffs, holders := s.holders, fabric := s.fabric } = s)) ∧
  (∀ (s : State) (t o : Nat), o < 4 → (s.ranking (.fabric t o)).head? = some ((o + 2) % 4) ∧
    (s.ranking (.fabric t o)).getLast? = some 4) ∧
  (∀ (s : State) (e c : Nat) (y : ArbCycle), e < 32 →
    let l := s.link e
    let without := s.backoffs.filter fun b => !(b.point == .egress e && b.who == c)
    (s.requests e l c = false → exec (.backoffExpiry (.egress e) c y) s = .next { s with backoffs := without }) ∧
    (∀ h, s.requests e l c = true → l.holder = some h → h ≠ c →
      ∃ n, exec (.backoffExpiry (.egress e) c y) s = .next { s with backoffs := without ++ [⟨.egress e, c, n⟩] } ∧
        0 < n ∧ n ≤ 11) ∧
    (∀ g, s.requests e l c = true → l.holder = none → s.decideGrant e l none = some g →
      ∃ u, exec (.backoffExpiry (.egress e) c y) s = .next u ∧ (u.link e).holder = some g ∧ (u.link e).claim = none ∧
        u.regs = s.regs ∧ u.mem = s.mem))

/-- Starvation is flagged and counted at its point with no record; a sluice table is exchanged for its shadow at once
where the port is not UP and at the wrap where it is, and a wrong one changes nothing; the owner of a slot that requests
and has not had the grant in it carries its claim over; a port with nothing to send sends idle flits (R279, R306, R309,
R311, R314 to R317). -/
def Sys2Proof.Claims.Tables : Prop :=
  (∀ s : State,
    (∀ t < s.nTiles, ∀ k < 10, ∃ u, exec (.arbStarvation (.bank t k)) s = .next u ∧ u.flag .TILE_ERR_STATUS_STARVE t = true ∧
      u.rd .TILE_STARVE_COUNT t = min (s.rd .TILE_STARVE_COUNT t + 1) (2 ^ Fd.TILE_STARVE_COUNT.width - 1) ∧
      u.errSeq = s.errSeq) ∧
    (∀ t < s.nTiles, ∀ o < 5, ∃ u, exec (.arbStarvation (.fabric t o)) s = .next u ∧ u.flag .SLU_FAB_STARVE_FLAG = true ∧
      u.rd .SLU_FAB_STARVE_COUNT = min (s.rd .SLU_FAB_STARVE_COUNT + 1) (2 ^ 32 - 1) ∧ u.errSeq = s.errSeq ∧
      (s.flag .SLU_FAB_STARVE_FLAG = false →
        u.rd .SLU_FAB_STARVE_PORT = o ∧ u.rd .SLU_FAB_STARVE_TILE = t % 2 ^ Fd.SLU_FAB_STARVE_TILE.width)) ∧
    (∀ st < s.fuses.nStacks, ∃ u, exec (.arbStarvation (.memory st)) s = .next u ∧
      u.flag .MEM_ERR_STATUS_STARVE st = true ∧ u.errSeq = s.errSeq ∧ u.mem = s.mem) ∧
    (∀ p < 32, ∃ u, exec (.arbStarvation (.egress p)) s = .next u ∧ u.flag .SLU_ERR_STATUS_STARVE p = true ∧
      u.rd .SLU_STARVE_CNT_COUNT p = min (s.rd .SLU_STARVE_CNT_COUNT p + 1) (2 ^ 32 - 1) ∧ u.errSeq = s.errSeq)) ∧
  (∀ (s : State) (p idle : Nat), p < 32 →
    let idles := s.wire ++ List.replicate (16 - min 16 idle)
      (⟨p, (plainFlit 2 ((s.link p).expSeq + 1023) []).1, (plainFlit 2 ((s.link p).expSeq + 1023) []).2⟩ : WireFlit)
    (s.portUp p = false → s.portState p ≠ pDraining → exec (.slotAdvance ⟨p, idle⟩) s = .next s) ∧
    (s.portUp p = false → s.portState p = pDraining → (s.link p).holder = none →
      exec (.slotAdvance ⟨p, idle⟩) s = .next { s with wire := idles }) ∧
    (s.portUp p = true → (s.link p).queue = [] → (s.link p).holder = none →
      let n := (s.rd .SLU_STATUS_SLOT p + 1) % 64
      let rest (u : State) : Prop := { u with links := s.links, wire := s.wire }.noRegs = s.noRegs ∧ u.wire = idles ∧
        ∀ q, u.link q = if q = p then { s.link p with served := false } else s.link q
      (n ≠ 0 → ∃ u, exec (.slotAdvance ⟨p, idle⟩) s = .next u ∧ puts s u [(.SLU_STATUS_SLOT, p, 0, n)] ∧ rest u) ∧
      (n = 0 → s.flag .SLU_STATUS_COMMIT_PENDING p = false →
        ∃ u, exec (.slotAdvance ⟨p, idle⟩) s = .next u ∧ puts s u [(.SLU_STATUS_SLOT, p, 0, 0), (.SLU_STATUS_MGMT_USED, p, 0, 0)] ∧
          rest u) ∧
      (n = 0 → s.flag .SLU_STATUS_COMMIT_PENDING p = true →
        ∃ u, exec (.slotAdvance ⟨p, idle⟩) s = .next u ∧ u.flag .SLU_STATUS_COMMIT_PENDING p = false ∧ rest u ∧
          ∀ i < 8, u.rd .SLU_ACTIVE_SLOTS p i = s.rd .SLU_SHADOW_SLOTS p i % 2 ^ 32 ∧
            u.rd .SLU_SHADOW_SLOTS p i = s.rd .SLU_ACTIVE_SLOTS p i % 2 ^ 32)) ∧
    (∀ h,
      let v := s.flitTimes p idle 16
      let owner := v.slotOwner p (v.rd .SLU_STATUS_SLOT p)
      v.portUp p = true → (v.link p).claim = none → (v.link p).served = false → (v.link p).holder = some h → h ≠ owner →
      owner < 6 →
      v.mayHave p (v.link p) owner = true →
      ∃ u, exec (.slotAdvance ⟨p, idle⟩) s = .next u ∧ (u.link p).claim = some owner ∧ (u.link p).holder = some h)) ∧
  (∀ (s : State) (src : Source) (p : Nat),
    (takes s src ⟨.SLU_CTRL, p, 0⟩ (withField s ⟨.SLU_CTRL, p, 0⟩ .SLU_CTRL_COMMIT 1) →
      let slot (n : Nat) := bits (s.rd .SLU_SHADOW_SLOTS p (n / 8)) (4 * (n % 8) + 3) (4 * (n % 8))
      let bad (n : Nat) := slot n = 6 ∨ 8 ≤ slot n ∨ (slot n = 5 ∧ ∃ m < n, slot m = 5)
      (∀ n < 64, bad n → (∀ m < n, ¬bad m) →
        exec (.commit src p) s = .next (s.report
          { cls := 0x0F, index := 0, inst := p, void := false, objKind := 8, obj := p, d5 := p, d6 := n })) ∧
      ((∀ n < 64, ¬bad n) → s.portUp p = true →
        ∃ u, exec (.commit src p) s = .next u ∧ onlyPuts s u [(.SLU_STATUS_COMMIT_PENDING, p, 0, 1)]) ∧
      ((∀ n < 64, ¬bad n) → s.portUp p = false →
        ∃ u, exec (.commit src p) s = .next u ∧ u.noRegs = s.noRegs ∧ u.flag .SLU_STATUS_COMMIT_PENDING p = false ∧
          ∀ i < 8, u.rd .SLU_ACTIVE_SLOTS p i = s.rd .SLU_SHADOW_SLOTS p i % 2 ^ 32 ∧
            u.rd .SLU_SHADOW_SLOTS p i = s.rd .SLU_ACTIVE_SLOTS p i % 2 ^ 32)) ∧
    (∀ v, takes s src ⟨.SLU_RANK, p, 0⟩ v →
      ∃ u, exec (.sluRankWrite src p v) s = .next u ∧ onlyPuts s u [(.SLU_RANK_ORDER, p, 0, fv .SLU_RANK_ORDER v)] ∧
        ∀ c < 5, ∃ i < 5, bits (fv .SLU_RANK_ORDER v) (3 * i + 2) (3 * i) = c) ∧
    (∀ i v, takes s src ⟨.SLU_SHADOW, p, i⟩ v →
      (s.flag .SLU_STATUS_COMMIT_PENDING p = false →
        ∃ u, exec (.sluShadowWrite src p i v) s = .next u ∧ onlyPuts s u [(.SLU_SHADOW_SLOTS, p, i, v)]) ∧
      (s.flag .SLU_STATUS_COMMIT_PENDING p = true →
        ∃ u, exec (.sluShadowWrite src p i v) s = .next u ∧ u.flag .SLU_ERR_STATUS_PENDING p = true ∧
          u.rd .SLU_SHADOW_SLOTS p i = s.rd .SLU_SHADOW_SLOTS p i ∧ u.noInt = s.noInt)))

/-- The arbiters of the package and the sluice tables of its ports (R300 to R317). It rests on choices of the model beside
the rules, in assumption 37. -/
def Obligations.ArbitrationAndTables : Prop := Claims.Arbitration ∧ Claims.Tables


/-! ### Tideway links (spec/10_tideway.md) -/

/-- A data flit: one in order and sound is accepted, its acknowledgement and credits applied; one that fails its CRC or
codeword, or is out of order, is discarded, with one NAK for the expected SEQ; one beyond the totals that the sender has
been told takes the port DOWN. The codewords of every flit are counted, and the record of a sound control flit does what
its command does. A group whose tag fails is counted and, but for management, voids the step; one that verifies marks
its packet (R270, R275 to R277, R279, R283, R297, R298). -/
def Sys2Proof.Claims.FlitsReceived : Prop :=
  (∀ (s : State) (p : Nat) (f : Flit), p < 32 → noScans s p →
    let l := s.link p
    let linked := s.portState p ∈ [2, 3, 4, 7]
    let good := f.crcOk = true ∧ f.uncorrected = 0
    let seen : List (Fd × Nat × Nat × Nat) :=
      [(.TWY_FEC_CORR_COUNT, p, 0, min (s.rd .TWY_FEC_CORR_COUNT p + f.corrected) (2 ^ 32 - 1)),
       (.TWY_FEC_UNCORR_COUNT, p, 0, min (s.rd .TWY_FEC_UNCORR_COUNT p + f.uncorrected) (2 ^ 32 - 1))]
    (¬linked → exec (.dataFlitReceive p f) s = .next s) ∧
    (linked → (f.ftype = 0 ∧ s.portState p ≠ 3 ∧ s.portState p ≠ 7) ∨ (f.ftype ≠ 0 ∧ (f.ftype ≠ 1 ∨ ¬good)) →
      ∃ u, exec (.dataFlitReceive p f) s = .next u ∧ onlyPuts s u seen) ∧
    (∀ ws : List Nat, linked → f.ftype = 1 → good → f.body = ws ++ List.replicate 28 0 →
      ∃ v, onlyPuts s v seen ∧
        (ws = [0x05, 0, 0, 0] → exec (.dataFlitReceive p f) s = exec (.off p) v) ∧
        (∀ seq < 2 ^ 16, ws = [0x02 + seq * 2 ^ 16, 0, 0, 0] → exec (.dataFlitReceive p f) s = exec (.nak p seq) v) ∧
        ∀ seq a b c d e g, seq < 2 ^ 16 → (∀ x ∈ [a, b, c, d, e, g], x < 2 ^ 32) →
          ws = [0x01 + seq * 2 ^ 16 + a * 2 ^ 32, b + c * 2 ^ 32, d + e * 2 ^ 32, g] →
          exec (.dataFlitReceive p f) s = exec (.ack p seq [a, b, c, d, e, g]) v) ∧
    (f.ftype = 0 → s.portState p = 3 ∨ s.portState p = 7 → ¬good ∨ f.seq ≠ l.expSeq →
      ∃ u, exec (.dataFlitReceive p f) s = .next u ∧
        puts s u (seen ++ if good then [] else [(.TWY_CRC_ERR_COUNT, p, 0, min (s.rd .TWY_CRC_ERR_COUNT p + 1) (2 ^ 32 - 1))]) ∧
        u.link p = { l with nakSent := true } ∧
        u.outbox = (if l.nakSent then s.outbox else s.outbox ++ [control p [0x02 + l.expSeq * 2 ^ 16, 0, 0, 0]])) ∧
    (f.ftype = 0 → s.portState p = 3 → good → f.seq = l.expSeq →
      at0 l.told f.cls ≤ at0 l.recv f.cls →
      ∃ u, exec (.dataFlitReceive p f) s = .next u ∧ u.portState p = 6 ∧ u.rd .TWY_PORT_STATUS_REASON p = 4 ∧
        u.rd .SIG_STATUS_VOIDED = 1 ∧ u.flag .TWY_ERR_STATUS_DOWN p = true) ∧
    (f.ftype = 0 → s.portState p = 3 ∨ s.portState p = 7 → good → f.seq = l.expSeq →
      at0 l.recv f.cls < at0 l.told f.cls →
      f.cls < l.recv.length → l.queue = [] →
      ∃ u, exec (.dataFlitReceive p f) s = .next u ∧ (u.link p).expSeq = (l.expSeq + 1) % 1024 ∧ (u.link p).nakSent = false ∧
        at0 (u.link p).recv f.cls = at0 l.recv f.cls + 1 ∧
        (∀ c, c ≠ f.cls → at0 (u.link p).recv c = at0 l.recv c) ∧
        u.rd .TWY_RX_FLITS_COUNT p = (s.rd .TWY_RX_FLITS_COUNT p + 1) % 2 ^ 64 ∧
        (∀ x ∈ (u.link p).replay, x ∈ l.replay) ∧ u.mem = s.mem ∧ u.outbox = s.outbox)) ∧
  (∀ (s : State) (p : Nat) (g : Group) (y : Sealed), p < 32 →
    (s.tagOk y = true → (∀ i, g ≠ .packet i) → exec (.gcmGroupVerify g p y) s = .next s) ∧
    (∀ i k, s.tagOk y = true → g = .packet i → s.packets[i]? = some k →
      exec (.gcmGroupVerify g p y) s = .next { s with packets := s.packets.set i { k with verified := true } }) ∧
    (s.tagOk y = false → (∀ d c q, g ≠ .slot d c q) →
      ∃ u w, exec (.gcmGroupVerify g p y) s = .next u ∧
        onlyPuts s w [(.TWY_GCM_FAIL_COUNT, p, 0, min (s.rd .TWY_GCM_FAIL_COUNT p + 1) (2 ^ 32 - 1))] ∧
        reports w { u with packets := s.packets } 0x07 3 p (decide (g ≠ .mgmt)) ∧
        (∀ i k, g = .packet i → s.packets[i]? = some k → u.packets = s.packets.set i { k with failed := true })) ∧
    (∀ d c q x, s.tagOk y = false → g = .slot d c q → s.slotAt d c q = some x → x.again = 0 →
      ∃ u, exec (.gcmGroupVerify g p y) s = .next u ∧ u.flag .TWY_ERR_STATUS_GCM p = true ∧
        u.rd .SIG_STATUS_VOIDED = 1 ∧ u.tctxs = (s.setSlot d c { x with bad := true }).tctxs))

/-- Acknowledgement and retry: an ACK takes what it names, and what came before, out of the replay buffer; a NAK does so
up to the SEQ before its own and replays the rest, as the replay timer does; a replay is counted, and the limit of them
takes an UP port DOWN; returns that are owed go out as an ACK record (R275, R277 to R279). -/
def Sys2Proof.Claims.LinkRetry : Prop :=
  ∀ (s : State) (p : Nat), p < 32 → noScans s p →
    let l := s.link p
    let live := s.portState p = 3 ∨ s.portState p = 7
    let retry (x : Instr) : Prop := ∃ u, exec x s = .next u ∧
      u.rd .TWY_RETRIES_COUNT p = min (s.rd .TWY_RETRIES_COUNT p + 1) (2 ^ 32 - 1) ∧ (u.link p).replayRun = l.replayRun + 1 ∧
      (u.link p).replay = l.replay ∧
      (s.portState p = 7 ∨ l.replayRun + 1 < s.rd .TWY_PORT_LIMITS_RETRY p →
        u.portState p = s.portState p ∧ u.errSeq = s.errSeq ∧
        u.wire = s.wire ++ l.replay.map fun f => (⟨p, f.header, f.body⟩ : WireFlit)) ∧
      (s.portState p = 3 → s.rd .TWY_PORT_LIMITS_RETRY p ≤ l.replayRun + 1 →
        u.portState p = 6 ∧ u.rd .TWY_PORT_STATUS_REASON p = 3 ∧ u.rd .SIG_STATUS_VOIDED = 1)
    (¬live → ∀ seq ts, exec (.ack p seq ts) s = .next s ∧ exec (.nak p seq) s = .next s ∧ exec (.replayTimeout p) s = .next s) ∧
    (∀ a x b ts, live → l.replay = a ++ x :: b → (∀ y ∈ a, y.seq ≠ x.seq) → l.queue = [] →
      ∃ u, exec (.ack p x.seq ts) s = .next u ∧ (u.link p).replay = b ∧ (u.link p).replayRun = 0 ∧
        (u.link p).expSeq = l.expSeq ∧ u.regs = s.regs ∧ u.mem = s.mem) ∧
    (∀ seq, live → l.replay ≠ [] → (∀ y ∈ l.replay, y.seq ≠ (seq + 1023) % 1024) → retry (.nak p seq)) ∧
    (live → l.replay ≠ [] → retry (.replayTimeout p)) ∧
    (live → l.replay = [] → exec (.replayTimeout p) s = .next s) ∧
    (live →
      let v := (s.updateCredits p).link p
      let w (i : Nat) := at0 v.adv i % 4096
      (v.owed ≠ [] →
        ∃ u, exec (.ackSendTimer p) s = .next u ∧ u.outbox = s.outbox ++ [control p
          [0x01 + (v.expSeq + 1023) % 1024 * 2 ^ 16 + w 0 * 2 ^ 32, w 1 + w 2 * 2 ^ 32, w 3 + w 4 * 2 ^ 32, w 5]] ∧
          (u.link p).owed = [] ∧ (u.link p).told = v.adv ∧ u.regs = s.regs) ∧
      (v.owed = [] → ∃ u, exec (.ackSendTimer p) s = .next u ∧ u.outbox = s.outbox ∧ u.regs = s.regs))

/-- The link layer of a port: flits received, acknowledged and replayed (R275 to R279, R283, R297). It rests on choices of
the model beside the rules, in assumptions 30 and 36. -/
def Obligations.LinkLayer : Prop := Claims.FlitsReceived ∧ Claims.LinkRetry

/-- Training: the two stages lead to IDENT, whose record goes out and is repeated; lanes that fail or skew lead to DOWN;
no signal leads to ABSENT, from where a signal starts training again. A peer's record that agrees with the plan makes
the port UP, with its totals for credit, and this package's totals go out; another quarantines it with the reason. A
port that has been disabled while it trained drains then. A lane that loses lock takes an UP port DOWN. The lanes train
from their effective CAL_EQ presets (R287, R288, R293, R297, R446). It rests on choices of the model beside the rules,
in assumption 36. -/
def Obligations.LinkTraining : Prop :=
  ∀ (s : State) (p : Nat), p < 32 → noScans s p →
    let l := s.link p
    let on := s.flag .TWY_PORT_CTRL_ENABLE p = true
    let drains (x : Instr) : Prop := ∃ u, exec x s = .next u ∧ u.portState p = 7 ∧ u.drained p = true
    let goes (u : State) (st reason : Nat) := onlyPuts s u [(.TWY_PORT_STATUS_STATE, p, 0, st), (.TWY_PORT_STATUS_REASON, p, 0, reason)]
    (s.portState p = 1 →
      (on → ∃ u, exec (.trainingStageDone p .lane) s = .next u ∧ goes u 6 1) ∧
      (on → l.pcs = true → ∃ u, exec (.trainingStageDone p .skew) s = .next u ∧ goes u 6 2) ∧
      (¬on → drains (.trainingStageDone p .lane) ∧ (l.pcs = true → drains (.trainingStageDone p .skew)) ∧
        (l.pcs = false → drains (.trainTimeout p))) ∧
      (l.pcs = false → ∃ u, exec (.trainingStageDone p .done) s = .next u ∧ u = s.setLink p { l with pcs := true }) ∧
      (l.pcs = true → ∃ w, exec (.trainingStageDone p .done) s = .next (sends w (control p (s.identRecord p))) ∧ goes w 2 0) ∧
      (on → l.pcs = false → ∃ u w, exec (.trainTimeout p) s = .next u ∧ goes w 5 0 ∧ reports w u 0x07 0 p false)) ∧
    (s.portState p ≠ 1 → exec (.trainingStageDone p .done) s = .next s ∧ exec (.trainTimeout p) s = .next s) ∧
    (s.portState p = 2 →
      exec (.identRepeat p) s = .next (sends s (control p (s.identRecord p)))) ∧
    (s.portState p = 5 →
      ∃ u, exec (.signalDetect p) s = .next u ∧ u.portState p = 1 ∧ u.link p = Link.init ∧
        regsBut s u [.TWY_PORT_STATUS] ∧ { u with links := s.links, presets := s.presets }.noRegs = s.noRegs ∧
        ∀ n ∈ s.portLanes p, SMap.get u.presets ⟨n, 0, 0⟩ [] = s.calValue 0x20 n) ∧
    (∀ loc kind port quads serial epoch totals, s.portState p = 2 → serial < 2 ^ 32 →
      let e := s.portEntry p
      let role := bits e 13 11
      let place := loc = bits e 23 14 ∧ kind = bits e 26 24
      let same := epoch = s.rd .TWY_PLAN_EPOCH_EPOCH
      let plug := port = bits e 31 27 ∧ quads = s.portQuads p
      let c : Instr := .ident p loc kind port quads serial epoch totals
      let held (reason : Nat) : Prop := ∃ u, exec c s = .next u ∧ u.portState p = 4 ∧ u.rd .TWY_PORT_STATUS_REASON p = reason ∧
        u.flag .TWY_ERR_STATUS_IDENT p = true ∧ u.rd .SIG_STATUS_VOIDED = s.rd .SIG_STATUS_VOIDED ∧
        u.rd .TWY_PORT_PEER_SERIAL p = serial ∧ u.flag .TWY_PORT_PEER_VALID p = true
      (¬on → ∃ u, exec c s = .next u ∧ u.portState p = 7) ∧
      (on → role = 1 → held 9) ∧ (on → role ≠ 1 → ¬place → held 6) ∧ (on → role ≠ 1 → place → ¬same → held 7) ∧
      (on → role ≠ 1 → place → same → ¬plug → held 8) ∧
      (on → role ≠ 1 → place → same → plug →
        ∃ u, exec c s = .next u ∧ u.portState p = 3 ∧ u.rd .TWY_PORT_STATUS_REASON p = 0 ∧
          u.rd .TWY_PORT_PEER_SERIAL p = serial ∧ u.flag .TWY_PORT_PEER_VALID p = true ∧ u.rd .SLU_STATUS_SLOT p = 0 ∧
          (u.link p).granted = (List.range 6).map (fun c => at0 totals c) ∧ (u.link p).expSeq = 0 ∧
          (u.link p).adv = (List.range 6).map (fun c => s.allot p c) ∧ (u.link p).told = (u.link p).adv ∧
          u.outbox = s.outbox ++ [control p (ackRecord (u.link p))] ∧
          (u.link p).replay = [] ∧ u.errSeq = s.errSeq)) ∧
    (s.portState p = 3 →
      ∃ u, exec (.laneLockLoss p) s = .next u ∧ u.portState p = 6 ∧ u.rd .TWY_PORT_STATUS_REASON p = 5 ∧
        u.rd .SIG_STATUS_VOIDED = 1 ∧ u.flag .TWY_ERR_STATUS_DOWN p = true ∧ (∀ x ∈ u.xfers, x.port ≠ p)) ∧
    (s.portState p ≠ 3 → exec (.laneLockLoss p) s = .next s)

/-- TWY_PORT_CTRL and TWY_PORT_CREDIT written: what a context or route in use names stays as it is, with
TWY_ERR_STATUS.CONFIG; an enabled port trains; an UP port disabled or retrained drains, its OFF record sent; one that
trains goes on with it; the allotments take their new values, and an increase reaches the totals of an UP port at once
(R276, R293, R294, R296). -/
def Sys2Proof.Claims.PortWrites : Prop :=
  ∀ (s : State) (src : Source) (p : Nat), s.rd .TWY_PORT_CTRL_EXCUSE p < 2 → s.rd .TWY_PORT_CTRL_ENABLE p < 2 →
    noScans s p →
    let r : RegRef := ⟨.TWY_PORT_CTRL, p, 0⟩
    let off : Sent := control p [0x05, 0, 0, 0]
    (∀ on : Bool, takes s src r (withField s r .TWY_PORT_CTRL_ENABLE (b2n on)) → s.inLoopback p = false →
      let c : Instr := .portEnableWrite src p on
      (s.portInUse p = true ∧ on = false ∨ s.portRole p = 0 ∧ on = true →
        ∃ u, exec c s = .next u ∧ u.flag .TWY_ERR_STATUS_CONFIG p = true ∧ u.noInt = s.noInt ∧
          regsBut s u [.TWY_ERR_STATUS, .HST_PBA]) ∧
      (on = true → s.portRole p ≠ 0 → s.portState p = 0 → s.flag .TWY_GLB_CTRL_LINKS_EN = true → s.isOpen kPort p = true →
        ∃ u, exec c s = .next u ∧ u.portState p = 1 ∧ u.flag .TWY_PORT_CTRL_ENABLE p = true ∧ u.rd .TWY_TX_FLITS_COUNT p = 0 ∧
          u.rd .TWY_RX_FLITS_COUNT p = 0 ∧ (∀ k < 6, u.rd .SLU_CLASS_FLITS_COUNT p k = 0) ∧ u.link p = Link.init ∧
          u.mem = s.mem) ∧
      (on = false → s.portInUse p = false → s.portState p = 3 →
        ∃ u, exec c s = .next u ∧ onlyPuts (sends s off) u [(.TWY_PORT_STATUS_STATE, p, 0, 7),
          (.TWY_PORT_CTRL_ENABLE, p, 0, 0), (.TWY_PORT_STATUS_PENDING_ENABLE, p, 0, 0)]) ∧
      (on = false → s.portInUse p = false → s.portState p = 1 ∨ s.portState p = 2 →
        ∃ u, exec c s = .next u ∧
          onlyPuts s u [(.TWY_PORT_CTRL_ENABLE, p, 0, 0), (.TWY_PORT_STATUS_PENDING_ENABLE, p, 0, 0)]) ∧
      (on = false → s.portInUse p = false → s.portState p = 4 ∨ s.portState p = 5 ∨ s.portState p = 6 →
        ∃ u, exec c s = .next u ∧ u.portState p = 7 ∧ u.drained p = true ∧ u.outbox = s.outbox)) ∧
    (takes s src r (withField s r .TWY_PORT_CTRL_RETRAIN 1) → s.inLoopback p = false → s.rd .TWY_PORT_CTRL_ENABLE p = 1 →
      s.portRole p ≠ 0 →
      (s.portInUse p = false → s.portState p = 3 →
        ∃ u, exec (.retrain src p) s = .next u ∧
          onlyPuts (sends s off) u [(.TWY_PORT_STATUS_STATE, p, 0, 7), (.TWY_PORT_CTRL_RETRAIN, p, 0, 1)]) ∧
      (s.portInUse p = true → s.portState p = 3 →
        ∃ u, exec (.retrain src p) s = .next u ∧ u.flag .TWY_ERR_STATUS_CONFIG p = true ∧ u.portState p = 3 ∧
          u.outbox = s.outbox)) ∧
    (∀ v, takes s src ⟨.TWY_PORT_CREDIT, p, 0⟩ v →
      let puts_ : List (Fd × Nat × Nat × Nat) := [.TWY_PORT_CREDIT_FLOOD, .TWY_PORT_CREDIT_EBB, .TWY_PORT_CREDIT_SIGNAL,
        .TWY_PORT_CREDIT_TRANSIT, .TWY_PORT_CREDIT_MIRROR, .TWY_PORT_CREDIT_MGMT].map fun f => (f, p, 0, fv f v)
      (s.portState p ≠ 3 → ∃ u, exec (.creditAllotWrite src p v) s = .next u ∧ onlyPuts s u puts_) ∧
      (s.portState p = 3 → ∃ u, exec (.creditAllotWrite src p v) s = .next u ∧ puts s u puts_ ∧
        (∀ c < 6, at0 (u.link p).adv c = max (at0 (s.link p).adv c) (at0 (u.link p).freed c + 16 * bits v (8 * c + 7) (8 * c))) ∧
        { u with links := s.links }.noRegs = s.noRegs))

/-- The end of a drain: a peer's OFF record makes an UP port drain, its own OFF record sent; the drain ends in OFF when all
is acknowledged, or at the limit, with ERR_TWY_DRAIN, when it is not (R293, R294). -/
def Sys2Proof.Claims.Draining : Prop :=
  ∀ (s : State) (p : Nat), p < 32 →
    let empty := (s.link p).replay = [] ∧ ∀ x ∈ (s.link p).queue, x.left = x.size
    (noScans s p → s.portState p = 3 → ∃ u, exec (.off p) s = .next u ∧
      onlyPuts (sends s (control p [0x05, 0, 0, 0])) u [(.TWY_PORT_STATUS_STATE, p, 0, 7)]) ∧
    (noScans s p → s.portState p ≠ 3 → exec (.off p) s = .next s) ∧
    (s.portState p ≠ 7 → exec (.drainComplete p) s = .next s ∧ exec (.drainTimeout p) s = .next s) ∧
    (s.portState p = 7 → ¬empty → exec (.drainComplete p) s = .next s) ∧
    (s.portState p = 7 → empty → s.flag .TWY_PORT_CTRL_ENABLE p = false → s.flag .TWY_PORT_STATUS_PENDING_ENABLE p = false →
      ∃ u, exec (.drainComplete p) s = .next u ∧ u.portState p = 0 ∧ u.rd .TWY_PORT_STATUS_REASON p = 0 ∧
        u.rd .TWY_PORT_CTRL_RETRAIN p = 0 ∧ u.link p = Link.init ∧ u.errSeq = s.errSeq) ∧
    (s.portState p = 7 → ¬empty → s.flag .TWY_PORT_CTRL_ENABLE p = false → s.flag .TWY_PORT_STATUS_PENDING_ENABLE p = false →
      ∃ u, exec (.drainTimeout p) s = .next u ∧ u.portState p = 0 ∧ u.rd .TWY_PORT_STATUS_REASON p = 10 ∧
        u.link p = Link.init ∧ u.flag .TWY_ERR_STATUS_DRAIN p = true ∧
        u.rd .SIG_STATUS_VOIDED = s.rd .SIG_STATUS_VOIDED)

/-- TIME records: one goes out on the parent's port while it is UP; one received there corrects the timestamp by
((t2 − t1) − (t4 − t3)) ÷ 2, in a step before a job is loaded and the first time, slewed after that; one received from a
child is answered, and corrects nothing (R290). -/
def Sys2Proof.Claims.TimeRecords : Prop :=
  ∀ (s : State) (p : Nat), p < 32 →
    (s.portState p = 3 → s.timeParent p = true →
      exec (.timeSend p) s = .next (sends s (control p [0x03, s.time.toNat, (s.link p).lastTime.2, (s.link p).lastTime.1]))) ∧
    (s.portState p ≠ 3 ∨ s.timeParent p = false → exec (.timeSend p) s = .next s) ∧
    (∀ sent arrived mine : Nat, s.portState p ≠ 3 → exec (.time p sent arrived mine) s = .next s) ∧
    (∀ sent arrived mine : Nat, s.portState p = 3 →
      let now := s.time.toNat
      let offset : Int := (((arrived : Int) - mine) - ((now : Int) - sent)) / 2
      let w : State := s.setLink p { s.link p with lastTime := (sent, now) }
      (s.timeParent p = false → exec (.time p sent arrived mine) s = .next (sends w (control p [0x03, now, now, sent]))) ∧
      (s.timeParent p = true →
        ∃ u, exec (.time p sent arrived mine) s = .next u ∧
          puts s u [(.TWY_TIME_OFFSET_OFFSET, p, 0, (offset % 2 ^ 64).toNat)] ∧
          (s.jobState = 0 → s.timeStepped = false →
            u.noRegs = { w with time := BitVec.ofNat 64 (((now : Int) + offset) % 2 ^ 64).toNat, timeStepped := true }.noRegs) ∧
          (s.jobState ≠ 0 ∨ s.timeStepped = true → u.noRegs = { w with slew := offset }.noRegs)))

/-- Enabling and draining ports, their credits, and time (R276, R290, R293, R294, R296). It rests on choices of the model
beside the rules, in assumption 36. -/
def Obligations.PortControl : Prop := Claims.PortWrites ∧ Claims.Draining ∧ Claims.TimeRecords

/-- R295: a port that is DRAINING takes ENABLE 1 as PENDING_ENABLE, and ENABLE 0 then cancels it; when the port reaches OFF,
drained or at the limit, a pending enable takes effect and the port enters TRAINING. -/
def Obligations.PendingEnables : Prop :=
  (∀ (s : State) (src : Source) (p : Nat), s.rd .TWY_PORT_CTRL_EXCUSE p < 2 → s.portState p = 7 → noScans s p →
    let r : RegRef := ⟨.TWY_PORT_CTRL, p, 0⟩
    let excuse : Fd × Nat × Nat × Nat := (.TWY_PORT_CTRL_EXCUSE, p, 0, s.rd .TWY_PORT_CTRL_EXCUSE p)
    s.inLoopback p = false →
    (takes s src r (withField s r .TWY_PORT_CTRL_ENABLE 1) → s.portRole p ≠ 0 →
      ∃ u, exec (.portEnableWrite src p true) s = .next u ∧
        onlyPuts s u [excuse, (.TWY_PORT_STATUS_PENDING_ENABLE, p, 0, 1)]) ∧
    (takes s src r (withField s r .TWY_PORT_CTRL_ENABLE 0) → s.portInUse p = false →
      s.flag .TWY_PORT_STATUS_PENDING_ENABLE p = true →
      ∃ u, exec (.portEnableWrite src p false) s = .next u ∧ u.portState p = 7 ∧
        u.rd .TWY_PORT_STATUS_PENDING_ENABLE p = 0)) ∧
  (∀ (s : State) (p : Nat), p < 32 → s.portState p = 7 → s.flag .TWY_PORT_STATUS_PENDING_ENABLE p = true →
    s.portRole p ≠ 0 → s.flag .TWY_GLB_CTRL_LINKS_EN = true → s.isOpen kPort p = true → s.inLoopback p = false →
    let empty := (s.link p).replay = [] ∧ ∀ x ∈ (s.link p).queue, x.left = x.size
    let trains (c : Instr) : Prop := ∃ u, exec c s = .next u ∧ u.portState p = 1 ∧ u.flag .TWY_PORT_CTRL_ENABLE p = true ∧
      u.flag .TWY_PORT_STATUS_PENDING_ENABLE p = false
    (empty → trains (.drainComplete p)) ∧ (¬empty → trains (.drainTimeout p)))

/-- Transfers and transit: a request with a reserved field, without a route, or past its stream's sequence is
ERR_TWY_XFER; another one is queued with the next tag, or waits while the queue is full; it goes out as guarded packets
once its port is UP; its LSIG is posted when the first hop has acknowledged all of it. A TRANSIT unit without a route
that is UP is discarded, one that meets a shutter is isolated, else it goes on with its guard words, ORIGIN and NONCE
(R285, R286, R291, R292, R399). It rests on choices of the model beside the rules, in assumption 36. -/
def Obligations.TransferRequests : Prop :=
  (∀ (s : State) (src : Source) (ws : List Nat), ws.length = 8 → (∀ w ∈ ws, w < 2 ^ 64) →
    let v := ws.zipIdx.foldl (fun v x => v + x.1 % 2 ^ 64 * 2 ^ (64 * x.2)) 0
    takes s src ⟨.TWY_XFER, 0, 0⟩ v →
    let w (i : Nat) := at0 ws i
    let dest := bits (w 1) 57 48
    let stream := bits (w 2) 43 32
    let n := SMap.get s.xferSeqs ⟨stream, 0, 0⟩ 0
    let d := s.portDie (s.rd .SIG_ROUTE_PORT 0 dest)
    (xferReserved ws = true ∨ s.flag .SIG_ROUTE_VALID 0 dest = false ∨ 1024 ≤ n →
      ∃ u, exec (.twyXferRequest src ws) s = .next u ∧ reports s u 0x07 7 (s.rd .SIG_ROUTE_PORT 0 dest) true) ∧
    (xferReserved ws = false → s.flag .SIG_ROUTE_VALID 0 dest = true → n < 1024 → (s.xferQueue d).length < 64 →
      ∃ u r, exec (.twyXferRequest src ws) s = .next u ∧ u.xferQueue d = s.xferQueue d ++ [r] ∧
        r.tag = s.pkn * 2 ^ 22 + stream * 2 ^ 10 + n ∧ r.src = bits (w 0) 47 0 ∧ r.dst = bits (w 1) 47 0 ∧
        r.len = bits (w 2) 31 0 ∧ r.sig = w 3 ∧ r.lsig = w 4 ∧
        SMap.get u.xferSeqs ⟨stream, 0, 0⟩ 0 = n + 1 ∧ { u with xferQueues := s.xferQueues, xferSeqs := s.xferSeqs } = s) ∧
    (xferReserved ws = false → s.flag .SIG_ROUTE_VALID 0 dest = true → n < 1024 → 64 ≤ (s.xferQueue d).length →
      exec (.twyXferRequest src ws) s = .next { s with waitXfers := s.waitXfers ++ [(src, ws)] })) ∧
  (∀ (s : State) (d : Nat), s.hasDie d = true →
    (s.xferQueue d = [] → exec (.xferSend d) s = .next s) ∧
    (∀ r rest, s.xferQueue d = r :: rest →
      let port := s.rd .SIG_ROUTE_PORT 0 r.dest
      (s.portUp port = false ∨ s.stalled r.src r.len = true → exec (.xferSend d) s = .next s) ∧
      (∀ v data, s.portUp port = true → s.stalled r.src r.len = false →
        (s.setXferQueue d rest).readSpan { num := 2, waiterKind := 0, waiter := 0 } r.src r.len = (v, .ok data) →
        let n := (r.len + 4095) / 4096
        exec (.xferSend d) s = .next (((List.range n).foldl (fun (s : State) i => s.sendPacket r port n i data)
          { v with xfers := v.xfers ++ [⟨r.tag, port, r.lsig⟩] }).takeWaiting d)))) ∧
  (∀ (s : State) (tag : Nat) (x : XferLive), s.xfers.find? (fun y => y.tag == tag) = some x →
    let waits := (∃ f ∈ (s.link x.port).replay, f.owner = .xfer tag) ∨ ∃ q ∈ (s.link x.port).queue, q.owner = .xfer tag
    (waits → exec (.xferLsig tag) s = .next s) ∧
    (¬waits → exec (.xferLsig tag) s =
      .next (State.post { s with xfers := s.xfers.filter fun y => y.tag != tag } x.lsig none .link))) ∧
  (∀ (s : State) (p loc icls flits : Nat) (x : Transit), p < 32 →
    let out := s.rd .TWY_LOC_ROUTE_PORT 0 loc
    (s.flag .TWY_LOC_ROUTE_VALID 0 loc = false ∨ s.portUp out = false →
      ∃ u w, exec (.transitForward p loc icls flits x) s = .next u ∧
        onlyPuts s w [(.TWY_STALE_COUNT, p, 0, min (s.rd .TWY_STALE_COUNT p + 1) (2 ^ 32 - 1))] ∧ reports w u 0x07 5 p false) ∧
    (s.flag .TWY_LOC_ROUTE_VALID 0 loc = true → s.portUp out = true → s.isOpen kPort out = false →
      ∃ u, exec (.transitForward p loc icls flits x) s = .next u ∧ reports s u 0x07 0x84 p s.running) ∧
    (s.flag .TWY_LOC_ROUTE_VALID 0 loc = true → s.portUp out = true → s.isOpen kPort out = true →
      ∃ u, exec (.transitForward p loc icls flits x) s = .next u ∧ u.mem = s.mem ∧ u.errSeq = s.errSeq ∧
        u.outbox = s.outbox ++ [if s.peerLoc out = loc then ⟨out, icls, none, x.guard, x.words, x.origin, x.nonce⟩
          else ⟨out, cTransit, some (loc, icls), x.guard, x.words, x.origin, x.nonce⟩]))


/-! ### The host interface and the job (spec/13_host_jobs.md) -/

/-- Doorbells, queue configuration and vectors: an index out of its ring, or more entries than the ring holds, disables
the queue with ERR_HST_DOORBELL; a completion index frees the entries it passes; sizes stand while a queue is enabled;
enabling it restarts its indices; a program vector is sent, or left pending where it is masked. Configuration requests
are answered, and a Function Level Reset starts the scour and leaves every queue disabled (R338, R343 to R345, R349,
R369). -/
def Sys2Proof.Claims.HostDoorbells : Prop :=
  (∀ (s : State) (src : Source) (q v : Nat), q < 64 →
    let dead (c : Instr) : Prop := ∃ u, exec c s = .next u ∧ u.flag .HST_Q_CFG_ENABLE 0 q = false ∧
      u.rd .HST_Q_STATUS_ERROR 0 q = 1 ∧ u.flag .HST_ERR_STATUS_DOORBELL = true ∧
      u.rd .SIG_STATUS_VOIDED = s.rd .SIG_STATUS_VOIDED ∧ u.errSeq = (s.errSeq + 1) % 2 ^ 32 ∧ u.noRec = s.noRec
    (takes s src ⟨.HST_SQ_TAIL, 0, q⟩ v →
      let n := 2 ^ s.rd .HST_Q_CFG_SQ_LOG2 0 q
      let head := s.rd .HST_Q_STATUS_SQ_HEAD 0 q
      let old := s.rd .HST_SQ_TAIL_TAIL 0 q
      let x := fv .HST_SQ_TAIL_TAIL v
      let past := n ≤ x ∨ n - 1 < (old + n - head) % n + (x + n - old) % n
      (past → dead (.sqTailWrite src q v)) ∧
      (¬past → ∃ u, exec (.sqTailWrite src q v) s = .next u ∧ onlyPuts s u [(.HST_SQ_TAIL_TAIL, 0, q, x)])) ∧
    (takes s src ⟨.HST_CQ_HEAD, 0, q⟩ v →
      let x := fv .HST_CQ_HEAD_HEAD v
      (2 ^ s.rd .HST_Q_CFG_CQ_LOG2 0 q ≤ x → dead (.cqHeadWrite src q v)) ∧
      (x < 2 ^ s.rd .HST_Q_CFG_CQ_LOG2 0 q →
        let n := 2 ^ s.rd .HST_Q_CFG_CQ_LOG2 0 q
        ∃ u, exec (.cqHeadWrite src q v) s = .next u ∧ puts s u [(.HST_CQ_HEAD_HEAD, 0, q, x)] ∧
          u.cqUsed q = s.cqUsed q - (x + n - s.rd .HST_CQ_HEAD_HEAD 0 q % n) % n ∧
          { u with hst := { u.hst with cqUsed := s.hst.cqUsed } }.noRegs = s.noRegs)) ∧
    (takes s src ⟨.HST_Q_CFG, 0, q⟩ v →
      let on := fv .HST_Q_CFG_ENABLE v
      let both : List (Fd × Nat × Nat × Nat) := [(.HST_Q_CFG_ENABLE, 0, q, on), (.HST_Q_CFG_CQ_INT, 0, q, fv .HST_Q_CFG_CQ_INT v)]
      let sizes : List (Fd × Nat × Nat × Nat) :=
        [(.HST_Q_CFG_CQ_LOG2, 0, q, fv .HST_Q_CFG_CQ_LOG2 v), (.HST_Q_CFG_SQ_LOG2, 0, q, fv .HST_Q_CFG_SQ_LOG2 v)]
      let rings : List (Fd × Nat × Nat × Nat) := [(.HST_Q_STATUS_SQ_HEAD, 0, q, 0), (.HST_Q_STATUS_CQ_TAIL, 0, q, 0),
        (.HST_SQ_TAIL_TAIL, 0, q, 0), (.HST_CQ_HEAD_HEAD, 0, q, 0)]
      (s.flag .HST_Q_CFG_ENABLE 0 q = true → ∃ u, exec (.queueCfgWrite src q v) s = .next u ∧ onlyPuts s u both) ∧
      (s.flag .HST_Q_CFG_ENABLE 0 q = false → on = 0 →
        ∃ u, exec (.queueCfgWrite src q v) s = .next u ∧ onlyPuts s u (both ++ sizes)) ∧
      (s.flag .HST_Q_CFG_ENABLE 0 q = false → on = 1 →
        ∃ u, exec (.queueCfgWrite src q v) s = .next u ∧ puts s u (both ++ sizes ++ rings) ∧
          SMap.get u.hst.phases ⟨q, 0, 0⟩ 0 = 1 ∧ u.cqUsed q = 0 ∧ { u with hst := s.hst }.noRegs = s.noRegs))) ∧
  (∀ (s : State) (src : Source) (v : Nat), takes s src ⟨.HST_HOST_SIG, 0, 0⟩ v →
    let n := fv .HST_HOST_SIG_VECTOR v
    (n < 128 → exec (.hostSigWrite src v) s = .next s) ∧
    (128 ≤ n → s.flag .HST_MSIX_MASK 0 n = false → exec (.hostSigWrite src v) s = .next { s with irqs := s.irqs ++ [n] }) ∧
    (128 ≤ n → s.flag .HST_MSIX_MASK 0 n = true →
      ∃ u, exec (.hostSigWrite src v) s = .next u ∧
        onlyPuts s u [(.HST_PBA_PENDING, 0, n / 64, setBit (s.rd .HST_PBA_PENDING 0 (n / 64)) (n % 64))])) ∧
  (∀ s : State,
    (s.boot.pwrok = true → s.boot.perst = false → s.tap.pcieLb = 0 →
      exec .configRequest s = .next { s with hst := { s.hst with replies := s.hst.replies ++ [.config s.boot.retry] } }) ∧
    (∃ u, exec .functionLevelReset s = .next u ∧ u.jobState = 5 ∧ (∀ q < 64, u.flag .HST_Q_CFG_ENABLE 0 q = false) ∧
      u.hst.started = [] ∧ u.hst.jobs = [] ∧ u.hst.kills = [] ∧ u.hst.ferries = [] ∧
      (s.jobState = 5 → (∀ f i x, f.spec.reg.spec.block ≠ .HST → u.rd f i x = s.rd f i x) ∧ u.mem = s.mem ∧
        { u with hst := s.hst }.noRegs = s.noRegs)))

/-- Submission and completion: an entry is fetched from its ring and its command started, or completed at once where its
opcode or a field is reserved; a FENCE waits, as a command does behind a job command of its queue that was fetched
before it; a ring outside every window disables its queue. A completion entry of R347 is written behind the earlier
ones, with the queue's vector where it asks for one (R343, R345 to R349). -/
def Sys2Proof.Claims.HostCommands : Prop :=
  (∀ (s : State) (q : Nat), q < 64 →
    let head := s.rd .HST_Q_STATUS_SQ_HEAD 0 q
    let a := s.rd .HST_SQ_BASE_BASE 0 q * 4096 + 64 * head
    let c : HostCmd := ⟨q, bytesWords (s.hostMem.readN a 64), s.hst.fetched⟩
    let v : State := { s.wr .HST_Q_STATUS_SQ_HEAD 0 q ((head + 1) % 2 ^ s.rd .HST_Q_CFG_SQ_LOG2 0 q) with
      hst := { s.hst with fetched := s.hst.fetched + 1 } }
    let good := c.reserved = false ∧ c.op ∈ [0x00, 0x01, 0x10, 0x11, 0x12, 0x13, 0x14]
    let free := ¬(c.fence = true ∧ s.outstanding q ≠ 0)
    (s.fetchable q = false → exec (.submissionFetch q) s = .next s) ∧
    (∀ x, s.fetchable q = true → s.outside a 64 = some x →
      ∃ u, exec (.submissionFetch q) s = .next u ∧ u.flag .HST_Q_CFG_ENABLE 0 q = false ∧ u.rd .HST_Q_STATUS_ERROR 0 q = 1 ∧
        u.flag .HST_ERR_STATUS_DOORBELL = true ∧ u.noRec = s.noRec) ∧
    (s.fetchable q = true → s.outside a 64 = none → ¬free → exec (.submissionFetch q) s = .next s) ∧
    (s.fetchable q = true → s.outside a 64 = none → free → c.op ≠ 0x01 → ¬good →
      exec (.submissionFetch q) s = .next (v.complete c 0x02 0)) ∧
    (s.fetchable q = true → s.outside a 64 = none → free → good → 0x10 ≤ c.op →
      exec (.submissionFetch q) s = .next { v with hst := { v.hst with jobs := s.hst.jobs ++ [c] } }) ∧
    (s.fetchable q = true → s.outside a 64 = none → free → good →
        c.op = 0x00 ∨ (c.op = 0x01 ∧ (s.ferryQueue c.channel).length +
          (s.hst.started.filter fun x => x.op == 1 && x.channel == c.channel).length < 64) →
      exec (.submissionFetch q) s = .next { v with hst := { v.hst with started := s.hst.started ++ [c] } })) ∧
  (∀ (s : State) (q : Nat), q < 64 →
    ((∀ c, s.hst.started.find? (fun c => c.q == q) = some c → c.op ≠ 0) → exec (.nop q) s = .next s) ∧
    (∀ c, s.hst.started.find? (fun c => c.q == q) = some c → s.behindJob c = true → exec (.nop q) s = .next s) ∧
    (∀ c, s.hst.started.find? (fun c => c.q == q) = some c → c.op = 0 → c.q = q → s.behindJob c = false →
      let tail := s.rd .HST_Q_STATUS_CQ_TAIL 0 q
      let size := 2 ^ s.rd .HST_Q_CFG_CQ_LOG2 0 q
      let a := s.rd .HST_CQ_BASE_BASE 0 q * 4096 + 16 * tail
      let phase := SMap.get s.hst.phases ⟨q, 0, 0⟩ 0
      s.outside a 16 = none →
      ∃ u, exec (.nop q) s = .next u ∧
        u.hostMem.readN a 16 = leBytes 16 (c.cid + s.rd .HST_Q_STATUS_SQ_HEAD 0 q * 2 ^ 16 + phase * 2 ^ 28) ∧
        (∀ b, b < a ∨ a + 16 ≤ b → u.hostMem.read b = s.hostMem.read b) ∧
        u.rd .HST_Q_STATUS_CQ_TAIL 0 q = (tail + 1) % size % 2 ^ 12 ∧
        SMap.get u.hst.phases ⟨q, 0, 0⟩ 0 = (if (tail + 1) % size = 0 then 1 - phase else phase) ∧
        u.hst.started = removeFirst (fun x => x.q == q) s.hst.started ∧
        (s.flag .HST_Q_CFG_CQ_INT 0 q = true → s.flag .HST_MSIX_MASK 0 (64 + q) = false → u.irqs = s.irqs ++ [64 + q]) ∧
        (s.flag .HST_Q_CFG_CQ_INT 0 q = false → u.irqs = s.irqs) ∧ regsBut s u [.HST_Q_STATUS, .HST_PBA] ∧ u.mem = s.mem))

/-- The host's queues: doorbells and configuration, submission and completion (R338, R343 to R349, R369). It rests on
choices of the model beside the rules, in assumption 12. -/
def Obligations.HostQueues : Prop := Claims.HostDoorbells ∧ Claims.HostCommands

/-- Ferries, BAR2 and recovery: a FERRY is refused by its fields, by the job state, by a window or a shutter, in that
order; its data moves in lines, then its signal is applied, then its completion entry follows; BAR2 reads stall, and
writes are discarded and counted, while a stack is zeroed, and both wait for a pass that holds their buffer; a chunk of
the recovery window goes into flash behind the earlier ones (R341, R342, R346, R350 to R353, R368). It rests on choices
of the model beside the rules, in assumption 12. -/
def Obligations.HostTransfers : Prop :=
  (∀ (s : State) (q : Nat) (c : HostCmd), q < 64 → s.hst.started.find? (fun c => c.q == q) = some c → c.op = 1 →
    s.behindJob c = false →
    let v : State := { s with hst := { s.hst with started := removeFirst (fun x => x.q == q) s.hst.started } }
    let ch := c.channel
    (ferryBad c = true → ∀ fs link, exec (.ferry q fs link) s = .next (v.complete c 0x02 0)) ∧
    (ferryBad c = false → s.jobState ∉ [1, 2, 4] → ∀ fs link, exec (.ferry q fs link) s = .next (v.complete c 0x01 0)) ∧
    (∀ x, ferryBad c = false → s.ferryAllowed c = true → s.ferryOutside c = some x →
      ∀ fs link, ∃ (u t : State), exec (.ferry q fs link) s = .next u ∧ t.flag .HST_ERR_STATUS_WINDOW = true ∧ t.hst = v.hst ∧
        u = t.complete c 0x03 s.errSeq) ∧
    (ferryBad c = false → s.jobState ∈ [1, 2] → s.ferryOutside c = none → s.isOpen kFerry ch = false →
      ∀ fs link, ∃ (u t : State), exec (.ferry q fs link) s = .next u ∧ reports v t 0x05 0x84 0xFFFF s.running ∧
        u = t.complete c 0x04 s.errSeq) ∧
    (ferryBad c = false → s.jobState ∈ [1, 2] → s.ferryOutside c = none → s.isOpen kFerry ch = true →
      s.ferryQueue ch = [] → s.ferryWaits c = false →
      (∀ w, 0x380000000000 ≤ c.src → c.dst % 64 + c.len ≤ 64 →
        (v.setFerries ch [⟨c, [], false, none⟩]).writeSpan hostReq c.dst (s.hostMem.readN (c.src - 0x380000000000) c.len) = (w, none) →
        ∃ u, exec (.ferry q [] false) s = .next u ∧ u.mem = w.mem ∧ u.ferryQueue ch = [⟨c, [], false, some (0, c.len)⟩]) ∧
      (∀ w bs, 0x380000000000 ≤ c.dst → c.dst % 64 + c.len ≤ 64 →
        (v.setFerries ch [⟨c, [], false, none⟩]).readSpan hostReq c.src c.len = (w, .ok bs) →
        ∃ u, exec (.ferry q [] false) s = .next u ∧ u.mem = w.mem ∧
          u.hostMem = s.hostMem.writeN (c.dst - 0x380000000000) bs ∧
          u.ferryQueue ch = [⟨c, [], false, some (0, c.len)⟩]) ∧
      (0x380000000000 ≤ c.src →
        ∃ u, exec (.ferry q [] true) s = .next u ∧ u.mem = s.mem ∧ u.flag .HST_ERR_STATUS_LINK = true ∧
          u.ferryQueue ch = [⟨c, [], true, some (0x05, s.errSeq)⟩]))) ∧
  (∀ (s : State) (ch : Nat), ch < 16 →
    (s.ferryQueue ch = [] → exec (.ferryComplete ch) s = .next s) ∧
    (∀ f status detail, s.ferryQueue ch = [f] → f.done = some (status, detail) →
      let v := s.setFerries ch []
      let w := if status = 0 ∧ f.cmd.sigEn = true then v.applyWord f.cmd.sig .host else v
      exec (.ferryComplete ch) s = .next ((w.count .HST_FERRY_STATUS_DONE 0 ch 1).complete f.cmd status detail))) ∧
  (∀ (s : State) (off n : Nat),
    let a := s.rd .HST_BAR2_MAP_BASE * 2 ^ 36 + off
    let wait := s.barStalled = true ∨ s.stalled a n = true
    (wait → exec (.bar2Access off n none) s = .next { s with hst := { s.hst with stalled := s.hst.stalled ++ [⟨a, n, none⟩] } }) ∧
    (∀ bs, s.barStalled = false → s.stalled a n = true → exec (.bar2Access off n (some bs)) s =
      .next { s with hst := { s.hst with stalled := s.hst.stalled ++ [⟨a, n, some bs⟩] } }) ∧
    (∀ v bs, ¬wait → s.readSpan hostReq a n = (v, .ok bs) →
      exec (.bar2Access off n none) s = .next { v with hst := { v.hst with replies := v.hst.replies ++ [.bytes bs] } }) ∧
    (∀ v f, ¬wait → s.readSpan hostReq a n = (v, .error f) →
      ∃ u, exec (.bar2Access off n none) s = .next u ∧ u.flag .HST_ERR_STATUS_BAR2 = true ∧
        u.hst.replies = v.hst.replies ++ [.bytes (List.replicate n 0xFF)]) ∧
    (∀ bs, s.barStalled = true →
      ∃ u, exec (.bar2Access off n (some bs)) s = .next u ∧ onlyPuts s u [(.HST_BAR2_DISCARD_COUNT, 0, 0,
        min (s.rd .HST_BAR2_DISCARD_COUNT + 1) (2 ^ 32 - 1))]) ∧
    (∀ v bs, ¬wait → s.writeSpan hostReq a bs = (v, none) → exec (.bar2Access off n (some bs)) s = .next v) ∧
    (∀ v f bs, ¬wait → s.writeSpan hostReq a bs = (v, some f) →
      ∃ u, exec (.bar2Access off n (some bs)) s = .next u ∧ u.flag .HST_ERR_STATUS_BAR2 = true ∧ u.mem = v.mem)) ∧
  (∀ s : State,
    (s.hst.stalled = [] → exec .bar2StalledReadComplete s = .next s) ∧
    (∀ a n rest v bs, s.hst.stalled = ⟨a, n, none⟩ :: rest → s.barStalled = false → s.stalled a n = false →
      ({ s with hst := { s.hst with stalled := rest } } : State).readSpan hostReq a n = (v, .ok bs) →
      exec .bar2StalledReadComplete s = .next { v with hst := { v.hst with replies := v.hst.replies ++ [.bytes bs] } }) ∧
    (∀ a n rest v bs, s.hst.stalled = ⟨a, n, some bs⟩ :: rest → s.barStalled = false → s.stalled a n = false →
      ({ s with hst := { s.hst with stalled := rest } } : State).writeSpan hostReq a bs = (v, none) →
      exec .bar2StalledReadComplete s = .next v)) ∧
  (∀ (s : State) (src : Source) (v : Nat), takes s src ⟨.HST_RCV_CTRL, 0, 0⟩ v → fv .HST_RCV_CTRL_GO v = 1 →
    s.flag .HST_STATUS_RECOVERY = true → s.flag .HST_RCV_STATUS_READY = true →
    let len := fv .HST_RCV_CTRL_LEN v
    let target := fv .HST_RCV_CTRL_TARGET v
    let base := if target = 0 then 0x01600000 else 0x01200000
    let room := if target = 0 then 0x02000000 else 0x00400000
    let got := if s.flag .HST_RCV_STATUS_DONE = true ∨ s.flag .HST_RCV_STATUS_FAIL = true then 0 else s.rd .HST_RCV_STATUS_RECEIVED
    let n := min len (room - got)
    ∃ u, exec (.recoveryChunk src v) s = .next u ∧
      puts s u [(.HST_RCV_CTRL_GO, 0, 0, 1), (.HST_RCV_CTRL_LAST, 0, 0, fv .HST_RCV_CTRL_LAST v), (.HST_RCV_CTRL_TARGET, 0, 0, target),
        (.HST_RCV_CTRL_LEN, 0, 0, len), (.HST_RCV_STATUS_READY, 0, 0, 0), (.HST_RCV_STATUS_DONE, 0, 0, 0),
        (.HST_RCV_STATUS_FAIL, 0, 0, 0), (.HST_RCV_STATUS_RECEIVED, 0, 0, got + len)] ∧
      u.flashRead (base + got) n = byteNats (s.bufs.readN 0x180000 n) ∧
      (∀ a k, a + k ≤ base + got ∨ base + got + n ≤ a → u.flashRead a k = s.flashRead a k) ∧
      { u with flash := s.flash }.noRegs = s.noRegs) ∧
  (∀ s : State,
    (s.flag .HST_RCV_CTRL_GO = true →
      ∃ u, exec .recoveryChunkWritten s = .next u ∧ onlyPuts s u ((.HST_RCV_CTRL_GO, 0, 0, 0) ::
        if s.flag .HST_RCV_CTRL_LAST = true then [] else [(.HST_RCV_STATUS_READY, 0, 0, 1)])) ∧
    (s.flag .HST_STATUS_RECOVERY = true → s.flag .HST_RCV_CTRL_GO = false → s.flag .HST_RCV_STATUS_READY = false →
      (s.imageOk (s.rd .HST_RCV_CTRL_TARGET) = true →
        ∃ u, exec .recoveryVerifyDone s = .next u ∧ onlyPuts s u [(.HST_RCV_STATUS_DONE, 0, 0, 1), (.HST_RCV_STATUS_READY, 0, 0, 1)]) ∧
      (s.imageOk (s.rd .HST_RCV_CTRL_TARGET) = false →
        ∃ u, exec .recoveryVerifyDone s = .next u ∧ u.flag .HST_RCV_STATUS_FAIL = true ∧ u.flag .HST_RCV_STATUS_READY = true ∧
          u.flag .HST_ERR_STATUS_RECOVER = true ∧ u.noRec = s.noRec)))

/-- The job's life: JOB_OPEN takes the manifest, derives the keys and loads; JOB_START measures, enables the tide and
starts the contexts that have a program; JOB_PAUSE drains, saves and holds; JOB_RESUME reads the context area, restores
and goes on; a command that the job state does not accept completes with ERR_HST_STATE, and one that a queue's earlier
command has not started before waits for it (R248, R348, R354 to R363). It rests on choices of the model beside the
rules, in assumptions 12, 26 and 28. -/
def Obligations.JobCommands : Prop :=
  ∀ (s : State) (c : HostCmd) (rest : List HostCmd), s.hst.jobs = c :: rest →
    let ended (v : State) (status detail : Nat) : State :=
      State.complete { v with hst := { v.hst with jobs := rest, active := false } } c status detail
    let free := s.hst.active = false ∧ s.behindStart c = false
    (s.hst.active = false → s.behindStart c = true →
      exec .jobStart s = .next s ∧ exec .jobPause s = .next s ∧ exec .jobResume s = .next s ∧
        ∀ link, exec (.jobOpen link) s = .next s) ∧
    (free → s.jobState ≠ 5 →
      (c.op = 0x10 → s.jobState ≠ 0 → ∀ link, exec (.jobOpen link) s = .next (ended s 0x01 0)) ∧
      (c.op = 0x11 → s.jobState ≠ 1 → exec .jobStart s = .next (ended s 0x01 0)) ∧
      (c.op = 0x12 → s.jobState ≠ 2 → exec .jobPause s = .next (ended s 0x01 0)) ∧
      (c.op = 0x13 → s.jobState ≠ 4 → exec .jobResume s = .next (ended s 0x01 0))) ∧
    (free → c.op = 0x10 → s.jobState = 0 → s.openWaits = false →
      0x380000000000 ≤ c.src → c.src < 0x400000000000 → s.outside (c.src - 0x380000000000) 64 = none →
      let w := bytesWords (s.hostMem.readN (c.src - 0x380000000000) 64)
      let job := bits (w.getD 0 0) 31 0
      (∃ (t : State), exec (.jobOpen true) s = .next (ended t 0x05 s.errSeq) ∧ t.flag .HST_ERR_STATUS_LINK = true ∧ t.noRec = s.noRec) ∧
      (manifestBad w = true → ∃ (t : State), exec (.jobOpen false) s = .next (ended t 0x09 s.errSeq) ∧
        t.flag .HST_ERR_STATUS_MANIFEST = true ∧ t.noRec = s.noRec) ∧
      (manifestBad w = false → s.flag .SEC_STATUS_SECRET_SET = false →
        ∃ (t : State), exec (.jobOpen false) s = .next (ended t 0x04 s.errSeq) ∧ reports s t 0x04 0 0xFFFF false) ∧
      (manifestBad w = false → s.flag .SEC_STATUS_SECRET_SET = true → manifestXts w = false →
        ∃ (v : State), exec (.jobOpen false) s = .next (ended v 0 0) ∧ v.jobState = 1 ∧ v.rd .HST_JOB_TAG_JOB = job ∧
          v.flag .SEC_STATUS_JOB_KEYED = true ∧ v.flag .SEC_STATUS_SECRET_SET = false ∧
          (∀ i < 8, v.rd .SEC_JOB_SECRET_WORD 0 i = 0) ∧ v.jobGate = true ∧ v.hst.manifest = w ∧ v.mem = s.mem) ∧
      (manifestBad w = false → s.flag .SEC_STATUS_SECRET_SET = true → manifestXts w = true →
        ∃ u, exec (.jobOpen false) s = .next u ∧ u.jobState = 0 ∧ u.hst.active = true ∧ u.hst.jobs = c :: rest ∧
          u.flag .MEM_XTS_EN = true ∧ u.flag .MEM_XTS_KEYED = true ∧
          ∀ st < s.fuses.nStacks, s.isOpen kMemc st = true → u.flag .MEM_STATUS_ZEROING st = true)) ∧
    (free → c.op = 0x11 → s.jobState = 1 → s.variantOk s.hst.manifest = true →
      ∀ r f a, s.readImage = (r, .error (f, a)) →
        let v := r.hostFailed f a
        exec .jobStart s = .next (ended v 0x04 (v.firstSeq s))) ∧
    (∀ r image, free → c.op = 0x11 → s.jobState = 1 → (s.variantOk s.hst.manifest = true → s.readImage = (r, .ok image)) →
      let m := (r.measureJob image).wr .TWY_KEY_TM_TIDEMARK 0 0 s.tidemark
      let on := (List.range 4).filter fun d => m.fuses.dieFitted d && m.rd .TIDE_CTRL_MODE d != 0
      let t := on.foldl (fun s d => s.enableTide d) m
      (s.variantOk s.hst.manifest = false →
        ∃ (v : State), exec .jobStart s = .next (ended v 0x06 s.errSeq) ∧ reports s v 0x05 0x86 0xFFFF false) ∧
      (s.variantOk s.hst.manifest = true → (∃ d ∈ on, t.flag .TIDE_CTRL_ENABLE d = false) →
        ∃ (v : State), exec .jobStart s = .next (ended v 0x04 (t.firstSeq s)) ∧ v.jobState = 1 ∧
          ∀ d < 4, v.flag .TIDE_CTRL_ENABLE d = false) ∧
      (s.variantOk s.hst.manifest = true → (∀ d ∈ on, t.flag .TIDE_CTRL_ENABLE d = true) →
        ∃ (v : State), exec .jobStart s = .next (ended v 0 0) ∧ v.jobState = 2 ∧ v.jobGate = false ∧
          v.rd .TWY_KEY_TM_TIDEMARK = s.tidemark % 2 ^ 64 ∧
          (∀ t x, t < s.nTiles → s.rd .TILE_CTX_PS_BOUND t x ≠ 0 → s.flag .TILE_CTX_CTRL_HALTED t x = false →
            v.flag .TILE_CTX_CTRL_RUN t x = true) ∧ v.mem = s.mem)) ∧
    (free → c.op = 0x12 → s.jobState = 2 →
      ∃ u, exec .jobPause s = .next u ∧ u.jobState = 3 ∧ u.hst.active = true ∧ u.hst.order = 2 ∧ u.hst.jobs = c :: rest ∧
        (∀ d < 4, u.rd .TIDE_CTRL_PAUSE d = 1) ∧ (∀ t < s.nTiles, u.rd .ARR_CTRL_STOP t = 1) ∧ u.mem = s.mem) ∧
    (s.jobState = 3 → s.hst.order = 2 → s.drainedJob = true →
      exec .pauseDrained s = .next { s with jobGate := true, hst := { s.hst with order := 4 } }) ∧
    (s.jobState = 3 → s.hst.order = 4 → s.unitsDone = true →
      ∃ u, exec .pauseUnitsDone s = .next u ∧ u.jobState = 3 ∧ u.hst.order = 5 ∧ u.hst.saved.isSome = true ∧
        u.mem.readN (s.fuses.ctxBase + 0x4E000000) 32 = leBytes 32 (2 ^ 36 + 2 ^ 32 + s.rd .HST_JOB_TAG_JOB +
          s.tidemark * 2 ^ 64 + s.time.toNat * 2 ^ 128 + s.attempt * 2 ^ 192) ∧
        (∀ a < s.fuses.ctxBase, u.mem.read a = s.mem.read a) ∧ regsBut s u [.MEM_WR_BYTES]) ∧
    (s.jobState = 3 → s.hst.order = 5 →
      ∃ (v : State), exec .pauseSaveDone s = .next (ended v 0 0) ∧ v.jobState = 4 ∧ v.hst.order = 0 ∧ v.mem = s.mem ∧
        regsBut s v [.HST_STATUS]) ∧
    (s.jobState = 3 → s.hst.order = 2 ∨ s.hst.order = 4 →
      let w := State.goOn { s with hst := { s.hst with order := 0 } }
      exec .pauseTimeout s = .next (ended (w.hstErr 4 false 0 0 0 0) 0x08 ((w.hstErr 4 false 0 0 0 0).firstSeq s)) ∧
      ((∀ t, (s.engine t eArray).queue = []) → w.jobState = 2 ∧ w.jobGate = false ∧ (∀ d < 4, w.rd .TIDE_CTRL_PAUSE d = 0) ∧
        (∀ t < s.nTiles, w.rd .ARR_CTRL_STOP t = 0) ∧ w.mem = s.mem)) ∧
    (free → c.op = 0x13 → s.jobState = 4 →
      let stops (w : State) (f : Fail) (a : Nat) : Prop :=
        let v := w.hostFailed f a
        exec .jobResume s = .next (ended v 0x04 (v.firstSeq s))
      (∀ t f, s.readHeader = (t, .error f) → stops t f (s.fuses.ctxBase + 0x4E000000)) ∧
      ∀ t bs, s.readHeader = (t, .ok bs) →
        (t.headerNames (leNat bs) = false → exec .jobResume s = .next (ended t 0x01 0)) ∧
        (∀ w f, t.headerNames (leNat bs) = true → t.readArea = (w, some f) → stops w f s.fuses.ctxBase) ∧
        ∀ w, t.headerNames (leNat bs) = true → t.readArea = (w, none) →
          let u := w.restoreJob
          exec .jobResume s = .next (ended u.goOn 0 0) ∧
          ∀ v, s.hst.saved = some v → u.ctxs = v.ctxs ∧ u.engines = v.engines ∧ u.arrays = v.arrays ∧
            u.waiters = v.waiters ∧ u.tctxs = v.tctxs ∧ u.guards = v.guards ∧ u.bars = v.bars ∧
            u.tileSenses = v.tileSenses ∧ u.nonces = v.nonces ∧ u.cause = v.cause ∧ u.voidGate = v.voidGate ∧
            u.errRing = v.errRing)

/-- A kill and the scour: the command at the head of the sequencer, or behind the pause that it ends, starts the scour or
joins it; the job keys are gone and the tiles reset; every stack is then zeroed, the job's registers and the error ring
are reset, and every kill completes in EMPTY (R354, R364, R366). It rests on choices of the model beside the rules, in
assumption 12. -/
def Obligations.KillAndScour : Prop :=
  ∀ s : State,
    (∀ k rest, s.hst.jobs = k :: rest → k.op = 0x14 → s.hst.active = false → s.behindStart k = false → s.jobState = 5 →
      exec .jobKill s = .next { s with hst := { s.hst with jobs := rest, kills := s.hst.kills ++ [k] } }) ∧
    (∀ k rest, s.hst.jobs = k :: rest → k.op = 0x14 → s.hst.active = false → s.behindStart k = false → s.jobState ≠ 5 →
      ∃ u, exec .jobKill s = .next u ∧ u.jobState = 5 ∧ u.hst.order = 3 ∧ u.hst.kills = s.hst.kills ++ [k] ∧
        u.hst.jobs = rest ∧ u.flag .SEC_STATUS_JOB_KEYED = false ∧ u.flag .MEM_XTS_KEYED = false ∧ u.flights = [] ∧
        u.xferQueues = [] ∧ u.voidGate = false) ∧
    (∀ c k rest, s.hst.jobs = c :: k :: rest → s.jobState = 3 → s.hst.active = true → k.op = 0x14 → s.behindStart k = false →
      ∃ u v, exec .jobKill s = .next u ∧
        v = State.complete { s with hst := { s.hst with jobs := rest, active := false, order := 0 } } c 0x07 0 ∧
        u = State.scour { v with hst := { v.hst with kills := v.hst.kills ++ [k] } }) ∧
    (s.jobState = 5 → s.hst.order = 3 → s.flag .RST_CTRL_COMPUTE = false → 6 ≤ s.boot.order →
      ∃ u, exec .scourTilesDone s = .next u ∧ u.hst.order = 4 ∧
        (∀ st < s.fuses.nStacks, s.isOpen kMemc st = true → u.flag .MEM_STATUS_ZEROING st = true) ∧
        (∀ a < 0x018000000000, stackOf s.fuses.nStacks a < s.fuses.nStacks →
          s.isOpen kMemc (stackOf s.fuses.nStacks a) = true → u.mem.read a = 0) ∧
        (∀ a, 0x200000000000 ≤ a → u.mem.read a = s.mem.read a)) ∧
    (s.jobState = 5 → s.hst.order = 4 → s.zeroing = false → s.flag .RST_CTRL_COMPUTE = false → s.sec.unlock = none →
      ∃ (v : State), exec .scourComplete s = .next (s.hst.kills.foldl (fun s c => s.complete c 0 0) v) ∧ v.jobState = 0 ∧
        v.hst.kills = [] ∧ v.hst.order = 0 ∧ v.errSeq = 0 ∧ v.errRing = [] ∧ v.errHeld = [] ∧ v.tidemark = 0 ∧ v.attempt = 0 ∧
        v.rd .GLB_VOID_COUNT_COUNT = 0 ∧ v.rd .SEC_MEAS_DIGEST 0 4 = 0 ∧ v.guards = [] ∧ v.bars = [] ∧ v.senses = 0 ∧
        v.tctxs = [] ∧ v.mem = s.mem) ∧
    (s.jobState ≠ 5 → exec .scourTilesDone s = .next s ∧ exec .scourComplete s = .next s)


/-! ### The survey units and the recoders (spec/07_shingle_codec.md) -/

/-- A survey: opened with its parameters and empty tables; feeds queued in order, one more waiting while 64 are queued,
refused with ERR_SHG_SURVEY where no survey is open or the address cannot be fed; each feed processed is counted; FINISH
waits for the last of them, reports ERR_SHG_SURVEY where they gave no vector, and the books are then written, the result
set, DONE set, the signal posted, the survey closed (R186 to R190, R205). -/
def Sys2Proof.Claims.Surveys : Prop :=
  ∀ (s : State) (src : Source) (st v : Nat),
    let x := s.shingle st
    let failed (u : State) (index : Nat) (void : Bool) : Prop := ∃ w, reports w u 0x0D index st void ∧ w.noRegs = s.noRegs ∧
      regsBut s w [.SHG_ERR_INFO, .SHG_ERR_LEN]
    (takes s src ⟨.SHG_SV_CTRL, st, 0⟩ (setBit v 0) → fv .SHG_SV_CTRL_FINISH (setBit v 0) = 0 →
      (s.surveyOpen st = true → exec (.surveyOpen src st v) s = .next s) ∧
      (s.surveyOpen st = false →
        ∃ u, exec (.surveyOpen src st v) s = .next u ∧
          u.shingle st = { x with feeds := [], waitFeeds := [], table := [], fed := [0, 0, 0, 0], svFinish := false } ∧
          puts s u (([.SHG_SV_CTRL_TENSOR, .SHG_SV_CTRL_HOME, .SHG_SV_CTRL_EPOCH, .SHG_SV_CTRL_GRAD, .SHG_SV_CTRL_FORMAT,
            .SHG_SV_CTRL_MAXW].map fun f => (f, st, 0, fv f (setBit v 0))) ++ [(.SHG_SV_STATUS_OPEN, st, 0, 1),
            (.SHG_SV_STATUS_FED, st, 0, 0), (.SHG_SV_STATUS_QUEUED, st, 0, 0), (.SHG_SV_STATUS_BUSY, st, 0, 0),
            (.SHG_STATUS_SV_OPEN, st, 0, 1), (.SHG_SV_CTRL_FINISH, st, 0, 0)]) ∧
          { u with shingles := s.shingles }.noRegs = s.noRegs)) ∧
    (takes s src ⟨.SHG_SV_FEED, st, 0⟩ v →
      let a := bits v 47 6 * 64
      let n := bits v 59 48 + 1
      (s.surveyOpen st = false → ∃ u, exec (.surveyFeed src st v) s = .next u ∧ failed u 1 false) ∧
      (s.surveyOpen st = true → x.feeds.length < 64 → s.feedable a (4096 * n) = false → ∃ u, exec (.surveyFeed src st v) s = .next u ∧ failed u 1 true) ∧
      (s.surveyOpen st = true → s.feedable a (4096 * n) = true → x.feeds.length < 64 →
        ∃ u, exec (.surveyFeed src st v) s = .next u ∧ u.shingle st = { x with feeds := x.feeds ++ [(a, n)] } ∧
          puts s u [(.SHG_SV_STATUS_QUEUED, st, 0, x.feeds.length + 1), (.SHG_SV_STATUS_BUSY, st, 0, 1)]) ∧
      (s.surveyOpen st = true → 64 ≤ x.feeds.length →
        exec (.surveyFeed src st v) s = .next (s.setShingle st { x with waitFeeds := x.waitFeeds ++ [(src, v)] }))) ∧
    (takes s src ⟨.SHG_SV_CTRL, st, 0⟩ (withField s ⟨.SHG_SV_CTRL, st, 0⟩ .SHG_SV_CTRL_FINISH 1) →
      (s.surveyOpen st = false → ∃ u, exec (.surveyFinish src st) s = .next u ∧ failed u 1 false) ∧
      (s.surveyOpen st = true → x.feeds = [] → at0 x.fed 0 = 0 → ∃ u, exec (.surveyFinish src st) s = .next u ∧ failed u 1 true) ∧
      (s.surveyOpen st = true → x.feeds ≠ [] ∨ at0 x.fed 0 ≠ 0 →
        ∃ u, exec (.surveyFinish src st) s = .next u ∧ u.shingle st = { x with svFinish := true } ∧
          puts s u [(.SHG_SV_CTRL_FINISH, st, 0, 1), (.SHG_SV_STATUS_BUSY, st, 0, 1),
            (.SHG_SV_STATUS_QUEUED, st, 0, x.feeds.length)])) ∧
    (s.hasStack st = true →
      (∀ a n rest, x.feeds = (a, n) :: rest → s.stalled a (4096 * n) = true → exec (.surveyFeedDone st) s = .next s) ∧
      (∀ a n rest w bs, x.feeds = (a, n) :: rest → x.waitFeeds = [] → s.stalled a (4096 * n) = false → s.readSpan shingleReq a (4096 * n) = (w, .ok bs) →
        ∃ u, exec (.surveyFeedDone st) s = .next u ∧ u.mem = s.mem ∧
          u.shingle st = surveyTake (s.rd .SHG_SV_CTRL_FORMAT st) { x with feeds := rest } n bs ∧
          u.rd .SHG_SV_STATUS_FED st = (s.rd .SHG_SV_STATUS_FED st + 1) % 2 ^ 22) ∧
      (x.feeds = [] → exec (.surveyFeedDone st) s = .next s ∧ exec (.surveyProgressTimeout st) s = .next s) ∧
      (x.feeds ≠ [] → ∃ u, exec (.surveyProgressTimeout st) s = .next u ∧ failed u 1 true) ∧
      (x.svFinish = false ∨ x.feeds ≠ [] → exec (.surveyBooksWritten st) s = .next s) ∧
      (x.svFinish = true → x.feeds = [] → x.waitFeeds = [] → at0 x.fed 0 = 0 →
        ∃ u, exec (.surveyBooksWritten st) s = .next u ∧ u.flag .SHG_ERR_STATUS_SURVEY st = true ∧
          u.rd .SIG_STATUS_VOIDED = 1 ∧ u.surveyOpen st = s.surveyOpen st ∧ u.mem = s.mem ∧ u.flights = s.flights) ∧
      (x.svFinish = true → x.feeds = [] → x.waitFeeds = [] → at0 x.fed 0 ≠ 0 →
        (∀ j < Codec.planes (s.rd .SHG_SV_CTRL_FORMAT st), s.stalled (s.bookOut st j) 0x8000 = false) →
        ∃ u : State, exec (.surveyBooksWritten st) s = .next (u.post (u.rd .SHG_SV_SIG_SIG st) none (.codec st)) ∧
          u.surveyOpen st = false ∧ u.rd .SHG_SV_STATUS_DONE st = 1 ∧ u.rd .SHG_SV_CTRL_FINISH st = 0 ∧
          (u.shingle st).svFinish = false ∧
          (Codec.planes (s.rd .SHG_SV_CTRL_FORMAT st) = 1 →
            let vs := Codec.select (s.rd .SHG_SV_CTRL_MAXW st) (at0 x.fed 0) (Codec.ranked x.table 0)
            u.mem = (s.writeSpan shingleReq (s.rd .SHG_SV_BOOK_BASE st * 2 ^ 15)
              (Codec.bookBytes (s.surveyHead st 0 vs.length) vs)).1.mem ∧
            u.rd .SHG_SV_RESULT_SIZE st = vs.length % 2 ^ 52)))

/-- A recode: opened where the books, once no stack that holds one is being zeroed, are read and pass the checks of
R204; each fed segment is recoded in place, its block map and directory entry written behind its blocks, or left as it
is with ERR_SHG_RECODE and not counted; the signal is posted once FINISH is written and every feed done (R203 to R205,
R258). -/
def Sys2Proof.Claims.Recodes : Prop :=
  ∀ (s : State) (src : Source) (st v : Nat),
    let x := s.shingle st
    let failed (u : State) (void : Bool) : Prop := ∃ w, reports w u 0x0D 2 st void ∧ w.noRegs = s.noRegs ∧
      regsBut s w [.SHG_ERR_INFO, .SHG_ERR_LEN]
    (takes s src ⟨.SHG_RC_CTRL, st, 0⟩ (withField s ⟨.SHG_RC_CTRL, st, 0⟩ .SHG_RC_CTRL_OPEN 1) →
      (s.recodeOpen st = true → exec (.recodeOpen src st) s = .next s) ∧
      (s.recodeOpen st = false → s.recodeBooksStalled st = true →
        exec (.recodeOpen src st) s = .next (s.setShingle st { x with rcOpening := true })) ∧
      (s.recodeOpen st = false → s.recodeBooksStalled st = false →
        let y : Shingle := { x with rcOpening := false }
        (∀ w f, (s.setShingle st y).recodeBooks st = (w, .error f) → exec (.recodeOpen src st) s = .next w) ∧
        ∀ w books, (s.setShingle st y).recodeBooks st = (w, .ok books) →
        (recodeBooksOk books = false → ∃ u, exec (.recodeOpen src st) s = .next u ∧ u.recodeOpen st = false ∧
          u.flag .SHG_ERR_STATUS_RECODE st = true ∧ u.rd .SIG_STATUS_VOIDED = 1 ∧ u.mem = s.mem) ∧
        (recodeBooksOk books = true →
        ∃ u, exec (.recodeOpen src st) s = .next u ∧ u.shingle st = { y with recodes := [], rcFinish := false } ∧
          puts w u [(.SHG_RC_STATUS_OPEN, st, 0, 1), (.SHG_RC_STATUS_RECODED, st, 0, 0), (.SHG_STATUS_RC_OPEN, st, 0, 1),
            (.SHG_RC_STATUS_QUEUED, st, 0, 0), (.SHG_RC_STATUS_BUSY, st, 0, 0)]))) ∧
    (takes s src ⟨.SHG_RC_FEED, st, 0⟩ v →
      let i := fv .SHG_RC_FEED_INDEX v
      (s.recodeOpen st = false → ∃ u, exec (.recodeFeed src st v) s = .next u ∧ failed u false) ∧
      (s.recodeOpen st = true → x.recodes.length < 64 →
        ∃ u, exec (.recodeFeed src st v) s = .next u ∧ u.shingle st = { x with recodes := x.recodes ++ [i] } ∧
          puts s u [(.SHG_RC_STATUS_QUEUED, st, 0, x.recodes.length + 1), (.SHG_RC_STATUS_BUSY, st, 0, 1)]) ∧
      (s.recodeOpen st = true → 64 ≤ x.recodes.length →
        exec (.recodeFeed src st v) s = .next (s.setShingle st { x with waitRecodes := x.waitRecodes ++ [(src, i)] }))) ∧
    (takes s src ⟨.SHG_RC_CTRL, st, 0⟩ (withField s ⟨.SHG_RC_CTRL, st, 0⟩ .SHG_RC_CTRL_FINISH 1) →
      s.recodeOpen st = true →
      (x.recodes ≠ [] →
        ∃ u, exec (.recodeFinish src st) s = .next u ∧ u.shingle st = { x with rcFinish := true } ∧
          puts s u [(.SHG_RC_CTRL_FINISH, st, 0, 1)]) ∧
      (x.recodes = [] →
        ∃ u : State, exec (.recodeFinish src st) s = .next (u.post (u.rd .SHG_RC_SIG_SIG st) none (.codec st)) ∧
          u.recodeOpen st = false ∧ u.rd .SHG_RC_STATUS_DONE st = 1 ∧ u.rd .SHG_RC_SIG_SIG st = s.rd .SHG_RC_SIG_SIG st)) ∧
    (s.hasStack st = true →
      (x.recodes = [] → exec (.recodeSegmentDone st) s = .next s) ∧
      (∀ i rest, x.recodes = i :: rest → s.recodeStalled st i = true → exec (.recodeSegmentDone st) s = .next s) ∧
      (∀ i rest, x.recodes = i :: rest → x.waitRecodes = [] → s.recodeStalled st i = false → rest ≠ [] ∨ x.rcFinish = false →
        let da := s.rd .SHG_RC_DIR_BASE st * 4096 + 16 * i
        let next (u : State) (k : Nat) : Prop := (u.shingle st).recodes = rest ∧
          u.rd .SHG_RC_STATUS_RECODED st = (s.rd .SHG_RC_STATUS_RECODED st + k) % 2 ^ 22
        (∀ v1 db, s.readSpan shingleReq da 16 = (v1, .ok db) → DirEntry.valid (leNat db) = false →
          ∃ u, exec (.recodeSegmentDone st) s = .next u ∧ next u 0 ∧ u.mem = s.mem ∧ u.flag .SHG_ERR_STATUS_RECODE st = true ∧
            u.rd .SIG_STATUS_VOIDED = 1) ∧
        (∀ v1 db v2 hb, s.readSpan shingleReq da 16 = (v1, .ok db) → DirEntry.valid (leNat db) = true →
          v1.readSpan shingleReq (DirEntry.addr (leNat db)) 256 = (v2, .ok hb) →
          (∃ e ∈ ((bytesWords hb).drop 8).take 16, MapEntry.present e = true ∧ ¬(MapEntry.raw e = true ∧ MapEntry.stored e = 4096)) →
          ∃ u, exec (.recodeSegmentDone st) s = .next u ∧ next u 0 ∧ u.mem = s.mem ∧ u.flag .SHG_ERR_STATUS_RECODE st = true ∧
            u.rd .SIG_STATUS_VOIDED = 1) ∧
        (∀ v1 db v2 hb v3 pb v4 bl w es used w1 w2 w3, s.readSpan shingleReq da 16 = (v1, .ok db) →
          let dir := leNat db
          let a := DirEntry.addr dir
          let map := ((bytesWords hb).drop 8).take 16
          DirEntry.valid dir = true → v1.readSpan shingleReq a 256 = (v2, .ok hb) →
          (∀ e ∈ map, MapEntry.present e = true → MapEntry.raw e = true ∧ MapEntry.stored e = 4096) →
          v2.readSpan shingleReq (a + 256) (256 * (DirEntry.length dir + 1)) = (v3, .ok pb) →
          v3.recodeBooks st = (v4, .ok bl) →
          let h := Codec.head (bl.headD [])
          v4.recodeBlocks st (a + 256) h.epoch h.format (bl.map Codec.book) map = (w, es, used) →
          let flits := max 1 ((used + 255) / 256)
          w.writeSpan shingleReq (a + 256 + used) (zeroBytes (256 * flits - used)) = (w1, none) →
          w1.writeSpan shingleReq (a + 64) (wordBytes es) = (w2, none) →
          w2.writeSpan shingleReq da (leBytes 16 (withBits (withBits dir 49 42 h.epoch) 41 34 (flits - 1))) = (w3, none) →
          ∃ u, exec (.recodeSegmentDone st) s = .next u ∧ next u 1 ∧ u.mem = w3.mem)))

/-- The surveys and the recodes of a codec (R186 to R190, R203 to R205). It rests on choices of the model beside the
rules, in assumption 29. -/
def Obligations.SurveysAndRecodes : Prop := Claims.Surveys ∧ Claims.Recodes


/-! ### Resets, shutters and the boot (spec/15_clocks_reset_boot.md) -/

/-- Every register field but those of the reset controller, the challenge and the measurements has its reset value. -/
def Sys2Proof.Claims.regsReset (u : State) : Prop :=
  ∀ f i x, keptField f = false → f ≠ .SEC_CHALLENGE_WORD → f ≠ .SEC_MEAS_DIGEST → u.rd f i x = u.fieldReset f i x

/-- `u` is `v` after its boot sequence has been let go on: PCIE_PIPE runs where nothing of warm reach holds it; from
order 2, where nothing holds the package, with the copy of the option block that R403 selects, or with the fault OPTION
where there is none (R403, R407, R408). -/
def Sys2Proof.Claims.bootGoesOn (v u : State) : Prop :=
  let ready := v.boot.pwrok = true ∧ v.boot.fuseDone = true ∧ v.warmHeld = false ∧ v.boot.order = 1 ∧ v.rd .RST_BOOT_FAULT = 0
  (¬ready → onlyPuts v u (if v.boot.pwrok = true ∧ v.warmHeld = false then [(.CLK_DOMAIN_RUNNING, 0, 33, 1)] else [])) ∧
  (∀ c, ready → v.optionCopy = some c → u.boot.order = 2 ∧ u.rd .RST_BOOT_COPY = c % 2 ∧ u.rd .RST_BOOT_STAGE = 2 ∧
    u.rd .RST_BOOT_FAULT = 0 ∧ u.plan = planOf (v.flashRead (0x10000 * c) 4096) ∧
    u.boot.option = (v.flashRead (0x10000 * c) 4096).take 0xC0 ∧ u.mem = v.mem) ∧
  (ready → v.optionCopy = none → u.boot.order = 1 ∧ u.rd .RST_BOOT_FAULT = 1 ∧ u.flag .RST_ERR_STATUS_BOOT = true ∧ u.mem = v.mem)

/-- The reset sources: each sets its cause and resets what it reaches; a reset of warm reach keeps the fuses, the flash,
RST_CAUSE and the holds, and takes every other register to its reset value; the boot goes on when the last source of the
reach is released; a compute reset of a job scours it, and its release scours from order 2 (R393 to R398). It rests on
choices of the model beside the rules, in assumption 13. -/
def Obligations.ResetSources : Prop :=
  ∀ s : State,
    let warm (u : State) (cause : Fd) : Prop := u.rd cause = 1 ∧ Claims.regsReset u ∧
      (∀ f i x, keptField f = true → f ≠ cause → u.rd f i x = s.rd f i x) ∧ u.flash = s.flash ∧ u.hostMem = s.hostMem ∧
      u.boot.order = (if s.boot.fuseDone then 1 else 0) ∧ u.ctxs = [] ∧ u.engines = [] ∧ u.flights = [] ∧ u.links = [] ∧
      u.errRing = [] ∧ u.hst.jobs = []
    (s.boot.pwrok = false → exec .pwrokFall s = .next s) ∧
    (s.boot.pwrok = true →
      ∃ u, exec .pwrokFall s = .next u ∧ u.boot.pwrok = false ∧ u.boot.fuseDone = false ∧ u.boot.order = 0 ∧
        u.rd .RST_CAUSE_PWROK = 1 ∧ (∀ f i x, f ≠ .SEC_CHALLENGE_WORD → u.rd f i x = u.fieldReset f i x) ∧
        u.flash = s.flash ∧ u.hostMem = s.hostMem ∧ u.boot.perst = s.boot.perst ∧ u.boot.tray = s.boot.tray) ∧
    (∀ pins hs prod, s.boot.pwrok = false →
      ∃ u, exec (.pwrokRise pins hs prod) s = .next u ∧ u.boot.pwrok = true ∧ u.boot.pins = pins % 2 ^ 13 ∧ u.lhs.hsEn = hs ∧
        puts s u ([(.CLK_DOMAIN_RUNNING, 0, 36, 1), (.CLK_DOMAIN_RUNNING, 0, 38, 1),
          (.RST_CAUSE_PERST, 0, 0, b2n s.boot.perst), (.RST_CAUSE_TRAY, 0, 0, b2n s.boot.tray)] ++
          if s.warmHeld then [] else [(.CLK_DOMAIN_RUNNING, 0, 33, 1)]) ∧ u.mem = s.mem) ∧
    (s.boot.pwrok = true →
      (s.boot.perst = false → ∃ u, exec .perstAssert s = .next u ∧ u.boot.perst = true ∧ warm u .RST_CAUSE_PERST) ∧
      (s.boot.tray = false → ∃ u, exec .trayRstAssert s = .next u ∧ u.boot.tray = true ∧ warm u .RST_CAUSE_TRAY) ∧
      (s.rd .LHS_STATUS_FW = 2 → ∃ u, exec .watchdogExpiry s = .next u ∧ u.boot.wdog = true ∧ warm u .RST_CAUSE_WDOG) ∧
      (∀ src, takes s src ⟨.RST_CTRL, 0, 0⟩ (withField s ⟨.RST_CTRL, 0, 0⟩ .RST_CTRL_PKG 1) → s.rd .RST_CTRL_COMPUTE < 2 →
        s.boot.pkg = false → ∃ u, exec (.pkg src) s = .next u ∧ u.boot.pkg = true ∧ warm u .RST_CAUSE_SWPKG)) ∧
    (s.rd .LHS_STATUS_FW ≠ 2 → exec .watchdogExpiry s = .next s) ∧
    (s.boot.perst = true → ∃ u, exec .perstRelease s = .next u ∧
      Claims.bootGoesOn { s with boot := { s.boot with perst := false } } u) ∧
    (s.boot.tray = true → ∃ u, exec .trayRstRelease s = .next u ∧
      Claims.bootGoesOn { s with boot := { s.boot with tray := false } } u) ∧
    (s.boot.pkg = true → ∃ u, exec (.resetPulseEnd true) s = .next u ∧
      Claims.bootGoesOn { s with boot := { s.boot with pkg := false } } u) ∧
    (s.boot.wdog = true → ∃ u, exec (.resetPulseEnd false) s = .next u ∧
      Claims.bootGoesOn { s with boot := { s.boot with wdog := false } } u) ∧
    (s.boot.pwrok = true → s.boot.perst = false →
      exec .rrsWindowEnd s = .next { s with boot := { s.boot with retry := false } }) ∧
    (∀ (src : Source) (on : Bool), takes s src ⟨.RST_CTRL, 0, 0⟩ (withField s ⟨.RST_CTRL, 0, 0⟩ .RST_CTRL_COMPUTE (b2n on)) →
      (s.flag .RST_CTRL_COMPUTE = on → exec (.compute src on) s = .next s) ∧
      (on = true → s.flag .RST_CTRL_COMPUTE = false →
        ∃ u, exec (.compute src true) s = .next u ∧ u.rd .RST_CTRL_COMPUTE = 1 ∧ u.rd .RST_CAUSE_COMPUTE = 1 ∧ u.flights = [] ∧
          u.jobState = (if s.jobState = 0 then 0 else 5) ∧
          ∀ t < s.nTiles, ∀ c, u.ctx t c = Ctx.init ∧ u.rd .TILE_CTX_CTRL_RUN t c = 0) ∧
      (on = false → s.flag .RST_CTRL_COMPUTE = true →
        ∃ u, exec (.compute src false) s = .next u ∧ u.rd .RST_CTRL_COMPUTE = 0 ∧
          (6 ≤ s.boot.order → u.jobState = 5 ∧ u.hst.order = 3) ∧ (s.boot.order < 6 → u.jobState = s.jobState ∧ u.mem = s.mem)))

/-- The boot: the fuse load, the clocks, the training, the verification, the release of the tiles and the shore
configuration, each in its order, stopping at the first fault; the fuse load derives the identity key, and the firmware
starts at the ENTRY of its image; a PLL that loses lock falls back to the reference input with ERR_CLK_UNLOCK (R389,
R407, R408, R411, R426, R428). It rests on choices of the model beside the rules, in assumption 13. -/
def Obligations.BootSequence : Prop :=
  ∀ s : State,
    (s.boot.pwrok = true → s.boot.fuseDone = false →
      ∃ (u v : State), exec .fuseLoadDone s = .next u ∧ v.boot = { s.boot with fuseDone := true, order := 1 } ∧
        v.sec.identity = s.identityKey ∧ v.mem = s.mem ∧ regsBut s v [.SEC_MEAS] ∧ Claims.bootGoesOn v u) ∧
    (s.boot.order = 2 → s.warmHeld = false →
      (s.assemblyOk = false → s.rd .RST_BOOT_FAULT = 0 →
        ∃ u, exec .clocksLocked s = .next u ∧ u.boot.order = 4 ∧ u.rd .RST_BOOT_STAGE = 3 ∧ u.rd .RST_BOOT_FAULT = 2) ∧
      (s.assemblyOk = true →
        ∃ u, exec .clocksLocked s = .next u ∧ u.boot.order = 5 ∧ u.rd .RST_BOOT_STAGE = 4 ∧ u.rd .LHS_STATUS_FW = 1 ∧
          u.rd .RST_BOOT_FAULT = s.rd .RST_BOOT_FAULT ∧ u.mem = s.mem)) ∧
    (∀ d, clockPresent s.fuses d = true → d < 40 →
      (s.rd .CLK_DOMAIN_SEL 0 d = 1 →
        ∃ (u w : State), exec (.pllUnlock d) s = .next u ∧ onlyPuts s w [(.CLK_DOMAIN_LOCKED, 0, d, 0), (.CLK_DOMAIN_UNLOCK, 0, d, 1),
          (.CLK_DOMAIN_SEL, 0, d, 0), (.CLK_DOMAIN_FREQ, 0, d, 200)] ∧ reports w u 0x02 1 0xFFFF false) ∧
      (s.rd .CLK_DOMAIN_SEL 0 d ≠ 1 → exec (.pllUnlock d) s = .next s)) ∧
    (∀ st ok, s.boot.order ≠ 5 ∨ s.shutter kMemc st ≠ 3 → exec (.memTrainDone st ok) s = .next s) ∧
    (∀ st, s.hasStack st = true → s.boot.order = 5 → s.flag .MEM_STATUS_TRAINED st = false → s.shutter kMemc st = 3 →
      (∃ u, exec (.memTrainDone st true) s = .next u ∧ puts s u [(.MEM_STATUS_TRAINED, st, 0, 1)] ∧
        u.shutter kMemc st = 0 ∧ { u with shutters := s.shutters, jrn := s.jrn }.noRegs = s.noRegs) ∧
      (s.rd .RST_BOOT_FAULT = 0 → ∃ u, exec (.memTrainDone st false) s = .next u ∧ u.rd .RST_BOOT_FAULT = 3 ∧
        u.flag .RST_ERR_STATUS_BOOT = true ∧ u.noRec = s.noRec)) ∧
    (s.boot.order = 5 → s.boot.romDone = false → s.rd .RST_BOOT_FAULT = 0 →
      (s.imageOk 0 = true → s.imageOk 1 = true →
        ∃ u, exec .romVerifyDone s = .next u ∧ u.boot = { s.boot with romDone := true } ∧
          u.rd .SEC_SVN_FW_RUN = s.imageSvn 0 % 2 ^ Fd.SEC_SVN_FW_RUN.width ∧
          u.rd .SEC_OWNER_FW_SIGNER = s.imageSigner 0 % 2 ^ Fd.SEC_OWNER_FW_SIGNER.width ∧
          u.rd .SEC_OWNER_SHORE_SIGNER = s.imageSigner 1 % 2 ^ Fd.SEC_OWNER_SHORE_SIGNER.width ∧
          u.flag .SEC_STATUS_MGMT_KEYED = true ∧ u.rd .RST_BOOT_FAULT = 0) ∧
      (s.imageOk 0 = false ∨ s.imageOk 1 = false →
        ∃ u, exec .romVerifyDone s = .next u ∧ u.rd .RST_BOOT_FAULT = 4 ∧ u.flag .HST_STATUS_RECOVERY = true ∧
          u.rd .LHS_STATUS_FW = 3 ∧ u.flag .HST_RCV_STATUS_READY = true ∧ u.boot.retry = false ∧
          ∀ q < 64, u.flag .HST_Q_CFG_ENABLE 0 q = false)) ∧
    (let trained := ∀ st < s.fuses.nStacks, s.flag .MEM_STATUS_TRAINED st = true ∨ hasBit (s.rd .RST_MEMC_HOLD_HOLD) st = true
     (s.boot.order = 5 → s.boot.romDone = true → trained → s.rd .RST_BOOT_FAULT = 0 →
        ∃ u, exec .tilesRelease s = .next u ∧ u.boot.order = 6 ∧ u.rd .RST_BOOT_STAGE = 5 ∧ u.rd .LHS_STATUS_FW = 2 ∧
          u.jobState = 5 ∧ u.hst.order = 3 ∧
          u.lhs.core.pc = BitVec.ofNat 32 (spanNat (s.flashRead (imageArea 0).1 0x100) 0x14 4)) ∧
     (s.boot.order ≠ 5 ∨ s.boot.romDone = false ∨ ¬trained ∨ s.rd .RST_BOOT_FAULT ≠ 0 → exec .tilesRelease s = .next s)) ∧
    (s.boot.order = 6 → s.rd .LHS_STATUS_FW = 2 →
      ∃ u, exec .shoreConfigApply s = .next u ∧ u.boot.order = 7 ∧ u.rd .RST_BOOT_STAGE = 6 ∧ u.boot.retry = false) ∧
    (s.boot.order ≠ 6 ∨ s.rd .LHS_STATUS_FW ≠ 2 → exec .shoreConfigApply s = .next s)

/-- Shutters: a hold bit written with 1 sets the kind's cause and closes an open shutter; written with 0 while it
closes, it leaves the release pending; once closed, the block is reset and ERR_RST_BLOCK recorded, with VOID where a job
runs; a released block opens initialised. No maintenance of the block runs that its closing ends (R297, R399 to R402).
It rests on choices of the model beside the rules, in assumption 13. -/
def Obligations.ShuttersResetBlocks : Prop :=
  ∀ (s : State) (kind k : Nat), s.hasBlock kind k = true → (kind = 2 → noScans s k) → (kind = 3 → s.mState 5 k ≠ 2) →
    (∀ (src : Source) (on : Bool), s.domainHeld kind = false →
      let x := holdFd kind k
      takes s src ⟨x.1.spec.reg, 0, x.2.1⟩ (withBits (s.heldValue ⟨x.1.spec.reg, 0, x.2.1⟩) x.2.2 x.2.2 (b2n on)) →
      (on = true → s.bitOf x = false → s.shutter kind k = 0 ∨ s.shutter kind k = 3 →
        ∃ u, exec (.holdWrite src kind k true) s = .next u ∧ u.bitOf x = true ∧ u.shutter kind k = 1 ∧
          u.rd (causeFd kind) = 1 ∧ u.mem = s.mem ∧ (s.holders = [] → u.errSeq = s.errSeq)) ∧
      (on = false → s.bitOf x = true → s.shutter kind k = 1 →
        ∃ u, exec (.holdWrite src kind k false) s = .next u ∧ u.bitOf x = false ∧ u.bitOf (pendFd kind k) = true ∧
          u.shutter kind k = 1 ∧ u.mem = s.mem) ∧
      (on = false → s.bitOf x = true → s.shutter kind k = 2 →
        ∃ u, exec (.holdWrite src kind k false) s = .next u ∧ u.bitOf x = false ∧ u.shutter kind k = 3 ∧ u.mem = s.mem)) ∧
    (s.shutter kind k ≠ 1 → ∀ n, exec (.shutterClosed kind k n) s = .next s) ∧
    (s.shutter kind k ≠ 3 → exec (.shutterOpened kind k) s = .next s) ∧
    (∀ n, s.domainHeld kind = false → s.shutter kind k = 1 →
      ∃ u, exec (.shutterClosed kind k n) s = .next u ∧ u.flag .RST_ERR_STATUS_BLOCK = true ∧
        u.shutter kind k = (if s.bitOf (pendFd kind k) then 3 else 2) ∧ u.bitOf (pendFd kind k) = false ∧
        (s.running = true → u.rd .SIG_STATUS_VOIDED = 1) ∧
        (kind = 1 → ∀ c, u.ctx k c = Ctx.init ∧ u.rd .TILE_CTX_CTRL_RUN k c = 0 ∧
          ∀ a, tileBase k ≤ a → a < tileBase k + 0x80000 → u.mem.read a = 0) ∧
        (kind = 2 → u.portState k = 0 ∧ u.link k = Link.init ∧ u.mem = s.mem) ∧
        (kind = 3 → u.shingle k = Shingle.init ∧ u.rd .MEM_SCRUB_POS_LINE k = 0 ∧
          ∀ a, 0x200000000000 ≤ a → u.mem.read a = s.mem.read a) ∧
        (kind = 4 → u.ferryQueue k = [] ∧ u.rd .HST_FERRY_STATUS_DONE 0 k = 0 ∧ u.mem = s.mem)) ∧
    (s.domainHeld kind = false → s.shutter kind k = 3 →
      ¬(kind = 3 ∧ s.boot.order = 5 ∧ s.flag .MEM_STATUS_TRAINED k = false) →
      ∃ u, exec (.shutterOpened kind k) s = .next u ∧ u.shutter kind k = 0 ∧
        (kind = 1 → u.rd .TILE_WATERLINE_LEVEL k = 20 ∧
          ∀ a, tileBase k ≤ a → a < tileBase k + 0x80000 → u.mem.read a = 0) ∧
        (kind = 2 → s.flag .TWY_PORT_CTRL_ENABLE k = true → s.flag .TWY_GLB_CTRL_LINKS_EN = true → s.portState k = 0 →
          s.portRole k ≠ 0 → s.inLoopback k = false → u.portState k = 1 ∧ u.mem = s.mem) ∧
        (kind = 3 → puts s u [(.MEM_STATUS_TRAINED, k, 0, 1)] ∧ u.mem = s.mem) ∧
        (kind = 4 → ∀ f i x, u.rd f i x = s.rd f i x))

/-! ### Lighthouse (spec/16_lighthouse_security.md) -/

/-- `u` is `s` after the response to the posted request: the request's header with LEN `n` and STATUS `status`, REQ
cleared, RSP set, and vector 0 sent, or pending where it is masked (R413). -/
def Sys2Proof.Claims.answered (s u : State) (status n : Nat) : Prop :=
  u.bufs.readN 0x22000 16 = s.bufs.readN 0x21000 4 ++ leBytes 2 n ++ leBytes 10 status ∧
  u.rd .LHS_MB_CTRL_REQ = 0 ∧ u.rd .LHS_MB_CTRL_RSP = 1 ∧ regsBut s u [.LHS_MB_CTRL, .HST_PBA] ∧
  (s.flag .HST_MSIX_MASK 0 0 = false → u.irqs = s.irqs ++ [0] ∧ ∀ i, u.rd .HST_PBA_PENDING 0 i = s.rd .HST_PBA_PENDING 0 i) ∧
  (s.flag .HST_MSIX_MASK 0 0 = true → u.irqs = s.irqs ∧ hasBit (u.rd .HST_PBA_PENDING 0 0) 0 = true)

/-- The mailbox: a request posted is taken, answered at once where nothing serves it, or discarded with ERR_LHS_MBOX
while one is in progress; each command of the firmware answers a posted request of its opcode and no other. A management
packet whose tag or check fails sets ERR_LHS_MGMT, a sound one for another location is passed over, and an LH_MSG is
kept (R413, R414, R424, R479). It rests on choices of the model beside the rules, in assumptions 14 and 38. -/
def Obligations.MailboxAndPackets : Prop :=
  (∀ (s : State) (src : Source), takes s src ⟨.LHS_MB_CTRL, 0, 0⟩ (withField s ⟨.LHS_MB_CTRL, 0, 0⟩ .LHS_MB_CTRL_REQ 1) →
    let op := leNat (s.bufs.readN 0x21000 2)
    let fw := s.rd .LHS_STATUS_FW
    (s.flag .LHS_MB_CTRL_REQ = true ∨ s.flag .LHS_MB_CTRL_RSP = true →
      ∃ u, exec (.mbRequest src) s = .next u ∧ u.flag .LHS_ERR_STATUS_MBOX = true ∧ u.noInt = s.noInt ∧
        regsBut s u [.LHS_ERR_STATUS, .HST_PBA]) ∧
    (s.flag .LHS_MB_CTRL_REQ = false → s.flag .LHS_MB_CTRL_RSP = false →
      ((fw = 1 ∨ fw = 3) ∧ op = 1 ∨ fw = 0 ∨ fw = 4 ∨
          fw = 2 ∧ op ∈ [0x01, 0x02, 0x10, 0x11, 0x20, 0x30, 0x31, 0x32, 0x33, 0x34, 0x35, 0x36, 0x37, 0x38, 0x39, 0x40] →
        ∃ u, exec (.mbRequest src) s = .next u ∧ onlyPuts s u [(.LHS_MB_CTRL_REQ, 0, 0, 1)]) ∧
      ((fw = 1 ∨ fw = 3) ∧ op ≠ 1 → ∃ u, exec (.mbRequest src) s = .next u ∧ answered s u 0x04 0) ∧
      (fw = 2 ∧ op ∉ [0x01, 0x02, 0x10, 0x11, 0x20, 0x30, 0x31, 0x32, 0x33, 0x34, 0x35, 0x36, 0x37, 0x38, 0x39, 0x40] →
        ∃ u, exec (.mbRequest src) s = .next u ∧ answered s u 0x01 0))) ∧
  (∀ s : State,
    let op := leNat (s.bufs.readN 0x21000 2)
    let fw := s.rd .LHS_STATUS_FW
    let asked (n : Nat) : Prop := s.flag .LHS_MB_CTRL_REQ = true ∧ op = n ∧ (fw = 2 ∨ n = 1 ∧ (fw = 1 ∨ fw = 3))
    (asked 0x01 → ∃ u n, exec .getVersion s = .next u ∧ answered s u 0 n ∧ n ≤ 4080 ∧ u.lhs = s.lhs ∧ u.mem = s.mem) ∧
    (¬asked 0x01 → exec .getVersion s = .next s) ∧
    (asked 0x02 → ∃ u n, exec .getTelemetry s = .next u ∧ answered s u 0 n ∧ n ≤ 4080 ∧ u.lhs = s.lhs ∧ u.mem = s.mem) ∧
    (¬asked 0x02 → exec .getTelemetry s = .next s) ∧
    (∀ t, (asked 0x10 → ∃ u, exec (.setTjTarget t) s = .next u ∧ answered s u (if 70 ≤ t ∧ t ≤ 100 then 0 else 2) 0 ∧
        u.lhs = (if 70 ≤ t ∧ t ≤ 100 then { s.lhs with tjTarget := t } else s.lhs)) ∧
      (¬asked 0x10 → exec (.setTjTarget t) s = .next s) ∧
      (asked 0x11 → ∃ u, exec (.setValveTarget t) s = .next u ∧ answered s u (if 50 ≤ t ∧ t ≤ 90 then 0 else 2) 0 ∧
        u.lhs = (if 50 ≤ t ∧ t ≤ 90 then { s.lhs with valveTarget := t } else s.lhs)) ∧
      (¬asked 0x11 → exec (.setValveTarget t) s = .next s)) ∧
    (asked 0x20 → ∃ u, exec .powerOff s = .next u ∧ answered s u 0 0 ∧ u.lhs = { s.lhs with offDue := true }) ∧
    (¬asked 0x20 → exec .powerOff s = .next s) ∧
    (s.lhs.offDue = true → fw = 2 →
      exec .powerOffDelay s = .next { s with lhs := { s.lhs with offDue := false, hsEn := false } }) ∧
    (s.lhs.offDue = false ∨ fw ≠ 2 → exec .powerOffDelay s = .next s) ∧
    (∀ loc len payload,
      (¬asked 0x40 → exec (.mgmtSend loc len payload) s = .next s) ∧
      (asked 0x40 → 4064 < len ∨ 1024 ≤ loc → ∃ u, exec (.mgmtSend loc len payload) s = .next u ∧ answered s u 2 0) ∧
      (asked 0x40 → len ≤ 4064 → loc < 1024 → s.flag .SEC_STATUS_MGMT_KEYED = false →
        ∃ u, exec (.mgmtSend loc len payload) s = .next u ∧ answered s u 4 0) ∧
      (asked 0x40 → len ≤ 4064 → loc < 1024 → s.flag .SEC_STATUS_MGMT_KEYED = true →
        s.flag .TWY_LOC_ROUTE_VALID 0 loc = false →
        ∃ u st, exec (.mgmtSend loc len payload) s = .next u ∧ answered s u st 0 ∧ st < 5 ∧ u.outbox = s.outbox) ∧
      (asked 0x40 → len ≤ 4064 → loc < 1024 → s.flag .SEC_STATUS_MGMT_KEYED = true →
        s.flag .TWY_LOC_ROUTE_VALID 0 loc = true →
        ∃ (u v : State), exec (.mgmtSend loc len payload) s = .next u ∧ v = s.sendMgmt 0x02 loc payload len ∧
          answered v u 0 0 ∧ u.mgmtSeq = (s.mgmtSeq + 1) % 2 ^ 32))) ∧
  (∀ (s : State) (ws : List Nat) (x : Sealed),
    let keyed := s.flag .SEC_STATUS_MGMT_KEYED = true
    let mine := keyed ∧ bits (hw ws 0) 25 16 = s.rd .TWY_SELF_LOC_LOC
    let sound := s.tagOk x = true ∧ mgmtSound ws = true
    let dropped : Prop := ∃ u, exec (.mgmtPacketReceive ws x) s = .next u ∧ u.flag .LHS_ERR_STATUS_MGMT = true ∧
      u.noInt = s.noInt ∧ regsBut s u [.LHS_ERR_STATUS, .HST_PBA]
    (¬keyed ∨ (sound ∧ ¬mine) → exec (.mgmtPacketReceive ws x) s = .next s) ∧
    (keyed → ¬sound → dropped) ∧
    (mine → sound → bits (hw ws 0) 7 0 = 0x01 → exec (.mgmtPacketReceive ws x) s = exec (.voidNotice (ws.drop 4)) s) ∧
    (mine → sound → bits (hw ws 0) 7 0 = 0x02 →
      (s.lhs.inbox.length < 64 → exec (.mgmtPacketReceive ws x) s =
        .next { s with lhs := { s.lhs with inbox := s.lhs.inbox ++ [ws] } }) ∧
      (64 ≤ s.lhs.inbox.length → dropped)))

/-- Telemetry: a sample is published whole, under the calibration records that are effective, and TST_TEL_SEQ counts it;
each die's DIEMAX is its hottest sensor. The firmware's governor and heartbeat run on it: the depth of a die that breaks
a condition of R417 (the input power above the limit, which is halved while the firmware holds for flow; a sensor of the
die above the junction target; a stack on it above 100 °C) is deeper than it was, or 64. A write of the power limit is
clipped to the assembly's (R415, R417, R439, R446). -/
def Sys2Proof.Claims.Telemetry : Prop :=
  (∀ (s : State) (sample : Sample),
    let v := s.calibrateSample sample
    (s.boot.order < 4 → exec (.telemetrySample sample) s = .next s) ∧
    (4 ≤ s.boot.order → v.temps.length = 256 →
      let limit := min (s.rd .LHS_GOV_LIMIT_LIMIT_W) (if s.lhs.flowHold = true then s.fuses.maxPower / 2 else s.fuses.maxPower)
      let n := s.fuses.stacksPerDie
      let broken (d : Nat) : Prop := 10 * limit < v.power ∨ (∃ i < 64, 16 * (s.lhs.tjTarget : Int) < v.temps.getD (64 * d + i) 0) ∨
        ∃ i < n, 100 < v.stackTemps.getD (n * d + i) 0
      let depth (u : State) (d : Nat) : Nat := bits (u.rd .LHS_GOV_G_G) (8 * d + 7) (8 * d)
      ∃ u, exec (.telemetrySample sample) s = .next u ∧
        u.rd .TST_TEL_SEQ_SEQ = (s.rd .TST_TEL_SEQ_SEQ + 1) % 2 ^ Fd.TST_TEL_SEQ_SEQ.width ∧
        u.rd .TST_TEL_PIN_VOLT = v.volt % 2 ^ Fd.TST_TEL_PIN_VOLT.width ∧
        u.rd .TST_TEL_PIN_POWER = v.power % 2 ^ Fd.TST_TEL_PIN_POWER.width ∧
        u.rd .TST_TEL_PIN_PEAK_POWER = v.peak % 2 ^ Fd.TST_TEL_PIN_PEAK_POWER.width ∧
        u.rd .TST_TEL_ENERGY_MJ = (s.rd .TST_TEL_ENERGY_MJ + v.energy) % 2 ^ Fd.TST_TEL_ENERGY_MJ.width ∧
        (∀ i (h : i < v.temps.length), u.rd .TST_TEL_TEMP_TEMP 0 i = ofSigned 16 v.temps[i]) ∧
        (∀ d < 4, ∃ i, i < 64 ∧ u.rd .TST_TEL_DIEMAX_SENSOR 0 d = i ∧
          u.rd .TST_TEL_DIEMAX_TEMP 0 d = ofSigned 16 (v.temps.getD (64 * d + i) 0) ∧
          ∀ j < 64, v.temps.getD (64 * d + j) 0 ≤ v.temps.getD (64 * d + i) 0 ∧
            (j < i → v.temps.getD (64 * d + j) 0 < v.temps.getD (64 * d + i) 0)) ∧
        (s.rd .LHS_STATUS_FW = 2 →
          u.rd .LHS_HEARTBEAT_COUNT = (s.rd .LHS_HEARTBEAT_COUNT + 1) % 2 ^ Fd.LHS_HEARTBEAT_COUNT.width ∧
          ∀ d < 4, depth u d ≤ 64 ∧ (broken d → min 64 (depth s d + 1) ≤ depth u d)) ∧
        (s.rd .LHS_STATUS_FW ≠ 2 →
          u.rd .LHS_HEARTBEAT_COUNT = s.rd .LHS_HEARTBEAT_COUNT ∧ u.rd .LHS_GOV_G_G = s.rd .LHS_GOV_G_G) ∧
        u.flag .TST_STATUS_SAMPLE = true ∧ { u with lhs := s.lhs, arrays := s.arrays }.noInt = s.noInt)) ∧
  (∀ (s : State) (src : Source) (v : Nat), takes s src ⟨.LHS_GOV_LIMIT, 0, 0⟩ v →
    ∃ u, exec (.govLimitWrite src v) s = .next u ∧
      onlyPuts s u [(.LHS_GOV_LIMIT_LIMIT_W, 0, 0, min (fv .LHS_GOV_LIMIT_LIMIT_W v) s.fuses.maxPower)])

/-- The limits of power and heat: the cap deepens the clock gating by 16 where the last four samples average above it,
and gives back a step after 16 averages at or under 97 %; a sensor at 105 °C trips and voids the step once; a voltage
request outside its window is clamped, with ERR_LHS_CLAMP once a second a rail; the valve follows the hottest sensor,
its pin released until the firmware configures it and its duty 40 to 100 % while ACTIVE; three low flow windows while
ACTIVE are ERR_LHS_FLOW; the reading of the input voltage decides TRAY_FAULT_N (R409, R418 to R422, R485). -/
def Sys2Proof.Claims.PowerAndHeat : Prop :=
  (∀ (s : State) (p : Nat),
    let xs := (p :: s.lhs.samples).take 4
    let cap := s.rd .LHS_CAP_CAP_W
    let g := s.rd .LHS_CAP_CAP_G
    (s.boot.order < 4 → exec (.capSample p) s = .next s) ∧
    (4 ≤ s.boot.order → xs.length < 4 → exec (.capSample p) s = .next { s with lhs := { s.lhs with samples := xs } }) ∧
    (4 ≤ s.boot.order → xs.length = 4 → 40 * cap < xs.sum → g ≠ 0 →
      ∃ u, exec (.capSample p) s = .next u ∧ puts s u [(.LHS_CAP_CAP_G, 0, 0, min 64 (g + 16))] ∧
        { u with arrays := s.arrays }.noRegs = { s with lhs := { s.lhs with samples := xs, capRun := 0 } }.noRegs) ∧
    (4 ≤ s.boot.order → xs.length = 4 → 40 * cap < xs.sum → g = 0 →
      let free := s.lhs.capAt = none ∨ ∃ t, s.lhs.capAt = some t ∧ t + 1000000000 ≤ s.time.toNat
      ∃ u, exec (.capSample p) s = .next u ∧ u.rd .LHS_CAP_CAP_G = 16 ∧ u.flag .LHS_ERR_STATUS_CAP = true ∧
        u.rd .TST_TEL_EVENTS_CAPS = satNat Fd.TST_TEL_EVENTS_CAPS.width (s.rd .TST_TEL_EVENTS_CAPS + 1) ∧
        u.rd .SIG_STATUS_VOIDED = s.rd .SIG_STATUS_VOIDED ∧ u.lhs.samples = xs ∧ u.lhs.capRun = 0 ∧
        (free → u.errSeq = (s.errSeq + 1) % 2 ^ 32 ∧ u.lhs.capAt = some s.time.toNat) ∧
        (¬free → u.errSeq = s.errSeq ∧ u.lhs.capAt = s.lhs.capAt)) ∧
    (4 ≤ s.boot.order → xs.length = 4 → 100 * xs.sum ≤ 97 * 40 * cap →
      (s.lhs.capRun = 15 → ∃ u, exec (.capSample p) s = .next u ∧ puts s u [(.LHS_CAP_CAP_G, 0, 0, g - 1)] ∧
        u.lhs = { s.lhs with samples := xs, capRun := 0 }) ∧
      (s.lhs.capRun ≠ 15 → exec (.capSample p) s =
        .next { s with lhs := { s.lhs with samples := xs, capRun := s.lhs.capRun + 1 } })) ∧
    (4 ≤ s.boot.order → xs.length = 4 → xs.sum ≤ 40 * cap → 97 * 40 * cap < 100 * xs.sum →
      exec (.capSample p) s = .next { s with lhs := { s.lhs with samples := xs, capRun := 0 } })) ∧
  (∀ (s : State) (die sensor : Nat),
    let there := die < 4 ∧ sensor < 64 ∨ 4 ≤ die ∧ die < 8 ∧ sensor < 8 ∧ s.fuses.dieFitted (die - 4) = true
    (¬there ∨ s.boot.fuseDone = false ∨ s.lhs.tripped = true → exec (.thermalTrip die sensor) s = .next s) ∧
    (there → s.boot.fuseDone = true → s.lhs.tripped = false →
      ∃ u v, exec (.thermalTrip die sensor) s = .next u ∧ u.lhs = { s.lhs with tripped := true } ∧
        { v with lhs := s.lhs, arrays := s.arrays } = s ∧ reports v u 0x03 0 0xFFFF true)) ∧
  (∀ (s : State) (rail mv : Nat), rail < 12 →
    let lo := (s.fuses.rail rail).2.1
    let hi := (s.fuses.rail rail).2.2
    let sent := if mv < lo then lo else if hi < mv then hi else mv
    let out (u : State) : Nat := SMap.get u.lhs.rails ⟨rail, 0, 0⟩ (s.fuses.rail rail).1
    (s.rd .LHS_STATUS_FW ≠ 2 → exec (.voltageRequest rail mv) s = .next s) ∧
    (s.rd .LHS_STATUS_FW = 2 → lo ≤ mv → mv ≤ hi →
      ∃ u, exec (.voltageRequest rail mv) s = .next u ∧ out u = mv ∧ { u with lhs := s.lhs } = s) ∧
    (s.rd .LHS_STATUS_FW = 2 → lo ≤ hi → mv < lo ∨ hi < mv →
      ∃ u, exec (.voltageRequest rail mv) s = .next u ∧ out u = sent ∧ u.flag .LHS_ERR_STATUS_CLAMP = true ∧
        u.rd .LHS_CLAMP_INFO_RAIL = rail % 2 ^ Fd.LHS_CLAMP_INFO_RAIL.width ∧
        u.rd .LHS_CLAMP_INFO_REQ_MV = mv % 2 ^ Fd.LHS_CLAMP_INFO_REQ_MV.width ∧
        u.rd .TST_TEL_EVENTS_CLAMPS = satNat Fd.TST_TEL_EVENTS_CLAMPS.width (s.rd .TST_TEL_EVENTS_CLAMPS + 1) ∧
        u.rd .SIG_STATUS_VOIDED = s.rd .SIG_STATUS_VOIDED ∧
        u.errSeq = (if s.secondPassed (SMap.find s.lhs.clampAt ⟨rail, 0, 0⟩) then (s.errSeq + 1) % 2 ^ 32 else s.errSeq) ∧
        { u with lhs := s.lhs }.noRec = s.noRec)) ∧
  (∀ s : State,
    (s.rd .LHS_STATUS_FW ≠ 2 → exec .valveLoop s = .next s) ∧
    (s.rd .LHS_STATUS_FW = 2 →
      let e := s.hottest - 16 * s.lhs.valveTarget
      let i := max 0 (min 9600 (s.lhs.integral + e))
      let d : Int := 160 * s.fuses.maxPower
      let n : Int := 40 * d + 480 * s.rd .TST_TEL_PIN_POWER + 40 * e * s.fuses.maxPower + i * s.fuses.maxPower
      ∃ (u : State) (q : Int), exec .valveLoop s = .next u ∧ u.lhs = { s.lhs with integral := i } ∧
        2 * n - d ≤ 2 * (d * q) ∧ 2 * (d * q) ≤ 2 * n + d ∧ u.rd .LHS_VALVE_REQ = (max 0 (min 100 q)).toNat ∧
        (s.active = true → u.rd .LHS_VALVE_REQ < 40 → u.flag .LHS_ERR_STATUS_FLOOR = true) ∧
        regsBut s u [.LHS_VALVE, .LHS_ERR_STATUS, .HST_PBA] ∧ { u with lhs := s.lhs, fresh := s.fresh }.noInt = s.noInt)) ∧
  (∀ (s : State) (n : Nat),
    let q := n * 60000 / s.lhs.flowK
    let low := n * 60000 < 1800 * s.lhs.flowK
    (s.boot.order < 4 → exec (.flowWindow n) s = .next s) ∧
    (4 ≤ s.boot.order →
      ∃ u, exec (.flowWindow n) s = .next u ∧
        (u.rd .TST_TEL_FLOW_ML_MIN = min q (2 ^ 16 - 1) ∨
          n * 60000 % s.lhs.flowK ≠ 0 ∧ u.rd .TST_TEL_FLOW_ML_MIN = min (q + 1) (2 ^ 16 - 1)) ∧
        u.lhs.flowOk = (if low then 0 else min 3 (s.lhs.flowOk + 1)) ∧
        u.lhs.flowLow = (if low ∧ s.active = true then min 3 (s.lhs.flowLow + 1) else 0) ∧
        (low → s.active = true → s.lhs.flowLow = 2 →
          u.flag .LHS_ERR_STATUS_FLOW = true ∧ u.errSeq = (s.errSeq + 1) % 2 ^ 32 ∧
          u.rd .SIG_STATUS_VOIDED = s.rd .SIG_STATUS_VOIDED) ∧
        (¬low → u.errSeq = s.errSeq ∧ u.lhs.flowHold = (s.lhs.flowHold && decide (s.lhs.flowOk < 2))) ∧
        { u with lhs := s.lhs, fresh := s.fresh }.noRec = s.noRec)) ∧
  (∀ (s : State) (low : Bool),
    let reads := if low = true then s.rd .TST_TEL_PIN_VOLT < 4400 else 4400 < s.rd .TST_TEL_PIN_VOLT
    (s.rd .LHS_STATUS_FW = 2 → reads →
      exec (.inputUndervoltage low) s = .next { s with lhs := { s.lhs with voltFault := low } }) ∧
    (s.rd .LHS_STATUS_FW ≠ 2 ∨ ¬reads → exec (.inputUndervoltage low) s = .next s)) ∧
  (∀ s : State,
    (s.rd .LHS_STATUS_FW ∈ [0, 1, 3] → s.outputs.valve = none ∧ s.outputs.pump = none) ∧
    (∀ d, s.outputs.valve = some d → d ≤ 100 ∧ (s.active = true → 40 ≤ d)))

/-- Telemetry and its governor, and the limits of power and heat (R409, R415, R417 to R422, R439, R446, R485). It rests on
choices of the model beside the rules, in assumption 14. -/
def Obligations.HeatAndPower : Prop := Claims.Telemetry ∧ Claims.PowerAndHeat

/-! ### The porter (spec/16_lighthouse_security.md) -/

/-- Secrets and quotes: a word of the job secret is taken in EMPTY and PAUSED, and the last completes it; REKEY derives
the link key anew; a quote is latched, then signed into its buffer; a command while one runs is discarded with BUSY, one
that the job state excludes with STATE; the entropy source fails and passes (R427, R434, R437, R440). -/
def Sys2Proof.Claims.SecretsAndQuotes : Prop :=
  (∀ (s : State) (src : Source) (i v : Nat), i < 8 → takes s src ⟨.SEC_JOB_SECRET, 0, i⟩ v →
    (s.jobState ≠ 0 → s.jobState ≠ 4 →
      ∃ u, exec (.secJobSecretWrite src i v) s = .next u ∧ u.flag .SEC_ERR_STATUS_STATE = true ∧ u.noInt = s.noInt ∧
        regsBut s u [.SEC_ERR_STATUS, .HST_PBA]) ∧
    (s.jobState = 0 ∨ s.jobState = 4 →
      ∃ u, exec (.secJobSecretWrite src i v) s = .next u ∧ onlyPuts s u ((.SEC_JOB_SECRET_WORD, 0, i, bits v 31 0) ::
        if i = 7 then [(.SEC_STATUS_SECRET_SET, 0, 0, 1)] else []))) ∧
  (∀ (s : State) (src : Source),
    let asks (f : Fd) : Prop := takes s src ⟨.SEC_CTRL, 0, 0⟩ (2 ^ f.spec.lo)
    let refused (c : Instr) (f : Fd) : Prop := ∃ u, exec c s = .next u ∧ u.flag f = true ∧ u.noInt = s.noInt ∧
      regsBut s u [.SEC_ERR_STATUS, .HST_PBA]
    let busy := s.flag .SEC_STATUS_CMD_BUSY = true
    let cleared (u : State) : Prop := u.rd .SEC_STATUS_SECRET_SET = 0 ∧ ∀ i < 8, u.rd .SEC_JOB_SECRET_WORD 0 i = 0
    (asks .SEC_CTRL_QUOTE → busy → refused (.quote src) .SEC_ERR_STATUS_BUSY) ∧
    (asks .SEC_CTRL_QUOTE → ¬busy →
      ∃ u, exec (.quote src) s = .next u ∧ u.sec = { s.sec with cmd := some (.quote s.quoteBytes) } ∧
        puts s u [(.SEC_STATUS_CMD_BUSY, 0, 0, 1)] ∧ { u with sec := s.sec }.noRegs = s.noRegs) ∧
    (asks .SEC_CTRL_REKEY → busy → refused (.rekey src) .SEC_ERR_STATUS_BUSY) ∧
    (asks .SEC_CTRL_REKEY → ¬busy → s.jobState ≠ 4 → refused (.rekey src) .SEC_ERR_STATUS_STATE) ∧
    (asks .SEC_CTRL_REKEY → ¬busy → s.jobState = 4 → s.flag .SEC_STATUS_SECRET_SET = false →
      ∃ u, exec (.rekey src) s = .next u ∧ reports s u 0x04 0 0xFFFF false) ∧
    (asks .SEC_CTRL_REKEY → ¬busy → s.jobState = 4 → s.flag .SEC_STATUS_SECRET_SET = true →
      ∃ u, exec (.rekey src) s = .next u ∧ u.sec = { s.sec with linkKey := s.deriveLink (s.rd .HST_JOB_TAG_JOB) } ∧
        cleared u ∧ u.rd .TWY_KEY_TM_TIDEMARK = s.tidemark % 2 ^ 64 ∧
        regsBut s u [.SEC_JOB_SECRET, .SEC_STATUS, .TWY_KEY_TM] ∧ { u with sec := s.sec }.noRegs = s.noRegs) ∧
    (asks .SEC_CTRL_CLEAR_SECRET → busy → refused (.clearSecret src) .SEC_ERR_STATUS_BUSY) ∧
    (asks .SEC_CTRL_CLEAR_SECRET → ¬busy →
      ∃ u, exec (.clearSecret src) s = .next u ∧ cleared u ∧ regsBut s u [.SEC_JOB_SECRET, .SEC_STATUS] ∧
        u.noRegs = s.noRegs)) ∧
  (∀ s : State,
    ((∀ b, s.sec.cmd ≠ some (.quote b)) → exec .quoteReady s = .next s) ∧
    (∀ b, s.sec.cmd = some (.quote b) → b.length = 256 →
      ∃ u, exec .quoteReady s = .next u ∧ u.sec = { s.sec with cmd := none } ∧ u.rd .SEC_STATUS_CMD_BUSY = 0 ∧
        u.rd .SEC_STATUS_QUOTE_READY = 1 ∧
        u.bufs.readN 0x40000 35920 = b.map (BitVec.ofNat 8) ++ (List.range 35664).map (Config.signatureByte s.sec.identity b) ∧
        (s.flag .SEC_STATUS_QUOTE_READY = false → s.flag .SEC_INT_EN_QUOTE = true → s.flag .HST_MSIX_MASK 0 3 = false →
          u.irqs = s.irqs ++ [3]) ∧
        (s.flag .SEC_STATUS_QUOTE_READY = true → u.irqs = s.irqs) ∧
        regsBut s u [.SEC_STATUS, .HST_PBA]) ∧
    (∃ u v, exec .entropyFail s = .next u ∧ onlyPuts s v [(.SEC_STATUS_ENTROPY_OK, 0, 0, 0)] ∧ reports v u 0x04 3 0xFFFF false) ∧
    (∃ u, exec .entropyPass s = .next u ∧ onlyPuts s u [(.SEC_STATUS_ENTROPY_OK, 0, 0, 1)]))

/-- Fuses, enrolment and the debug unlock: a count is raised to the running image's SVN and never lowered; a record that
R431 accepts blows its fuses when its command ends, any other is ERR_SEC_ENROL; an accepted token scours, any other is
ERR_SEC_TOKEN; each renews the challenge (R425, R430, R431, R435, R436). -/
def Sys2Proof.Claims.FusesAndTokens : Prop :=
  (∀ (s : State) (src : Source) (shore : Bool),
    let f : Fd := if shore then .SEC_CTRL_SVN_SHORE else .SEC_CTRL_SVN_FW
    let c : Instr := if shore then .svnShore src else .svnFw src
    takes s src ⟨.SEC_CTRL, 0, 0⟩ (2 ^ f.spec.lo) →
    (s.flag .SEC_STATUS_CMD_BUSY = true → ∃ u, exec c s = .next u ∧ u.flag .SEC_ERR_STATUS_BUSY = true ∧ u.noInt = s.noInt) ∧
    (s.flag .SEC_STATUS_CMD_BUSY = false →
      ∃ u, exec c s = .next u ∧ u.sec = { s.sec with cmd := some (.svn shore) } ∧ puts s u [(.SEC_STATUS_CMD_BUSY, 0, 0, 1)] ∧
        u.fuses = s.fuses ∧ { u with sec := s.sec }.noRegs = s.noRegs)) ∧
  (∀ (s : State) (src : Source),
    let b := s.inputBytes 256
    let k := s.inputBytes 128
    let renewed (u : State) : Prop := u.fresh = s.fresh + 1 ∧
      ∀ i < 8, u.rd .SEC_CHALLENGE_WORD 0 i = (Config.random (8 * (s.fresh + 1) + i)).toNat
    (takes s src ⟨.SEC_CTRL, 0, 0⟩ (2 ^ Fd.SEC_CTRL_ENROL.spec.lo) →
      (s.flag .SEC_STATUS_CMD_BUSY = true →
        ∃ u, exec (.enrol src) s = .next u ∧ u.flag .SEC_ERR_STATUS_BUSY = true ∧ u.noInt = s.noInt) ∧
      (s.flag .SEC_STATUS_CMD_BUSY = false → s.jobState ≠ 0 →
        ∃ u, exec (.enrol src) s = .next u ∧ u.flag .SEC_ERR_STATUS_STATE = true ∧ u.noInt = s.noInt) ∧
      (s.flag .SEC_STATUS_CMD_BUSY = false → s.jobState = 0 → s.recordOk b = false →
        ∃ u v, exec (.enrol src) s = .next u ∧ renewed v ∧ regsBut s v [.SEC_CHALLENGE] ∧
          { v with fresh := s.fresh }.noRegs = s.noRegs ∧ reports v u 0x04 2 0xFFFF false) ∧
      (s.flag .SEC_STATUS_CMD_BUSY = false → s.jobState = 0 → s.recordOk b = true →
        ∃ u, exec (.enrol src) s = .next u ∧ renewed u ∧ u.rd .SEC_STATUS_CMD_BUSY = 1 ∧
          u.sec = { s.sec with cmd := some (.enrol (b.getD 5 0) (b.getD 6 0) ((b.drop 48).take 32) ((b.drop 80).take 32)) } ∧
          u.fuses = s.fuses ∧ regsBut s u [.SEC_CHALLENGE, .SEC_STATUS])) ∧
    (takes s src ⟨.SEC_CTRL, 0, 0⟩ (2 ^ Fd.SEC_CTRL_UNLOCK.spec.lo) →
      (s.flag .SEC_STATUS_CMD_BUSY = true →
        ∃ u, exec (.unlock src) s = .next u ∧ u.flag .SEC_ERR_STATUS_BUSY = true ∧ u.noInt = s.noInt) ∧
      (s.flag .SEC_STATUS_CMD_BUSY = false → s.tokenOk k = false →
        ∃ u v, exec (.unlock src) s = .next u ∧ renewed v ∧ regsBut s v [.SEC_CHALLENGE] ∧
          { v with fresh := s.fresh }.noRegs = s.noRegs ∧ reports v u 0x04 1 0xFFFF false) ∧
      (s.flag .SEC_STATUS_CMD_BUSY = false → s.tokenOk k = true →
        ∃ u, exec (.unlock src) s = .next u ∧ u.sec.unlock = some (k.getD 5 0) ∧ u.jobState = 5 ∧ u.fuses = s.fuses ∧
          u.rd .SEC_STATUS_CMD_BUSY = 1 ∧ u.rd .SEC_DEBUG_CAPS = s.rd .SEC_DEBUG_CAPS))) ∧
  (∀ s : State,
    let ended (u : State) : Prop := u.sec = { s.sec with cmd := none } ∧ puts s { u with fuses := s.fuses } [(.SEC_STATUS_CMD_BUSY, 0, 0, 0)] ∧
      { u with fuses := s.fuses, sec := s.sec }.noRegs = s.noRegs
    (s.sec.cmd = none → exec .secCommandDone s = .next s) ∧
    (s.sec.cmd = some (.svn false) →
      ∃ u, exec .secCommandDone s = .next u ∧ ended u ∧ u.fuses = { s.fuses with fwSvn := u.fuses.fwSvn } ∧
        popcount 64 u.fuses.fwSvn = max (popcount 64 s.fuses.fwSvn) (min 64 (s.rd .SEC_SVN_FW_RUN))) ∧
    (s.sec.cmd = some (.svn true) →
      ∃ u, exec .secCommandDone s = .next u ∧ ended u ∧ u.fuses = { s.fuses with shoreSvn := u.fuses.shoreSvn } ∧
        popcount 64 u.fuses.shoreSvn = max (popcount 64 s.fuses.shoreSvn) (min 64 (s.rd .SEC_SVN_SHORE_RUN))) ∧
    (∀ slot hash key, s.sec.cmd = some (.enrol 1 slot hash key) → 1 ≤ slot → slot ≤ 4 → Fuses.slotState s.fuses.ownerState slot = 0 →
      ∃ u, exec .secCommandDone s = .next u ∧ ended u ∧ Fuses.slotState u.fuses.ownerState slot = 1 ∧
        (∀ j, 1 ≤ j → j ≤ 4 → j ≠ slot → Fuses.slotState u.fuses.ownerState j = Fuses.slotState s.fuses.ownerState j) ∧
        SMap.get u.fuses.ownerHash ⟨slot, 0, 0⟩ 0 = spanNat hash 0 32 ∧
        SMap.get u.fuses.ownerSecret ⟨slot, 0, 0⟩ 0 = spanNat key 0 32 ∧
        u.fuses.foundationRevoked = s.fuses.foundationRevoked ∧ u.fuses.fwSvn = s.fuses.fwSvn) ∧
    (∀ slot hash key, s.sec.cmd = some (.enrol 2 slot hash key) → slot ≤ 4 →
      (slot = 0 → ∃ u, exec .secCommandDone s = .next u ∧ ended u ∧ u.fuses = { s.fuses with foundationRevoked := true }) ∧
      (slot ≠ 0 → ∃ u, exec .secCommandDone s = .next u ∧ ended u ∧ Fuses.slotState u.fuses.ownerState slot = 3 ∧
        u.fuses = { s.fuses with ownerState := u.fuses.ownerState })))

/-- The porter's commands: secrets and quotes, fuses and tokens (R425, R427, R430, R431, R434 to R437, R440). It rests on
choices of the model beside the rules, in assumptions 15 and 26. -/
def Obligations.PorterCommands : Prop := Claims.SecretsAndQuotes ∧ Claims.FusesAndTokens

/-- R430: SEC_CTRL.SVN_FW or SVN_SHORE, when its command ends, has raised the matching fuse count to the SVN of the running
image of that type, and to no more; a count that is there already is not written. -/
def Obligations.SvnFusesRaised : Prop :=
  ∀ (s : State) (src : Source) (shore : Bool),
    let f : Fd := if shore then .SEC_CTRL_SVN_SHORE else .SEC_CTRL_SVN_FW
    let c : Instr := if shore then .svnShore src else .svnFw src
    let svn := s.rd (if shore then .SEC_SVN_SHORE_RUN else .SEC_SVN_FW_RUN)
    let count (g : Fuses) := popcount 64 (if shore then g.shoreSvn else g.fwSvn)
    svn ≤ 64 → takes s src ⟨.SEC_CTRL, 0, 0⟩ (2 ^ f.spec.lo) → s.flag .SEC_STATUS_CMD_BUSY = false →
    ∃ (u v : State), exec c s = .next u ∧ exec .secCommandDone u = .next v ∧ count v.fuses = max (count s.fuses) svn ∧
      (svn ≤ count s.fuses → v.fuses = s.fuses) ∧
      v.fuses = if shore then { s.fuses with shoreSvn := v.fuses.shoreSvn } else { s.fuses with fwSvn := v.fuses.fwSvn }

/-! ### The journal, maintenance and the flash (spec/17_journal_calibration.md) -/

/-- The posted request of opcode `op` may be served now: the firmware runs, the journal is mounted, and no append of the
mailbox is held (R414, R447, R451). -/
def Sys2Proof.Claims.asked (s : State) (op : Nat) : Prop :=
  s.flag .LHS_MB_CTRL_REQ = true ∧ leNat (s.bufs.readN 0x21000 2) = op ∧ s.rd .LHS_STATUS_FW = 2 ∧
    s.flag .JRN_STATUS_MOUNTED = true ∧ s.jrn.held.any (·.2) = false

/-- JRN_STATUS.UNCAL says whether some calibration key takes its value from no record (R445). -/
def Sys2Proof.Claims.uncalTold (s : State) : Prop :=
  s.flag .JRN_STATUS_UNCAL = true ↔
    ∃ t k, (t = 0x20 ∧ k < 144 ∨ t = 0x21 ∧ k < 288 ∨ t = 0x22 ∧ k ≤ 12) ∧ (s.effective t k).1 = 0

/-- `c` appends a record for the mailbox: into the next slot of the active area, and answers its SEQ; STATUS 0x03 where the
area is full or 256 appends are held; and held, unanswered, while a compaction copies (R449, R451, R454). -/
def Sys2Proof.Claims.appends (s : State) (c : Instr) (type key : Nat) (value : List Nat) : Prop :=
  let used := s.rd .JRN_FILL_USED
  let seq := s.rd .JRN_SEQ_NEXT
  let slot := 0x00200000 + s.rd .JRN_STATUS_AREA * 0x00800000 + 64 * used
  let copying := 1 ≤ s.jrn.phase ∧ s.jrn.phase ≤ 4
  (¬copying → used < 131072 →
    ∃ (u v : State), exec c s = .next u ∧ answered v u 0 6 ∧ v.bufs = s.bufs ∧ u.bufs.readN 0x22010 6 = leBytes 6 seq ∧
      u.rd .JRN_FILL_USED = (used + 1) % 2 ^ Fd.JRN_FILL_USED.width ∧
      u.rd .JRN_SEQ_NEXT = (seq + 1) % 2 ^ Fd.JRN_SEQ_NEXT.width ∧
      (s.flashRead slot 64 = List.replicate 64 255 → u.flashRead slot 64 = (⟨seq, type, key, value⟩ : JRec).bytes) ∧
      uncalTold u ∧
      ∀ a k, a + k ≤ slot ∨ slot + 64 ≤ a → u.flashRead a k = s.flashRead a k) ∧
  (¬copying → 131072 ≤ used →
    ∃ (u v : State), exec c s = .next u ∧ answered v u 3 0 ∧ v.bufs = s.bufs ∧ u.rd .JRN_STATUS_FULL = 1 ∧
      u.flag .JRN_ERR_STATUS_FULL = true ∧ u.flash = s.flash) ∧
  (copying → s.jrn.held.length < 256 →
    ∃ u, exec c s = .next u ∧ u.jrn = { s.jrn with held := s.jrn.held ++ [(⟨0, type, key, value⟩, true)] } ∧
      uncalTold u ∧ regsBut s u [.JRN_STATUS] ∧ { u with jrn := s.jrn }.noRegs = s.noRegs) ∧
  (copying → 256 ≤ s.jrn.held.length → ∃ u, exec c s = .next u ∧ answered s u 3 0 ∧ u.jrn = s.jrn ∧ u.flash = s.flash)

/-- The journal's mailbox commands: a read answers the effective value of its key; writes, deletes and a return to the
factory values append; the option block is staged, then committed to the copy that did not boot where it is valid and
newer (R444, R445, R449, R451, R453 to R455). It rests on choices of the model beside the rules, in assumptions 16 and 38.
-/
def Obligations.JournalRequests : Prop :=
  ∀ s : State,
    let type := leNat (s.bufs.readN 0x21010 1)
    let key := leNat (s.bufs.readN 0x21011 8)
    let rlen := leNat (s.bufs.readN 0x21004 2)
    let len := leNat (s.bufs.readN 0x21019 1)
    let writable := (type = 0x20 ∧ key < 144 ∧ len = 7 ∨ type = 0x21 ∧ key < 288 ∧ len = 6 ∨ type = 0x22 ∧ key ≤ 12 ∧ len = 8 ∨
      type = 0x40 ∧ len ≤ 40) ∧ 10 + len ≤ rlen
    let deletable := type = 0x20 ∧ key < 144 ∨ type = 0x21 ∧ key < 288 ∨ type = 0x22 ∧ key ≤ 12 ∨ type = 0x40
    let no (c : Instr) (op : Nat) : Prop := ¬asked s op → exec c s = .next s
    let bad (c : Instr) : Prop := ∃ u, exec c s = .next u ∧ answered s u 2 0 ∧ u.jrn = s.jrn ∧ u.flash = s.flash
    no .jrnRead 0x30 ∧ no .jrnWrite 0x31 ∧ no .jrnDelete 0x32 ∧ no .restoreFactory 0x33 ∧ no .jrnCompact 0x34 ∧
    no .maintStart 0x35 ∧ no .maintCancel 0x36 ∧ no .optionWrite 0x37 ∧ no .optionCommit 0x38 ∧ no .maintLogRead 0x39 ∧
    (asked s 0x30 → type ∉ [0x20, 0x21, 0x22, 0x30, 0x40] → bad .jrnRead) ∧
    (asked s 0x30 → type ∈ [0x20, 0x21, 0x22, 0x30, 0x40] →
      (∀ src r, s.effective type key = (src, some r) →
        ∃ u, exec .jrnRead s = .next u ∧ answered s u 0 (8 + r.value.length) ∧
          u.bufs.readN 0x22010 8 = leBytes 1 src ++ leBytes 6 r.seq ++ leBytes 1 r.value.length ∧
          u.bufs.readN 0x22018 r.value.length = r.value.map (BitVec.ofNat 8)) ∧
      (∀ src, s.effective type key = (src, none) →
        ∃ u n, exec .jrnRead s = .next u ∧ n ≤ 40 ∧ answered s u 0 (8 + n) ∧ u.bufs.readN 0x22010 1 = leBytes 1 0)) ∧
    (asked s 0x31 → ¬writable → bad .jrnWrite) ∧
    (asked s 0x31 → writable → appends s .jrnWrite type key (byteNats (s.bufs.readN 0x2101A len))) ∧
    (asked s 0x32 → ¬deletable → bad .jrnDelete) ∧
    (asked s 0x32 → deletable → appends s .jrnDelete type key []) ∧
    (asked s 0x33 → appends s .restoreFactory 0x10 0 []) ∧
    (asked s 0x34 → ∃ (u v : State), exec .jrnCompact s = .next u ∧ v = s.mRequest 3 0 0 ∧ answered v u 0 4 ∧
      u.bufs.readN 0x22010 4 = leBytes 4 (v.mStatus 3 0)) ∧
    (let a := leNat (s.bufs.readN 0x21010 1)
     let i := leNat (s.bufs.readN 0x21011 1)
     (asked s 0x35 → mListed a i = false → bad .maintStart) ∧
     (asked s 0x35 → mListed a i = true →
        ∃ (u v : State), exec .maintStart s = .next u ∧ v = s.mRequest a i (leNat (s.bufs.readN 0x21012 1)) ∧ answered v u 0 4 ∧
          u.bufs.readN 0x22010 4 = leBytes 4 (v.mStatus a i)) ∧
     (asked s 0x36 → mListed a i = false → bad .maintCancel) ∧
     (asked s 0x36 → mListed a i = true →
        ∃ (u v : State), exec .maintCancel s = .next u ∧ v = s.mCancel a i ∧ answered v u 0 4) ∧
     (asked s 0x39 →
        (∀ r, liveIn s.journal 0x30 (a * 2 ^ 16 + i) = some r →
          ∃ u, exec .maintLogRead s = .next u ∧ answered s u 0 64 ∧ u.bufs.readN 0x22010 64 = r.bytes.map (BitVec.ofNat 8)) ∧
        (liveIn s.journal 0x30 (a * 2 ^ 16 + i) = none →
          ∃ u st, exec .maintLogRead s = .next u ∧ answered s u st 0 ∧ st < 5))) ∧
    (let off := leNat (s.bufs.readN 0x21010 2)
     let n := leNat (s.bufs.readN 0x21012 2)
     (asked s 0x37 → 4096 < off + n ∨ 4076 < n ∨ rlen < 4 + n → bad .optionWrite) ∧
     (asked s 0x37 → off + n ≤ 4096 → n ≤ 4076 → 4 + n ≤ rlen →
        ∃ u, exec .optionWrite s = .next u ∧ answered s u 0 0 ∧ u.flash = s.flash ∧
          (∀ i < n, SMap.get u.jrn.staged ⟨off + i, 0, 0⟩ 0 = leNat (s.bufs.readN (0x21014 + i) 1)) ∧
          ∀ j, j < off ∨ off + n ≤ j → SMap.get u.jrn.staged ⟨j, 0, 0⟩ 0 = SMap.get s.jrn.staged ⟨j, 0, 0⟩ 0)) ∧
    (let b := (List.range 4096).map fun i => SMap.get s.jrn.staged ⟨i, 0, 0⟩ 0
     let copy := s.rd .RST_BOOT_COPY
     let good := optionOk s.fuses b = true ∧ optionSeq (s.flashRead (0x10000 * copy) 4096) < optionSeq b
     (asked s 0x38 → ¬good → bad .optionCommit) ∧
     (asked s 0x38 → good → (∀ x ∈ b, x < 256) →
        ∃ u, exec .optionCommit s = .next u ∧ answered s u 0 1 ∧ u.bufs.readN 0x22010 1 = leBytes 1 (1 - copy) ∧
          u.flashRead (0x10000 * (1 - copy)) 4096 = b ∧
          ∀ a k, a + k ≤ 0x10000 * (1 - copy) ∨ 0x10000 * (1 - copy) + 0x10000 ≤ a → u.flashRead a k = s.flashRead a k))

/-- Flash commands and compaction: a sector is erased, bytes are programmed from 1 to 0, what R442 protects is refused
with ERR_JRN_FLASH, and where the journal is mounted JRN_STATUS.UNCAL follows; a compaction writes its AREA record and
every live record into the other area, and its COMMIT record makes that area the active one (R441, R442, R445, R450,
R451). It rests on choices of the model beside the rules, in assumptions 16 and 18. -/
def Obligations.FlashAndCompaction : Prop :=
  (∀ (s : State) (who : FlashSource) (a : Nat) (op : FlashOp),
    let base := a / 0x10000 * 0x10000
    let at_ := match op with
      | .program bs => (a, bs.length)
      | .erase => (base, 0x10000)
    let may := match who with
      | .firmware => s.rd .LHS_STATUS_FW = 2
      | .bootRom => s.rd .LHS_STATUS_FW = 1 ∨ s.rd .LHS_STATUS_FW = 3
      | .tap => s.boot.pwrok = true ∧ (s.tapMayFlash at_.1 at_.2 = true ∨ s.flashRefused .tap at_.1 at_.2 = true)
    (¬may → exec (.flashCommand who a op) s = .next s) ∧
    (may → s.flashRefused who at_.1 at_.2 = true →
      ∃ u, exec (.flashCommand who a op) s = .next u ∧ reports s u 0x0E 3 0xFFFF false) ∧
    (may → s.flashRefused who at_.1 at_.2 = false →
      ∃ u v, exec (.flashCommand who a op) s = .next u ∧ puts s u [(.JRN_STATUS_UNCAL, 0, 0, v)] ∧
        { u with flash := s.flash }.noRegs = s.noRegs ∧ (s.flag .JRN_STATUS_MOUNTED = true → uncalTold u) ∧
        (s.flag .JRN_STATUS_MOUNTED = false → { u with flash := s.flash } = s) ∧
        (∀ b k, b + k ≤ at_.1 ∨ at_.1 + at_.2 ≤ b → u.flashRead b k = s.flashRead b k) ∧
        (op = .erase → u.flashRead base 0x10000 = List.replicate 0x10000 255) ∧
        ∀ bs, op = .program bs → u.flashRead a bs.length = (bs.zip (s.flashRead a bs.length)).map fun x => Nat.land (x.1 % 256) x.2)) ∧
  (∀ s : State,
    let target := 1 - s.rd .JRN_STATUS_AREA
    let live := s.liveRecords
    let slot (i : Nat) := 0x00200000 + target * 0x00800000 + 64 * i
    (s.rd .JRN_MAINT_ST_STATE 0 96 ≠ 2 ∨ s.jrn.phase ≠ 0 ∨ s.flag .JRN_STATUS_MOUNTED = false →
      exec .compactionStart s = .next s) ∧
    (s.rd .JRN_MAINT_ST_STATE 0 96 = 2 → s.jrn.phase = 0 → s.flag .JRN_STATUS_MOUNTED = true →
      ∃ u, exec .compactionStart s = .next u ∧ u.jrn = { s.jrn with phase := 3, mark := s.rd .JRN_SEQ_NEXT } ∧
        { u with flash := s.flash, jrn := s.jrn } = s ∧
        u.flashRead (slot 0) 64 = (⟨s.rd .JRN_SEQ_NEXT, 0x01, 0,
          target :: List.replicate 7 0 ++ natBytes 8 (live.foldl (fun m r => max m r.seq) 0)⟩ : JRec).bytes ∧
        ∀ i r, i < 131071 → live[i]? = some r → u.flashRead (slot (i + 1)) 64 = r.bytes) ∧
    (s.jrn.phase ≠ 3 → exec .compactionCommit s = .next s) ∧
    (s.jrn.phase = 3 →
      let n := (s.areaRecords target).length - 1
      ∃ u, exec .compactionCommit s = .next u ∧ u.jrn = { s.jrn with phase := 6, held := [] } ∧
        u.rd .JRN_STATUS_AREA = target ∧
        (s.jrn.held = [] → u.rd .JRN_STATUS_FULL = 0 ∧ u.rd .JRN_FILL_USED = (n + 2) % 2 ^ Fd.JRN_FILL_USED.width ∧
          u.rd .JRN_SEQ_NEXT = (s.jrn.mark + 2) % 2 ^ Fd.JRN_SEQ_NEXT.width ∧ u.irqs = s.irqs ∧
          (s.flashRead (slot (n + 1)) 64 = List.replicate 64 255 →
            u.flashRead (slot (n + 1)) 64 = (⟨s.jrn.mark + 1, 0x02, 0, natBytes 4 n⟩ : JRec).bytes))))

/-- R442: a program or erase command that touches the factory calibration region, but for the production access, or an image
area, but from the boot ROM, writes nothing, sets JRN_ERR_STATUS.FLASH and reports ERR_JRN_FLASH with its offset in DETAIL
word 5. -/
def Obligations.FlashRefusals : Prop :=
  ∀ (s : State) (who : FlashSource) (a : Nat) (op : FlashOp),
    let lo := match op with
      | .program _ => a
      | .erase => a / 0x10000 * 0x10000
    let hi := match op with
      | .program bs => a + bs.length
      | .erase => lo + 0x10000
    let touches (b e : Nat) : Prop := ∃ x, lo ≤ x ∧ x < hi ∧ b ≤ x ∧ x < e
    let runs := match who with
      | .firmware => s.rd .LHS_STATUS_FW = 2
      | .bootRom => s.rd .LHS_STATUS_FW = 1 ∨ s.rd .LHS_STATUS_FW = 3
      | .tap => s.boot.pwrok = true
    runs → (touches 0x00100000 0x00200000 ∧ ¬(who = .tap ∧ s.boot.production = true)) ∨
      (touches 0x01200000 0x03600000 ∧ who ≠ .bootRom) →
    ∃ u e, exec (.flashCommand who a op) s = .next u ∧ u = s.report e ∧ e.cls = 0x0E ∧ e.index = 3 ∧ e.d5 = a ∧
      u.flag .JRN_ERR_STATUS_FLASH = true ∧ u.noRec = s.noRec

/-- R448: the candidate of a TYPE and KEY is the record of greatest SEQ; it is live unless its LEN is 0, it is of a
calibration type and a FACTORY_EPOCH record has a greater SEQ, or it is an AREA, COMMIT or FACTORY_EPOCH record. -/
def Obligations.LiveRecords : Prop :=
  ∀ (rs : List JRec) (type key : Nat) (r : JRec), (rs.map (·.seq)).Nodup →
    (liveIn rs type key = some r ↔
      r ∈ rs ∧ r.type = type ∧ r.key = key ∧ (∀ q ∈ rs, q.type = type → q.key = key → q.seq ≤ r.seq) ∧
      ¬(r.value.length = 0 ∨ (r.type ∈ [0x20, 0x21, 0x22] ∧ ∃ q ∈ rs, q.type = 0x10 ∧ r.seq < q.seq) ∨
        r.type ∈ [0x01, 0x02, 0x10]))

/-- Maintenance: a request is refused with its reason, or queued and started where nothing that runs excludes it; a queued
instance is cancelled, times out with ERR_JRN_QUEUE, or is taken by the scheduler; one that ends shows its outcome, a memory
test that has run to its end leaves its stack zero, and an eye scan ends FAILED with its port (R456 to R461). It rests on
choices of the model beside the rules, in assumptions 16 and 18. -/
def Obligations.MaintenanceRequests : Prop :=
  ∀ s : State,
    let quiet := ∀ b j, mListed b j = true → s.mState b j ≠ 1
    let ended (u : State) (a i last : Nat) : Prop := u.mState a i = 0 ∧ u.rd .JRN_MAINT_ST_LAST 0 (32 * a + i) = last
    let refused (u : State) (a i r : Nat) : Prop :=
      puts s u [(.JRN_MAINT_ST_LAST, 0, 32 * a + i, 3), (.JRN_MAINT_ST_REASON, 0, 32 * a + i, r)] ∧ u.noRegs = s.noRegs
    let dropped (u : State) (a i r : Nat) : Prop := puts s u [(.JRN_MAINT_ST_STATE, 0, 32 * a + i, 0),
      (.JRN_MAINT_ST_LAST, 0, 32 * a + i, 3), (.JRN_MAINT_ST_REASON, 0, 32 * a + i, r)] ∧ { u with jrn := s.jrn }.noRegs = s.noRegs
    (∀ (src : Source) (a i p : Nat), mListed a i = true → takes s src ⟨.JRN_MAINT_REQ, 0, 0⟩ (maintValue .JRN_MAINT_REQ_START a i p) →
      (s.mShown a i = 1 ∨ s.mShown a i = 2 → exec (.start src a i p) s = .next s) ∧
      (s.mShown a i ≠ 1 → s.mShown a i ≠ 2 → s.mReason a i ≠ 0 →
        ∃ u, exec (.start src a i p) s = .next u ∧ refused u a i (s.mReason a i)) ∧
      (s.mState a i ≠ 2 → s.mReason a i = 0 → quiet →
        ∃ u, exec (.start src a i p) s = .next u ∧ SMap.get u.jrn.params ⟨32 * a + i, 0, 0⟩ 0 = p % 256 ∧
          u.mState a i = (if (s.mBlocker a i).isSome then 1 else 2) ∧
          (a ≠ 2 → regsBut s u [.JRN_MAINT_ST]) ∧ (a ≠ 5 ∨ (s.mBlocker a i).isSome = true → u.mem = s.mem))) ∧
    (∀ (src : Source) (a i p : Nat), mListed a i = true → takes s src ⟨.JRN_MAINT_REQ, 0, 0⟩ (maintValue .JRN_MAINT_REQ_CANCEL a i p) →
      (s.mState a i = 1 → a ≠ 3 → ∃ u, exec (.cancel src a i p) s = .next u ∧ ended u a i 5) ∧
      (s.mState a i = 2 → a ∈ [1, 4, 5] → ∃ u, exec (.cancel src a i p) s = .next u ∧ ended u a i 5 ∧ (a = 5 → u.jobState = 5)) ∧
      (s.mState a i ≠ 1 → s.mState a i ≠ 2 ∨ a ∉ [1, 4, 5] → exec (.cancel src a i p) s = .next s)) ∧
    (quiet → exec .maintSchedule s = .next s) ∧
    (∀ a i, mListed a i = true → s.mState a i = 1 → a ≠ 0 → (∀ b j, mListed b j = true → (b, j) ≠ (a, i) → s.mState b j ≠ 1) →
      ((s.mBlocker a i).isSome = true → exec .maintSchedule s = .next s) ∧
      (s.mBlocker a i = none → s.mReason a i ≠ 0 → ∃ u, exec .maintSchedule s = .next u ∧ dropped u a i (s.mReason a i)) ∧
      (s.mBlocker a i = none → s.mReason a i = 0 →
        ∃ u, exec .maintSchedule s = .next u ∧ u.mState a i = 2 ∧ (a ≠ 2 → regsBut s u [.JRN_MAINT_ST]))) ∧
    (∀ a i, (mListed a i = false ∨ s.mState a i ≠ 1 → exec (.maintQueueTimeout a i) s = .next s) ∧
      (mListed a i = true → s.mState a i = 1 →
        ∃ u, exec (.maintQueueTimeout a i) s = .next u ∧ u.flag .JRN_ERR_STATUS_QUEUE = true ∧ (a ≠ 3 → ended u a i 4 ∧
          u.rd .SIG_STATUS_VOIDED = s.rd .SIG_STATUS_VOIDED))) ∧
    (∀ a i last reason recs vals,
      (mListed a i = false ∨ s.mState a i ≠ 2 → exec (.maintEnd a i last reason recs vals) s = .next s) ∧
      (a = 1 → mListed a i = true → s.mState a i = 2 → last = 1 → s.portUp i = true →
        ∃ u, exec (.maintEnd a i last reason recs vals) s = .next u ∧ ended u a i 1 ∧
          u.rd .TST_TEL_EYE_LANE 0 i = at0 vals 0 % 2 ^ Fd.TST_TEL_EYE_LANE.width ∧
          u.rd .TST_TEL_EYE_HEIGHT 0 i = at0 vals 1 % 2 ^ Fd.TST_TEL_EYE_HEIGHT.width ∧
          u.rd .TST_TEL_EYE_WIDTH 0 i = at0 vals 2 % 2 ^ Fd.TST_TEL_EYE_WIDTH.width) ∧
      (a = 5 → mListed a i = true → s.mState a i = 2 → reason = 0 → last = (if at0 vals 0 = 0 then 1 else 2) →
        ∃ u, exec (.maintEnd a i last reason recs vals) s = .next u ∧ ended u a i last ∧
          ∀ x < 0x018000000000, stackOf s.fuses.nStacks x = i → u.mem.read x = 0) ∧
      (a = 3 → i = 0 → s.mState a i = 2 → last = 1 → s.jrn.phase = 6 →
        ∃ u, exec (.maintEnd a i last reason recs vals) s = .next u ∧ u.jrn.phase = 0 ∧ u.rd .JRN_MAINT_ST_LAST 0 96 = 1 ∧
          u.flashRead (0x00200000 + (1 - s.rd .JRN_STATUS_AREA) * 0x00800000) 0x00800000 = List.replicate 0x00800000 255)) ∧
    (∀ p < 32, s.mState 1 p = 2 → s.portUp p = true → s.isOpen kPort p = true →
      ∃ u, exec (.laneLockLoss p) s = .next u ∧ ended u 1 p 2 ∧ u.rd .JRN_MAINT_ST_REASON 0 (32 + p) = 2) ∧
    (s.rd .LHS_STATUS_FW ≠ 2 → exec .eyeScanTimer s = .next s) ∧
    (s.rd .LHS_STATUS_FW = 2 → quiet →
      ∃ u, exec .eyeScanTimer s = .next u ∧ u.mem = s.mem ∧
        ∀ p < 32, (s.portFormed p = true → s.portUp p = true → u.mState 1 p = 1 ∨ u.mState 1 p = 2) ∧
          (s.portUp p = false → u.mState 1 p = s.mState 1 p))

/-! ### Loopbacks, self-tests and the test access port (spec/18_test.md) -/

/-- `u` with the times at which the maintenance instances entered their states as they were in `s` (R462). -/
def Sys2Proof.Claims.untimed (s u : State) : State := { u with jrn := { u.jrn with since := s.jrn.since } }

/-- Loopbacks and self-tests: a selection is taken where R464 allows it, holds the package in SCOURING where it is of
memory or of the bridges, and scours when it goes; a run counts its errors, and passes where none is above what R465
allows; a self-test starts where R467 allows it, and each unit ends PASSED or FAILED, with ERR_TST_BIST or ERR_TST_ARRAY
(R463 to R469). -/
def Sys2Proof.Claims.LoopbacksAndSelfTests : Prop :=
  (∀ (s : State) (src : Source) (k m p : Nat), k < 8 → m < 8 → p < 32 →
    takes s src ⟨.TST_LB_CTRL, 0, 0⟩ (k * 2 ^ 12 + m * 2 ^ 9 + p) →
    let c : Instr := .loopbackSelect src k m p
    let same := k = s.lbKind ∧ m = s.lbMode ∧ p = s.lbPort
    let new : List (Fd × Nat × Nat × Nat) := [(.TST_LB_CTRL_KIND, 0, 0, k), (.TST_LB_CTRL_MODE, 0, 0, m), (.TST_LB_CTRL_PORT, 0, 0, p)]
    let allowed := s.rd .TST_BIST_STATUS_RUNNING = 0 ∧ (if k = 1 then s.portRole p ≠ 0 ∧ s.portState p = 0
      else s.jobState = 0 ∧ (k = 2 → ∀ i < 16, s.mState 5 i ≠ 2))
    (s.flag .TST_LB_CTRL_RUN = true ∨ same → exec c s = .next s) ∧
    (s.flag .TST_LB_CTRL_RUN = false → ¬same → k ≠ 0 → m ≠ 0 → ¬allowed →
      ∃ u, exec c s = .next u ∧ u.flag .TST_ERR_STATUS_STATE = true ∧ u.noInt = s.noInt ∧ regsBut s u [.TST_ERR_STATUS, .HST_PBA]) ∧
    (s.flag .TST_LB_CTRL_RUN = false → ¬same → k ≠ 0 → m ≠ 0 → allowed → s.lbSelected = false →
      (k = 1 → ∃ u, exec c s = .next u ∧ onlyPuts s u new) ∧
      (k ≠ 1 → ∃ u, exec c s = .next u ∧ puts s u (new ++ [(.HST_STATUS_JOB_STATE, 0, 0, 5)]) ∧ (untimed s u).noRegs = s.noRegs)) ∧
    (s.flag .TST_LB_CTRL_RUN = false → ¬same → k = 0 ∨ m = 0 → s.lbSelected = true →
      (s.lbKind = 1 → (∀ q < 32, s.portState q = 0 → s.flag .TWY_PORT_STATUS_PENDING_ENABLE q = false) →
        ∃ u, exec c s = .next u ∧ onlyPuts s u new) ∧
      (s.lbKind ≠ 1 → ∃ u, exec c s = .next u ∧ u.lbKind = k ∧ u.lbMode = m ∧ u.jobState = 5 ∧ u.hst.order = 3))) ∧
  (∀ (s : State) (src : Source), s.lbKind < 8 → s.lbMode < 8 → s.lbPort < 32 →
    takes s src ⟨.TST_LB_CTRL, 0, 0⟩ (withField s ⟨.TST_LB_CTRL, 0, 0⟩ .TST_LB_CTRL_RUN 1) →
    (s.flag .TST_LB_STATUS_BUSY = true → exec (.run src) s = .next s) ∧
    (s.flag .TST_LB_STATUS_BUSY = false →
      ∃ u, exec (.run src) s = .next u ∧ onlyPuts s u (((List.range 72).map fun i => (.TST_LB_ERR_COUNT, 0, i, 0)) ++
        [(.TST_LB_CTRL_RUN, 0, 0, 1), (.TST_LB_STATUS_BUSY, 0, 0, 1), (.TST_LB_STATUS_PASS, 0, 0, 0), (.TST_LB_STATUS_FAIL, 0, 0, 0),
         (.TST_LB_STATUS_COUNTERS, 0, 0, s.lbCounters), (.TST_LB_BITS_COUNT, 0, 0, 0)]))) ∧
  (∀ (s : State) (n : Nat) (errs : List Nat),
    let most := if s.lbKind = 1 ∧ (s.lbMode = 3 ∨ s.lbMode = 4) then n / 2 ^ 20 else 0
    let count (i : Nat) : Nat := min (errs.getD i 0) (2 ^ 32 - 1)
    let pass := ∀ i < s.lbCounters, count i ≤ most
    (s.flag .TST_LB_CTRL_RUN = false → exec (.loopbackEnd n errs) s = .next s) ∧
    (s.flag .TST_LB_CTRL_RUN = true →
      ∃ u, exec (.loopbackEnd n errs) s = .next u ∧ u.rd .TST_LB_CTRL_RUN = 0 ∧ u.rd .TST_LB_STATUS_BUSY = 0 ∧
        u.rd .TST_LB_BITS_COUNT = n % 2 ^ 64 ∧ u.flag .TST_STATUS_LB_DONE = true ∧
        (∀ i < 72, i < s.lbCounters → u.rd .TST_LB_ERR_COUNT 0 i = count i) ∧
        (pass → u.rd .TST_LB_STATUS_PASS = 1 ∧ u.rd .TST_LB_STATUS_FAIL = 0 ∧ u.errSeq = s.errSeq) ∧
        (¬pass → u.rd .TST_LB_STATUS_PASS = 0 ∧ u.rd .TST_LB_STATUS_FAIL = 1 ∧ u.flag .TST_ERR_STATUS_LOOPBACK = true ∧
          u.errSeq = (s.errSeq + 1) % 2 ^ 32) ∧
        u.rd .SIG_STATUS_VOIDED = s.rd .SIG_STATUS_VOIDED ∧ u.noRec = s.noRec)) ∧
  (∀ (s : State) (src : Source) (v : Nat), takes s src ⟨.TST_BIST_CTRL, 0, 0⟩ v →
    let named (i : Nat) : Bool := hasBit (fv .TST_BIST_CTRL_UNITS v) i
    let runs (i : Nat) : Bool := hasBit (s.rd .TST_BIST_STATUS_RUNNING) i
    let starts (i : Nat) : Bool := named i && !runs i && s.bistAllowed i
    ∃ u, exec (.bistStart src v) s = .next u ∧
      (∀ i < 4, hasBit (u.rd .TST_BIST_STATUS_RUNNING) i = (runs i || named i && s.bistAllowed i)) ∧
      (∀ i < 4, named i = true → runs i = false → s.bistAllowed i = true →
        hasBit (u.rd .TST_BIST_STATUS_PASSED) i = false ∧ hasBit (u.rd .TST_BIST_STATUS_FAILED) i = false ∧
        u.rd .TST_BIST_FAIL_COUNT = 0) ∧
      ((∃ i < 4, named i = true ∧ runs i = false ∧ s.bistAllowed i = false) → u.flag .TST_ERR_STATUS_STATE = true) ∧
      (starts 0 = false → starts 1 = false → (untimed s u).noInt = s.noInt) ∧
      (starts 0 = false →
        ∀ a, (∀ t < s.nTiles, a < tileBase t + 0x60000 ∨ tileBase t + 0x70000 ≤ a) → u.mem.read a = s.mem.read a) ∧
      ∀ a, (∀ t < s.nTiles, a < tileBase t ∨ tileBase t + 0x80000 ≤ a) → u.mem.read a = s.mem.read a) ∧
  (∀ (s : State) (fails : List (Nat × Nat × Nat)),
    let run := s.rd .TST_BIST_STATUS_RUNNING
    let bad (i : Nat) : Bool := fails.any fun f => f.1 == i && (i != 1 || f.2.1 < s.nTiles)
    (run = 0 → exec (.bistEnd fails) s = .next s) ∧
    (run ≠ 0 →
      ∃ u, exec (.bistEnd fails) s = .next u ∧ u.rd .TST_BIST_STATUS_RUNNING = 0 ∧ u.flag .TST_STATUS_BIST_DONE = true ∧
        (∀ i < 4, hasBit run i = true →
          hasBit (u.rd .TST_BIST_STATUS_PASSED) i = (hasBit (s.rd .TST_BIST_STATUS_PASSED) i || !bad i) ∧
          hasBit (u.rd .TST_BIST_STATUS_FAILED) i = (hasBit (s.rd .TST_BIST_STATUS_FAILED) i || bad i) ∧
          (bad i = true → (if i = 1 then u.flag .TST_ERR_STATUS_ARRAY else u.flag .TST_ERR_STATUS_BIST) = true)) ∧
        ((∀ f ∈ fails, hasBit run f.1 = false) → u.errSeq = s.errSeq) ∧
        (hasBit run 0 = true → ∀ t < s.nTiles, ∀ a, tileBase t ≤ a → a < tileBase t + 0x80000 → u.mem.read a = 0) ∧
        (hasBit run 0 = false → u.mem = s.mem) ∧
        (hasBit run 1 = true → ∀ t < s.nTiles, (∀ f ∈ fails, ¬(f.1 = 1 ∧ f.2.1 = t)) →
          SMap.get u.signatures ⟨t, 0, 0⟩ 0 = arraySignature) ∧
        (hasBit run 1 = false → u.signatures = s.signatures ∧ u.fresh = s.fresh) ∧ u.errHeld = [] ∧
        { untimed s u with mem := s.mem, signatures := s.signatures, fresh := s.fresh }.noRec = s.noRec))

/-- The test access port: each instruction is selected while PWROK is high, what the registers had captured comes out,
and it does nothing else but what R470 gives it: the boundary register, a refusal of the pins while the package holds a
job, the debug module's hold on Lighthouse where a token has granted it, and the instruments (R470 to R473). -/
def Sys2Proof.Claims.TestAccessPort : Prop :=
  ∀ s : State,
    let id := Config.stepping % 16 * 2 ^ 28 + 0x7A04 * 2 ^ 12 + Config.jep106 % 2 ^ 11 * 2 + 1
    let captured := 1 + 4 * b2n s.tap.refused
    let with_ (ir : Nat) : State := { s with tap := { s.tap with
      ir := ir, irOut := captured, drOut := if ir = 0x01 then id else if ir = 0xFF then 0 else s.tap.drOut } }
    let off (c : Instr) : Prop := s.boot.pwrok = false → exec c s = .next s
    let selects (c : Instr) (ir : Nat) : Prop := off c ∧ (s.boot.pwrok = true → exec c s = .next (with_ ir))
    let drives (c : Instr) (ir : Nat) : Prop := off c ∧ (s.boot.pwrok = true →
      (s.jobState = 0 ∨ s.jobState = 5 ∨ s.boot.order < 7 →
        exec c s = .next { s with tap := { s.tap with ir := ir, irOut := captured, refused := false } }) ∧
      (s.jobState ≠ 0 → s.jobState ≠ 5 → 7 ≤ s.boot.order →
        exec c s = .next { s with tap := { s.tap with ir := ir, irOut := captured, refused := true } }))
    let runs := s.flag .TST_LB_STATUS_BUSY = true ∧ s.flag .TST_LB_CTRL_RUN = false
    off .tapReset ∧ (s.boot.pwrok = true → exec .tapReset s = .next { s with tap := { s.tap with ir := 0x01, drOut := id } }) ∧
    selects .idcode 0x01 ∧ selects .bypass 0xFF ∧
    (∀ cells, off (.samplePreload cells) ∧ (s.boot.pwrok = true →
      ∃ free, exec (.samplePreload cells) s = .next { s with
        fresh := s.fresh + 1,
        tap := { s.tap with ir := 0x02, irOut := captured, drOut := s.sampledPins free, boundary := cells } })) ∧
    drives .extest 0x03 ∧ drives .clamp 0x04 ∧ drives .highz 0x05 ∧
    (∀ x ∈ [Instrument.temp, .clocks, .flash, .analog], selects (.ijtag x) 0x10) ∧
    (∀ mode, off (.ijtag (.pcieLb mode)) ∧ (s.boot.pwrok = true → mode ≤ 2 →
      (runs → exec (.ijtag (.pcieLb mode)) s = .next (with_ 0x10)) ∧
      (¬runs → mode = 0 ∨ s.jobState = 0 →
        exec (.ijtag (.pcieLb mode)) s = .next { with_ 0x10 with tap := { (with_ 0x10).tap with pcieLb := mode } }) ∧
      (¬runs → mode ≠ 0 → s.jobState ≠ 0 →
        ∃ u, exec (.ijtag (.pcieLb mode)) s = .next u ∧ u.flag .TST_ERR_STATUS_STATE = true ∧ u.noInt = (with_ 0x10).noInt ∧
          regsBut s u [.TST_ERR_STATUS, .HST_PBA]))) ∧
    off (.ijtag .pcieRun) ∧
    (s.boot.pwrok = true →
      (s.tap.pcieLb = 0 ∨ s.flag .TST_LB_STATUS_BUSY = true → exec (.ijtag .pcieRun) s = .next (with_ 0x10)) ∧
      (s.tap.pcieLb ≠ 0 → s.flag .TST_LB_STATUS_BUSY = false →
        ∃ u, exec (.ijtag .pcieRun) s = .next u ∧ onlyPuts (with_ 0x10) u (((List.range 72).map fun i => (.TST_LB_ERR_COUNT, 0, i, 0)) ++
          [(.TST_LB_STATUS_BUSY, 0, 0, 1), (.TST_LB_STATUS_PASS, 0, 0, 0), (.TST_LB_STATUS_FAIL, 0, 0, 0),
           (.TST_LB_STATUS_COUNTERS, 0, 0, 16), (.TST_LB_BITS_COUNT, 0, 0, 0)]))) ∧
    (∀ n (errs : List Nat), off (.ijtag (.pcieEnd n errs)) ∧ (s.boot.pwrok = true →
      (¬runs → exec (.ijtag (.pcieEnd n errs)) s = .next (with_ 0x10)) ∧
      (runs → ∃ u, exec (.ijtag (.pcieEnd n errs)) s = .next u ∧ u.rd .TST_LB_STATUS_BUSY = 0 ∧ u.rd .TST_LB_BITS_COUNT = n % 2 ^ 64 ∧
        u.flag .TST_STATUS_LB_DONE = true ∧ (∀ i < 16, u.rd .TST_LB_ERR_COUNT 0 i = min (errs.getD i 0) (2 ^ 32 - 1)) ∧
        ((∀ i < 16, errs.getD i 0 = 0) → u.rd .TST_LB_STATUS_PASS = 1 ∧ u.rd .TST_LB_STATUS_FAIL = 0 ∧ u.errSeq = s.errSeq) ∧
        ((∃ i < 16, errs.getD i 0 ≠ 0) → u.rd .TST_LB_STATUS_PASS = 0 ∧ u.rd .TST_LB_STATUS_FAIL = 1 ∧
          u.flag .TST_ERR_STATUS_LOOPBACK = true) ∧ u.noRec = (with_ 0x10).noRec))) ∧
    (∀ x, off (.ijtag (.sramDie x)) ∧ (s.boot.pwrok = true →
      (s.instrumentsOpen = false → exec (.ijtag (.sramDie x)) s = .next (with_ 0x10)) ∧
      (s.instrumentsOpen = true → ∃ u, exec (.ijtag (.sramDie x)) s = .next u ∧
        (∀ slot ws, x = .record slot ws → SMap.get u.errRing ⟨slot, 0, 0⟩ [] = ws ∧
          (∀ i, i ≠ slot → SMap.get u.errRing ⟨i, 0, 0⟩ [] = SMap.get s.errRing ⟨i, 0, 0⟩ []) ∧
          { u with errRing := s.errRing } = with_ 0x10) ∧
        (∀ gs, x = .guards gs → u = { with_ 0x10 with guards := gs }) ∧
        (∀ p fs, x = .replay p fs → u.link p = { s.link p with replay := fs } ∧ (∀ q, q ≠ p → u.link q = s.link q) ∧
          { u with links := s.links } = with_ 0x10) ∧
        (∀ d c k b, x = .book d c k b → SMap.get u.books ⟨d, c, k⟩ none = b ∧ { u with books := s.books } = with_ 0x10) ∧
        (∀ st j y ways, x = .survey st j y ways → SMap.get (u.shingle st).table ⟨j, y, 0⟩ Codec.emptySet = ways ∧
          { u with shingles := s.shingles } = with_ 0x10)))) ∧
    (∀ vs, off (.ijtag (.scan vs)) ∧ (s.boot.pwrok = true →
      (s.instrumentsOpen = false → exec (.ijtag (.scan vs)) s = .next (with_ 0x10)) ∧
      (s.instrumentsOpen = true → ∃ u, exec (.ijtag (.scan vs)) s = .next u ∧ u.noRegs = (with_ 0x10).noRegs ∧
        regsBut s u (vs.map fun x => (Fd.ofNat x.1).spec.reg) ∧
        (∀ f i x, f.spec.reg.spec.block = .SEC → u.rd f i x = s.rd f i x) ∧
        ∀ n i x v, vs = [(n, i, x, v)] → (Fd.ofNat n).spec.reg.spec.block ≠ .SEC →
          u.rd (Fd.ofNat n) i x = v % 2 ^ (Fd.ofNat n).width))) ∧
    (∀ t o a (bs : List Nat), off (.ijtag (.sramDirect a bs)) ∧ (s.boot.pwrok = true → s.target a = .tile t o →
      o % 0x80000 + bs.length ≤ 0x80000 →
      (s.instrumentsOpen = true → ∃ u, exec (.ijtag (.sramDirect a bs)) s = .next u ∧
        stored s.mem u.mem a (bs.map (BitVec.ofNat 8)) ∧ { u with mem := s.mem } = with_ 0x10) ∧
      (s.instrumentsOpen = false → exec (.ijtag (.sramDirect a bs)) s = .next (with_ 0x10)))) ∧
    (∀ op, off (.debug op) ∧ (s.boot.pwrok = true →
      let granted := hasBit (s.rd .SEC_DEBUG_CAPS) 0 = true ∧ s.rd .LHS_STATUS_FW = (if op = .halt then 2 else 4)
      (granted → ∃ u, exec (.debug op) s = .next u ∧ puts s u [(.LHS_STATUS_FW, 0, 0, if op = .resume then 2 else 4)] ∧
        u.tap = (with_ 0x11).tap ∧
        { u with tap := s.tap, fresh := s.fresh, lhs := { u.lhs with core := s.lhs.core } }.noRegs = s.noRegs ∧
        (op = .resume → u.lhs = s.lhs ∧ u.fresh = s.fresh)) ∧
      (¬granted → exec (.debug op) s = .next (with_ 0x11))))

/-- Loopbacks, self-tests and the test access port (R463 to R473). It rests on choices of the model beside the rules, in
assumptions 17 and 38. -/
def Obligations.TestsAndLoopbacks : Prop := Claims.LoopbacksAndSelfTests ∧ Claims.TestAccessPort

/-! ### The whole package -/

/-- An error report: the record of eight words goes into the ring at HEAD, which moves on, or is counted in
SIG_ERR_DROPPED while the ring is full, and sets SIG_STATUS.RECORD, or it is held while a self-test of the I/O dies has
the ring aside; either way it takes the next SEQ; an INDEX below 0x80 sets its bit of the block's ERR_STATUS; a record
with VOID sets SIG_STATUS.VOIDED. Nothing else changes (R226, R236, R237, R239, R467). It rests on choices of the model
beside the rules, in assumptions 30 and 38. -/
def Obligations.ErrorReports : Prop :=
  ∀ (s : State) (e : Err),
    let head := s.rd .SIG_ERR_HEAD_HEAD
    let u := s.report e
    let full := (head + 1) % 256 = s.rd .SIG_ERR_TAIL_TAIL
    let aside := hasBit (s.rd .TST_BIST_STATUS_RUNNING) 2 = true
    let words := [s.time.toNat, s.rd .SIG_TIDEMARK_TIDEMARK,
      s.errSeq * 2 ^ 32 + s.rd .TIDE_ATTEMPT_ATTEMPT * 2 ^ 24 + b2n e.void * 2 ^ 23 + e.cls * 2 ^ 8 + e.index,
      e.inst % 2 ^ 16 * 2 ^ 48 + e.objKind * 2 ^ 44 + e.obj % 2 ^ 32,
      e.waiterKind * 2 ^ 60 + min e.waiters 0xFFFF * 2 ^ 32 + e.waiter % 2 ^ 32,
      e.d5 % 2 ^ 64, e.d6 % 2 ^ 64, e.d7 % 2 ^ 64]
    u.errSeq = (s.errSeq + 1) % 2 ^ 32 ∧
    (aside → u.errHeld = s.errHeld ++ [words] ∧ u.errRing = s.errRing ∧ u.rd .SIG_ERR_HEAD_HEAD = head ∧
      u.rd .SIG_ERR_DROPPED_COUNT = s.rd .SIG_ERR_DROPPED_COUNT ∧ u.rd .SIG_STATUS_RECORD = s.rd .SIG_STATUS_RECORD) ∧
    (¬aside → u.rd .SIG_STATUS_RECORD = 1 ∧ u.errHeld = s.errHeld) ∧
    (¬aside → ¬full → u.rd .SIG_ERR_HEAD_HEAD = (head + 1) % 256 ∧ u.rd .SIG_ERR_DROPPED_COUNT = s.rd .SIG_ERR_DROPPED_COUNT ∧
      SMap.get u.errRing ⟨head, 0, 0⟩ [] = words ∧
      ∀ i, i ≠ head → SMap.get u.errRing ⟨i, 0, 0⟩ [] = SMap.get s.errRing ⟨i, 0, 0⟩ []) ∧
    (¬aside → full → u.rd .SIG_ERR_HEAD_HEAD = head ∧ u.errRing = s.errRing ∧
      u.rd .SIG_ERR_DROPPED_COUNT = satNat Fd.SIG_ERR_DROPPED_COUNT.width (s.rd .SIG_ERR_DROPPED_COUNT + 1)) ∧
    (e.void = true → u.rd .SIG_STATUS_VOIDED = 1) ∧
    (e.void = false → u.rd .SIG_STATUS_VOIDED = s.rd .SIG_STATUS_VOIDED ∧ u.cause = s.cause) ∧
    (∀ f, e.index < 0x80 → errField e.cls e.index = some f → u.flag f (errInst e.cls e.inst) = true) ∧
    (¬aside → s.flag .SIG_INT_EN_RECORD = true → s.flag .HST_MSIX_MASK 0 1 = false → 1 ∈ u.irqs) ∧
    (∀ r, errReg e.cls = some r → regsBut s u [r, .SIG_ERR_HEAD, .SIG_ERR_DROPPED, .SIG_STATUS, .HST_PBA]) ∧ u.noRec = s.noRec

/-- Every command answers a next state, with the commands behind it still waiting, in every state; and no command but
the end of a porter command changes a fuse (R425). It rests on choices of the model beside the rules, in assumption 1. -/
def Obligations.CommandsGoOn : Prop :=
  ∀ (c : Instr) (s : State),
    ∃ u, exec c s = .next u ∧ u.pending = s.pending ∧ (c ≠ .secCommandDone → u.fuses = s.fuses)

/-- Fuses as a package may carry them: an assembly of R2 and R242, and thermometer counts (R425). -/
def Sys2Proof.Claims.fusesLegal (f : Fuses) : Prop :=
  f.nStacks ∈ [8, 12, 16] ∧ f.ioDies ∈ [2, 4] ∧ (∃ k ≤ 64, f.fwSvn = 2 ^ k - 1) ∧ ∃ k ≤ 64, f.shoreSvn = 2 ^ k - 1

/-- Fuses are one-time, over every step of the package: legal fuses stay legal; what names the package stays as it is; no
blown bit of the counts, of FOUNDATION_REVOKED or, with a record that R431 accepts, of OWNER_STATE is taken back (R425).
It rests on choices of the model beside the rules, in assumption 4. -/
def Obligations.FusesStayBlown : Prop :=
  ∀ s u : State, Claims.fusesLegal s.fuses → step s = .next u →
    Claims.fusesLegal u.fuses ∧ u.fuses.serial = s.fuses.serial ∧ u.fuses.ident = s.fuses.ident ∧
    u.fuses.deviceSeed = s.fuses.deviceSeed ∧ u.fuses.capW = s.fuses.capW ∧
    (∀ i, hasBit s.fuses.fwSvn i = true → hasBit u.fuses.fwSvn i = true) ∧
    (∀ i, hasBit s.fuses.shoreSvn i = true → hasBit u.fuses.shoreSvn i = true) ∧
    (s.fuses.foundationRevoked = true → u.fuses.foundationRevoked = true) ∧
    ((∀ op slot hash key, s.sec.cmd = some (.enrol op slot hash key) → op ≠ 2 → Fuses.slotState s.fuses.ownerState slot = 0) →
      ∀ i < 8, hasBit s.fuses.ownerState i = true → hasBit u.fuses.ownerState i = true)

/-- The machine right after reset: legal fuses, memory in its canonical form, no command waiting; SCOURING, with no
scour under way; PWROK low; every context at rest and every core free; every port OFF; every stack not trained; and
registers at their reset values (R393, R425). The fuses' values, and what stands where the spec gives no reset value,
are the model's own (assumptions 4 and 9). It rests on choices of the model beside the rules, in assumptions 4 and 9. -/
def Obligations.ResetState : Prop :=
  let s := State.reset
  Claims.fusesLegal s.fuses ∧ s.mem.wf = true ∧ s.pending = [] ∧ s.jobState = 5 ∧ s.boot.pwrok = false ∧ s.boot.order = 0 ∧
  s.hst.order = 0 ∧ s.errSeq = 0 ∧ s.irqs = [] ∧
  (∀ t c, s.ctx t c = Ctx.init ∧ s.rd .TILE_CTX_CTRL_RUN t c = 0) ∧ (∀ t, SMap.get s.current ⟨t, 0, 0⟩ 0 = 0) ∧
  (∀ p, s.portState p = 0) ∧ (∀ st, s.flag .MEM_STATUS_TRAINED st = false) ∧ (∀ t, s.rd .TILE_WATERLINE_LEVEL t = 20) ∧
  s.rd .SIG_TIDEMARK_TIDEMARK = 0 ∧ s.rd .SIG_STATUS_VOIDED = 0 ∧ s.rd .SIG_ERR_HEAD_HEAD = 0 ∧ s.rd .TST_LB_TIME_TIME_MS = 1000 ∧
  s.rd .LHS_STATUS_FW = 0 ∧ s.rd .SEC_DEBUG_CAPS = 0

end
end

