-- ==== Sys2Proof/Laws/Memory.lean ====
section
/-! SUPPORT. The laws of memory: a byte read after it was written is the byte written, a write leaves every other byte
alone, and every operation keeps the canonical form. -/
namespace Sys2Proof.Machine

namespace Memory

/-! ### The cells -/

theorem lookup_insert (cs : List Host.Cell) (a b : Nat) (v : Byte) :
    lookup (insert cs a v) b = if a = b then some v else lookup cs b := by
  induction cs with
  | nil => simp [insert, lookup]
  | cons c cs ih =>
    obtain ⟨k, w⟩ := c
    unfold insert
    split
    · rename_i h; subst h; by_cases hb : k = b <;> simp [lookup, hb]
    · split
      · by_cases hb : k = b
        · subst hb; rename_i h _; simp [lookup, Ne.symm h]
        · simp [lookup, hb, ih]
      · simp [lookup]

theorem lookup_filter (cs : List Host.Cell) (q : Nat → Bool) (b : Nat) :
    lookup (cs.filter fun c => q c.1) b = if q b then lookup cs b else none := by
  induction cs with
  | nil => simp [lookup]
  | cons c cs ih =>
    obtain ⟨k, w⟩ := c
    by_cases hk : q k = true
    · by_cases hb : k = b
      · subst hb; simp [lookup, List.filter, hk]
      · simp [lookup, List.filter, hk, hb, ih]
    · by_cases hb : k = b
      · subst hb; simp [List.filter, hk, ih]
      · simp [lookup, List.filter, hk, hb, ih]

theorem lookup_erase (cs : List Host.Cell) (a b : Nat) :
    lookup (erase cs a) b = if b = a then none else lookup cs b := by
  unfold erase
  rw [lookup_filter cs (fun k => decide (k ≠ a))]
  by_cases h : b = a <;> simp [h]

/-! ### Reads after writes -/

@[simp] theorem write_zones (m : Memory) (a : Nat) (v : Byte) : (m.write a v).zones = m.zones := by
  unfold write; split <;> rfl

@[simp] theorem write_bad (m : Memory) (a : Nat) (v : Byte) : (m.write a v).bad = m.bad := by
  unfold write; split <;> rfl

theorem lostAt_congr {m n : Memory} (h : m.zones = n.zones) (a : Nat) : m.lostAt a = n.lostAt a := by
  unfold lostAt zoneOf; rw [h]

theorem unlisted_congr {m n : Memory} (h : m.zones = n.zones) (a : Nat) : m.unlisted a = n.unlisted a := by
  unfold unlisted; rw [lostAt_congr h]

/-- A byte read after a write: the byte written at its address, the byte before anywhere else. -/
theorem read_write (m : Memory) (a b : Nat) (v : Byte) :
    (m.write a v).read b = if b = a then v else m.read b := by
  unfold read
  rw [unlisted_congr (write_zones m a v)]
  unfold write
  split
  · rename_i h
    by_cases hb : b = a
    · subst hb; simp [lookup_erase, unlisted, h.1, h.2]
    · simp [lookup_erase, hb]
  · by_cases hb : b = a
    · subst hb; simp [lookup_insert]
    · simp [lookup_insert, hb, Ne.symm hb]

@[simp] theorem read_write_self (m : Memory) (a : Nat) (v : Byte) : (m.write a v).read a = v := by simp [read_write]

theorem read_write_ne (m : Memory) {a b : Nat} (v : Byte) (h : b ≠ a) : (m.write a v).read b = m.read b := by
  simp [read_write, h]

/-- Bytes outside a span that is written read as before. -/
theorem read_writeN_out (m : Memory) (a b : Nat) (vs : List Byte) (h : b < a ∨ a + vs.length ≤ b) :
    (m.writeN a vs).read b = m.read b := by
  induction vs generalizing m a with
  | nil => rfl
  | cons v vs ih =>
    rw [writeN, ih]
    · refine read_write_ne m v ?_; simp at h; omega
    · simp at h; omega

@[simp] theorem writeN_zones (m : Memory) (a : Nat) (vs : List Byte) : (m.writeN a vs).zones = m.zones := by
  induction vs generalizing m a with
  | nil => rfl
  | cons v vs ih => rw [writeN, ih]; simp

@[simp] theorem writeN_bad (m : Memory) (a : Nat) (vs : List Byte) : (m.writeN a vs).bad = m.bad := by
  induction vs generalizing m a with
  | nil => rfl
  | cons v vs ih => rw [writeN, ih]; simp

/-- The bytes of a span that has just been written are the bytes written. -/
theorem readN_writeN (m : Memory) (a : Nat) (vs : List Byte) : (m.writeN a vs).readN a vs.length = vs := by
  induction vs generalizing m a with
  | nil => rfl
  | cons v vs ih =>
    simp only [List.length_cons, readN, writeN]
    rw [ih, read_writeN_out _ _ _ _ (Or.inl (by omega)), read_write_self]

@[simp] theorem readN_length (m : Memory) (a n : Nat) : (m.readN a n).length = n := by
  induction n generalizing a with
  | zero => rfl
  | succ n ih => simp [readN, ih]

/-! ### The canonical form -/

/-- Every listed zero lies where an unlisted byte would be free. -/
def listedOk (m : Memory) (c : Host.Cell) : Bool := decide (c.2 ≠ 0) || (m.lostAt c.1).isSome

theorem rising_iff (cs : List Host.Cell) : rising cs = true ↔ cs.Pairwise fun x y => x.1 < y.1 := by
  induction cs with
  | nil => simp [rising]
  | cons c cs ih =>
    cases cs with
    | nil => simp [rising]
    | cons d ds =>
      obtain ⟨a, u⟩ := c
      obtain ⟨b, v⟩ := d
      simp only [rising, Bool.and_eq_true, decide_eq_true_eq]
      rw [ih]
      constructor
      · rintro ⟨hab, hp⟩
        refine List.Pairwise.cons ?_ hp
        intro y hy
        rcases List.mem_cons.1 hy with rfl | hy
        · exact hab
        · exact Nat.lt_trans hab (List.rel_of_pairwise_cons hp hy)
      · intro hp
        exact ⟨List.rel_of_pairwise_cons hp (List.mem_cons_self), (List.pairwise_cons.1 hp).2⟩

theorem wf_iff (m : Memory) :
    m.wf = true ↔ (m.cells.Pairwise fun x y => x.1 < y.1) ∧ ∀ c ∈ m.cells, m.listedOk c = true := by
  unfold wf
  rw [Bool.and_eq_true, rising_iff, List.all_eq_true]
  rfl

theorem mem_insert (cs : List Host.Cell) (a : Nat) (v : Byte) (c : Host.Cell) (h : c ∈ insert cs a v) :
    c = (a, v) ∨ c ∈ cs := by
  induction cs with
  | nil => simpa [insert] using h
  | cons d cs ih =>
    obtain ⟨k, w⟩ := d
    unfold insert at h
    split at h
    · rcases List.mem_cons.1 h with h | h
      · exact .inl h
      · exact .inr (List.mem_cons_of_mem _ h)
    · split at h
      · rcases List.mem_cons.1 h with h | h
        · exact .inr (h ▸ List.mem_cons_self)
        · exact (ih h).imp id (List.mem_cons_of_mem _)
      · rcases List.mem_cons.1 h with h | h
        · exact .inl h
        · exact .inr h

theorem pairwise_insert (cs : List Host.Cell) (a : Nat) (v : Byte) (h : cs.Pairwise fun x y => x.1 < y.1) :
    (insert cs a v).Pairwise fun x y => x.1 < y.1 := by
  induction cs with
  | nil => simp [insert]
  | cons d cs ih =>
    obtain ⟨k, w⟩ := d
    have hd := List.pairwise_cons.1 h
    unfold insert
    split
    · rename_i hk; subst hk
      exact List.pairwise_cons.2 ⟨fun y hy => hd.1 y hy, hd.2⟩
    · split
      · rename_i hk
        refine List.pairwise_cons.2 ⟨fun y hy => ?_, ih hd.2⟩
        rcases mem_insert cs a v y hy with rfl | hy
        · exact hk
        · exact hd.1 y hy
      · rename_i hne hk
        refine List.pairwise_cons.2 ⟨fun y hy => ?_, h⟩
        rcases List.mem_cons.1 hy with rfl | hy
        · show a < k; omega
        · exact Nat.lt_trans (show a < k by omega) (hd.1 y hy)

/-- A write keeps the canonical form. -/
theorem wf_write (m : Memory) (a : Nat) (v : Byte) (h : m.wf = true) : (m.write a v).wf = true := by
  rw [wf_iff] at h ⊢
  unfold write
  split
  · exact ⟨h.1.filter _, fun c hc => by simpa [listedOk, lostAt, zoneOf] using h.2 c (List.mem_filter.1 hc).1⟩
  · rename_i hz
    refine ⟨pairwise_insert _ _ _ h.1, fun c hc => ?_⟩
    rcases mem_insert _ _ _ _ hc with rfl | hc
    · show listedOk m (a, v) = true
      unfold listedOk
      by_cases hv : v = 0
      · have hs : (m.lostAt a).isSome = true := Option.isSome_iff_ne_none.2 fun e => hz ⟨hv, e⟩
        simp [hs]
      · exact Bool.or_eq_true_iff.2 (.inl (decide_eq_true hv))
    · exact h.2 c hc

/-- So do the writes of a span. -/
theorem wf_writeN (m : Memory) (a : Nat) (vs : List Byte) (h : m.wf = true) : (m.writeN a vs).wf = true := by
  induction vs generalizing m a with
  | nil => exact h
  | cons v vs ih => exact ih _ _ (wf_write m a v h)

/-- A loss of a region keeps the canonical form. -/
theorem wf_lose (m : Memory) (r : Region) (tag : Nat) (h : m.wf = true) : (m.lose r tag).wf = true := by
  rw [wf_iff] at h ⊢
  refine ⟨h.1.filter _, fun c hc => ?_⟩
  obtain ⟨hm, hr⟩ := List.mem_filter.1 hc
  have hr : r.holds c.1 = false := by simpa using hr
  have : (m.lose r tag).lostAt c.1 = m.lostAt c.1 := by simp [lostAt, zoneOf, lose, hr]
  unfold listedOk; rw [this]; exact h.2 c hm

theorem covers_holds {r z : Region} (h : r.covers z = true) {a : Nat} (ha : z.holds a = true) : r.holds a = true := by
  cases r <;> cases z <;> simp [Region.covers] at h
  · obtain ⟨rfl, rfl⟩ := h; exact ha
  · simp only [Region.holds, decide_eq_true_eq] at ha ⊢; omega

theorem find_filter_covers (r : Region) (zs : List Zone) (a : Nat) (h : r.holds a = false) :
    (zs.filter fun z => !(r.covers z.region)).find? (fun z => z.region.holds a) = zs.find? fun z => z.region.holds a := by
  induction zs with
  | nil => rfl
  | cons z zs ih =>
    by_cases hc : r.covers z.region = true
    · have hz : z.region.holds a = false := by
        by_contra hz
        rw [Bool.not_eq_false] at hz
        rw [covers_holds hc hz] at h; exact absurd h (by simp)
      simp [List.filter, hc, List.find?, hz, ih]
    · rw [Bool.not_eq_true] at hc
      simp [List.filter, hc, List.find?, ih]

/-- Filling a region with zeros changes no loss outside it. -/
theorem lostAt_clear_out (m : Memory) (r : Region) (a : Nat) (h : r.holds a = false) :
    (m.clear r).lostAt a = m.lostAt a := by
  unfold lostAt zoneOf clear
  dsimp only
  split
  · simp only [List.find?, h]; rw [find_filter_covers r m.zones a h]
  · rw [find_filter_covers r m.zones a h]

/-- Filling a region with zeros keeps the canonical form. -/
theorem wf_clear (m : Memory) (r : Region) (h : m.wf = true) : (m.clear r).wf = true := by
  rw [wf_iff] at h ⊢
  refine ⟨h.1.filter _, fun c hc => ?_⟩
  obtain ⟨hm, hr⟩ := List.mem_filter.1 hc
  have hr : r.holds c.1 = false := by simpa using hr
  unfold listedOk; rw [lostAt_clear_out m r c.1 hr]; exact h.2 c hm

/-- Outside a region that is filled, memory reads as before. -/
theorem read_clear_out (m : Memory) (r : Region) (a : Nat) (h : r.holds a = false) : (m.clear r).read a = m.read a := by
  have hu : (m.clear r).unlisted a = m.unlisted a := by unfold unlisted; rw [lostAt_clear_out m r a h]
  unfold read; rw [hu]
  show (lookup (m.cells.filter fun c => !(r.holds c.1)) a).getD _ = _
  rw [lookup_filter m.cells (fun k => !(r.holds k))]; simp [h]

/-- Outside a region that is lost, memory reads as before. -/
theorem read_lose_out (m : Memory) (r : Region) (tag a : Nat) (h : r.holds a = false) :
    (m.lose r tag).read a = m.read a := by
  have hu : (m.lose r tag).unlisted a = m.unlisted a := by simp [unlisted, lostAt, zoneOf, lose, h]
  unfold read; rw [hu]
  show (lookup (m.cells.filter fun c => !(r.holds c.1)) a).getD _ = _
  rw [lookup_filter m.cells (fun k => !(r.holds k))]; simp [h]

/-- Marking an ECC word as bad, and repairing the words of a span, keep the canonical form and every byte. -/
theorem wf_mark (m : Memory) (w : BadWord) (h : m.wf = true) : (m.mark w).wf = true := by
  unfold mark; split
  · exact h
  · exact h

theorem wf_heal (m : Memory) (a n : Nat) (h : m.wf = true) : (m.heal a n).wf = true := h

@[simp] theorem read_mark (m : Memory) (w : BadWord) (b : Nat) : (m.mark w).read b = m.read b := by
  unfold mark; split <;> rfl

@[simp] theorem read_heal (m : Memory) (a n b : Nat) : (m.heal a n).read b = m.read b := rfl

@[simp] theorem writeGood_bad (m : Memory) (a : Nat) (vs : List Byte) : (m.writeGood a vs).bad = m.bad := by
  induction vs generalizing m a with
  | nil => rfl
  | cons v vs ih => rw [writeGood, ih]; split <;> simp

/-- A write that leaves out the words in error keeps the canonical form, and the bytes outside its span. -/
theorem wf_writeGood (m : Memory) (a : Nat) (vs : List Byte) (h : m.wf = true) : (m.writeGood a vs).wf = true := by
  induction vs generalizing m a with
  | nil => exact h
  | cons v vs ih =>
    rw [writeGood]; apply ih; split
    · exact h
    · exact wf_write m a v h

theorem read_writeGood_out (m : Memory) (a b : Nat) (vs : List Byte) (h : b < a ∨ a + vs.length ≤ b) :
    (m.writeGood a vs).read b = m.read b := by
  induction vs generalizing m a with
  | nil => rfl
  | cons v vs ih =>
    simp only [List.length_cons] at h
    rw [writeGood, ih _ _ (by omega)]
    split
    · rfl
    · exact read_write_ne m v (by omega)

/-- A fresh loss makes every byte of its region free. -/
theorem read_lose_in (m : Memory) (r : Region) (tag a : Nat) (h : r.holds a = true) :
    (m.lose r tag).read a = Config.freeByte tag a := by
  have hu : (m.lose r tag).unlisted a = Config.freeByte tag a := by simp [unlisted, lostAt, zoneOf, lose, h]
  unfold read; rw [hu]
  show (lookup (m.cells.filter fun c => !(r.holds c.1)) a).getD _ = _
  rw [lookup_filter m.cells (fun k => !(r.holds k))]; simp [h]

theorem wf_empty : empty.wf = true := rfl

theorem wf_unfilled (n tag : Nat) : (unfilled n tag).wf = true := rfl

end Memory

/-- Reset's memory has the canonical form. -/
theorem State.reset_mem_wf : State.reset.mem.wf = true := rfl

/-! ### Numbers as bytes (R8) -/

@[simp] theorem leBytes_length (n v : Nat) : (leBytes n v).length = n := by
  induction n generalizing v with
  | zero => rfl
  | succ n ih => simp [leBytes, ih]

/-- The bytes of a number give it back, cut to their width. -/
theorem leNat_leBytes (n v : Nat) : leNat (leBytes n v) = v % 256 ^ n := by
  induction n generalizing v with
  | zero => simp [leBytes, leNat, Nat.mod_one]
  | succ n ih =>
    simp only [leBytes, leNat, ih, BitVec.toNat_ofNat, Nat.reducePow]
    rw [Nat.pow_succ, Nat.mul_comm (256 ^ n) 256, Nat.mod_mul]

end Sys2Proof.Machine
end

