-- ==== Sys2Proof/Laws/Keyed.lean ====
section
/-! SUPPORT. The laws of the sparse tables: a read after a write of the same key gives the value written, a write
leaves every other key alone, a drop gives the dropped keys their default back. They hold of every list. -/
namespace Sys2Proof.Machine

variable {α : Type}

theorem SMap.find_insert_self (m : SMap α) (k : Key) (v : α) : SMap.find (SMap.insert m k v) k = some v := by
  induction m with
  | nil => simp [SMap.insert, SMap.find]
  | cons e m ih =>
    obtain ⟨k', v'⟩ := e
    unfold SMap.insert
    split
    · simp [SMap.find]
    · split
      · rename_i h _; simp [SMap.find, h, ih]
      · simp [SMap.find]

theorem SMap.find_insert_ne (m : SMap α) {k j : Key} (v : α) (h : j ≠ k) :
    SMap.find (SMap.insert m k v) j = SMap.find m j := by
  induction m with
  | nil => simp [SMap.insert, SMap.find, h.symm]
  | cons e m ih =>
    obtain ⟨k', v'⟩ := e
    unfold SMap.insert
    split
    · rename_i hk; subst hk; simp [SMap.find, h.symm]
    · split
      · simp [SMap.find, ih]
      · simp [SMap.find, h.symm]

theorem SMap.find_filter (m : SMap α) (p : Key → Bool) (k : Key) :
    SMap.find (m.filter fun e => p e.1) k = if p k then SMap.find m k else none := by
  induction m with
  | nil => simp [SMap.find]
  | cons e m ih =>
    obtain ⟨k', v'⟩ := e
    by_cases hp : p k' = true
    · by_cases hk : k' = k
      · subst hk; simp [SMap.find, List.filter, hp]
      · simp [SMap.find, List.filter, hp, hk, ih]
    · by_cases hk : k' = k
      · subst hk; simp [List.filter, hp, ih]
      · simp [SMap.find, List.filter, hp, hk, ih]

@[simp] theorem SMap.find_erase_self (m : SMap α) (k : Key) : SMap.find (SMap.erase m k) k = none := by
  unfold SMap.erase
  rw [SMap.find_filter m (fun j => decide (j ≠ k))]
  simp

theorem SMap.find_erase_ne (m : SMap α) {k j : Key} (h : j ≠ k) :
    SMap.find (SMap.erase m k) j = SMap.find m j := by
  unfold SMap.erase
  rw [SMap.find_filter m (fun j => decide (j ≠ k))]
  simp [h]

/-- A read of the key just written gives the value written. -/
@[simp] theorem SMap.get_set_self [DecidableEq α] (m : SMap α) (k : Key) (d v : α) :
    SMap.get (SMap.set m k d v) k d = v := by
  unfold SMap.set SMap.get
  split
  · simp_all
  · simp [SMap.find_insert_self]

/-- A write leaves every other key alone. -/
theorem SMap.get_set_ne [DecidableEq α] (m : SMap α) {k j : Key} (d e v : α) (h : j ≠ k) :
    SMap.get (SMap.set m k d v) j e = SMap.get m j e := by
  unfold SMap.set SMap.get
  split
  · rw [SMap.find_erase_ne m h]
  · rw [SMap.find_insert_ne m v h]

/-- A drop gives the keys it names their default value and leaves the others alone. -/
theorem SMap.get_drop (m : SMap α) (p : Key → Bool) (k : Key) (d : α) :
    SMap.get (SMap.drop m p) k d = if p k then d else SMap.get m k d := by
  unfold SMap.drop SMap.get
  rw [SMap.find_filter m (fun j => !p j) k]
  by_cases h : p k = true <;> simp [h]

@[simp] theorem SMap.get_nil (k : Key) (d : α) : SMap.get ([] : SMap α) k d = d := rfl

end Sys2Proof.Machine
end

