-- ==== Sys2Proof/Laws/State.lean ====
section
/-! SUPPORT. What each of the basic updates of the state leaves alone: one lemma for each field. -/
namespace Sys2Proof.Machine.State

variable (s : State)

@[simp] theorem wr_stages (f : Fd) (i x v : Nat) : (s.wr f i x v).stages = s.stages := rfl
@[simp] theorem wr_latches (f : Fd) (i x v : Nat) : (s.wr f i x v).latches = s.latches := rfl
@[simp] theorem wr_fuses (f : Fd) (i x v : Nat) : (s.wr f i x v).fuses = s.fuses := rfl
@[simp] theorem wr_straps (f : Fd) (i x v : Nat) : (s.wr f i x v).straps = s.straps := rfl
@[simp] theorem wr_plan (f : Fd) (i x v : Nat) : (s.wr f i x v).plan = s.plan := rfl
@[simp] theorem wr_time (f : Fd) (i x v : Nat) : (s.wr f i x v).time = s.time := rfl
@[simp] theorem wr_fresh (f : Fd) (i x v : Nat) : (s.wr f i x v).fresh = s.fresh := rfl
@[simp] theorem wr_mem (f : Fd) (i x v : Nat) : (s.wr f i x v).mem = s.mem := rfl
@[simp] theorem wr_hostMem (f : Fd) (i x v : Nat) : (s.wr f i x v).hostMem = s.hostMem := rfl
@[simp] theorem wr_disarm (f : Fd) (i x v : Nat) : (s.wr f i x v).disarm = s.disarm := rfl
@[simp] theorem wr_backoffs (f : Fd) (i x v : Nat) : (s.wr f i x v).backoffs = s.backoffs := rfl
@[simp] theorem wr_holders (f : Fd) (i x v : Nat) : (s.wr f i x v).holders = s.holders := rfl
@[simp] theorem wr_fabric (f : Fd) (i x v : Nat) : (s.wr f i x v).fabric = s.fabric := rfl
@[simp] theorem wr_errRing (f : Fd) (i x v : Nat) : (s.wr f i x v).errRing = s.errRing := rfl
@[simp] theorem wr_errSeq (f : Fd) (i x v : Nat) : (s.wr f i x v).errSeq = s.errSeq := rfl
@[simp] theorem wr_cause (f : Fd) (i x v : Nat) : (s.wr f i x v).cause = s.cause := rfl
@[simp] theorem wr_irqs (f : Fd) (i x v : Nat) : (s.wr f i x v).irqs = s.irqs := rfl
@[simp] theorem wr_ctxs (f : Fd) (i x v : Nat) : (s.wr f i x v).ctxs = s.ctxs := rfl
@[simp] theorem wr_engines (f : Fd) (i x v : Nat) : (s.wr f i x v).engines = s.engines := rfl
@[simp] theorem wr_arrays (f : Fd) (i x v : Nat) : (s.wr f i x v).arrays = s.arrays := rfl
@[simp] theorem wr_current (f : Fd) (i x v : Nat) : (s.wr f i x v).current = s.current := rfl
@[simp] theorem wr_waiters (f : Fd) (i x v : Nat) : (s.wr f i x v).waiters = s.waiters := rfl
@[simp] theorem wr_flights (f : Fd) (i x v : Nat) : (s.wr f i x v).flights = s.flights := rfl
@[simp] theorem wr_links (f : Fd) (i x v : Nat) : (s.wr f i x v).links = s.links := rfl
@[simp] theorem wr_nonces (f : Fd) (i x v : Nat) : (s.wr f i x v).nonces = s.nonces := rfl
@[simp] theorem wr_xferSeqs (f : Fd) (i x v : Nat) : (s.wr f i x v).xferSeqs = s.xferSeqs := rfl
@[simp] theorem wr_xferQueues (f : Fd) (i x v : Nat) : (s.wr f i x v).xferQueues = s.xferQueues := rfl
@[simp] theorem wr_xfers (f : Fd) (i x v : Nat) : (s.wr f i x v).xfers = s.xfers := rfl
@[simp] theorem wr_waitXfers (f : Fd) (i x v : Nat) : (s.wr f i x v).waitXfers = s.waitXfers := rfl
@[simp] theorem wr_jobGate (f : Fd) (i x v : Nat) : (s.wr f i x v).jobGate = s.jobGate := rfl
@[simp] theorem wr_voidGate (f : Fd) (i x v : Nat) : (s.wr f i x v).voidGate = s.voidGate := rfl
@[simp] theorem wr_timeStepped (f : Fd) (i x v : Nat) : (s.wr f i x v).timeStepped = s.timeStepped := rfl
@[simp] theorem wr_slew (f : Fd) (i x v : Nat) : (s.wr f i x v).slew = s.slew := rfl
@[simp] theorem wr_slewTick (f : Fd) (i x v : Nat) : (s.wr f i x v).slewTick = s.slewTick := rfl
@[simp] theorem wr_outbox (f : Fd) (i x v : Nat) : (s.wr f i x v).outbox = s.outbox := rfl
@[simp] theorem wr_wire (f : Fd) (i x v : Nat) : (s.wr f i x v).wire = s.wire := rfl
@[simp] theorem wr_tctxs (f : Fd) (i x v : Nat) : (s.wr f i x v).tctxs = s.tctxs := rfl
@[simp] theorem wr_books (f : Fd) (i x v : Nat) : (s.wr f i x v).books = s.books := rfl
@[simp] theorem wr_dcache (f : Fd) (i x v : Nat) : (s.wr f i x v).dcache = s.dcache := rfl
@[simp] theorem wr_presets (f : Fd) (i x v : Nat) : (s.wr f i x v).presets = s.presets := rfl
@[simp] theorem wr_signatures (f : Fd) (i x v : Nat) : (s.wr f i x v).signatures = s.signatures := rfl
@[simp] theorem wr_errHeld (f : Fd) (i x v : Nat) : (s.wr f i x v).errHeld = s.errHeld := rfl
@[simp] theorem wr_tideInfo (f : Fd) (i x v : Nat) : (s.wr f i x v).tideInfo = s.tideInfo := rfl
@[simp] theorem wr_shingles (f : Fd) (i x v : Nat) : (s.wr f i x v).shingles = s.shingles := rfl
@[simp] theorem wr_guards (f : Fd) (i x v : Nat) : (s.wr f i x v).guards = s.guards := rfl
@[simp] theorem wr_packets (f : Fd) (i x v : Nat) : (s.wr f i x v).packets = s.packets := rfl
@[simp] theorem wr_heldPackets (f : Fd) (i x v : Nat) : (s.wr f i x v).heldPackets = s.heldPackets := rfl
@[simp] theorem wr_bars (f : Fd) (i x v : Nat) : (s.wr f i x v).bars = s.bars := rfl
@[simp] theorem wr_senses (f : Fd) (i x v : Nat) : (s.wr f i x v).senses = s.senses := rfl
@[simp] theorem wr_tileSenses (f : Fd) (i x v : Nat) : (s.wr f i x v).tileSenses = s.tileSenses := rfl
@[simp] theorem wr_holdQueue (f : Fd) (i x v : Nat) : (s.wr f i x v).holdQueue = s.holdQueue := rfl
@[simp] theorem wr_entry (f : Fd) (i x v : Nat) : (s.wr f i x v).entry = s.entry := rfl
@[simp] theorem wr_seqReleased (f : Fd) (i x v : Nat) : (s.wr f i x v).seqReleased = s.seqReleased := rfl
@[simp] theorem wr_mgmtSeq (f : Fd) (i x v : Nat) : (s.wr f i x v).mgmtSeq = s.mgmtSeq := rfl
@[simp] theorem wr_shutters (f : Fd) (i x v : Nat) : (s.wr f i x v).shutters = s.shutters := rfl
@[simp] theorem wr_seed (f : Fd) (i x v : Nat) : (s.wr f i x v).seed = s.seed := rfl
@[simp] theorem wr_hst (f : Fd) (i x v : Nat) : (s.wr f i x v).hst = s.hst := rfl
@[simp] theorem wr_boot (f : Fd) (i x v : Nat) : (s.wr f i x v).boot = s.boot := rfl
@[simp] theorem wr_lhs (f : Fd) (i x v : Nat) : (s.wr f i x v).lhs = s.lhs := rfl
@[simp] theorem wr_sec (f : Fd) (i x v : Nat) : (s.wr f i x v).sec = s.sec := rfl
@[simp] theorem wr_jrn (f : Fd) (i x v : Nat) : (s.wr f i x v).jrn = s.jrn := rfl
@[simp] theorem wr_tap (f : Fd) (i x v : Nat) : (s.wr f i x v).tap = s.tap := rfl
@[simp] theorem wr_bufs (f : Fd) (i x v : Nat) : (s.wr f i x v).bufs = s.bufs := rfl
@[simp] theorem wr_flash (f : Fd) (i x v : Nat) : (s.wr f i x v).flash = s.flash := rfl
@[simp] theorem wr_pending (f : Fd) (i x v : Nat) : (s.wr f i x v).pending = s.pending := rfl

@[simp] theorem setCtx_regs (t c : Nat) (x : Ctx) : (s.setCtx t c x).regs = s.regs := rfl
@[simp] theorem setCtx_stages (t c : Nat) (x : Ctx) : (s.setCtx t c x).stages = s.stages := rfl
@[simp] theorem setCtx_latches (t c : Nat) (x : Ctx) : (s.setCtx t c x).latches = s.latches := rfl
@[simp] theorem setCtx_fuses (t c : Nat) (x : Ctx) : (s.setCtx t c x).fuses = s.fuses := rfl
@[simp] theorem setCtx_straps (t c : Nat) (x : Ctx) : (s.setCtx t c x).straps = s.straps := rfl
@[simp] theorem setCtx_plan (t c : Nat) (x : Ctx) : (s.setCtx t c x).plan = s.plan := rfl
@[simp] theorem setCtx_time (t c : Nat) (x : Ctx) : (s.setCtx t c x).time = s.time := rfl
@[simp] theorem setCtx_fresh (t c : Nat) (x : Ctx) : (s.setCtx t c x).fresh = s.fresh := rfl
@[simp] theorem setCtx_mem (t c : Nat) (x : Ctx) : (s.setCtx t c x).mem = s.mem := rfl
@[simp] theorem setCtx_hostMem (t c : Nat) (x : Ctx) : (s.setCtx t c x).hostMem = s.hostMem := rfl
@[simp] theorem setCtx_disarm (t c : Nat) (x : Ctx) : (s.setCtx t c x).disarm = s.disarm := rfl
@[simp] theorem setCtx_backoffs (t c : Nat) (x : Ctx) : (s.setCtx t c x).backoffs = s.backoffs := rfl
@[simp] theorem setCtx_holders (t c : Nat) (x : Ctx) : (s.setCtx t c x).holders = s.holders := rfl
@[simp] theorem setCtx_fabric (t c : Nat) (x : Ctx) : (s.setCtx t c x).fabric = s.fabric := rfl
@[simp] theorem setCtx_errRing (t c : Nat) (x : Ctx) : (s.setCtx t c x).errRing = s.errRing := rfl
@[simp] theorem setCtx_errSeq (t c : Nat) (x : Ctx) : (s.setCtx t c x).errSeq = s.errSeq := rfl
@[simp] theorem setCtx_cause (t c : Nat) (x : Ctx) : (s.setCtx t c x).cause = s.cause := rfl
@[simp] theorem setCtx_irqs (t c : Nat) (x : Ctx) : (s.setCtx t c x).irqs = s.irqs := rfl
@[simp] theorem setCtx_engines (t c : Nat) (x : Ctx) : (s.setCtx t c x).engines = s.engines := rfl
@[simp] theorem setCtx_arrays (t c : Nat) (x : Ctx) : (s.setCtx t c x).arrays = s.arrays := rfl
@[simp] theorem setCtx_current (t c : Nat) (x : Ctx) : (s.setCtx t c x).current = s.current := rfl
@[simp] theorem setCtx_waiters (t c : Nat) (x : Ctx) : (s.setCtx t c x).waiters = s.waiters := rfl
@[simp] theorem setCtx_flights (t c : Nat) (x : Ctx) : (s.setCtx t c x).flights = s.flights := rfl
@[simp] theorem setCtx_links (t c : Nat) (x : Ctx) : (s.setCtx t c x).links = s.links := rfl
@[simp] theorem setCtx_nonces (t c : Nat) (x : Ctx) : (s.setCtx t c x).nonces = s.nonces := rfl
@[simp] theorem setCtx_xferSeqs (t c : Nat) (x : Ctx) : (s.setCtx t c x).xferSeqs = s.xferSeqs := rfl
@[simp] theorem setCtx_xferQueues (t c : Nat) (x : Ctx) : (s.setCtx t c x).xferQueues = s.xferQueues := rfl
@[simp] theorem setCtx_xfers (t c : Nat) (x : Ctx) : (s.setCtx t c x).xfers = s.xfers := rfl
@[simp] theorem setCtx_waitXfers (t c : Nat) (x : Ctx) : (s.setCtx t c x).waitXfers = s.waitXfers := rfl
@[simp] theorem setCtx_jobGate (t c : Nat) (x : Ctx) : (s.setCtx t c x).jobGate = s.jobGate := rfl
@[simp] theorem setCtx_voidGate (t c : Nat) (x : Ctx) : (s.setCtx t c x).voidGate = s.voidGate := rfl
@[simp] theorem setCtx_timeStepped (t c : Nat) (x : Ctx) : (s.setCtx t c x).timeStepped = s.timeStepped := rfl
@[simp] theorem setCtx_slew (t c : Nat) (x : Ctx) : (s.setCtx t c x).slew = s.slew := rfl
@[simp] theorem setCtx_slewTick (t c : Nat) (x : Ctx) : (s.setCtx t c x).slewTick = s.slewTick := rfl
@[simp] theorem setCtx_outbox (t c : Nat) (x : Ctx) : (s.setCtx t c x).outbox = s.outbox := rfl
@[simp] theorem setCtx_wire (t c : Nat) (x : Ctx) : (s.setCtx t c x).wire = s.wire := rfl
@[simp] theorem setCtx_tctxs (t c : Nat) (x : Ctx) : (s.setCtx t c x).tctxs = s.tctxs := rfl
@[simp] theorem setCtx_books (t c : Nat) (x : Ctx) : (s.setCtx t c x).books = s.books := rfl
@[simp] theorem setCtx_dcache (t c : Nat) (x : Ctx) : (s.setCtx t c x).dcache = s.dcache := rfl
@[simp] theorem setCtx_presets (t c : Nat) (x : Ctx) : (s.setCtx t c x).presets = s.presets := rfl
@[simp] theorem setCtx_signatures (t c : Nat) (x : Ctx) : (s.setCtx t c x).signatures = s.signatures := rfl
@[simp] theorem setCtx_errHeld (t c : Nat) (x : Ctx) : (s.setCtx t c x).errHeld = s.errHeld := rfl
@[simp] theorem setCtx_tideInfo (t c : Nat) (x : Ctx) : (s.setCtx t c x).tideInfo = s.tideInfo := rfl
@[simp] theorem setCtx_shingles (t c : Nat) (x : Ctx) : (s.setCtx t c x).shingles = s.shingles := rfl
@[simp] theorem setCtx_guards (t c : Nat) (x : Ctx) : (s.setCtx t c x).guards = s.guards := rfl
@[simp] theorem setCtx_packets (t c : Nat) (x : Ctx) : (s.setCtx t c x).packets = s.packets := rfl
@[simp] theorem setCtx_heldPackets (t c : Nat) (x : Ctx) : (s.setCtx t c x).heldPackets = s.heldPackets := rfl
@[simp] theorem setCtx_bars (t c : Nat) (x : Ctx) : (s.setCtx t c x).bars = s.bars := rfl
@[simp] theorem setCtx_senses (t c : Nat) (x : Ctx) : (s.setCtx t c x).senses = s.senses := rfl
@[simp] theorem setCtx_tileSenses (t c : Nat) (x : Ctx) : (s.setCtx t c x).tileSenses = s.tileSenses := rfl
@[simp] theorem setCtx_holdQueue (t c : Nat) (x : Ctx) : (s.setCtx t c x).holdQueue = s.holdQueue := rfl
@[simp] theorem setCtx_entry (t c : Nat) (x : Ctx) : (s.setCtx t c x).entry = s.entry := rfl
@[simp] theorem setCtx_seqReleased (t c : Nat) (x : Ctx) : (s.setCtx t c x).seqReleased = s.seqReleased := rfl
@[simp] theorem setCtx_mgmtSeq (t c : Nat) (x : Ctx) : (s.setCtx t c x).mgmtSeq = s.mgmtSeq := rfl
@[simp] theorem setCtx_shutters (t c : Nat) (x : Ctx) : (s.setCtx t c x).shutters = s.shutters := rfl
@[simp] theorem setCtx_seed (t c : Nat) (x : Ctx) : (s.setCtx t c x).seed = s.seed := rfl
@[simp] theorem setCtx_hst (t c : Nat) (x : Ctx) : (s.setCtx t c x).hst = s.hst := rfl
@[simp] theorem setCtx_boot (t c : Nat) (x : Ctx) : (s.setCtx t c x).boot = s.boot := rfl
@[simp] theorem setCtx_lhs (t c : Nat) (x : Ctx) : (s.setCtx t c x).lhs = s.lhs := rfl
@[simp] theorem setCtx_sec (t c : Nat) (x : Ctx) : (s.setCtx t c x).sec = s.sec := rfl
@[simp] theorem setCtx_jrn (t c : Nat) (x : Ctx) : (s.setCtx t c x).jrn = s.jrn := rfl
@[simp] theorem setCtx_tap (t c : Nat) (x : Ctx) : (s.setCtx t c x).tap = s.tap := rfl
@[simp] theorem setCtx_bufs (t c : Nat) (x : Ctx) : (s.setCtx t c x).bufs = s.bufs := rfl
@[simp] theorem setCtx_flash (t c : Nat) (x : Ctx) : (s.setCtx t c x).flash = s.flash := rfl
@[simp] theorem setCtx_pending (t c : Nat) (x : Ctx) : (s.setCtx t c x).pending = s.pending := rfl

@[simp] theorem setEngine_regs (t e : Nat) (x : Engine) : (s.setEngine t e x).regs = s.regs := rfl
@[simp] theorem setEngine_stages (t e : Nat) (x : Engine) : (s.setEngine t e x).stages = s.stages := rfl
@[simp] theorem setEngine_latches (t e : Nat) (x : Engine) : (s.setEngine t e x).latches = s.latches := rfl
@[simp] theorem setEngine_fuses (t e : Nat) (x : Engine) : (s.setEngine t e x).fuses = s.fuses := rfl
@[simp] theorem setEngine_straps (t e : Nat) (x : Engine) : (s.setEngine t e x).straps = s.straps := rfl
@[simp] theorem setEngine_plan (t e : Nat) (x : Engine) : (s.setEngine t e x).plan = s.plan := rfl
@[simp] theorem setEngine_time (t e : Nat) (x : Engine) : (s.setEngine t e x).time = s.time := rfl
@[simp] theorem setEngine_fresh (t e : Nat) (x : Engine) : (s.setEngine t e x).fresh = s.fresh := rfl
@[simp] theorem setEngine_mem (t e : Nat) (x : Engine) : (s.setEngine t e x).mem = s.mem := rfl
@[simp] theorem setEngine_hostMem (t e : Nat) (x : Engine) : (s.setEngine t e x).hostMem = s.hostMem := rfl
@[simp] theorem setEngine_disarm (t e : Nat) (x : Engine) : (s.setEngine t e x).disarm = s.disarm := rfl
@[simp] theorem setEngine_backoffs (t e : Nat) (x : Engine) : (s.setEngine t e x).backoffs = s.backoffs := rfl
@[simp] theorem setEngine_holders (t e : Nat) (x : Engine) : (s.setEngine t e x).holders = s.holders := rfl
@[simp] theorem setEngine_fabric (t e : Nat) (x : Engine) : (s.setEngine t e x).fabric = s.fabric := rfl
@[simp] theorem setEngine_errRing (t e : Nat) (x : Engine) : (s.setEngine t e x).errRing = s.errRing := rfl
@[simp] theorem setEngine_errSeq (t e : Nat) (x : Engine) : (s.setEngine t e x).errSeq = s.errSeq := rfl
@[simp] theorem setEngine_cause (t e : Nat) (x : Engine) : (s.setEngine t e x).cause = s.cause := rfl
@[simp] theorem setEngine_irqs (t e : Nat) (x : Engine) : (s.setEngine t e x).irqs = s.irqs := rfl
@[simp] theorem setEngine_ctxs (t e : Nat) (x : Engine) : (s.setEngine t e x).ctxs = s.ctxs := rfl
@[simp] theorem setEngine_arrays (t e : Nat) (x : Engine) : (s.setEngine t e x).arrays = s.arrays := rfl
@[simp] theorem setEngine_current (t e : Nat) (x : Engine) : (s.setEngine t e x).current = s.current := rfl
@[simp] theorem setEngine_waiters (t e : Nat) (x : Engine) : (s.setEngine t e x).waiters = s.waiters := rfl
@[simp] theorem setEngine_flights (t e : Nat) (x : Engine) : (s.setEngine t e x).flights = s.flights := rfl
@[simp] theorem setEngine_links (t e : Nat) (x : Engine) : (s.setEngine t e x).links = s.links := rfl
@[simp] theorem setEngine_nonces (t e : Nat) (x : Engine) : (s.setEngine t e x).nonces = s.nonces := rfl
@[simp] theorem setEngine_xferSeqs (t e : Nat) (x : Engine) : (s.setEngine t e x).xferSeqs = s.xferSeqs := rfl
@[simp] theorem setEngine_xferQueues (t e : Nat) (x : Engine) : (s.setEngine t e x).xferQueues = s.xferQueues := rfl
@[simp] theorem setEngine_xfers (t e : Nat) (x : Engine) : (s.setEngine t e x).xfers = s.xfers := rfl
@[simp] theorem setEngine_waitXfers (t e : Nat) (x : Engine) : (s.setEngine t e x).waitXfers = s.waitXfers := rfl
@[simp] theorem setEngine_jobGate (t e : Nat) (x : Engine) : (s.setEngine t e x).jobGate = s.jobGate := rfl
@[simp] theorem setEngine_voidGate (t e : Nat) (x : Engine) : (s.setEngine t e x).voidGate = s.voidGate := rfl
@[simp] theorem setEngine_timeStepped (t e : Nat) (x : Engine) : (s.setEngine t e x).timeStepped = s.timeStepped := rfl
@[simp] theorem setEngine_slew (t e : Nat) (x : Engine) : (s.setEngine t e x).slew = s.slew := rfl
@[simp] theorem setEngine_slewTick (t e : Nat) (x : Engine) : (s.setEngine t e x).slewTick = s.slewTick := rfl
@[simp] theorem setEngine_outbox (t e : Nat) (x : Engine) : (s.setEngine t e x).outbox = s.outbox := rfl
@[simp] theorem setEngine_wire (t e : Nat) (x : Engine) : (s.setEngine t e x).wire = s.wire := rfl
@[simp] theorem setEngine_tctxs (t e : Nat) (x : Engine) : (s.setEngine t e x).tctxs = s.tctxs := rfl
@[simp] theorem setEngine_books (t e : Nat) (x : Engine) : (s.setEngine t e x).books = s.books := rfl
@[simp] theorem setEngine_dcache (t e : Nat) (x : Engine) : (s.setEngine t e x).dcache = s.dcache := rfl
@[simp] theorem setEngine_presets (t e : Nat) (x : Engine) : (s.setEngine t e x).presets = s.presets := rfl
@[simp] theorem setEngine_signatures (t e : Nat) (x : Engine) : (s.setEngine t e x).signatures = s.signatures := rfl
@[simp] theorem setEngine_errHeld (t e : Nat) (x : Engine) : (s.setEngine t e x).errHeld = s.errHeld := rfl
@[simp] theorem setEngine_tideInfo (t e : Nat) (x : Engine) : (s.setEngine t e x).tideInfo = s.tideInfo := rfl
@[simp] theorem setEngine_shingles (t e : Nat) (x : Engine) : (s.setEngine t e x).shingles = s.shingles := rfl
@[simp] theorem setEngine_guards (t e : Nat) (x : Engine) : (s.setEngine t e x).guards = s.guards := rfl
@[simp] theorem setEngine_packets (t e : Nat) (x : Engine) : (s.setEngine t e x).packets = s.packets := rfl
@[simp] theorem setEngine_heldPackets (t e : Nat) (x : Engine) : (s.setEngine t e x).heldPackets = s.heldPackets := rfl
@[simp] theorem setEngine_bars (t e : Nat) (x : Engine) : (s.setEngine t e x).bars = s.bars := rfl
@[simp] theorem setEngine_senses (t e : Nat) (x : Engine) : (s.setEngine t e x).senses = s.senses := rfl
@[simp] theorem setEngine_tileSenses (t e : Nat) (x : Engine) : (s.setEngine t e x).tileSenses = s.tileSenses := rfl
@[simp] theorem setEngine_holdQueue (t e : Nat) (x : Engine) : (s.setEngine t e x).holdQueue = s.holdQueue := rfl
@[simp] theorem setEngine_entry (t e : Nat) (x : Engine) : (s.setEngine t e x).entry = s.entry := rfl
@[simp] theorem setEngine_seqReleased (t e : Nat) (x : Engine) : (s.setEngine t e x).seqReleased = s.seqReleased := rfl
@[simp] theorem setEngine_mgmtSeq (t e : Nat) (x : Engine) : (s.setEngine t e x).mgmtSeq = s.mgmtSeq := rfl
@[simp] theorem setEngine_shutters (t e : Nat) (x : Engine) : (s.setEngine t e x).shutters = s.shutters := rfl
@[simp] theorem setEngine_seed (t e : Nat) (x : Engine) : (s.setEngine t e x).seed = s.seed := rfl
@[simp] theorem setEngine_hst (t e : Nat) (x : Engine) : (s.setEngine t e x).hst = s.hst := rfl
@[simp] theorem setEngine_boot (t e : Nat) (x : Engine) : (s.setEngine t e x).boot = s.boot := rfl
@[simp] theorem setEngine_lhs (t e : Nat) (x : Engine) : (s.setEngine t e x).lhs = s.lhs := rfl
@[simp] theorem setEngine_sec (t e : Nat) (x : Engine) : (s.setEngine t e x).sec = s.sec := rfl
@[simp] theorem setEngine_jrn (t e : Nat) (x : Engine) : (s.setEngine t e x).jrn = s.jrn := rfl
@[simp] theorem setEngine_tap (t e : Nat) (x : Engine) : (s.setEngine t e x).tap = s.tap := rfl
@[simp] theorem setEngine_bufs (t e : Nat) (x : Engine) : (s.setEngine t e x).bufs = s.bufs := rfl
@[simp] theorem setEngine_flash (t e : Nat) (x : Engine) : (s.setEngine t e x).flash = s.flash := rfl
@[simp] theorem setEngine_pending (t e : Nat) (x : Engine) : (s.setEngine t e x).pending = s.pending := rfl

@[simp] theorem setArray_regs (t : Nat) (x : MatArray) : (s.setArray t x).regs = s.regs := rfl
@[simp] theorem setArray_stages (t : Nat) (x : MatArray) : (s.setArray t x).stages = s.stages := rfl
@[simp] theorem setArray_latches (t : Nat) (x : MatArray) : (s.setArray t x).latches = s.latches := rfl
@[simp] theorem setArray_fuses (t : Nat) (x : MatArray) : (s.setArray t x).fuses = s.fuses := rfl
@[simp] theorem setArray_straps (t : Nat) (x : MatArray) : (s.setArray t x).straps = s.straps := rfl
@[simp] theorem setArray_plan (t : Nat) (x : MatArray) : (s.setArray t x).plan = s.plan := rfl
@[simp] theorem setArray_time (t : Nat) (x : MatArray) : (s.setArray t x).time = s.time := rfl
@[simp] theorem setArray_fresh (t : Nat) (x : MatArray) : (s.setArray t x).fresh = s.fresh := rfl
@[simp] theorem setArray_mem (t : Nat) (x : MatArray) : (s.setArray t x).mem = s.mem := rfl
@[simp] theorem setArray_hostMem (t : Nat) (x : MatArray) : (s.setArray t x).hostMem = s.hostMem := rfl
@[simp] theorem setArray_disarm (t : Nat) (x : MatArray) : (s.setArray t x).disarm = s.disarm := rfl
@[simp] theorem setArray_backoffs (t : Nat) (x : MatArray) : (s.setArray t x).backoffs = s.backoffs := rfl
@[simp] theorem setArray_holders (t : Nat) (x : MatArray) : (s.setArray t x).holders = s.holders := rfl
@[simp] theorem setArray_fabric (t : Nat) (x : MatArray) : (s.setArray t x).fabric = s.fabric := rfl
@[simp] theorem setArray_errRing (t : Nat) (x : MatArray) : (s.setArray t x).errRing = s.errRing := rfl
@[simp] theorem setArray_errSeq (t : Nat) (x : MatArray) : (s.setArray t x).errSeq = s.errSeq := rfl
@[simp] theorem setArray_cause (t : Nat) (x : MatArray) : (s.setArray t x).cause = s.cause := rfl
@[simp] theorem setArray_irqs (t : Nat) (x : MatArray) : (s.setArray t x).irqs = s.irqs := rfl
@[simp] theorem setArray_ctxs (t : Nat) (x : MatArray) : (s.setArray t x).ctxs = s.ctxs := rfl
@[simp] theorem setArray_engines (t : Nat) (x : MatArray) : (s.setArray t x).engines = s.engines := rfl
@[simp] theorem setArray_current (t : Nat) (x : MatArray) : (s.setArray t x).current = s.current := rfl
@[simp] theorem setArray_waiters (t : Nat) (x : MatArray) : (s.setArray t x).waiters = s.waiters := rfl
@[simp] theorem setArray_flights (t : Nat) (x : MatArray) : (s.setArray t x).flights = s.flights := rfl
@[simp] theorem setArray_links (t : Nat) (x : MatArray) : (s.setArray t x).links = s.links := rfl
@[simp] theorem setArray_nonces (t : Nat) (x : MatArray) : (s.setArray t x).nonces = s.nonces := rfl
@[simp] theorem setArray_xferSeqs (t : Nat) (x : MatArray) : (s.setArray t x).xferSeqs = s.xferSeqs := rfl
@[simp] theorem setArray_xferQueues (t : Nat) (x : MatArray) : (s.setArray t x).xferQueues = s.xferQueues := rfl
@[simp] theorem setArray_xfers (t : Nat) (x : MatArray) : (s.setArray t x).xfers = s.xfers := rfl
@[simp] theorem setArray_waitXfers (t : Nat) (x : MatArray) : (s.setArray t x).waitXfers = s.waitXfers := rfl
@[simp] theorem setArray_jobGate (t : Nat) (x : MatArray) : (s.setArray t x).jobGate = s.jobGate := rfl
@[simp] theorem setArray_voidGate (t : Nat) (x : MatArray) : (s.setArray t x).voidGate = s.voidGate := rfl
@[simp] theorem setArray_timeStepped (t : Nat) (x : MatArray) : (s.setArray t x).timeStepped = s.timeStepped := rfl
@[simp] theorem setArray_slew (t : Nat) (x : MatArray) : (s.setArray t x).slew = s.slew := rfl
@[simp] theorem setArray_slewTick (t : Nat) (x : MatArray) : (s.setArray t x).slewTick = s.slewTick := rfl
@[simp] theorem setArray_outbox (t : Nat) (x : MatArray) : (s.setArray t x).outbox = s.outbox := rfl
@[simp] theorem setArray_wire (t : Nat) (x : MatArray) : (s.setArray t x).wire = s.wire := rfl
@[simp] theorem setArray_tctxs (t : Nat) (x : MatArray) : (s.setArray t x).tctxs = s.tctxs := rfl
@[simp] theorem setArray_books (t : Nat) (x : MatArray) : (s.setArray t x).books = s.books := rfl
@[simp] theorem setArray_dcache (t : Nat) (x : MatArray) : (s.setArray t x).dcache = s.dcache := rfl
@[simp] theorem setArray_presets (t : Nat) (x : MatArray) : (s.setArray t x).presets = s.presets := rfl
@[simp] theorem setArray_signatures (t : Nat) (x : MatArray) : (s.setArray t x).signatures = s.signatures := rfl
@[simp] theorem setArray_errHeld (t : Nat) (x : MatArray) : (s.setArray t x).errHeld = s.errHeld := rfl
@[simp] theorem setArray_tideInfo (t : Nat) (x : MatArray) : (s.setArray t x).tideInfo = s.tideInfo := rfl
@[simp] theorem setArray_shingles (t : Nat) (x : MatArray) : (s.setArray t x).shingles = s.shingles := rfl
@[simp] theorem setArray_guards (t : Nat) (x : MatArray) : (s.setArray t x).guards = s.guards := rfl
@[simp] theorem setArray_packets (t : Nat) (x : MatArray) : (s.setArray t x).packets = s.packets := rfl
@[simp] theorem setArray_heldPackets (t : Nat) (x : MatArray) : (s.setArray t x).heldPackets = s.heldPackets := rfl
@[simp] theorem setArray_bars (t : Nat) (x : MatArray) : (s.setArray t x).bars = s.bars := rfl
@[simp] theorem setArray_senses (t : Nat) (x : MatArray) : (s.setArray t x).senses = s.senses := rfl
@[simp] theorem setArray_tileSenses (t : Nat) (x : MatArray) : (s.setArray t x).tileSenses = s.tileSenses := rfl
@[simp] theorem setArray_holdQueue (t : Nat) (x : MatArray) : (s.setArray t x).holdQueue = s.holdQueue := rfl
@[simp] theorem setArray_entry (t : Nat) (x : MatArray) : (s.setArray t x).entry = s.entry := rfl
@[simp] theorem setArray_seqReleased (t : Nat) (x : MatArray) : (s.setArray t x).seqReleased = s.seqReleased := rfl
@[simp] theorem setArray_mgmtSeq (t : Nat) (x : MatArray) : (s.setArray t x).mgmtSeq = s.mgmtSeq := rfl
@[simp] theorem setArray_shutters (t : Nat) (x : MatArray) : (s.setArray t x).shutters = s.shutters := rfl
@[simp] theorem setArray_seed (t : Nat) (x : MatArray) : (s.setArray t x).seed = s.seed := rfl
@[simp] theorem setArray_hst (t : Nat) (x : MatArray) : (s.setArray t x).hst = s.hst := rfl
@[simp] theorem setArray_boot (t : Nat) (x : MatArray) : (s.setArray t x).boot = s.boot := rfl
@[simp] theorem setArray_lhs (t : Nat) (x : MatArray) : (s.setArray t x).lhs = s.lhs := rfl
@[simp] theorem setArray_sec (t : Nat) (x : MatArray) : (s.setArray t x).sec = s.sec := rfl
@[simp] theorem setArray_jrn (t : Nat) (x : MatArray) : (s.setArray t x).jrn = s.jrn := rfl
@[simp] theorem setArray_tap (t : Nat) (x : MatArray) : (s.setArray t x).tap = s.tap := rfl
@[simp] theorem setArray_bufs (t : Nat) (x : MatArray) : (s.setArray t x).bufs = s.bufs := rfl
@[simp] theorem setArray_flash (t : Nat) (x : MatArray) : (s.setArray t x).flash = s.flash := rfl
@[simp] theorem setArray_pending (t : Nat) (x : MatArray) : (s.setArray t x).pending = s.pending := rfl

@[simp] theorem setWaiters_regs (t n : Nat) (ws : List Waiter) : (s.setWaiters t n ws).regs = s.regs := rfl
@[simp] theorem setWaiters_stages (t n : Nat) (ws : List Waiter) : (s.setWaiters t n ws).stages = s.stages := rfl
@[simp] theorem setWaiters_latches (t n : Nat) (ws : List Waiter) : (s.setWaiters t n ws).latches = s.latches := rfl
@[simp] theorem setWaiters_fuses (t n : Nat) (ws : List Waiter) : (s.setWaiters t n ws).fuses = s.fuses := rfl
@[simp] theorem setWaiters_straps (t n : Nat) (ws : List Waiter) : (s.setWaiters t n ws).straps = s.straps := rfl
@[simp] theorem setWaiters_plan (t n : Nat) (ws : List Waiter) : (s.setWaiters t n ws).plan = s.plan := rfl
@[simp] theorem setWaiters_time (t n : Nat) (ws : List Waiter) : (s.setWaiters t n ws).time = s.time := rfl
@[simp] theorem setWaiters_fresh (t n : Nat) (ws : List Waiter) : (s.setWaiters t n ws).fresh = s.fresh := rfl
@[simp] theorem setWaiters_mem (t n : Nat) (ws : List Waiter) : (s.setWaiters t n ws).mem = s.mem := rfl
@[simp] theorem setWaiters_hostMem (t n : Nat) (ws : List Waiter) : (s.setWaiters t n ws).hostMem = s.hostMem := rfl
@[simp] theorem setWaiters_disarm (t n : Nat) (ws : List Waiter) : (s.setWaiters t n ws).disarm = s.disarm := rfl
@[simp] theorem setWaiters_backoffs (t n : Nat) (ws : List Waiter) : (s.setWaiters t n ws).backoffs = s.backoffs := rfl
@[simp] theorem setWaiters_holders (t n : Nat) (ws : List Waiter) : (s.setWaiters t n ws).holders = s.holders := rfl
@[simp] theorem setWaiters_fabric (t n : Nat) (ws : List Waiter) : (s.setWaiters t n ws).fabric = s.fabric := rfl
@[simp] theorem setWaiters_errRing (t n : Nat) (ws : List Waiter) : (s.setWaiters t n ws).errRing = s.errRing := rfl
@[simp] theorem setWaiters_errSeq (t n : Nat) (ws : List Waiter) : (s.setWaiters t n ws).errSeq = s.errSeq := rfl
@[simp] theorem setWaiters_cause (t n : Nat) (ws : List Waiter) : (s.setWaiters t n ws).cause = s.cause := rfl
@[simp] theorem setWaiters_irqs (t n : Nat) (ws : List Waiter) : (s.setWaiters t n ws).irqs = s.irqs := rfl
@[simp] theorem setWaiters_ctxs (t n : Nat) (ws : List Waiter) : (s.setWaiters t n ws).ctxs = s.ctxs := rfl
@[simp] theorem setWaiters_engines (t n : Nat) (ws : List Waiter) : (s.setWaiters t n ws).engines = s.engines := rfl
@[simp] theorem setWaiters_arrays (t n : Nat) (ws : List Waiter) : (s.setWaiters t n ws).arrays = s.arrays := rfl
@[simp] theorem setWaiters_current (t n : Nat) (ws : List Waiter) : (s.setWaiters t n ws).current = s.current := rfl
@[simp] theorem setWaiters_flights (t n : Nat) (ws : List Waiter) : (s.setWaiters t n ws).flights = s.flights := rfl
@[simp] theorem setWaiters_links (t n : Nat) (ws : List Waiter) : (s.setWaiters t n ws).links = s.links := rfl
@[simp] theorem setWaiters_nonces (t n : Nat) (ws : List Waiter) : (s.setWaiters t n ws).nonces = s.nonces := rfl
@[simp] theorem setWaiters_xferSeqs (t n : Nat) (ws : List Waiter) : (s.setWaiters t n ws).xferSeqs = s.xferSeqs := rfl
@[simp] theorem setWaiters_xferQueues (t n : Nat) (ws : List Waiter) : (s.setWaiters t n ws).xferQueues = s.xferQueues := rfl
@[simp] theorem setWaiters_xfers (t n : Nat) (ws : List Waiter) : (s.setWaiters t n ws).xfers = s.xfers := rfl
@[simp] theorem setWaiters_waitXfers (t n : Nat) (ws : List Waiter) : (s.setWaiters t n ws).waitXfers = s.waitXfers := rfl
@[simp] theorem setWaiters_jobGate (t n : Nat) (ws : List Waiter) : (s.setWaiters t n ws).jobGate = s.jobGate := rfl
@[simp] theorem setWaiters_voidGate (t n : Nat) (ws : List Waiter) : (s.setWaiters t n ws).voidGate = s.voidGate := rfl
@[simp] theorem setWaiters_timeStepped (t n : Nat) (ws : List Waiter) : (s.setWaiters t n ws).timeStepped = s.timeStepped := rfl
@[simp] theorem setWaiters_slew (t n : Nat) (ws : List Waiter) : (s.setWaiters t n ws).slew = s.slew := rfl
@[simp] theorem setWaiters_slewTick (t n : Nat) (ws : List Waiter) : (s.setWaiters t n ws).slewTick = s.slewTick := rfl
@[simp] theorem setWaiters_outbox (t n : Nat) (ws : List Waiter) : (s.setWaiters t n ws).outbox = s.outbox := rfl
@[simp] theorem setWaiters_wire (t n : Nat) (ws : List Waiter) : (s.setWaiters t n ws).wire = s.wire := rfl
@[simp] theorem setWaiters_tctxs (t n : Nat) (ws : List Waiter) : (s.setWaiters t n ws).tctxs = s.tctxs := rfl
@[simp] theorem setWaiters_books (t n : Nat) (ws : List Waiter) : (s.setWaiters t n ws).books = s.books := rfl
@[simp] theorem setWaiters_dcache (t n : Nat) (ws : List Waiter) : (s.setWaiters t n ws).dcache = s.dcache := rfl
@[simp] theorem setWaiters_presets (t n : Nat) (ws : List Waiter) : (s.setWaiters t n ws).presets = s.presets := rfl
@[simp] theorem setWaiters_signatures (t n : Nat) (ws : List Waiter) : (s.setWaiters t n ws).signatures = s.signatures := rfl
@[simp] theorem setWaiters_errHeld (t n : Nat) (ws : List Waiter) : (s.setWaiters t n ws).errHeld = s.errHeld := rfl
@[simp] theorem setWaiters_tideInfo (t n : Nat) (ws : List Waiter) : (s.setWaiters t n ws).tideInfo = s.tideInfo := rfl
@[simp] theorem setWaiters_shingles (t n : Nat) (ws : List Waiter) : (s.setWaiters t n ws).shingles = s.shingles := rfl
@[simp] theorem setWaiters_guards (t n : Nat) (ws : List Waiter) : (s.setWaiters t n ws).guards = s.guards := rfl
@[simp] theorem setWaiters_packets (t n : Nat) (ws : List Waiter) : (s.setWaiters t n ws).packets = s.packets := rfl
@[simp] theorem setWaiters_heldPackets (t n : Nat) (ws : List Waiter) : (s.setWaiters t n ws).heldPackets = s.heldPackets := rfl
@[simp] theorem setWaiters_bars (t n : Nat) (ws : List Waiter) : (s.setWaiters t n ws).bars = s.bars := rfl
@[simp] theorem setWaiters_senses (t n : Nat) (ws : List Waiter) : (s.setWaiters t n ws).senses = s.senses := rfl
@[simp] theorem setWaiters_tileSenses (t n : Nat) (ws : List Waiter) : (s.setWaiters t n ws).tileSenses = s.tileSenses := rfl
@[simp] theorem setWaiters_holdQueue (t n : Nat) (ws : List Waiter) : (s.setWaiters t n ws).holdQueue = s.holdQueue := rfl
@[simp] theorem setWaiters_entry (t n : Nat) (ws : List Waiter) : (s.setWaiters t n ws).entry = s.entry := rfl
@[simp] theorem setWaiters_seqReleased (t n : Nat) (ws : List Waiter) : (s.setWaiters t n ws).seqReleased = s.seqReleased := rfl
@[simp] theorem setWaiters_mgmtSeq (t n : Nat) (ws : List Waiter) : (s.setWaiters t n ws).mgmtSeq = s.mgmtSeq := rfl
@[simp] theorem setWaiters_shutters (t n : Nat) (ws : List Waiter) : (s.setWaiters t n ws).shutters = s.shutters := rfl
@[simp] theorem setWaiters_seed (t n : Nat) (ws : List Waiter) : (s.setWaiters t n ws).seed = s.seed := rfl
@[simp] theorem setWaiters_hst (t n : Nat) (ws : List Waiter) : (s.setWaiters t n ws).hst = s.hst := rfl
@[simp] theorem setWaiters_boot (t n : Nat) (ws : List Waiter) : (s.setWaiters t n ws).boot = s.boot := rfl
@[simp] theorem setWaiters_lhs (t n : Nat) (ws : List Waiter) : (s.setWaiters t n ws).lhs = s.lhs := rfl
@[simp] theorem setWaiters_sec (t n : Nat) (ws : List Waiter) : (s.setWaiters t n ws).sec = s.sec := rfl
@[simp] theorem setWaiters_jrn (t n : Nat) (ws : List Waiter) : (s.setWaiters t n ws).jrn = s.jrn := rfl
@[simp] theorem setWaiters_tap (t n : Nat) (ws : List Waiter) : (s.setWaiters t n ws).tap = s.tap := rfl
@[simp] theorem setWaiters_bufs (t n : Nat) (ws : List Waiter) : (s.setWaiters t n ws).bufs = s.bufs := rfl
@[simp] theorem setWaiters_flash (t n : Nat) (ws : List Waiter) : (s.setWaiters t n ws).flash = s.flash := rfl
@[simp] theorem setWaiters_pending (t n : Nat) (ws : List Waiter) : (s.setWaiters t n ws).pending = s.pending := rfl

end Sys2Proof.Machine.State
end

