-- ==== Sys2Proof/Laws/Registers.lean ====
section
/-! SUPPORT. The laws of register fields: a field read after it was written holds the value written, cut to its width; a
write of one field leaves every other field alone. -/
namespace Sys2Proof.Machine

theorem Fd.ctorIdx_inj {f g : Fd} (h : f.ctorIdx = g.ctorIdx) : f = g := by
  rw [← Fd.ofNat_ctorIdx f, ← Fd.ofNat_ctorIdx g, h]

namespace State

theorem key_eq {f g : Fd} {i j x y : Nat} : key f i x = key g j y ↔ f = g ∧ i = j ∧ x = y := by
  unfold key
  constructor
  · intro h
    injection h with ha hb hc
    exact ⟨Fd.ctorIdx_inj ha, hb, hc⟩
  · rintro ⟨rfl, rfl, rfl⟩; rfl

/-- A write changes what an unwritten field reads as only for the copies of GLB_TILE_RANK (R122). -/
theorem fieldReset_wr (s : State) (f g : Fd) (i x v j y : Nat)
    (h : g.spec.reg = .TILE_ARB_RANK → f ≠ .GLB_TILE_RANK_ORDER) :
    (s.wr f i x v).fieldReset g j y = s.fieldReset g j y := by
  unfold fieldReset
  split
  · rfl
  · cases hr : g.spec.reg <;> try rfl
    have hk : key .GLB_TILE_RANK_ORDER 0 0 ≠ key f i x := fun e => h hr (key_eq.1 e).1.symm
    exact SMap.get_set_ne _ _ _ _ hk

/-- A field read after a write. -/
theorem rd_wr (s : State) (f g : Fd) (i x v j y : Nat) (h : g.spec.reg = .TILE_ARB_RANK → f ≠ .GLB_TILE_RANK_ORDER) :
    (s.wr f i x v).rd g j y = if g = f ∧ j = i ∧ y = x then v % 2 ^ f.width else s.rd g j y := by
  unfold rd
  rw [fieldReset_wr s f g i x v j y h]
  split
  · rename_i hk
    obtain ⟨rfl, rfl, rfl⟩ := hk
    exact SMap.get_set_self _ _ _ _
  · rename_i hk
    exact SMap.get_set_ne _ _ _ _ fun e => hk (key_eq.1 e)

theorem arb_ne {f : Fd} (h : f.spec.reg = .TILE_ARB_RANK) : f ≠ .GLB_TILE_RANK_ORDER := by
  rintro rfl; exact absurd h (by decide)

@[simp] theorem rd_wr_self (s : State) (f : Fd) (i x v : Nat) : (s.wr f i x v).rd f i x = v % 2 ^ f.width := by
  rw [rd_wr s f f i x v i x arb_ne]; simp

theorem rd_wr_ne (s : State) {f g : Fd} {i j x y : Nat} (v : Nat)
    (h : g.spec.reg = .TILE_ARB_RANK → f ≠ .GLB_TILE_RANK_ORDER) (hk : ¬ (g = f ∧ j = i ∧ y = x)) :
    (s.wr f i x v).rd g j y = s.rd g j y := by
  rw [rd_wr s f g i x v j y h, if_neg hk]

end State

end Sys2Proof.Machine
end

