-- ==== Sys2Proof/Laws/Ops.lean ====
section
/-! SUPPORT. What the shared operations can do: for each, the parts of the state it may change, and the register fields
it may write. -/
namespace Sys2Proof.Machine

namespace State

/-! ### Contexts, engines, arrays -/

theorem ctx_setCtx (s : State) (t c : Nat) (y : Ctx) (t' c' : Nat) :
    (s.setCtx t c y).ctx t' c' = if t' = t ∧ c' = c then y else s.ctx t' c' := by
  unfold ctx setCtx
  split
  · rename_i h; obtain ⟨rfl, rfl⟩ := h; exact SMap.get_set_self _ _ _ _
  · rename_i h; exact SMap.get_set_ne _ _ _ _ fun e => h (by simpa using e)

@[simp] theorem ctx_setCtx_self (s : State) (t c : Nat) (y : Ctx) : (s.setCtx t c y).ctx t c = y := by
  simp [ctx_setCtx]

theorem engine_setEngine (s : State) (t e : Nat) (y : Engine) (t' e' : Nat) :
    (s.setEngine t e y).engine t' e' = if t' = t ∧ e' = e then y else s.engine t' e' := by
  unfold engine setEngine
  split
  · rename_i h; obtain ⟨rfl, rfl⟩ := h; exact SMap.get_set_self _ _ _ _
  · rename_i h; exact SMap.get_set_ne _ _ _ _ fun e => h (by simpa using e)

@[simp] theorem engine_setEngine_self (s : State) (t e : Nat) (y : Engine) : (s.setEngine t e y).engine t e = y := by
  simp [engine_setEngine]

theorem array_setArray (s : State) (t : Nat) (y : MatArray) (t' : Nat) :
    (s.setArray t y).array t' = if t' = t then y else s.array t' := by
  unfold array setArray
  split
  · rename_i h; subst h; exact SMap.get_set_self _ _ _ _
  · rename_i h; exact SMap.get_set_ne _ _ _ _ fun e => h (by simpa using e)

@[simp] theorem array_setArray_self (s : State) (t : Nat) (y : MatArray) : (s.setArray t y).array t = y := by
  simp [array_setArray]

theorem waitersOn_setWaiters (s : State) (t n : Nat) (ws : List Waiter) (t' n' : Nat) :
    (s.setWaiters t n ws).waitersOn t' n' = if t' = t ∧ n' = n then ws else s.waitersOn t' n' := by
  unfold waitersOn setWaiters
  split
  · rename_i h; obtain ⟨rfl, rfl⟩ := h; exact SMap.get_set_self _ _ _ _
  · rename_i h; exact SMap.get_set_ne _ _ _ _ fun e => h (by simpa using e)

@[simp] theorem ctx_wr (s : State) (f : Fd) (i x v t c : Nat) : (s.wr f i x v).ctx t c = s.ctx t c := rfl
@[simp] theorem engine_wr (s : State) (f : Fd) (i x v t e : Nat) : (s.wr f i x v).engine t e = s.engine t e := rfl
@[simp] theorem array_wr (s : State) (f : Fd) (i x v t : Nat) : (s.wr f i x v).array t = s.array t := rfl
@[simp] theorem waitersOn_wr (s : State) (f : Fd) (i x v t n : Nat) :
    (s.wr f i x v).waitersOn t n = s.waitersOn t n := rfl
@[simp] theorem rd_setCtx (s : State) (t c : Nat) (y : Ctx) (f : Fd) (i x : Nat) :
    (s.setCtx t c y).rd f i x = s.rd f i x := rfl
@[simp] theorem rd_setEngine (s : State) (t e : Nat) (y : Engine) (f : Fd) (i x : Nat) :
    (s.setEngine t e y).rd f i x = s.rd f i x := rfl
@[simp] theorem rd_setArray (s : State) (t : Nat) (y : MatArray) (f : Fd) (i x : Nat) :
    (s.setArray t y).rd f i x = s.rd f i x := rfl
@[simp] theorem rd_setWaiters (s : State) (t n : Nat) (ws : List Waiter) (f : Fd) (i x : Nat) :
    (s.setWaiters t n ws).rd f i x = s.rd f i x := rfl
@[simp] theorem engine_setCtx (s : State) (t c : Nat) (y : Ctx) (t' e : Nat) :
    (s.setCtx t c y).engine t' e = s.engine t' e := rfl
@[simp] theorem ctx_setEngine (s : State) (t e : Nat) (y : Engine) (t' c : Nat) :
    (s.setEngine t e y).ctx t' c = s.ctx t' c := rfl

/-! ### Registers by name -/

/-- A field of a register outside a list of registers keeps its value when a field of one of them is written. -/
theorem rd_wr_out (s : State) {f g : Fd} (i x v j y : Nat) (h : g.spec.reg ≠ f.spec.reg)
    (ha : f.spec.reg ≠ .GLB_TILE_RANK) : (s.wr f i x v).rd g j y = s.rd g j y := by
  refine rd_wr_ne s v (fun _ e => ha (by rw [e]; rfl)) fun e => h (by rw [e.1])

/-- A register's value depends on its fields alone. -/
theorem regVal_congr {s t : State} (r : Reg) (i x : Nat) (h : ∀ f ∈ r.spec.fields, s.rd f i x = t.rd f i x) :
    s.regVal r i x = t.regVal r i x := by
  unfold regVal
  generalize 0 = a
  revert h
  generalize r.spec.fields = l
  intro h
  induction l generalizing a with
  | nil => rfl
  | cons f l ih =>
    simp only [List.foldl_cons]
    rw [h f List.mem_cons_self]
    exact ih _ (fun g hg => h g (List.mem_cons_of_mem _ hg))

/-! ### Interrupts, error bits, records -/

theorem noRec_of_noInt {s u : State} (h : u.noInt = s.noInt) : u.noRec = s.noRec :=
  congrArg (fun v : State => { v with errRing := [], errHeld := [], errSeq := 0, cause := none }) h

@[simp] theorem noInt_wr (s : State) (f : Fd) (i x v : Nat) : (s.wr f i x v).noInt = s.noInt := rfl
@[simp] theorem noRec_wr (s : State) (f : Fd) (i x v : Nat) : (s.wr f i x v).noRec = s.noRec := rfl

/-- Raising a vector changes the pending array and what the host is sent. -/
@[simp] theorem noInt_raiseVector (s : State) (v : Nat) : (s.raiseVector v).noInt = s.noInt := by
  unfold raiseVector; split <;> rfl

@[simp] theorem noRec_raiseVector (s : State) (v : Nat) : (s.raiseVector v).noRec = s.noRec :=
  noRec_of_noInt (noInt_raiseVector s v)

theorem rd_raiseVector (s : State) (v : Nat) (f : Fd) (i x : Nat) (h : f.spec.reg ≠ .HST_PBA) :
    (s.raiseVector v).rd f i x = s.rd f i x := by
  unfold raiseVector
  split
  · exact rd_wr_out s _ _ _ _ _ h (by decide)
  · rfl

/-- Setting an error bit changes registers and interrupts. -/
@[simp] theorem noInt_setErr (s : State) (cls n inst : Nat) : (s.setErr cls n inst).noInt = s.noInt := by
  unfold setErr
  split
  · rfl
  · dsimp only
    repeat' split
    all_goals simp

@[simp] theorem noRec_setErr (s : State) (cls n inst : Nat) : (s.setErr cls n inst).noRec = s.noRec :=
  noRec_of_noInt (noInt_setErr s cls n inst)

theorem errField_reg {cls n : Nat} {f : Fd} (h : errField cls n = some f) :
    ∃ r, errReg cls = some r ∧ f ∈ r.spec.fields := by
  unfold errField at h
  cases hr : errReg cls with
  | none => simp [hr] at h
  | some r =>
    rw [hr] at h
    exact ⟨r, rfl, List.mem_of_find?_eq_some h⟩

/-- The registers that setting an error bit may change: a block's error status register, and the pending array. -/
def errRegs : List Reg :=
  [.RST_ERR_STATUS, .LHS_ERR_STATUS, .SEC_ERR_STATUS, .HST_ERR_STATUS, .TIDE_ERR_STATUS, .TWY_ERR_STATUS,
   .MEM_ERR_STATUS, .SIG_ERR_STATUS, .TST_ERR_STATUS, .TILE_ERR_STATUS, .SHG_ERR_STATUS, .JRN_ERR_STATUS,
   .SLU_ERR_STATUS]

theorem errReg_mem {cls : Nat} {r : Reg} (h : errReg cls = some r) : r ∈ errRegs := by
  unfold errReg at h
  split at h <;> (first | (injection h with h; subst h; decide) | cases h)

theorem errRegs_fields : ∀ r ∈ errRegs, ∀ f ∈ r.spec.fields, f.spec.reg = r := by decide

theorem errField_spec {cls n : Nat} {f : Fd} (h : errField cls n = some f) : errReg cls = some f.spec.reg := by
  obtain ⟨r, hr, hf⟩ := errField_reg h
  rw [errRegs_fields r (errReg_mem hr) f hf]; exact hr

theorem errField_mem {cls n : Nat} {f : Fd} (h : errField cls n = some f) : f.spec.reg ∈ errRegs :=
  errReg_mem (errField_spec h)

theorem rd_setErr (s : State) (cls n inst : Nat) (g : Fd) (i x : Nat) (h : errReg cls ≠ some g.spec.reg)
    (hp : g.spec.reg ≠ .HST_PBA) : (s.setErr cls n inst).rd g i x = s.rd g i x := by
  unfold setErr
  split
  · rfl
  · rename_i f hf
    have hs := errField_mem hf
    have hw : ∀ j, (s.wr f j 0 1).rd g i x = s.rd g i x := fun j =>
      rd_wr_out s _ _ _ _ _ (fun e => h (e ▸ errField_spec hf)) (fun e => absurd (e ▸ hs) (by decide))
    dsimp only
    split
    · rfl
    · split
      · split
        · rw [rd_raiseVector _ _ _ _ _ hp]; exact hw _
        · exact hw _
      · split
        · exact hw _
        · split
          · rw [rd_raiseVector _ _ _ _ _ hp]; exact hw _
          · exact hw _

/-- The bit itself is set afterwards. -/
theorem flag_setErr (s : State) {cls n : Nat} {f : Fd} (inst : Nat) (hf : errField cls n = some f)
    (hw : f.width = 1) : (s.setErr cls n inst).flag f (errInst cls inst) = true := by
  have hs := errField_mem hf
  have hp : f.spec.reg ≠ .HST_PBA := fun e => absurd (e ▸ hs) (by decide)
  have hv : (s.wr f (errInst cls inst) 0 1).rd f (errInst cls inst) 0 = 1 := by rw [rd_wr_self, hw]; rfl
  unfold setErr
  rw [hf]
  dsimp only
  split
  · assumption
  · unfold flag
    split
    · split
      · rw [rd_raiseVector _ _ _ _ _ hp, hv]; rfl
      · rw [hv]; rfl
    · split
      · rw [hv]; rfl
      · split
        · rw [rd_raiseVector _ _ _ _ _ hp, hv]; rfl
        · rw [hv]; rfl

/-- A record placed in the ring changes registers, interrupts and the ring. -/
@[simp] theorem noRec_placeRecord (s : State) (ws : List Nat) : (s.placeRecord ws).noRec = s.noRec := by
  have h1 (w : SMap (List Nat)) : noRec { s with errRing := w } = s.noRec := rfl
  have h3 (n : Nat) : (s.bump .SIG_ERR_DROPPED_COUNT 0 0 n).noRec = s.noRec := rfl
  unfold placeRecord
  dsimp only
  split <;> split <;> simp only [noRec_raiseVector, noRec_wr, h1, h3]

/-- So does a record that is written or held. -/
@[simp] theorem noRec_writeRecord (s : State) (e : Err) : (s.writeRecord e).noRec = s.noRec := by
  unfold writeRecord
  dsimp only
  split
  · rfl
  · rw [noRec_placeRecord]; rfl

@[simp] theorem errSeq_raiseVector (s : State) (v : Nat) : (s.raiseVector v).errSeq = s.errSeq := by
  have h := congrArg State.errSeq (noInt_raiseVector s v)
  exact h

@[simp] theorem errSeq_setErr (s : State) (cls n inst : Nat) : (s.setErr cls n inst).errSeq = s.errSeq := by
  have h := congrArg State.errSeq (noInt_setErr s cls n inst)
  exact h

/-- Placing a record takes no SEQ. -/
@[simp] theorem errSeq_placeRecord (s : State) (ws : List Nat) : (s.placeRecord ws).errSeq = s.errSeq := by
  unfold placeRecord
  dsimp only
  split <;> split <;> simp only [errSeq_raiseVector, wr_errSeq, bump]

/-- A record takes one SEQ. -/
theorem errSeq_writeRecord (s : State) (e : Err) : (s.writeRecord e).errSeq = (s.errSeq + 1) % 2 ^ 32 := by
  unfold writeRecord
  dsimp only
  split
  · rfl
  · rw [errSeq_placeRecord]

/-- The registers that a record may change. -/
def recordRegs : List Reg := [.SIG_ERR_HEAD, .SIG_ERR_DROPPED, .SIG_STATUS, .HST_PBA]

theorem rd_placeRecord (s : State) (ws : List Nat) (g : Fd) (i x : Nat) (h : g.spec.reg ∉ recordRegs) :
    (s.placeRecord ws).rd g i x = s.rd g i x := by
  have h1 : g.spec.reg ≠ .SIG_ERR_HEAD := fun e => h (by rw [e]; decide)
  have h2 : g.spec.reg ≠ .SIG_ERR_DROPPED := fun e => h (by rw [e]; decide)
  have h3 : g.spec.reg ≠ .SIG_STATUS := fun e => h (by rw [e]; decide)
  have h4 : g.spec.reg ≠ .HST_PBA := fun e => h (by rw [e]; decide)
  unfold placeRecord
  dsimp only
  have hb (u : State) : (u.wr .SIG_STATUS_RECORD 0 0 1).rd g i x = u.rd g i x := rd_wr_out _ _ _ _ _ _ h3 (by decide)
  have hd : (s.bump .SIG_ERR_DROPPED_COUNT 0 0 1).rd g i x = s.rd g i x := rd_wr_out s _ _ _ _ _ h2 (by decide)
  have hh (u : SMap (List Nat)) (v : Nat) : (State.wr { s with errRing := u } .SIG_ERR_HEAD_HEAD 0 0 v).rd g i x =
      s.rd g i x := rd_wr_out _ _ _ _ _ _ h1 (by decide)
  split <;> split <;> simp only [rd_raiseVector _ _ _ _ _ h4, hb, hd, hh]

theorem rd_writeRecord (s : State) (e : Err) (g : Fd) (i x : Nat) (h : g.spec.reg ∉ recordRegs) :
    (s.writeRecord e).rd g i x = s.rd g i x := by
  unfold writeRecord
  dsimp only
  split
  · rfl
  · rw [rd_placeRecord _ _ _ _ _ h]; rfl

@[simp] theorem noRec_voidStep (s : State) (cls index : Nat) : (s.voidStep cls index).noRec = s.noRec := by
  unfold voidStep; dsimp only; split <;> rfl

@[simp] theorem errSeq_voidStep (s : State) (cls index : Nat) : (s.voidStep cls index).errSeq = s.errSeq := by
  unfold voidStep; dsimp only; split <;> rfl

theorem rd_voidStep (s : State) (cls index : Nat) (g : Fd) (i x : Nat) (h : g.spec.reg ≠ .SIG_STATUS) :
    (s.voidStep cls index).rd g i x = s.rd g i x := by
  unfold voidStep
  dsimp only
  split <;> exact rd_wr_out _ _ _ _ _ _ h (by decide)

@[simp] theorem rd_voidStep_self (s : State) (cls index : Nat) : (s.voidStep cls index).rd .SIG_STATUS_VOIDED = 1 :=
  rd_wr_self _ _ _ _ _

/-- A report changes registers, interrupts, the ring and the cause of the void. -/
@[simp] theorem noRec_report (s : State) (e : Err) : (s.report e).noRec = s.noRec := by
  unfold report; dsimp only; split <;> split <;> simp

theorem errSeq_report (s : State) (e : Err) : (s.report e).errSeq = (s.errSeq + 1) % 2 ^ 32 := by
  unfold report
  dsimp only
  split <;> split <;> simp only [errSeq_voidStep, errSeq_writeRecord, errSeq_setErr]

theorem rd_report (s : State) (e : Err) (g : Fd) (i x : Nat) (h : errReg e.cls ≠ some g.spec.reg)
    (h' : g.spec.reg ∉ recordRegs) : (s.report e).rd g i x = s.rd g i x := by
  have h3 : g.spec.reg ≠ .SIG_STATUS := fun e => h' (by rw [e]; decide)
  have h4 : g.spec.reg ≠ .HST_PBA := fun e => h' (by rw [e]; decide)
  unfold report
  dsimp only
  split <;> split <;> simp only [rd_voidStep _ _ _ _ _ _ h3, rd_writeRecord _ _ _ _ _ h', rd_setErr _ _ _ _ _ _ _ h h4]

/-- A report sets its own bit. -/
theorem flag_report (s : State) (e : Err) {f : Fd} (hn : e.index < 0x80) (hf : errField e.cls e.index = some f)
    (hw : f.width = 1) : (s.report e).flag f (errInst e.cls e.inst) = true := by
  have hs := errField_mem hf
  have h' : f.spec.reg ∉ recordRegs := fun hm => by revert hs hm; generalize f.spec.reg = r; revert r; decide
  have h3 : f.spec.reg ≠ .SIG_STATUS := fun e => absurd (e ▸ hs) (by decide)
  have hb := flag_setErr s e.inst hf hw
  unfold report
  simp only [hn, if_true]
  unfold flag at hb ⊢
  split
  · rw [rd_voidStep _ _ _ _ _ _ h3, rd_writeRecord _ _ _ _ _ h']; exact hb
  · rw [rd_writeRecord _ _ _ _ _ h']; exact hb

@[simp] theorem cause_writeRecord (s : State) (e : Err) : (s.writeRecord e).cause = s.cause := by
  have h (u : State) (v : Nat) : (u.raiseVector v).cause = u.cause := by
    have h := congrArg State.cause (noInt_raiseVector u v)
    exact h
  have hp (u : State) (ws : List Nat) : (u.placeRecord ws).cause = u.cause := by
    unfold placeRecord
    dsimp only
    split <;> split <;> (try rw [h]) <;> rfl
  unfold writeRecord
  dsimp only
  split
  · rfl
  · rw [hp]

/-- A report that does not void the step keeps the cause of a void. -/
theorem cause_report (s : State) (e : Err) (h : e.void = false) : (s.report e).cause = s.cause := by
  have he : (s.setErr e.cls e.index e.inst).cause = s.cause := by
    have h := congrArg State.cause (noInt_setErr s e.cls e.index e.inst)
    exact h
  unfold report
  simp only [h, Bool.false_eq_true, if_false, cause_writeRecord]
  split
  · exact he
  · rfl

/-- The void that a report brings. -/
theorem rd_report_voided (s : State) (e : Err) :
    (s.report e).rd .SIG_STATUS_VOIDED = if e.void then 1 else s.rd .SIG_STATUS_VOIDED := by
  unfold report
  dsimp only
  have hs : ∀ u : State, (u.writeRecord e).rd .SIG_STATUS_VOIDED = u.rd .SIG_STATUS_VOIDED := fun u => by
    have hp (v : State) (ws : List Nat) : (v.placeRecord ws).rd .SIG_STATUS_VOIDED = v.rd .SIG_STATUS_VOIDED := by
      unfold placeRecord
      dsimp only
      have h4 : Fd.SIG_STATUS_VOIDED.spec.reg ≠ .HST_PBA := by decide
      have hb (w : State) : (w.wr .SIG_STATUS_RECORD 0 0 1).rd .SIG_STATUS_VOIDED = w.rd .SIG_STATUS_VOIDED :=
        rd_wr_ne _ _ (fun h => absurd h (by decide)) (fun h => absurd h.1 (by decide))
      have hd : (v.bump .SIG_ERR_DROPPED_COUNT 0 0 1).rd .SIG_STATUS_VOIDED = v.rd .SIG_STATUS_VOIDED :=
        rd_wr_out v _ _ _ _ _ (by decide) (by decide)
      have hh (r : SMap (List Nat)) (n : Nat) :
          (State.wr { v with errRing := r } .SIG_ERR_HEAD_HEAD 0 0 n).rd .SIG_STATUS_VOIDED = v.rd .SIG_STATUS_VOIDED :=
        rd_wr_out _ _ _ _ _ _ (by decide) (by decide)
      split <;> split <;> simp only [rd_raiseVector _ _ _ _ _ h4, hb, hd, hh]
    unfold writeRecord
    dsimp only
    split
    · rfl
    · rw [hp]; rfl
  have he : (s.setErr e.cls e.index e.inst).rd .SIG_STATUS_VOIDED = s.rd .SIG_STATUS_VOIDED :=
    rd_setErr _ _ _ _ _ _ _ (fun h => absurd (errReg_mem h) (by decide)) (by decide)
  split <;> split <;> simp only [rd_voidStep_self, hs, he]

/-- A tile's report: TILE_ERR_INFO beside what a report changes. -/
@[simp] theorem noRec_tileErr (s : State) (t n addr : Nat) (void : Bool) (ok o d5 d6 wk w : Nat) :
    (s.tileErr t n addr void ok o d5 d6 wk w).noRec = s.noRec := by
  unfold tileErr; dsimp only; rw [noRec_report]; split <;> rfl

theorem rd_tileErr (s : State) (t n addr : Nat) (void : Bool) (ok o d5 d6 wk w : Nat) (g : Fd) (i x : Nat)
    (h : g.spec.reg ∉ [Reg.TILE_ERR_STATUS, .TILE_ERR_INFO, .SIG_ERR_HEAD, .SIG_ERR_DROPPED, .SIG_STATUS, .HST_PBA]) :
    (s.tileErr t n addr void ok o d5 d6 wk w).rd g i x = s.rd g i x := by
  simp only [List.mem_cons, not_or, List.not_mem_nil, not_false_eq_true, and_true] at h
  unfold tileErr
  dsimp only
  rw [rd_report _ _ _ _ _ (by simpa [errReg] using Ne.symm h.1) (by simpa [recordRegs] using h.2.2)]
  split
  · exact rd_wr_out _ _ _ _ _ _ h.2.1 (by decide)
  · rfl

theorem cause_tileErr (s : State) (t n addr ok o d5 d6 wk w : Nat) :
    (s.tileErr t n addr false ok o d5 d6 wk w).cause = s.cause := by
  unfold tileErr; dsimp only; rw [cause_report _ _ rfl]; split <;> rfl

theorem flag_tileErr (s : State) (t addr : Nat) (void : Bool) (ok o d5 d6 wk w : Nat) {n : Nat} {f : Fd}
    (hn : n < 0x80) (hf : errField 0x0C n = some f) (hw : f.width = 1) :
    (s.tileErr t n addr void ok o d5 d6 wk w).flag f t = true := by
  unfold tileErr; exact flag_report _ _ hn hf hw

theorem errSeq_tileErr (s : State) (t n addr : Nat) (void : Bool) (ok o d5 d6 wk w : Nat) :
    (s.tileErr t n addr void ok o d5 d6 wk w).errSeq = (s.errSeq + 1) % 2 ^ 32 := by
  unfold tileErr; dsimp only; rw [errSeq_report]; split <;> rfl

theorem rd_tileErr_voided (s : State) (t n addr : Nat) (void : Bool) (ok o d5 d6 wk w : Nat) :
    (s.tileErr t n addr void ok o d5 d6 wk w).rd .SIG_STATUS_VOIDED = if void then 1 else s.rd .SIG_STATUS_VOIDED := by
  unfold tileErr; dsimp only; rw [rd_report_voided]
  have : ∀ p : Prop, [Decidable p] → (if p then s.wr .TILE_ERR_INFO_ADDR t 0 addr else s).rd .SIG_STATUS_VOIDED =
      s.rd .SIG_STATUS_VOIDED := fun p _ => by
    split
    · exact rd_wr_out _ _ _ _ _ _ (by decide) (by decide)
    · rfl
  rw [this]

end State

end Sys2Proof.Machine
end

