-- ==== Sys2Proof/Laws/Access.lean ====
section
/-! SUPPORT. What reads and writes of device memory do: a read that answers gives the bytes that lie there, a write changes
its own bytes. -/
namespace Sys2Proof.Machine

namespace State

@[simp] theorem place_nil (s : State) (req : Req) : s.place req [] = s := rfl

/-- With no bridge in loopback no request is cut off. -/
theorem bridgeCut_none {s : State} (h : s.bridgeLoopback = false) (req : Req) (die : Nat) : s.bridgeCut req die = false := by
  simp [bridgeCut, h]

/-- A tile's own requests always reach its memories (R399, R464). -/
theorem reachesTile_within {s : State} {req : Req} {t : Nat} (h : req.within t = true) : s.reachesTile req t = true := by
  simp only [Req.within, Bool.and_eq_true, Bool.or_eq_true, beq_iff_eq] at h
  obtain ⟨hk, rfl⟩ := h
  simp [reachesTile, bridgeCut, Req.within, hk]

/-- Through an open shutter, and with no bridge in loopback, every request reaches a tile. -/
theorem reachesTile_open {s : State} {req : Req} {t : Nat} (ho : s.isOpen kTile t = true) (hb : s.bridgeLoopback = false) :
    s.reachesTile req t = true := by
  simp [reachesTile, ho, bridgeCut_none hb]

/-- A read of a tile's memories that meets no error changes nothing and gives the bytes. -/
theorem readSpan_tile {s : State} {req : Req} {a n t o : Nat} (ht : s.target a = .tile t o)
    (hv : tileSpanValid o n = true) (ho : s.reachesTile req t = true) (hb : s.firstBad a n = none) :
    s.readSpan req a n = (s, .ok (s.mem.readN a n)) := by
  unfold readSpan
  rw [ht]
  dsimp only
  rw [hv, hb]
  simp [ho]

/-- Whatever a read answers, its bytes are those that lie there. -/
theorem readSpan_ok {s u : State} {req : Req} {a n : Nat} {bs : List Byte} (h : s.readSpan req a n = (u, .ok bs)) :
    bs = s.mem.readN a n := by
  unfold readSpan at h
  split at h
  · split at h
    · split at h <;> cases h
    · split at h
      · cases h
      · split at h
        · cases h
        · injection h with _ h; injection h with h; exact h.symm
  · cases h
  · split at h
    · cases h
    · split at h
      · cases h
      · split at h
        · cases h
        · injection h with _ h; injection h with h; exact h.symm
  all_goals cases h

/-- A read that answers from a tile, or from no stack, changes nothing. -/
theorem readSpan_same {s u : State} {req : Req} {a n : Nat} {bs : List Byte} (h : s.readSpan req a n = (u, .ok bs))
    (ha : s.target a ≠ .stack) : u = s := by
  unfold readSpan at h
  split at h
  · rename_i e; exact absurd e ha
  · cases h
  · split at h
    · cases h
    · split at h
      · cases h
      · split at h
        · cases h
        · injection h with h _; exact h.symm
  all_goals cases h

/-- What a read that answers from no stack has found. -/
theorem readSpan_inv {s : State} {req : Req} {a n : Nat} {bs : List Byte} (h : (s.readSpan req a n).2 = .ok bs)
    (ha : s.target a ≠ .stack) :
    ∃ t o, s.target a = .tile t o ∧ tileSpanValid o n = true ∧ s.reachesTile req t = true ∧
      s.firstBad a n = none ∧ bs = s.mem.readN a n := by
  have hbs := readSpan_ok (u := (s.readSpan req a n).1) (by rw [← h])
  unfold readSpan at h
  split at h
  · rename_i e; exact absurd e ha
  · cases h
  · rename_i t o e
    split at h
    · cases h
    · rename_i hv
      split at h
      · cases h
      · rename_i hs
        split at h
        · cases h
        · rename_i hb
          exact ⟨t, o, e, by simpa using hv, by simpa using hs, hb, hbs⟩
  all_goals cases h

/-- No address of the tile range or above it is a stack's. -/
theorem target_ne_stack {s : State} {a : Nat} (h : 0x200000000000 ≤ a) : s.target a ≠ .stack := by
  unfold target
  rw [if_neg (by omega), if_neg (by omega)]
  dsimp only
  repeat' split
  all_goals simp

/-! ### Lines of a span -/

theorem spanLines_succ (a n : Nat) (hn : 0 < n) :
    spanLines a n = a / 64 :: spanLines (64 * (a / 64) + 64) (a + n - (64 * (a / 64) + 64)) := by
  unfold spanLines
  rw [if_neg (by omega)]
  have hk : (a + n - 1) / 64 + 1 - a / 64 = ((a + n - 1) / 64 - a / 64) + 1 := by
    have : a / 64 ≤ (a + n - 1) / 64 := Nat.div_le_div_right (by omega)
    omega
  rw [hk, List.range_succ_eq_map, List.map_cons, List.map_map]
  simp only [Nat.add_zero]
  congr 1
  by_cases h : a + n ≤ 64 * (a / 64) + 64
  · have h0 : (a + n - 1) / 64 - a / 64 = 0 := by omega
    rw [h0, if_pos (by omega)]; rfl
  · rw [if_neg (by omega)]
    have h1 : (64 * (a / 64) + 64) / 64 = a / 64 + 1 := by omega
    have h2 : (64 * (a / 64) + 64 + (a + n - (64 * (a / 64) + 64)) - 1) = a + n - 1 := by omega
    rw [h1, h2]
    have h3 : (a + n - 1) / 64 + 1 - (a / 64 + 1) = (a + n - 1) / 64 - a / 64 := by omega
    rw [h3]
    apply List.map_congr_left
    intro i _
    simp only [Function.comp]
    omega

end State

theorem Memory.writeN_append (m : Memory) (a : Nat) (xs ys : List Byte) :
    m.writeN a (xs ++ ys) = (m.writeN a xs).writeN (a + xs.length) ys := by
  induction xs generalizing m a with
  | nil => rfl
  | cons x xs ih =>
    simp only [List.cons_append, Memory.writeN, List.length_cons]
    rw [ih]; congr 1; omega

theorem Memory.badIn_writeN (m : Memory) (a b n : Nat) (vs : List Byte) : (m.writeN a vs).badIn b n = m.badIn b n := by
  unfold Memory.badIn; rw [Memory.writeN_bad]

namespace State

/-- The words of a span's lines that `firstBad` has found clean. -/
theorem firstBad_none {s : State} {a n : Nat} (h : s.firstBad a n = none) :
    ∀ l ∈ spanLines a n, s.mem.badIn (max a (64 * l)) (lineBytes a n l) = none := by
  intro l hl
  unfold firstBad at h
  have := List.findSome?_eq_none_iff.1 h l hl
  simpa using this

/-- A loop over the lines of a span that writes each line's part writes the span. -/
theorem lines_write (w : State → Nat → List Byte → State × Bool)
    (hw : ∀ (s : State) (a : Nat) (bs : List Byte), s.mem.badIn a bs.length = none →
      w s a bs = ({ s with mem := s.mem.writeN a bs }, true))
    (a n : Nat) (bs : List Byte) (k : Nat) (hk : n ≤ k) (s : State) (b : Bool) (pre : List Byte) (a0 n0 : Nat)
    (hbs : bs.length = n) (ha : a0 + pre.length = a) (hn : a0 + n0 = a + n)
    (hg : ∀ l ∈ spanLines a n, s.mem.badIn (max a0 (64 * l)) (lineBytes a0 n0 l) = none) (hal : pre = [] ∨ a % 64 = 0) :
    (spanLines a n).foldl (fun (acc : State × Bool) l =>
      let lo := max a0 (64 * l)
      let (s, ok) := w acc.1 lo (((pre ++ bs).drop (lo - a0)).take (lineBytes a0 n0 l))
      (s, acc.2 && ok)) (s, b) = ({ s with mem := s.mem.writeN a bs }, b) := by
  induction k generalizing a n bs s pre with
  | zero =>
    have h0 : n = 0 := by omega
    subst h0
    have : bs = [] := List.length_eq_zero_iff.1 hbs
    subst this; rfl
  | succ k ih =>
    by_cases h0 : n = 0
    · subst h0
      have : bs = [] := List.length_eq_zero_iff.1 hbs
      subst this; rfl
    · have hs := spanLines_succ a n (by omega)
      rw [hs] at hg ⊢
      rw [List.foldl_cons]
      have hlo : max a0 (64 * (a / 64)) = a := by
        rcases hal with h | h
        · subst h; simp at ha; omega
        · omega
      have hbad := hg _ List.mem_cons_self
      rw [hlo] at hbad
      simp only [hlo]
      have hd : a - a0 = pre.length := by omega
      rw [hd, List.drop_left]
      have hlen : lineBytes a0 n0 (a / 64) = min n (64 * (a / 64) + 64 - a) := by
        unfold lineBytes; rw [hlo]; omega
      rw [hlen] at hbad ⊢
      rw [hw s a _ (by rw [List.length_take, hbs, Nat.min_eq_left (by omega)]; exact hbad)]
      set q := min n (64 * (a / 64) + 64 - a) with hq
      have hqp : 0 < q := by omega
      have hih := ih (64 * (a / 64) + 64) (a + n - (64 * (a / 64) + 64)) (bs.drop q) (by omega)
        { s with mem := s.mem.writeN a (bs.take q) } (pre ++ bs.take q)
      by_cases hfit : n ≤ 64 * (a / 64) + 64 - a
      · have hz : a + n - (64 * (a / 64) + 64) = 0 := by omega
        rw [hz]
        have htk : bs.take q = bs := by rw [List.take_of_length_le]; omega
        rw [htk]
        simp [spanLines]
      · have hq2 : q = 64 * (a / 64) + 64 - a := by omega
        have hlt : (bs.take q).length = q := by rw [List.length_take]; omega
        have := hih (by rw [List.length_drop]; omega) (by rw [List.length_append, hlt]; omega) (by omega)
          (by
            intro l hl
            show (s.mem.writeN a (bs.take q)).badIn _ _ = none
            rw [Memory.badIn_writeN]
            exact hg l (List.mem_cons_of_mem _ hl))
          (.inr (by omega))
        rw [List.append_assoc, List.take_append_drop] at this
        rw [Bool.and_true, this]
        have hmem : (s.mem.writeN a (bs.take q)).writeN (64 * (a / 64) + 64) (bs.drop q) = s.mem.writeN a bs := by
          have := Memory.writeN_append s.mem a (bs.take q) (bs.drop q)
          rw [List.take_append_drop, hlt] at this
          rw [this]; congr 1; omega
        simp only [hmem]

theorem writeRow_good (req : Req) (t : Nat) (s : State) (a : Nat) (bs : List Byte) (h : s.mem.badIn a bs.length = none) :
    s.writeRow req t a bs = ({ s with mem := s.mem.writeN a bs }, true) := by
  unfold writeRow; rw [h]

theorem writeLine_good (req : Req) (s : State) (a : Nat) (bs : List Byte) (h : s.mem.badAt a = none) :
    s.writeLine req a bs =
      (if bs.length = 64 then { s with mem := s.mem.writeN a bs }
       else ({ s with mem := s.mem.writeN a bs } : State).count .MEM_RD_BYTES_COUNT (stackOf s.fuses.nStacks a) 0 64, true) := by
  unfold writeLine; rw [h]

/-- A line's part below M that may be written, behind an open shutter and without an error, is written and counted. -/
theorem stackLine_good {s : State} {req : Req} {a : Nat} {bs : List Byte} (fs : List (Fail × Nat)) (hm : a < s.fuses.memory)
    (hw : s.writeAllowed req a bs.length = true) (ho : s.reachesStack req (stackOf s.fuses.nStacks a) = true)
    (hb : s.mem.badAt a = none) :
    s.stackLine req fs a bs =
      ((s.writeLine req a bs).1.count .MEM_WR_BYTES_COUNT (stackOf s.fuses.nStacks a) 0 bs.length, fs) := by
  unfold stackLine
  rw [if_neg (by omega), writeLine_good req s a bs hb]
  simp [hw, ho]

/-- Rows without an error take their bytes. -/
theorem writeRows_good {s : State} (req : Req) (t : Nat) {a : Nat} (bs : List Byte)
    (h : s.firstBad a bs.length = none) : s.writeRows req t a bs = ({ s with mem := s.mem.writeN a bs }, true) := by
  unfold writeRows
  exact lines_write (fun s a bs => s.writeRow req t a bs) (writeRow_good req t) a bs.length bs bs.length (Nat.le_refl _)
    s true [] a bs.length rfl (by simp) rfl (firstBad_none h) (.inl rfl)

/-- A write to a tile's memories that meets no error. -/
theorem writeSpan_tile {s : State} {req : Req} {a t o : Nat} {bs : List Byte} (ht : s.target a = .tile t o)
    (hv : tileSpanValid o bs.length = true) (ho : s.reachesTile req t = true)
    (hb : s.firstBad a bs.length = none) (hr : req.mirrorFrom = none) :
    s.writeSpan req a bs = ({ s with mem := s.mem.writeN a bs }, none) := by
  unfold writeSpan
  rw [ht]
  dsimp only
  rw [hv, writeRows_good req t bs hb]
  simp [ho, hr]

end State

end Sys2Proof.Machine
end

