-- ==== Sys2Proof/Laws/Codec.lean ====
section
/-! SUPPORT. Lemmas about the CRC register. -/
namespace Sys2Proof.Machine

theorem crcBytes_cons (c b : Nat) (bs : List Nat) : crcBytes c (b :: bs) = crcBytes (crcByte c b) bs := by
  conv => lhs; unfold crcBytes
  generalize crcByte c b = n
  cases n <;> rfl

theorem crcBytes_eq_foldl (bs : List Nat) : ∀ c, crcBytes c bs = bs.foldl crcByte c := by
  induction bs with
  | nil => intro c; unfold crcBytes; simp only [List.foldl_nil]
  | cons b bs ih => intro c; rw [crcBytes_cons, List.foldl_cons, ih]

theorem crcBytes_append (as bs : List Nat) (c : Nat) : crcBytes c (as ++ bs) = crcBytes (crcBytes c as) bs := by
  simp only [crcBytes_eq_foldl, List.foldl_append]

end Sys2Proof.Machine
end

