-- ==== Sys2Proof/Laws/Core.lean ====
section
/-! SUPPORT. What the scalar core's operations do to a context: results, retirement, exceptions. -/
namespace Sys2Proof.Machine

/-- An answer of a state that has kept the queue and the fuses is that state. -/
theorem answer_eq {s u : State} (hp : u.pending = s.pending) (hf : u.fuses = s.fuses) : answer s u = .next u := by
  unfold answer; rw [← hp, ← hf]

theorem answerIf_true {ok : Bool} {s u : State} (h : ok = true) : answerIf ok s u = answer s u := by simp [answerIf, h]

namespace State

@[simp] theorem noCtx_setCtx (s : State) (t c : Nat) (y : Ctx) : (s.setCtx t c y).noCtx = s.noCtx := rfl
@[simp] theorem noCtx_takeCore (s : State) (t c : Nat) : (s.takeCore t c).noCtx = s.noCtx := rfl
@[simp] theorem ctx_takeCore (s : State) (t c t' c' : Nat) : (s.takeCore t c).ctx t' c' = s.ctx t' c' := rfl
@[simp] theorem rd_takeCore (s : State) (t c : Nat) (f : Fd) (i x : Nat) : (s.takeCore t c).rd f i x = s.rd f i x := rfl
@[simp] theorem x_takeCore (s : State) (t c t' c' r : Nat) : (s.takeCore t c).x t' c' r = s.x t' c' r := rfl

@[simp] theorem noCtx_setX (s : State) (t c r : Nat) (v : BitVec 32) : (s.setX t c r v).noCtx = s.noCtx := by
  unfold setX; split <;> rfl

@[simp] theorem noCtx_result (s : State) (t c n rd : Nat) (v : BitVec 32) : (s.result t c n rd v).noCtx = s.noCtx := by
  unfold result; rw [noCtx_setX]; rfl

/-- Registers do not depend on contexts. -/
theorem rd_of_noCtx {s u : State} (h : u.noCtx = s.noCtx) (f : Fd) (i x : Nat) : u.rd f i x = s.rd f i x := by
  have h := congrArg (fun v : State => v.rd f i x) h
  exact h

theorem next_of_noCtx {s u : State} (h : u.noCtx = s.noCtx) : answer s u = .next u :=
  answer_eq (by have h := congrArg State.pending h; exact h) (by have h := congrArg State.fuses h; exact h)

theorem hasTile_of {s : State} {t : Nat} (h : t < s.nTiles) : s.hasTile t = true := by simpa [hasTile] using h

theorem current_takeCore (s : State) (t c : Nat) : SMap.get (s.takeCore t c).current ⟨t, 0, 0⟩ 0 = c :=
  SMap.get_set_self _ _ _ _

/-- A register written: x0 keeps 0, the others take it by number; nothing else of the context changes. -/
theorem ctx_setX (s : State) (t c r : Nat) (v : BitVec 32) (t' c' : Nat) :
    (s.setX t c r v).ctx t' c' =
      if t' = t ∧ c' = c then { s.ctx t c with x := ((s.setX t c r v).ctx t c).x } else s.ctx t' c' := by
  unfold setX
  split
  · split
    · rename_i h; obtain ⟨rfl, rfl⟩ := h; rfl
    · rfl
  · rw [ctx_setCtx]
    split
    · simp
    · rfl

theorem x_setX (s : State) (t c r : Nat) (v : BitVec 32) (k : Nat) :
    (s.setX t c r v).x t c k = if k = r ∧ k ≠ 0 then v else s.x t c k := by
  by_cases hk : k = 0
  · subst hk; simp [State.x]
  · by_cases hr : r = 0
    · subst hr; simp [setX, hk]
    · have hset : s.setX t c r v = s.setCtx t c { s.ctx t c with x := SMap.set (s.ctx t c).x ⟨r, 0, 0⟩ 0 v } := by
        simp [setX, hr]
      rw [hset]
      simp only [State.x, hk, if_false, ctx_setCtx_self]
      by_cases h : k = r
      · subst h; simp [hk]
      · rw [SMap.get_set_ne _ _ _ _ (by simpa using h)]; simp [h]

theorem x_setCtx_same (s : State) (t c : Nat) (y : Ctx) (h : y.x = (s.ctx t c).x) (k : Nat) :
    (s.setCtx t c y).x t c k = s.x t c k := by
  unfold State.x; rw [ctx_setCtx_self, h]

@[simp] theorem current_setX (s : State) (t c r : Nat) (v : BitVec 32) : (s.setX t c r v).current = s.current := by
  unfold setX; split <;> rfl

theorem x_retireTo (s : State) (t c : Nat) (pc : BitVec 32) (k : Nat) : (s.retireTo t c pc).x t c k = s.x t c k := by
  unfold retireTo; refine x_setCtx_same s t c _ ?_ k; rfl

theorem x_retire (s : State) (t c n k : Nat) : (s.retire t c n).x t c k = s.x t c k := x_retireTo _ _ _ _ _

/-- An instruction that ends with a result: rd, pc and minstret; nothing else. -/
theorem x_result (s : State) (t c n rd : Nat) (v : BitVec 32) (k : Nat) :
    (s.result t c n rd v).x t c k = if k = rd ∧ k ≠ 0 then v else s.x t c k := by
  unfold result
  rw [x_setX]
  rw [x_retire]

theorem ctx_result (s : State) (t c n rd : Nat) (v : BitVec 32) (t' c' : Nat) :
    (s.result t c n rd v).ctx t' c' =
      if t' = t ∧ c' = c then
        { s.ctx t c with x := ((s.result t c n rd v).ctx t c).x, pc := (s.ctx t c).pc + BitVec.ofNat 32 n,
                         minstret := (s.ctx t c).minstret + 1 }
      else s.ctx t' c' := by
  unfold result
  rw [ctx_setX]
  split
  · unfold retire retireTo; simp
  · unfold retire retireTo; rw [ctx_setCtx]; simp [*]

@[simp] theorem current_result (s : State) (t c n rd : Nat) (v : BitVec 32) :
    (s.result t c n rd v).current = s.current := by
  unfold result; rw [current_setX]; rfl

/-! ### Stopping, halting, trapping -/

theorem noInt_judgeIdle (s : State) : s.judgeIdle.noInt = s.noInt := by
  unfold judgeIdle
  dsimp only
  split
  · rfl
  · split <;> simp

theorem rd_judgeIdle (s : State) (f : Fd) (i x : Nat) (h : f.spec.reg ≠ .HST_STATUS) (h' : f.spec.reg ≠ .HST_PBA) :
    s.judgeIdle.rd f i x = s.rd f i x := by
  have hw : (s.wr .HST_STATUS_JOB_IDLE 0 0 1).rd f i x = s.rd f i x := rd_wr_out s _ _ _ _ _ h (by decide)
  unfold judgeIdle
  dsimp only
  split
  · rfl
  · split
    · rw [rd_raiseVector _ _ _ _ _ h', hw]
    · exact hw

theorem ctx_judgeIdle (s : State) (t c : Nat) : s.judgeIdle.ctx t c = s.ctx t c := by
  have h := congrArg (fun v : State => v.ctx t c) (noInt_judgeIdle s)
  exact h

/-- A context that waits for nothing stops: RUN is cleared, and nothing else happens. -/
theorem stopCtx_idle (s : State) (t c : Nat) (h : (s.ctx t c).wait = .none) :
    s.stopCtx t c = (s.setCtx t c { s.ctx t c with wait := .none }).wr .TILE_CTX_CTRL_RUN t c 0 := by
  unfold stopCtx endWaits; dsimp only; rw [h]

/-- A context that waits for nothing halts: RUN and HALTED, and JOB_IDLE with its interrupt where no context runs. -/
theorem haltCtx_idle (s : State) (t c : Nat) (h : (s.ctx t c).wait = .none) :
    s.haltCtx t c = (((s.setCtx t c { s.ctx t c with wait := .none }).wr .TILE_CTX_CTRL_RUN t c 0).wr
      .TILE_CTX_CTRL_HALTED t c 1).judgeIdle := by
  unfold haltCtx; rw [stopCtx_idle s t c h]

theorem ctx_haltCtx (s : State) (t c : Nat) (h : (s.ctx t c).wait = .none) (t' c' : Nat) :
    (s.haltCtx t c).ctx t' c' = s.ctx t' c' := by
  rw [haltCtx_idle s t c h, ctx_judgeIdle, ctx_wr, ctx_wr, ctx_setCtx]
  split
  · rename_i e; obtain ⟨rfl, rfl⟩ := e; rw [← h]
  · rfl

theorem rd_haltCtx (s : State) (t c : Nat) (h : (s.ctx t c).wait = .none) (f : Fd) (i x : Nat)
    (h1 : f.spec.reg ∉ [Reg.TILE_CTX_CTRL, .HST_STATUS, .HST_PBA]) : (s.haltCtx t c).rd f i x = s.rd f i x := by
  simp only [List.mem_cons, not_or] at h1
  rw [haltCtx_idle s t c h, rd_judgeIdle _ _ _ _ h1.2.1 h1.2.2.1, rd_wr_out _ _ _ _ _ _ h1.1 (by decide),
    rd_wr_out _ _ _ _ _ _ h1.1 (by decide), rd_setCtx]

theorem rd_haltCtx_run (s : State) (t c : Nat) (h : (s.ctx t c).wait = .none) :
    (s.haltCtx t c).rd .TILE_CTX_CTRL_RUN t c = 0 := by
  rw [haltCtx_idle s t c h, rd_judgeIdle _ _ _ _ (by decide) (by decide), rd_wr_ne _ _ (by decide) (by simp),
    rd_wr_self]
  rfl

theorem rd_haltCtx_halted (s : State) (t c : Nat) (h : (s.ctx t c).wait = .none) :
    (s.haltCtx t c).rd .TILE_CTX_CTRL_HALTED t c = 1 := by
  rw [haltCtx_idle s t c h, rd_judgeIdle _ _ _ _ (by decide) (by decide), rd_wr_self]
  rfl

theorem noHalt_of_noRec {s u : State} (h : u.noRec = s.noRec) : u.noHalt = s.noHalt := congrArg noCtx h
theorem noHalt_of_noInt {s u : State} (h : u.noInt = s.noInt) : u.noHalt = s.noHalt :=
  noHalt_of_noRec (noRec_of_noInt h)
theorem noHalt_of_noCtx {s u : State} (h : u.noCtx = s.noCtx) : u.noHalt = s.noHalt := congrArg noRec h

theorem noHalt_haltCtx (s : State) (t c : Nat) (h : (s.ctx t c).wait = .none) :
    (s.haltCtx t c).noHalt = s.noHalt := by
  rw [haltCtx_idle s t c h, noHalt_of_noInt (noInt_judgeIdle _)]; rfl

theorem noHaltInt_haltCtx (s : State) (t c : Nat) (h : (s.ctx t c).wait = .none) :
    (s.haltCtx t c).noInt.noCtx = s.noInt.noCtx := by
  rw [haltCtx_idle s t c h, noInt_judgeIdle]; rfl

theorem next_of_noHalt {s u : State} (h : u.noHalt = s.noHalt) : answer s u = .next u :=
  answer_eq (by have h := congrArg State.pending h; exact h) (by have h := congrArg State.fuses h; exact h)

theorem runnable_noCtx {s u : State} {t c : Nat} (h : u.noCtx = s.noCtx)
    (hw : (u.ctx t c).wait = (s.ctx t c).wait) : u.runnable t c = s.runnable t c := by
  unfold runnable ctxRun flag
  rw [rd_of_noCtx h, rd_of_noCtx h, hw]

theorem ctx_retire (s : State) (t c n t' c' : Nat) :
    (s.retire t c n).ctx t' c' = if t' = t ∧ c' = c then
      { s.ctx t c with pc := (s.ctx t c).pc + BitVec.ofNat 32 n, minstret := (s.ctx t c).minstret + 1 }
      else s.ctx t' c' := ctx_setCtx _ _ _ _ _ _

@[simp] theorem noCtx_retire (s : State) (t c n : Nat) : (s.retire t c n).noCtx = s.noCtx := rfl
@[simp] theorem rd_retire (s : State) (t c n : Nat) (f : Fd) (i x : Nat) : (s.retire t c n).rd f i x = s.rd f i x := rfl

/-! ### The instruction at the program counter -/

/-- A core that runs `i` does what `f` gives for it. -/
theorem onCoreDo_eq {s : State} {t c n : Nat} {i : Insn} (h : s.insnAt t = some (c, i, n))
    (f : Nat → Insn → Nat → Option (State → State)) :
    s.onCoreDo t f = match f c i n with | none => s | some g => g (s.takeCore t c) := by
  cases hf : f c i n <;> simp [onCoreDo, h, hf]

/-- The context that holds a core is runnable. -/
theorem insnAt_runnable {s : State} {t c n : Nat} {i : Insn} (h : s.insnAt t = some (c, i, n)) :
    s.runnable t c = true := by
  unfold insnAt at h
  split at h
  · cases h
  · rename_i c' hc
    have hc' : s.runnable t c' = true := by
      unfold onCore at hc
      split at hc
      · cases hc
      · exact List.find?_some hc
    split at h
    · cases h
    · injection h with h; injection h with h1 h2; subst h1; exact hc'

theorem runnable_wait {s : State} {t c : Nat} (h : s.runnable t c = true) : (s.ctx t c).wait = .none := by
  unfold runnable at h
  simp only [Bool.and_eq_true, decide_eq_true_eq] at h
  exact h.2

/-- Half a word fetched leaves the state, and does not depend on who holds the core. -/
theorem fetchHalf_ok {s : State} {t c k : Nat} {pc : BitVec 32} {v : Nat} (h : (s.fetchHalf t c pc).2 = .ok v) :
    (s.takeCore t k).fetchHalf t c pc = (s.takeCore t k, .ok v) ∧ s.fetchHalf t c pc = (s, .ok v) := by
  unfold fetchHalf at h ⊢
  dsimp only at h ⊢
  rw [rd_takeCore, rd_takeCore]
  split at h
  · cases h
  · rename_i hc
    rw [if_neg hc, if_neg hc]
    have ha : s.target (tileBase t + 0x70000 + s.rd .TILE_CTX_PS_BASE t c + (pc.toNat - 0x200000)) ≠ .stack :=
      target_ne_stack (by unfold tileBase; omega)
    revert h ha
    generalize tileBase t + 0x70000 + s.rd .TILE_CTX_PS_BASE t c + (pc.toNat - 0x200000) = a
    intro h ha
    generalize hr : s.readSpan (ctxReq t c) a 2 = r at h
    obtain ⟨u, e⟩ := r
    cases e with
    | error e => cases h
    | ok bs =>
      injection h with h
      obtain ⟨t', o, h1, h2, h3, h4, h5⟩ := readSpan_inv (by rw [hr]) ha
      have e1 := readSpan_tile (s := s) h1 h2 h3 h4
      have e2 := readSpan_tile (s := s.takeCore t k) (req := ctxReq t c) (a := a) (n := 2) h1 h2 h3 h4
      have hm : (s.takeCore t k).mem = s.mem := rfl
      rw [hm] at e2
      rw [e1] at hr
      have hu : u = s := by injection hr with hr _; exact hr.symm
      subst hu
      have hb : Except.ok (ε := Fail) bs = .ok (u.mem.readN a 2) := by injection hr with _ hr; exact hr.symm
      injection hb with hb
      rw [e2, hb.symm, ← h]
      exact ⟨rfl, rfl⟩

/-- So does the fetch of the instruction that `insnAt` names. -/
theorem insnAt_fetch {s : State} {t c n : Nat} {i : Insn} (h : s.insnAt t = some (c, i, n)) :
    s.onCore t = some c ∧ ∃ w, (s.takeCore t c).fetchInsn t c = (s.takeCore t c, .ok (i, w, n)) ∧ s.wordAt t c = w := by
  unfold insnAt at h
  split at h
  · cases h
  · rename_i c' hc
    split at h
    · cases h
    · rename_i i' w n' hf
      injection h with h; injection h with h1 h2; injection h2 with h2 h3
      subst h1 h2 h3
      refine ⟨hc, w, ?_, by unfold wordAt; rw [hf]⟩
      unfold fetchInsn at hf ⊢
      dsimp only at hf ⊢
      rw [ctx_takeCore]
      generalize hl : s.fetchHalf t c' (s.ctx t c').pc = r at hf
      obtain ⟨u, e⟩ := r
      cases e with
      | error e => cases hf
      | ok lo =>
        obtain ⟨k1, k2⟩ := fetchHalf_ok (k := c') (s := s) (t := t) (c := c') (by rw [hl])
        rw [k2] at hl
        have hu : u = s := by injection hl with hl _; exact hl.symm
        subst hu
        rw [k1]
        dsimp only at hf ⊢
        split at hf
        · rename_i hq; rw [if_pos hq]
          injection hf with hf; rw [hf]
        · rename_i hq; rw [if_neg hq]
          generalize hh : u.fetchHalf t c' ((u.ctx t c').pc + 2) = r at hf
          obtain ⟨v, e⟩ := r
          cases e with
          | error e => cases hf
          | ok hi =>
            obtain ⟨k3, k4⟩ := fetchHalf_ok (k := c') (s := u) (t := t) (c := c') (by rw [hh])
            rw [k3]
            injection hf with hf
            dsimp only
            rw [hf]

theorem insnAt_wait {s : State} {t c n : Nat} {i : Insn} (h : s.insnAt t = some (c, i, n)) :
    (s.ctx t c).wait = .none := runnable_wait (insnAt_runnable h)

end State

end Sys2Proof.Machine
end

