-- ==== Sys2Proof/Laws/Maintenance.lean ====
section
/-! SUPPORT. What the upkeep of the maintenance instances leaves alone: the times of the patrol scrubs, and the instances of a
port that has none running. -/
namespace Sys2Proof.Machine.State

/-- The state without the journal's side of Lighthouse. -/
def noJrn (s : State) : State := { s with jrn := Jrn.init }

@[simp] theorem noJrn_mSince (s : State) (a i : Nat) : (s.mSince a i).noJrn = s.noJrn := rfl

/-- Watching the scrubs over a change keeps times, and nothing else beside what the change does (R462). -/
@[simp] theorem noJrn_watchScrubs (s : State) (f : State → State) : (s.watchScrubs f).noJrn = (f s).noJrn := by
  unfold watchScrubs
  generalize List.range 16 = l
  have h : ∀ (u : State), (l.foldl (fun u i => if (f s).mShown 0 i = s.mShown 0 i then u else u.mSince 0 i) u).noJrn = u.noJrn := by
    induction l with
    | nil => intro u; rfl
    | cons i l ih =>
      intro u
      rw [List.foldl_cons, ih]
      split <;> rfl
  exact h _

@[simp] theorem regs_watchScrubs (s : State) (f : State → State) : (s.watchScrubs f).regs = (f s).regs := by
  have h := congrArg State.regs (noJrn_watchScrubs s f)
  exact h

@[simp] theorem rd_watchScrubs (s : State) (f : State → State) (g : Fd) (i x : Nat) :
    (s.watchScrubs f).rd g i x = (f s).rd g i x := by
  have h := noJrn_watchScrubs s f
  have e : ∀ u : State, u.noJrn.rd g i x = u.rd g i x := fun u => rfl
  rw [← e, h, e]

/-- Where neither an eye scan nor a retrain of a port runs, there is none to end (R460). -/
theorem endScans_none {s : State} {p : Nat} (h1 : s.mState 1 p ≠ mRunning) (h2 : s.mState 2 p ≠ mRunning) :
    s.endScans p = s := by
  unfold endScans
  simp [h1, h2]

end Sys2Proof.Machine.State
end

