-- ==== Sys2Proof/Laws/Writes.lean ====
section
/-! SUPPORT. Writes of whole registers: one that nothing keeps away has its effect, and a plain one gives each field what
its access code says. -/
namespace Sys2Proof.Machine.State

/-- A write that nothing keeps from a register has the register's effect. -/
theorem writeReg_effect {s : State} {src : Source} {r : RegRef} {v : Nat} (off : Nat)
    (hm : throughMirror src = true → s.mirrorRefused off = none) (hi : s.hasInst r.reg.spec.block r.inst = true)
    (hs : s.regShut r = false) (hl : ¬(hasLocked r.reg = true ∧ s.locked = true)) (ht : s.tideLocked r = false)
    (hv : s.reservedValue r v = false) : s.writeReg src r off v = (s.effect src r v, none) := by
  have hr : (if throughMirror src then s.mirrorRefused off else none) = none := by
    split
    · rename_i h; exact hm h
    · rfl
  unfold writeReg
  simp only [hi, hs, hr, ht, hv, Bool.not_true, Bool.false_eq_true, if_false, if_neg hl]

theorem writeWhole_effect {s : State} {src : Source} {r : RegRef} {v : Nat}
    (ha : s.canAccess src r.offset = true)
    (hm : throughMirror src = true → mirrored r.offset = true ∧ s.mirrorRefused r.offset = none)
    (hi : s.hasInst r.reg.spec.block r.inst = true) (hs : s.regShut r = false)
    (hl : ¬(hasLocked r.reg = true ∧ s.locked = true)) (ht : s.tideLocked r = false)
    (hv : s.reservedValue r v = false) : s.writeWhole src r v = s.effect src r v := by
  have hw := writeReg_effect r.offset (fun h => (hm h).2) hi hs hl ht hv
  have hn : ¬(throughMirror src = true ∧ (!mirrored r.offset) = true) := fun h => by
    have := (hm h.1).1; simp [this] at h
  unfold writeWhole access
  simp only [ha, Bool.not_true, Bool.false_eq_true, if_false, if_neg hn, hw]

/-- One field of a plain write. -/
def fieldWrite (s : State) (i x v : Nat) (f : Fd) : State :=
  match f.spec.acc with
  | .rw | .rwl => s.wr f i x (fv f v)
  | .w1c => s.wr f i x (s.rd f i x - Nat.land (s.rd f i x) (fv f v))
  | .w1s => s.wr f i x (Nat.lor (s.rd f i x) (fv f v))
  | .ro | .wo => s

theorem plainWrite_eq (s : State) (r : RegRef) (v : Nat) :
    s.plainWrite r v = r.reg.spec.fields.foldl (fun s f => s.fieldWrite (storeInst r.reg r.inst) r.idx v f) s := by
  unfold plainWrite
  congr 1

@[simp] theorem noInt_fieldWrite (s : State) (i x v : Nat) (f : Fd) : (s.fieldWrite i x v f).noInt = s.noInt := by
  unfold fieldWrite; split <;> rfl

theorem rd_fieldWrite_ne (s : State) (i x v : Nat) {f g : Fd} {j y : Nat}
    (ha : g.spec.reg = .TILE_ARB_RANK → f ≠ .GLB_TILE_RANK_ORDER) (hk : ¬(g = f ∧ j = i ∧ y = x)) :
    (s.fieldWrite i x v f).rd g j y = s.rd g j y := by
  unfold fieldWrite
  split <;> first | exact rd_wr_ne _ _ ha hk | rfl

theorem rd_fields_ne (l : List Fd) (s : State) (i x v : Nat) {g : Fd} {j y : Nat}
    (ha : g.spec.reg = .TILE_ARB_RANK → Fd.GLB_TILE_RANK_ORDER ∉ l) (hk : ¬(g ∈ l ∧ j = i ∧ y = x)) :
    (l.foldl (fun s f => s.fieldWrite i x v f) s).rd g j y = s.rd g j y := by
  induction l generalizing s with
  | nil => rfl
  | cons f l ih =>
    simp only [List.foldl_cons]
    rw [ih _ (fun h m => ha h (List.mem_cons_of_mem _ m)) (fun h => hk ⟨List.mem_cons_of_mem _ h.1, h.2⟩)]
    exact rd_fieldWrite_ne _ _ _ _ (fun h e => ha h (by rw [e]; exact List.mem_cons_self))
      (fun h => hk ⟨by rw [h.1]; exact List.mem_cons_self, h.2⟩)

theorem rd_fields (l : List Fd) (hl : l.Nodup) (s : State) (i x v : Nat) {f : Fd} (hf : f ∈ l)
    (ha : f.spec.reg ≠ .TILE_ARB_RANK) :
    (l.foldl (fun s f => s.fieldWrite i x v f) s).rd f i x = (s.fieldWrite i x v f).rd f i x := by
  induction l generalizing s with
  | nil => cases hf
  | cons g l ih =>
    simp only [List.foldl_cons]
    have hn := List.nodup_cons.1 hl
    by_cases e : f = g
    · subst e
      exact rd_fields_ne l _ i x v (fun h => absurd h ha) (fun h => hn.1 h.1)
    · have hm : f ∈ l := by cases hf with
        | head => exact absurd rfl e
        | tail _ h => exact h
      have hkeep : (s.fieldWrite i x v g).rd f i x = s.rd f i x :=
        rd_fieldWrite_ne _ _ _ _ (fun h => absurd h ha) (fun h => e h.1)
      rw [ih hn.2 _ hm]
      unfold fieldWrite at hkeep ⊢
      split <;> (try simp only [rd_wr_self]) <;> (try rw [hkeep])

theorem noInt_fields (l : List Fd) (s : State) (i x v : Nat) :
    (l.foldl (fun s f => s.fieldWrite i x v f) s).noInt = s.noInt := by
  induction l generalizing s with
  | nil => rfl
  | cons f l ih => simp only [List.foldl_cons]; rw [ih, noInt_fieldWrite]

end Sys2Proof.Machine.State
end

