-- ==== Sys2Proof/Tests/Slice0.lean ====
section
/-! SUPPORT. Tests: an ill-formed operand for each check of WellFormed, a state and operands that meet the hypotheses of
each statement (witness_…), and results of single commands (test_…) taken from the words of the spec. -/
namespace Sys2Proof.Tests

open Sys2Proof.Machine Sys2Proof.Machine.State Sys2Proof.Claims

-- One theorem at a time: the many small evaluations would otherwise each hold a thread.
set_option Elab.async false

/-! ### States of the tests -/

/-- The shutters of some tiles, of every port and stack and of the ferries, open. -/
def openShutters : SMap Nat :=
  [0, 1, 2, 63, 3071].map (fun t => (⟨kTile, t, 0⟩, 0)) ++ (List.range 32).map (fun p => (⟨kPort, p, 0⟩, 0)) ++
  (List.range 16).map (fun m => (⟨kMemc, m, 0⟩, 0)) ++ [(⟨kFerry, 0, 0⟩, 0)]

/-- The package with its boot behind it: firmware running, ports formed, no job open, memory all zeros. -/
def up : State :=
  { State.reset with
    mem := Memory.empty
    boot := { Boot.init with pwrok := true, fuseDone := true, order := 7, romDone := true, retry := false }
    shutters := openShutters }
    |>.wr .LHS_STATUS_FW 0 0 2 |>.wr .TWY_GLB_STATUS_FORMED 0 0 1 |>.wr .HST_STATUS_JOB_STATE 0 0 0

/-- A word of custom-0 (0x0B) or custom-1 (0x2B): its fields as R99 places them. -/
def cust (op f3 f7 rd rs1 rs2 : Nat) : Nat :=
  op + 2 ^ 7 * rd + 2 ^ 12 * f3 + 2 ^ 15 * rs1 + 2 ^ 20 * rs2 + 2 ^ 25 * f7

/-- Context 0 of tile 0 runs at the start of its program store, where the word `w` stands; some registers hold values; its
scratchpad is the first 4 KiB of the tile. -/
def core (w : Nat) (xs : List (Nat × Nat)) : State :=
  let s := ((up.wr .TILE_CTX_CTRL_RUN 0 0 1).wr .TILE_CTX_PS_BOUND 0 0 64).wr .TILE_CTX_SP_BOUND 0 0 0x1000
  let s := xs.foldl (fun s r => s.setX 0 0 r.1 (BitVec.ofNat 32 r.2)) (s.setCtx 0 0 { Ctx.init with pc := 0x200000 })
  { s with mem := s.mem.writeN (tileBase 0 + 0x70000) (leBytes 4 w) }

/-- The state that a command answers; the state itself where it answers none. -/
def after1 (c : Instr) (s : State) : State :=
  match exec c s with
  | .next u => u
  | _ => s

/-- What a read gave. -/
def okOf {ε : Type} : Except ε (List Byte) → List Byte
  | .ok bs => bs
  | .error _ => []

/-- Bytes of a tile are ready. -/
theorem ready {s : State} {t d n o : Nat} (h : s.target d = .tile t o) (h' : tileSpanValid o n = true)
    (h'' : s.stalled d n = false) (h''' : s.firstBad d n = none) : tileReady s t d n := ⟨⟨o, h, h'⟩, h'', h'''⟩

/-! ### Well-formedness refuses what is out of range -/

theorem test_wf_below : Instr.wf (.fenceI 3072) = false := by decide
theorem test_wf_word : Instr.wf (.nak 0 1024) = false := by decide
theorem test_wf_source : Instr.wf (.rekey (.ctx 0 4)) = false := by decide
theorem test_wf_words : Instr.wf (.signal [0, 2 ^ 64]) = false := by decide
theorem test_wf_bytes : Instr.wf (.mgmtSend 0 0 [256]) = false := by decide
theorem test_wf_totals : Instr.wf (.ack 0 0 [0, 0, 0, 0, 0]) = false := by decide
theorem test_wf_size : Instr.wf (.registerWrite .host 0 3 ⟨0, []⟩) = false := by decide
theorem test_wf_line : Instr.wf (.memAccess { num := 2, waiterKind := 0, waiter := 0 } 60 8 none []) = false := by decide
theorem test_wf_span : Instr.wf (.bar2Access (2 ^ 36 - 4) 8 none) = false := by decide
theorem test_wf_data : Instr.wf (.bar2Access 0 2 (some [0])) = false := by decide
theorem test_wf_block : Instr.wf (.shutterOpened 5 0) = false := by decide
theorem test_wf_inst : Instr.wf (.maintQueueTimeout 8 0) = false := by decide
theorem test_wf_recs : Instr.wf (.maintEnd 0 0 0 0 [(0, List.replicate 41 0)] []) = false := by decide
theorem test_wf_fails : Instr.wf (.bistEnd [⟨4, 0, 0⟩]) = false := by decide
theorem test_wf_flaw : Instr.wf (.coreLoad 0 [⟨2 ^ 48, 0, 1, false, false⟩]) = false := by decide
theorem test_wf_req : Instr.wf (.memAccess { num := 2, waiterKind := 16, waiter := 0 } 0 8 none []) = false := by decide
theorem test_wf_point : Instr.wf (.arbStarvation (.memory 16)) = false := by decide
theorem test_wf_found : Instr.wf (.scrubRead 0 (.symbols 4 0)) = false := by decide
theorem test_wf_seg : Instr.wf (.segmentArrive 0 0 ⟨List.replicate 31 0, [], [], 0, 0, [], []⟩) = false := by decide
theorem test_wf_group : Instr.wf (.gcmGroupVerify (.slot 4 0 0) 0 ⟨0, 0, 0, 0, [], [], 0⟩) = false := by decide
theorem test_wf_lanes : Instr.wf (.registerWrite (.ctx 0 0) 0 4 ⟨0, [1]⟩) = false := by decide
theorem test_wf_flit : Instr.wf (.dataFlitReceive 0 ⟨0, 0, [0, 0, 0], List.replicate 32 0⟩) = false := by decide
theorem test_wf_sealed : Instr.wf (.gcmGroupVerify (.slot 0 0 0) 0 ⟨8, 0, 0, 0, [], [], 0⟩) = false := by decide
theorem test_wf_transit : Instr.wf (.transitForward 0 0 0 1 ⟨0, 0, 0, 0, [], [], [0], []⟩) = false := by decide
theorem test_wf_cycle : Instr.wf (.backoffExpiry (.memory 0) 0 ⟨[8], false, 0, []⟩) = false := by decide
theorem test_wf_instrument : Instr.wf (.ijtag (.pcieLb 3)) = false := by decide
theorem test_wf_flash : Instr.wf (.flashCommand .tap 0 (.program (List.replicate 257 0))) = false := by decide +kernel
theorem test_wf_good : Instr.wf (.registerWrite .host 0x100000 4 ⟨0xFFFFFFFF, [3]⟩) = true := by decide

/-! ### Descriptors -/

/-- The 512 bits of eight words. -/
def desc (ws : List Nat) : Nat := ws.zipIdx.foldl (fun v x => v + x.1 * 2 ^ (64 * x.2)) 0

/-- A descriptor at the head of engine `e` of tile 0, whose commons begin at 64 KiB. -/
def queued (e : Nat) (ws : List Nat) : State :=
  let s := ((core 0 []).wr .TILE_WATERLINE_LEVEL 0 0 4)
  s.setEngine 0 e { Engine.init with queue := [⟨desc ws, 0, 1⟩], issued := 1 }

def copyOne : List Nat := [1, tileBase 0, tileBase 0 + 0x40, 64]
def mcastOne : List Nat := [2, tileBase 0, 0x10000, 64, 0, 1]
def convertOne : List Nat := [5 + 1 * 2 ^ 8, tileBase 0, tileBase 0 + 0x40, 64]

/-- One block of BF16 by BF16 and one token: the stationary block at 0x10000 and the streaming one at 0x1000, into row 0 of buffer 0. -/
def gemmOne : List Nat := [1 + 2 ^ 6 + 1 * 2 ^ 10 + 1 * 2 ^ 14, 0x1000 + 0x10000 * 2 ^ 40]


/-! ### Cores: hypotheses met, and results -/

theorem witness_StepTakesTheFront : up.pending = [] ∧ up.boot.pwrok = true ∧ up.warmHeld = false ∧ up.slew = 0 ∧
    State.reset.boot.pwrok = false ∧ (let s := { up with slew := -3, slewTick := 99 }; s.slew < 0 ∧ (s.slewTick + 1) % 100 = 0) := by
  decide +kernel

theorem witness_TileReads :
    runs (core (cust 0x2B 0 0 31 0 0) []) 0 0 (.tileId 31) 4 ∧ runs (core (cust 0x2B 0 1 1 0 0) []) 0 0 (.tileCtx 1) 4 ∧
    runs (core (cust 0x2B 1 1 1 0 0) []) 0 0 (.tileTmarkh 1) 4 ∧ runs (core (cust 0x2B 2 1 0 0 0) []) 0 0 (.tileTimeh 0) 4 ∧
    runs (core (cust 0x0B 2 4 1 0 0) []) 0 0 (.tqStat 4 1) 4 := by unfold runs; decide +kernel

theorem witness_TileLatches :
    runs (core (cust 0x2B 1 0 1 0 0) []) 0 0 (.tileTmark 1) 4 ∧ runs (core (cust 0x2B 2 0 1 0 0) []) 0 0 (.tileTime 1) 4 := by
  unfold runs; decide +kernel

theorem witness_TileControl :
    runs (core 0x10500073 []) 0 0 .wfi 4 ∧ runs (core (cust 0x0B 7 0 0 0 0) []) 0 0 .tileHalt 4 ∧
    runs (core (cust 0x0B 7 1 0 0 0) []) 0 0 .tileYield 4 := by unfold runs; decide +kernel

theorem witness_TileYield_next : let s := (core (cust 0x0B 7 1 0 0 0) []).wr .TILE_CTX_CTRL_RUN 0 1 1
    runs s 0 0 .tileYield 4 ∧ s.runnable 0 1 = true := by unfold runs; decide +kernel

theorem witness_TileExceptions :
    runs (core 0x73 []) 0 0 .ecall 4 ∧ runs (core 0x100073 []) 0 0 .ebreak 4 ∧ runs (core 0x100F []) 0 0 .fenceI 4 ∧
    runs (core 0x30200073 []) 0 0 .mret 4 := by unfold runs; decide +kernel

theorem witness_CsrAccess :
    runs (core 0x305110F3 []) 0 0 (.csr .write 1 2 0x305 false) 4 ∧ runs (core 0xB0002073 []) 0 0 (.csr .set 0 0 0xB00 false) 4 ∧
    runs (core 0xF1401073 []) 0 0 (.csr .write 0 0 0xF14 false) 4 ∧ runs (core 0x30402073 []) 0 0 (.csr .set 0 0 0x304 false) 4 ∧
    csrValue Ctx.init 0 0 0x305 = some 0 ∧ csrValue Ctx.init 0 0 0x304 = none := by unfold runs; decide +kernel

theorem witness_CoreExecutes_ops :
    runs (core 0x00500093 []) 0 0 (.opImm .add 1 0 5) 4 ∧ runs (core 0x403100B3 []) 0 0 (.op .sub 1 2 3) 4 ∧
    runs (core 0x023140B3 []) 0 0 (.mulDiv .div 1 2 3) 4 ∧ runs (core 0x800000B7 []) 0 0 (.lui 1 0x80000000) 4 ∧
    runs (core 0x00001097 []) 0 0 (.auipc 1 0x1000) 4 := by unfold runs; decide +kernel

theorem witness_CoreExecutes_jumps :
    runs (core 0x0FF0000F []) 0 0 .fence 4 ∧ runs (core 0x008000EF []) 0 0 (.jal 1 8) 4 ∧
    runs (core 0x00008067 []) 0 0 (.jalr 0 1 0) 4 ∧ runs (core 0xFE209EE3 []) 0 0 (.branch .ne 1 2 (-4)) 4 ∧
    runs (core 0 []) 0 0 .illegal 2 := by unfold runs; decide +kernel

theorem witness_CoreExecutes_fetch :
    let s := (core 0 []).setCtx 0 0 { Ctx.init with pc := 0x200040 }
    s.onCore 0 = some 0 ∧ s.rd .TILE_CTX_PS_BOUND 0 0 ≤ (s.ctx 0 0).pc.toNat - 0x200000 := by decide +kernel

theorem witness_LocalLoads : let s := core 0x00412083 [(2, 0x10)]
    runs s 0 0 (.load 1 2 4 true 4) 4 ∧ s.effAddr 0 0 2 4 = 20 ∧ s.corePlace 0 0 20 4 false = some (.mem (tileBase 0 + 20)) ∧
    tileReady s 0 (tileBase 0 + 20) 4 :=
  ⟨by unfold runs; decide +kernel, by decide +kernel, by decide +kernel,
   ready (o := 20) (by decide +kernel) (by decide +kernel) (by decide +kernel) (by decide +kernel)⟩

theorem witness_LocalLoads_faults :
    (let s := core 0x00412083 [(2, 0x11)]; runs s 0 0 (.load 1 2 4 true 4) 4 ∧ s.effAddr 0 0 2 4 % 4 ≠ 0) ∧
    (let s := core 0x00412083 [(2, 0xFFC)]
     runs s 0 0 (.load 1 2 4 true 4) 4 ∧ s.effAddr 0 0 2 4 % 4 = 0 ∧ s.corePlace 0 0 0x1000 4 false = none) := by
  unfold runs; decide +kernel

theorem witness_LocalLoads_pair : let s := core (cust 0x2B 4 0 2 1 0) [(1, 0xFF8)]
    runs s 0 0 (.tileLd 2 1) 4 ∧ s.corePlace 0 0 0xFF8 8 false = some (.mem (tileBase 0 + 0xFF8)) ∧
    tileReady s 0 (tileBase 0 + 0xFF8) 8 :=
  ⟨by unfold runs; decide +kernel, by decide +kernel,
   ready (o := 0xFF8) (by decide +kernel) (by decide +kernel) (by decide +kernel) (by decide +kernel)⟩

theorem witness_LocalStores : let s := core 0x00312023 [(2, 0xFFC), (3, 0x12345678)]
    runs s 0 0 (.store 2 3 4 0) 4 ∧ s.effAddr 0 0 2 0 = 0xFFC ∧ s.corePlace 0 0 0xFFC 4 true = some (.mem (tileBase 0 + 0xFFC)) ∧
    tileReady s 0 (tileBase 0 + 0xFFC) 4 :=
  ⟨by unfold runs; decide +kernel, by decide +kernel, by decide +kernel,
   ready (o := 0xFFC) (by decide +kernel) (by decide +kernel) (by decide +kernel) (by decide +kernel)⟩

theorem witness_LocalStores_faults :
    (let s := core 0x00312023 [(2, 2)]; runs s 0 0 (.store 2 3 4 0) 4 ∧ s.effAddr 0 0 2 0 % 4 ≠ 0) ∧
    (let s := core 0x00312023 [(2, 0x200000)]; runs s 0 0 (.store 2 3 4 0) 4 ∧ s.corePlace 0 0 0x200000 4 true = none) := by
  unfold runs; decide +kernel

theorem witness_LocalStores_pair : let s := core (cust 0x2B 4 1 0 1 2) [(1, 8), (2, 7)]
    runs s 0 0 (.tileSd 1 2) 4 ∧ s.corePlace 0 0 8 8 true = some (.mem (tileBase 0 + 8)) ∧ tileReady s 0 (tileBase 0 + 8) 8 :=
  ⟨by unfold runs; decide +kernel, by decide +kernel,
   ready (o := 8) (by decide +kernel) (by decide +kernel) (by decide +kernel) (by decide +kernel)⟩

theorem test_addi : (after1 (.coreExecute 0 []) (core 0x00500093 [])).x 0 0 1 = 5 := by decide +kernel
theorem test_addi_x0 : (after1 (.coreExecute 0 []) (core 0x00500013 [])).x 0 0 0 = 0 := by decide +kernel
theorem test_div_by_zero : (after1 (.coreExecute 0 []) (core 0x023140B3 [(2, 9)])).x 0 0 1 = 0xFFFFFFFF := by decide +kernel
theorem test_compressed : (after1 (.coreExecute 0 []) (core 0x4095 [])).x 0 0 1 = 5 := by decide +kernel
theorem test_branch_back : ((after1 (.coreExecute 0 []) (core 0xFE209EE3 [(1, 1)])).ctx 0 0).pc = 0x1FFFFC := by decide +kernel
theorem test_load_sign : (after1 (.coreLoad 0 []) (core 0x00010083 [(2, 1)] |> fun s =>
    { s with mem := s.mem.write (tileBase 0 + 1) 0x80 })).x 0 0 1 = 0xFFFFFF80 := by decide +kernel
theorem test_store_byte : (after1 (.coreStore 0 []) (core 0x00310023 [(2, 3), (3, 0x1234)])).mem.readN (tileBase 0 + 2) 3 =
    [0, 0x34, 0] := by decide +kernel
theorem test_ecall_halts : let u := after1 (.ecall 0) (core 0x73 [])
    u.rd .TILE_CTX_CTRL_HALTED 0 0 = 1 ∧ u.rd .TILE_CTX_CAUSE_CAUSE 0 0 = 11 := by decide +kernel
theorem test_ecall_traps : let s := core 0x73 []
    ((after1 (.ecall 0) (s.setCtx 0 0 { s.ctx 0 0 with mtvec := 0x200101 })).ctx 0 0).pc = 0x200100 := by decide +kernel
theorem test_csr_mtvec : ((after1 (.csrAccess 0) (core 0x305110F3 [(2, 0xFFFFFFFF)])).ctx 0 0).mtvec = 0xFFFFFFFD := by
  decide +kernel
theorem test_halt : let u := after1 (.tileHalt 0) (core (cust 0x0B 7 0 0 0 0) [])
    u.rd .TILE_CTX_CTRL_RUN 0 0 = 0 ∧ u.rd .TILE_CTX_CTRL_HALTED 0 0 = 1 := by decide +kernel
theorem test_time_latch : let s := { core (cust 0x2B 2 0 1 0 0) [] with time := 0x100000002 }
    let u := after1 (.tileTime 0) s
    u.x 0 0 1 = 2 ∧ (u.ctx 0 0).timeHi = 1 := by decide +kernel

/-! ### Waits, signals and barriers of the cores -/

theorem witness_SignalWaits :
    (let s := core (cust 0x0B 3 0 1 2 3) [(2, 63)]
     runs s 0 0 (.sigWait 1 2 3) 4 ∧ (s.x 0 0 3).toNat % 65536 = 0) ∧
    (let s := (core (cust 0x0B 3 0 1 2 3) [(2, 63), (3, 5)]).wr .SIG_CNT_VALUE 0 63 5
     runs s 0 0 (.sigWait 1 2 3) 4 ∧ s.waitersOn 0 63 = [] ∧ (s.x 0 0 3).toNat % 65536 ≤ s.rd .SIG_CNT_VALUE 0 63) ∧
    (let s := (core (cust 0x0B 3 0 1 2 3) [(2, 63), (3, 5)]).wr .SIG_CNT_VALUE 0 63 4
     runs s 0 0 (.sigWait 1 2 3) 4 ∧ s.waitersOn 0 63 = [] ∧ s.rd .SIG_CNT_VALUE 0 63 < 5) := by
  unfold runs; decide +kernel

theorem witness_SigTry : let s := (core (cust 0x0B 4 0 1 2 3) [(2, 63), (3, 5)]).wr .SIG_CNT_VALUE 0 63 4
    runs s 0 0 (.sigTry 1 2 3) 4 ∧ s.rd .SIG_CNT_VALUE 0 63 < (s.x 0 0 3).toNat % 65536 := by unfold runs; decide +kernel

theorem witness_SignalPosts :
    (let s := core (cust 0x0B 5 0 0 1 2) [(1, 0x2A0001)]
     runs s 0 0 (.sigPost 1 2) 4 ∧ hasBit ((s.x 0 0 1).toNat + (s.x 0 0 2).toNat * 2 ^ 32) 61 = false) ∧
    (let s := (core (cust 0x0B 5 0 0 1 2) [(1, 0x2A0001), (2, 2 ^ 29 + 2 ^ 19)]).wr .SIG_ROUTE_VALID 0 1 1
     runs s 0 0 (.sigPost 1 2) 4 ∧ s.flag .SIG_ROUTE_VALID 0 1 = true ∧ s.rd .SIG_PKN_PKN ≠ 1) ∧
    (let s := core (cust 0x0B 5 0 0 1 2) [(1, 0x2A0000)]
     runs s 0 0 (.sigPost 1 2) 4 ∧ bits (s.x 0 0 1).toNat 15 0 = 0) := by unfold runs; decide +kernel

theorem witness_BarrierArrivals :
    (let s := core (cust 0x0B 6 0 1 2 0) [(2, 2 ^ 31 + 511)]; runs s 0 0 (.barArrive 1 2) 4) ∧
    (let s := core (cust 0x0B 6 1 0 2 3) [(2, 511)]; runs s 0 0 (.barWait 2 3) 4 ∧ s.tileSense 0 511 = 0) ∧
    (let s := core (cust 0x0B 6 1 0 2 3) [(2, 511), (3, 1)]; runs s 0 0 (.barWait 2 3) 4 ∧ s.tileSense 0 511 ≠ 1) := by
  unfold runs; decide +kernel

/-- Context 0 waits for the arrival at barrier 3 to be counted. -/
def arriving : State := (core 0 []).setCtx 0 0 { Ctx.init with wait := .arrive 3 0 1 }

theorem witness_BarrierArrivals_count :
    (arriving.ctx 0 0).wait = .arrive 3 0 1 ∧ (∀ f ∈ arriving.flights, f.src ≠ .ctx 0 0) ∧ arriving.barValid 3 = false ∧
    (let s := (arriving.wr .SIG_BAR_CFG_VALID 0 3 1).wr .SIG_BAR_CFG_EXPECT 0 3 2
     s.barValid 3 = true ∧ 1 ≠ s.rd .SIG_BAR_CFG_EXPECT 0 3) := by decide +kernel

theorem witness_QueueInstructions : let s := core (cust 0x0B 0 0 1 2 0) [(2, 0xFC0)]
    runs s 0 0 (.tqIssue 0 1 2) 4 ∧ s.scratch 0 0 0xFC0 64 = some (tileBase 0 + 0xFC0) ∧
    tileReady s 0 (tileBase 0 + 0xFC0) 64 ∧ (s.engine 0 0).queue.length < 16 :=
  ⟨by unfold runs; decide +kernel, by decide +kernel,
   ready (o := 0xFC0) (by decide +kernel) (by decide +kernel) (by decide +kernel) (by decide +kernel), by decide +kernel⟩

theorem witness_QueueInstructions_full :
    (let s := core (cust 0x0B 0 0 1 2 0) [(2, 0)]
     let s := s.setEngine 0 0 { Engine.init with queue := List.replicate 16 ⟨0, 0, 0⟩ }
     runs s 0 0 (.tqIssue 0 1 2) 4 ∧ 16 ≤ (s.engine 0 0).queue.length) ∧
    (let s := core (cust 0x0B 0 4 1 2 0) [(2, 32)]; runs s 0 0 (.tqIssue 4 1 2) 4 ∧ (s.x 0 0 2).toNat % 64 ≠ 0) ∧
    (let s := core (cust 0x0B 0 4 1 2 0) [(2, 0x1000)]; runs s 0 0 (.tqIssue 4 1 2) 4 ∧ s.scratch 0 0 0x1000 64 = none) := by
  unfold runs; decide +kernel

theorem witness_TqFence :
    (let s := core (cust 0x0B 1 2 0 1 0) []; runs s 0 0 (.tqFence 2 1) 4 ∧ ((s.engine 0 2).completed + 65536 - 0) % 65536 < 32768) ∧
    (let s := core (cust 0x0B 1 2 0 1 0) [(1, 1)]
     runs s 0 0 (.tqFence 2 1) 4 ∧ ¬((s.engine 0 2).completed + 65536 - 1) % 65536 < 32768) := by unfold runs; decide +kernel

theorem witness_RemoteLoads : let s := core 0x00012083 [(2, 0x40000000)]
    runs s 0 0 (.load 1 2 4 true 0) 4 ∧ s.effAddr 0 0 2 0 % 4 = 0 ∧
    s.corePlace 0 0 (s.effAddr 0 0 2 0) 4 false = some (.mem 0) ∧ s.isRemote 0 0 = true := by unfold runs; decide +kernel

theorem witness_RemoteLoads_ends :
    (let s := (core 0 []).setCtx 0 0 { Ctx.init with wait := .load (tileBase 1) 4 1 true false 0x200000 0x40000000 }
     s.isOpen kTile 0 = true ∧ s.stalled (tileBase 1) 4 = false ∧ ((s.readSpan (ctxReq 0 0) (tileBase 1) 4).2 matches .ok _) = true) ∧
    (let s := (core 0 []).setCtx 0 0 { Ctx.init with wait := .served 1 7 }; (s.ctx 0 0).wait = .served 1 7) := by
  decide +kernel

theorem witness_RemoteLoads_isolated :
    let s := ((core 0 []).setCtx 0 0 { Ctx.init with
      mtvec := 4, wait := .load (tileBase 1) 4 1 true false 0x200000 0x40000000 }).setShutter kTile 0 1
    (s.ctx 0 0).wait = .load (tileBase 1) 4 1 true false 0x200000 0x40000000 ∧ s.isOpen kTile 0 = false ∧ (s.ctx 0 0).mtvec ≠ 0 := by
  decide +kernel

theorem test_sig_wait_takes : let u := after1 (.sigWait 0) ((core (cust 0x0B 3 0 1 2 3) [(2, 63), (3, 5)]).wr .SIG_CNT_VALUE 0 63 7)
    u.rd .SIG_CNT_VALUE 0 63 = 2 ∧ u.rd .SIG_CNT_TAKEN_TAKEN 0 63 = 5 := by decide +kernel
theorem test_sig_wait_blocks : let u := after1 (.sigWait 0) (core (cust 0x0B 3 0 1 2 3) [(2, 63), (3, 5)])
    (u.ctx 0 0).wait = .counter 63 5 1 := by decide +kernel
theorem test_sig_try_fails : (after1 (.sigTry 0) (core (cust 0x0B 4 0 1 2 3) [(1, 9), (3, 5)])).x 0 0 1 = 0 := by decide +kernel
theorem test_issue_ticket_wraps : let s := core (cust 0x0B 0 0 1 2 0) []
    (after1 (.tqIssue 0 []) (s.setEngine 0 0 { Engine.init with issued := 0xFFFF })).x 0 0 1 = 0 := by decide +kernel
theorem test_reserved_word : (after1 (.sigPost 0) (core (cust 0x0B 5 0 0 1 2) [(1, 1), (2, 4)])).flag .SIG_ERR_STATUS_WORD = true := by
  decide +kernel

/-! ### Registers -/

/-- A write of `v` to a whole register reaches it. -/
def reaches (s : State) (src : Source) (r : RegRef) (v : Nat) : Bool :=
  s.hasSource src && s.canAccess src r.offset &&
  (!throughMirror src || (mirrored r.offset && (s.mirrorRefused r.offset).isNone)) && s.hasInst r.reg.spec.block r.inst &&
  !s.regShut r && !(hasLocked r.reg && s.locked) && !s.tideLocked r && !s.reservedValue r v

theorem takes_of {s : State} {src : Source} {r : RegRef} {v : Nat} (h : reaches s src r v = true) : takes s src r v := by
  unfold reaches at h
  simp only [Bool.and_eq_true, Bool.not_eq_true', Bool.or_eq_true, Option.isNone_iff_eq_none, Bool.and_eq_false_iff] at h
  obtain ⟨⟨⟨⟨⟨⟨⟨h1, h2⟩, h3⟩, h4⟩, h5⟩, h6⟩, h7⟩, h8⟩ := h
  refine ⟨h1, h2, ?_, h4, h5, ?_, h7, h8⟩
  · intro h; rcases h3 with h3 | h3
    · rw [h3] at h; cases h
    · exact h3
  · rintro ⟨a, b⟩; rcases h6 with h6 | h6
    · rw [a] at h6; cases h6
    · rw [b] at h6; cases h6

theorem witness_PlainRegisterWrites : let r : RegRef := ⟨.SIG_INT_EN, 0, 0⟩
    r.reg ∈ plainRegs ∧ regAt r.offset = some (r, 0) ∧ bufferAt r.offset = none ∧ r.offset % 4 = 0 ∧ r.reg.spec.width ≤ 32 ∧
    takes up .host r 1 :=
  ⟨by decide +kernel, by decide +kernel, by decide +kernel, by decide +kernel, by decide +kernel, takes_of (by decide +kernel)⟩

theorem witness_RegisterWritesHeld : let r : RegRef := ⟨.GLB_TILE_RANK, 0, 0⟩
    regAt r.offset = some (r, 0) ∧ bufferAt r.offset = none ∧ up.canAccess .host r.offset = true ∧
    up.hasInst r.reg.spec.block 0 = true ∧ up.regShut r = false ∧ hasLocked r.reg = true ∧ r.reg.spec.width ≤ 32 ∧
    (up.wr .GLB_BOOT_LOCK_LOCK 0 0 1).locked = true ∧ up.reservedValue r 0 = true ∧
    (let q : RegRef := ⟨.SIG_TIDEMARK, 0, 0⟩
     regAt q.offset = some (q, 0) ∧ q.offset % 8 = 0 ∧ 32 < q.reg.spec.width) := by decide +kernel

theorem witness_ContextRunWrites :
    takes up .host ⟨.TILE_CTX_CTRL, 3071, 3⟩ 2 ∧ takes up .host ⟨.TILE_CTX_CTRL, 0, 0⟩ 0 := by
  exact ⟨takes_of (by decide +kernel), takes_of (by decide +kernel)⟩

theorem witness_ContextRunWrites_values :
    fv .TILE_CTX_CTRL_RUN 1 = 1 ∧ fv .TILE_CTX_CTRL_RUN 0 ≠ 1 ∧ up.flag .TILE_CTX_CTRL_HALTED 0 0 = false ∧
    (core 0 []).flag .TILE_CTX_CTRL_RUN 0 0 = true ∧ ((core 0 []).ctx 0 0).wait = .none ∧
    (up.wr .TILE_CTX_CTRL_HALTED 0 0 1).flag .TILE_CTX_CTRL_HALTED 0 0 = true := by decide +kernel

theorem witness_WaterlineMoves :
    takes up .host ⟨.TILE_WATERLINE, 0, 0⟩ 0 ∧ takes up .host ⟨.TILE_WATERLINE, 3071, 0⟩ 20 ∧
    fv .TILE_WATERLINE_LEVEL 0 ≠ up.rd .TILE_WATERLINE_LEVEL 0 ∧ fv .TILE_WATERLINE_LEVEL 20 = up.rd .TILE_WATERLINE_LEVEL 0 ∧
    (∀ e < 5, (up.engine 0 e).queue = []) ∧ (up.array 0).started = false ∧ up.remoteLoads 0 = false ∧
    ((queued 2 copyOne).engine 0 2).queue ≠ [] :=
  ⟨takes_of (by decide +kernel), takes_of (by decide +kernel), by decide +kernel⟩

theorem witness_TileRank : takes up .host ⟨.GLB_TILE_RANK, 0, 0⟩ 0o6543210 ∧ ∀ e ∈ up.regs, e.1.a ≠ Fd.TILE_ARB_RANK_ORDER.ctorIdx :=
  ⟨takes_of (by decide +kernel), by decide +kernel⟩

theorem witness_ArrayControl :
    takes up .host ⟨.ARR_CTRL, 0, 0⟩ (withField up ⟨.ARR_CTRL, 0, 0⟩ .ARR_CTRL_STOP 1) ∧
    takes up .host ⟨.ARR_CTRL, 0, 0⟩ (withField up ⟨.ARR_CTRL, 0, 0⟩ .ARR_CTRL_ABORT 1) ∧ up.rd .ARR_CTRL_STOP 0 ≤ 1 ∧
    (up.engine 0 eArray).blocked = [] :=
  ⟨takes_of (by decide +kernel), takes_of (by decide +kernel), by decide +kernel⟩

theorem test_write_w1c : (after1 (.registerWrite .host (RegRef.offset ⟨.SIG_ERR_STATUS, 0, 0⟩) 4 ⟨1, []⟩)
    (up.wr .SIG_ERR_STATUS_TIMEOUT 0 0 1)).flag .SIG_ERR_STATUS_TIMEOUT = false := by decide +kernel
theorem test_write_reserved : (after1 (.glbTileRankWrite .host 0) up).flag .GLB_STATUS_RSVD_WR = true := by decide +kernel
theorem test_write_locked : let u := after1 (.glbTileRankWrite .host 0o6543210) (up.wr .GLB_BOOT_LOCK_LOCK 0 0 1)
    u.flag .GLB_STATUS_LOCK_WR = true ∧ u.rd .GLB_TILE_RANK_ORDER = up.rd .GLB_TILE_RANK_ORDER := by decide +kernel
theorem test_ctx_run : let u := after1 (.ctxRunWrite .host 0 0 1) (up.wr .TILE_CTX_PC_PC 0 0 8)
    u.rd .TILE_CTX_CTRL_RUN 0 0 = 1 ∧ (u.ctx 0 0).pc = 0x200010 := by decide +kernel
theorem test_waterline : let s := { up with mem := up.mem.write (tileBase 0 + 0x4000) 7 }
    (after1 (.waterlineWrite .host 0 1) s).mem.read (tileBase 0 + 0x4000) = 0 := by decide +kernel
theorem test_waterline_busy : let u := after1 (.waterlineWrite .host 0 1) (queued 2 copyOne)
    u.flag .TILE_ERR_STATUS_WATERLINE 0 = true ∧ u.rd .TILE_WATERLINE_LEVEL 0 = 4 := by decide +kernel

/-! ### Copies, the vector unit and the array -/

theorem witness_Copies : let s := queued 2 copyOne
    s.headReady 0 2 = some ⟨desc copyOne, 0, 1⟩ ∧ s.headRefused 0 2 ⟨desc copyOne, 0, 1⟩ = false ∧
    Xd.op (desc copyOne) = Xd.oCopy ∧ runsOf (desc copyOne) = [(tileBase 0, tileBase 0 + 0x40)] ∧
    tileReady s 0 (tileBase 0) 64 ∧ tileReady s 0 (tileBase 0 + 0x40) 64 :=
  ⟨by decide +kernel, by decide +kernel, by decide +kernel, by decide +kernel,
   ready (o := 0) (by decide +kernel) (by decide +kernel) (by decide +kernel) (by decide +kernel),
   ready (o := 0x40) (by decide +kernel) (by decide +kernel) (by decide +kernel) (by decide +kernel)⟩

theorem witness_Multicasts : let s := queued 1 mcastOne
    s.headReady 0 1 = some ⟨desc mcastOne, 0, 1⟩ ∧ s.headRefused 0 1 ⟨desc mcastOne, 0, 1⟩ = false ∧
    Xd.op (desc mcastOne) = Xd.oMcast ∧ s.rectBad (Xd.rect (desc mcastOne)) = false ∧
    s.fuses.rectTiles (Xd.rect (desc mcastOne)) = [0] ∧ runsOf (desc mcastOne) = [(tileBase 0, 0x10000)] ∧
    tileReady s 0 (tileBase 0) 64 ∧ tileReady s 0 (tileBase 0 + 0x10000) 64 ∧
    s.target (tileBase 0 + 0x10000) = .tile 0 0x10000 ∧ s.waterline 0 ≤ 0x10000 ∧
    s.reachesTile (engineReq 0 1) 0 = true :=
  ⟨by decide +kernel, by decide +kernel, by decide +kernel, by decide +kernel, by decide +kernel, by decide +kernel,
   ready (o := 0) (by decide +kernel) (by decide +kernel) (by decide +kernel) (by decide +kernel),
   ready (o := 0x10000) (by decide +kernel) (by decide +kernel) (by decide +kernel) (by decide +kernel),
   by decide +kernel, by decide +kernel, by decide +kernel⟩

theorem witness_Conversions : let s := queued 2 convertOne
    let d := desc convertOne
    s.headReady 0 eDrain = some ⟨d, 0, 1⟩ ∧ s.headRefused 0 eDrain ⟨d, 0, 1⟩ = false ∧ Xd.op d = Xd.oConvert ∧
    Fmt.ofCode (Xd.srcFmt d) = some .fp32 ∧ Fmt.ofCode (Xd.dstFmt d) = some .bf16 ∧ Fmt.isMx .fp32 = false ∧
    runsOf d = [(tileBase 0, tileBase 0 + 0x40)] ∧ tileReady s 0 (tileBase 0) 64 ∧ tileReady s 0 (tileBase 0 + 0x40) 32 :=
  ⟨by decide +kernel, by decide +kernel, by decide +kernel, by decide +kernel, by decide +kernel, by decide +kernel,
   by decide +kernel, ready (o := 0) (by decide +kernel) (by decide +kernel) (by decide +kernel) (by decide +kernel),
   ready (o := 0x40) (by decide +kernel) (by decide +kernel) (by decide +kernel) (by decide +kernel)⟩

/-- A raw block of zeros at 0x4000 of tile 0, named by block 0 of the header at 0x1000. -/
def expandOne : List Nat := [3, tileBase 0 + 0x1000, 0x20000, 0, 0, 1 + 2 ^ 24]
def rawHead : State :=
  let s := queued 1 expandOne
  let m := s.mem.writeN (tileBase 0 + 0x1000 + 64) (leBytes 8 0x6000)
  { s with mem := m.writeN (tileBase 0 + 0x1000 + 192) (leBytes 8 (tileBase 0 + 0x4000)) }

theorem witness_ExpandW : let s := rawHead
    let d := desc expandOne
    let r := s.engRead 0 eFeedB (tileBase 0 + 0x1000) 256
    let h := bytesWords (okOf r.2)
    let e := Hdr.mapEntry h 0
    let x := r.1.expandBlock (r.1.headCtx h) (Hdr.cbSlot h) 0 (hw h 24 + 16 * MapEntry.offset e) (MapEntry.raw e) (MapEntry.stored e)
      (some (MapEntry.stored e)) ((r.1.headCtx h).all fun x => hw h 24 != r.1.landAddr x.1 x.2 (Hdr.lap h))
    s.headReady 0 eFeedB = some ⟨d, 0, 1⟩ ∧ s.headRefused 0 eFeedB ⟨d, 0, 1⟩ = false ∧ Xd.op d = Xd.oExpandW ∧
    (∀ k < 16, hasBit (Xd.blocks d) k = decide (k = 0)) ∧ s.stalled (Xd.src d) 256 = false ∧ r.2.isOk = true ∧
    MapEntry.present e = true ∧ hw h 24 = tileBase 0 + 0x4000 ∧ s.stalled (tileBase 0 + 0x20000) 4096 = false ∧
    (∀ p ∈ s.weightSpans (bytesWords (s.mem.readN (Xd.src d) 256)) [0], s.stalled p.1 p.2 = false) ∧
    (x.2 matches .bytes _) = true ∧
    (x.1.mcastWrite 0 eFeedB (Xd.rect d) (Xd.dst d) (List.replicate 4096 0)).2 = none := by decide +kernel

/-- One raw accumulator block of zeros at 0x4000 of tile 0, named by the header at 0x1000. -/
def expandAccOne : List Nat := [4, tileBase 0 + 0x1000, tileBase 0 + 0x20000]
def rawAcc : State :=
  let s := queued 1 expandAccOne
  { s with mem := s.mem.writeN (tileBase 0 + 0x1000 + 200) (leBytes 8 (tileBase 0 + 0x4000) ++ leBytes 8 1 ++ leBytes 8 1) }

theorem witness_ExpandAcc : let s := rawAcc
    let d := desc expandAccOne
    let r := s.engRead 0 eFeedB (tileBase 0 + 0x1000) 256
    let h := bytesWords (okOf r.2)
    let peek := bytesWords (s.mem.readN (Xd.src d) 256)
    let x := r.1.expandBlock (r.1.headCtx h) (Hdr.accCbSlot h) 1 (hw h 25) (hasBit (hw h 26) 0)
      (min 4096 (16 + (Codec.blockHead (r.1.mem.readN (hw h 25) 16)).codedLen)) none ((r.1.headCtx h).all fun x => r.1.tideResident x.1)
    s.headReady 0 eFeedB = some ⟨d, 0, 1⟩ ∧ s.headRefused 0 eFeedB ⟨d, 0, 1⟩ = false ∧ Xd.op d = Xd.oExpandAcc ∧
    Xd.accFirst d = 0 ∧ Xd.accLast d = 0 ∧ s.stalled (Xd.src d) 256 = false ∧ s.stalled (Xd.dst d) 4096 = false ∧
    s.stalled (hw peek 25 + 4096 * 0) 4096 = false ∧
    (∀ p ∈ s.bookSpans (s.headCtx peek) (Hdr.accCbSlot peek) 4, s.stalled p.1 p.2 = false) ∧ r.2.isOk = true ∧ 0 < hw h 27 ∧
    ownSram 0 (Xd.dst d) 4096 = true ∧ (x.2 matches .bytes _) = true ∧
    (x.1.engWrite 0 eFeedB (Xd.dst d) (List.replicate 4096 0)).2 = none := by decide +kernel

def compressOne : List Nat := [6, tileBase 0, 0, 4096]

theorem witness_Compress : let s := queued 2 compressOne
    let d := desc compressOne
    let dc := s.tideFind (Xd.strand d) (Xd.dir d)
    let y := s.compressFits (s.compressSlots d dc)
    let r := y.1.engRead 0 eDrain (tileBase 0) 4096
    s.headReady 0 eDrain = some ⟨d, 0, 1⟩ ∧ s.headRefused 0 eDrain ⟨d, 0, 1⟩ = false ∧ Xd.op d = Xd.oCompress ∧
    Xd.runs d = 1 ∧ Xd.epoch d = 0 ∧ s.tideFind (Xd.strand d) (Xd.dir d) = none ∧ compressBad d = false ∧
    s.stalled (Xd.src d) 4096 = false ∧ s.stalled (Xd.dst d) 4096 = false ∧
    (∀ p ∈ s.compressSlots d dc, s.stalled p.1 8 = false) ∧ (∀ p ∈ s.bookSpans dc (Xd.cbSlot d) 4, s.stalled p.1 p.2 = false) ∧
    (y.2 matches .ok true) = true ∧ y.1.target (Xd.dst d) = .stack ∧ r.2.isOk = true ∧ ((r.1.bump .SHG_CMP_RAW_COUNT 0 0 1).engWrite 0 eDrain 0 (List.replicate 4096 0)).2 = none := by decide +kernel

def signalled : List Nat := [1 + 2 ^ 14 + 2 ^ 15, tileBase 0, tileBase 0 + 0x40, 64 + 2 ^ 52 * 3, 0, 0, 0, 0x2A0000]

theorem witness_DescriptorCompletes :
    let s := (queued 2 signalled).setEngine 0 2 { Engine.init with queue := [⟨desc signalled, 0, 1⟩], done := some ⟨0, 0, 0, []⟩ }
    descStatus 2 (desc signalled) = some (0, true) ∧ s.scratch 0 0 0 8 = some (tileBase 0) ∧
    s.waitsFrom (.engine 0 2) = false ∧ descSignal 2 (desc signalled) = some (0x2A0000, 3) ∧ descToRect 2 (desc signalled) = false ∧
    tileReady s 0 (tileBase 0) 8 :=
  ⟨by decide +kernel, by decide +kernel, by decide +kernel, by decide +kernel, by decide +kernel,
   ready (o := 0) (by decide +kernel) (by decide +kernel) (by decide +kernel) (by decide +kernel)⟩

/-- ADD of one row of FP32 at offsets 0 and 0x80, to 0x100. -/
def addOne : List Nat := [1, 0x80 * 2 ^ 20, 0x100]

theorem witness_VectorOperations : let s := queued 4 addOne
    let d := desc addOne
    s.headReady 0 eVector = some ⟨d, 0, 1⟩ ∧ Vd.vop d = Vop.add.code ∧ Vd.refused d = false ∧
    operandsOf d = [(.fp32, 0, 128), (.fp32, 0x80, 128)] ∧ operand (Vd.fmtD d) (Vd.dst d) (Vd.rows d) = (.fp32, 0x100, 128) ∧
    localOk 0x80 128 = true ∧ tileReady s 0 (tileBase 0) 128 ∧ tileReady s 0 (tileBase 0 + 0x80) 128 ∧
    tileReady s 0 (tileBase 0 + 0x100) 128 :=
  ⟨by decide +kernel, by decide +kernel, by decide +kernel, by decide +kernel, by decide +kernel, by decide +kernel,
   ready (o := 0) (by decide +kernel) (by decide +kernel) (by decide +kernel) (by decide +kernel),
   ready (o := 0x80) (by decide +kernel) (by decide +kernel) (by decide +kernel) (by decide +kernel),
   ready (o := 0x100) (by decide +kernel) (by decide +kernel) (by decide +kernel) (by decide +kernel)⟩

theorem witness_MatrixPasses : let s := queued 3 gemmOne
    let d := desc gemmOne
    s.headReady 0 eArray = some ⟨d, 0, 1⟩ ∧ (s.array 0).started = false ∧ s.flag .ARR_CTRL_STOP 0 = false ∧
    Pd.refused d = false ∧ s.statusOutside 0 eArray ⟨d, 0, 1⟩ = false ∧ Pd.misplaced d (s.waterline 0) = none ∧
    Pd.waitEn d = false ∧ s.gateDepth 0 < 64 ∧ s.flag .TILE_WATERLINE_REWRITING 0 = false ∧
    (Pd.forms d).map (·.1) = some .bf16 ∧ (Pd.forms d).all (fun x => (s.passBad 0 d x.1 x.2.1 x.2.2).isNone) = true := by
  decide +kernel

theorem witness_MatrixPasses_bad : let s := queued 3 gemmOne
    let s := { s with mem := s.mem.mark ⟨tileBase 0 + 0x1000, 16, 1⟩ }
    (Pd.forms (desc gemmOne)).all (fun x => (s.passBad 0 (desc gemmOne) x.1 x.2.1 x.2.2).isSome) = true := by decide +kernel

theorem witness_PassesComplete :
    let s := (queued 3 gemmOne).setEngine 0 3 { Engine.init with queue := [⟨desc gemmOne, 0, 1⟩], done := some ⟨0, 0, 0, []⟩ }
    let s := s.setArray 0 { MatArray.init with started := true }
    (s.array 0).started = true ∧ (s.array 0).frozen = false ∧ s.gateDepth 0 < 64 ∧ (s.engine 0 3).done = some ⟨0, 0, 0, []⟩ := by
  decide +kernel

/-- The same pass, which waits for 2 of counter 5. -/
def gemmWait : List Nat := (gemmOne.getD 0 0 + 2 ^ 20 + 5 * 2 ^ 21 + 2 * 2 ^ 27) :: gemmOne.tail

theorem witness_PassesStart : let s := queued 3 gemmWait
    let d := desc gemmWait
    s.headReady 0 eArray = some ⟨d, 0, 1⟩ ∧ (s.array 0).started = false ∧ (s.array 0).waiting = false ∧
    s.flag .ARR_CTRL_STOP 0 = false ∧ Pd.refused d = false ∧ s.statusOutside 0 eArray ⟨d, 0, 1⟩ = false ∧
    Pd.misplaced d (s.waterline 0) = none ∧ Pd.waitEn d = true ∧ Pd.waitCtr d = 5 ∧ Pd.waitAmt d = 2 ∧
    s.waitersOn 0 5 = [] ∧ s.rd .SIG_CNT_VALUE 0 5 < 2 ∧ 2 ≤ (s.wr .SIG_CNT_VALUE 0 5 3).rd .SIG_CNT_VALUE 0 5 := by decide +kernel

theorem test_pass_waits : let u := after1 (.gemm 0 [] false) (queued 3 gemmWait)
    (u.array 0).waiting = true ∧ u.waitersOn 0 5 = [⟨4, 2⟩] := by decide +kernel
theorem test_copy : let s := { queued 2 copyOne with mem := (queued 2 copyOne).mem.writeN (tileBase 0) [1, 2, 3] }
    (after1 (.copy 0 2 []) s).mem.readN (tileBase 0 + 0x40) 3 = [1, 2, 3] := by decide +kernel
theorem test_copy_refused : let s := queued 2 [1 + 2 ^ 53, tileBase 0, tileBase 0 + 0x40, 64]
    s.headRefused 0 2 ⟨desc [1 + 2 ^ 53, tileBase 0, tileBase 0 + 0x40, 64], 0, 1⟩ = true := by decide +kernel
theorem test_convert_rounds : -- 1.00390625 lies half way between two BF16 codes: ties go to even
    let s := { queued 2 convertOne with mem := (queued 2 convertOne).mem.writeN (tileBase 0) (leBytes 4 0x3F808000) }
    (after1 (.convert 0 []) s).mem.readN (tileBase 0 + 0x40) 2 = [0x80, 0x3F] := by decide +kernel
theorem test_vector_add : -- 1 + 2 = 3
    let m := ((queued 4 addOne).mem.writeN (tileBase 0) (leBytes 4 0x3F800000)).writeN (tileBase 0 + 0x80) (leBytes 4 0x40000000)
    (after1 (.vopAdd 0 []) { queued 4 addOne with mem := m }).mem.readN (tileBase 0 + 0x100) 4 = leBytes 4 0x40400000 := by
  decide +kernel
theorem test_gemm : -- 3 times 2 in BF16
    let m := ((queued 3 gemmOne).mem.writeN (tileBase 0 + 0x10000) (leBytes 2 0x4040)).writeN (tileBase 0 + 0x1000) (leBytes 2 0x4000)
    (after1 (.gemm 0 [] false) { queued 3 gemmOne with mem := m }).mem.readN (tileBase 0 + 0x60000) 4 = leBytes 4 0x40C00000 := by
  decide +kernel
theorem test_completion :
    let s := (queued 2 signalled).setEngine 0 2 { Engine.init with queue := [⟨desc signalled, 0, 1⟩], done := some ⟨0, 0, 0, []⟩ }
    (after1 (.descriptorComplete 0 2) s).flights = [⟨0x2A0000, 0, 3, .engine 0 2, false, false⟩] := by decide +kernel

/-- The riding add of FP32 accumulators is the sum that VOP_ADD computes (R73). -/
theorem test_riding_fp32 (seed tensor tidemark k i a c : Nat) : ridingAdd false seed tensor tidemark k i a c = addFp32 a c := rfl
theorem test_riding_bf16 : ridingAdd true 5 7 9 1 0 0x3F80 0x3F800000 = 0x4000 ∧ lastAdd true 0x3F80 0x3F800001 = 0x40000000 := by
  decide +kernel

/-! ### The tide -/

/-- Tide engine 0 at work on context 0 in resident mode (3): a ring of 4 packages with this one at position 1, a window of
4 positions, its slots at 1 MiB, its header array at 64 KiB, its lap list of one entry at 0, its directory at 4 KiB and
its books at 2 MiB. -/
def tide : State :=
  let s := ((up.wr .TIDE_CTRL_ENABLE 0 0 1).wr .TIDE_CTRL_MODE 0 0 3).wr .TIDE_SD_CFG_VALID 0 0 1
  let s := ((s.wr .TIDE_SD_RING_LEN 0 0 4).wr .TIDE_SD_RING_POS 0 0 1).wr .TIDE_SD_WINDOW_LOG2 0 0 2
  let s := ((s.wr .TIDE_SD_LB_BASE 0 0 16).wr .TIDE_SD_HDR_BASE_BASE 0 0 16).wr .TIDE_SD_CB_BASE_BASE 0 0 32
  ((s.wr .TIDE_SD_LAPCOUNT_COUNT 0 0 1).wr .TIDE_DIR_BASE_BASE 0 0 1).wr .TIDE_DIR_COUNT_COUNT 0 0 1

/-- A forward segment at lap position `p` for home `h`. -/
def segment (p h : Nat) : Seg := ⟨Hdr.sealWords [0x11 + h * 2 ^ 18, p, 0, 0, 0, 0, 0] (List.replicate 16 0), [], [], 0, 0, [], []⟩

theorem witness_SegmentsArrive : let g := segment 0 2
    tide.hasTide 0 0 = true ∧ stacksFree tide ∧ tide.tideOn 0 0 = true ∧ (tide.tctx 0 0).held = [] ∧
    (tide.tctx 0 0).voided = false ∧ Hdr.sound g.head = true ∧
    Hdr.job g.head = tide.rd .TIDE_JOB_JOB 0 ∧ Hdr.tidemark g.head = tide.tidemark ∧
    Hdr.attempt g.head = tide.rd .TIDE_ATTEMPT_ATTEMPT 0 ∧ Hdr.resend g.head = false ∧ Hdr.isBackward g.head = false ∧
    Hdr.expert g.head = false ∧ tide.tideFolded 0 = false ∧
    (SMap.find (tide.tctx 0 0).slots ⟨0, 0, 0⟩).isSome = false ∧ (tide.landSegment 0 0 g).2 = true ∧
    Hdr.home g.head = tide.tideDown 0 0 := by unfold stacksFree; decide +kernel

theorem witness_SegmentsArrive_others :
    (up.tideOn 0 0 = false) ∧ ¬stacksFree (up.wr .MEM_STATUS_ZEROING 0 0 1) ∧ (Hdr.sound (List.replicate 32 0) = false) ∧
    (let h := Hdr.sealWords [0x11, 0, 0, 1, 0, 0, 0] (List.replicate 16 0); Hdr.sound h = true ∧ Hdr.tidemark h = tide.tidemark + 1) ∧
    (let h := Hdr.sealWords [0x11, 0, 0, 0, 2 ^ 51, 0, 0] (List.replicate 16 0)
     Hdr.sound h = true ∧ Hdr.attempt h ≠ tide.rd .TIDE_ATTEMPT_ATTEMPT 0) := by unfold stacksFree; decide +kernel

/-- The lap list names directory entry 0, which is valid, of home 1 and at 256 MiB. -/
def tideList : State :=
  let dir := 2 ^ 124 + 1 * 2 ^ 114 + 2 ^ 20
  { tide with mem := ((tide.mem.writeN 0 (leBytes 8 0)).writeN 4096 (leBytes 16 dir)).writeN (2 ^ 28) (leBytes 64 0) }

theorem witness_SegmentsSent : let s := tideList
    let r := s.lapRead 0 0
    let w := r.1.dirRead 0 0 0
    s.hasTide 0 0 = true ∧ firstCandidate (s.candidates 0 0) = some (0, .walk 0) ∧ (r.2 matches .ok 0) = true ∧
    LapEntry.reserved 0 = 0 ∧ LapEntry.kind 0 = 0 ∧ (r.1.tctx 0 0).last = none ∧ 0 < r.1.rd .TIDE_DIR_COUNT_COUNT 0 ∧
    w.2 = some (2 ^ 124 + 1 * 2 ^ 114 + 2 ^ 20) ∧ DirEntry.valid (2 ^ 124 + 1 * 2 ^ 114 + 2 ^ 20) = true ∧
    DirEntry.home (2 ^ 124 + 1 * 2 ^ 114 + 2 ^ 20) = w.1.tidePos 0 0 ∧ w.1.tideStrand 0 0 = 0 ∧ w.1.tideDir 0 0 = 0 ∧
    (w.1.tideRead 0 0 (2 ^ 28) 512).2.isOk = true := by decide +kernel

theorem witness_SegmentsSent_none : tide.tideOn 0 1 = false ∧ firstCandidate (tide.candidates 0 1) = none := by decide +kernel

/-- A slot of lap position 0 that waits for its writes. -/
def slot (head : List Nat) : Slot :=
  ⟨0, .arriving, head, 2 ^ 20, false, false, true, false, false, .yes, .none, 0, [], [], 0, false⟩

theorem witness_LandingsSignal : let s := tide.setSlot 0 0 (slot (segment 0 2).head)
    let x := slot (segment 0 2).head
    s.hasTide 0 0 = true ∧ s.slotAt 0 0 0 = some x ∧ stacksFree s ∧ x.again = 0 ∧ x.landed = false ∧ x.lands = true ∧ x.bad = false ∧
    x.want = .yes ∧ Hdr.isBackward x.head = false ∧ Hdr.isFrame x.head = false ∧ Hdr.epoch x.head = 0 ∧
    x.addr = s.landAddr 0 0 0 := by unfold stacksFree; decide +kernel

/-- A book of 16 vectors of zeros, and the header of the frame that carries it. -/
def book : List Byte := Codec.bookBytes ⟨1, 0, 16, 3, 0, 1, 0, 0, 0, 0⟩ (List.replicate 16 0)
def frameHead : List Nat := Hdr.sealWords [0x13, 0, 2 ^ 36, 0, 0, 0, 0] (List.replicate 16 0)

theorem witness_CodebookInstall : let x := { slot frameHead with landed := true }
    let s := (tide.setSlot 0 0 x)
    let s := { s with mem := s.mem.writeN (2 ^ 20) (book ++ List.replicate 128 0) }
    let r := s.tideRead 0 0 (2 ^ 20) 256
    s.slotAt 0 0 0 = some x ∧ Hdr.isFrame x.head = true ∧ s.framePending 0 0 (Hdr.cbSlot x.head) 0 = false ∧
    stacksFree s ∧ s.refCount 0 0 (Hdr.cbSlot x.head) 0 = 0 ∧ Hdr.payloadFlits x.head = 1 ∧ r.2.isOk = true ∧
    frameOk x.head (okOf r.2) = true ∧
    (r.1.tideWrite 0 0 (r.1.storeAddr 0 0 0) ((okOf r.2).take 128)).2 = none := by unfold stacksFree; decide +kernel

theorem witness_TideReleases : let x := { slot (segment 0 2).head with state := .signalled }
    let s := (tide.setSlot 0 0 x).wr .TIDE_LCLASS_RELEASES 0 0 2
    takes s .host ⟨.TIDE_RELEASE, 0, 0⟩ 0 ∧ s.tideFind 0 0 = some (0, 0) ∧
    SMap.find (s.tctx 0 0).slots ⟨0, 0, 0⟩ = some x ∧ x.releases + 1 < s.classReleases 0 :=
  ⟨takes_of (by decide +kernel), by decide +kernel⟩

theorem witness_TideReleases_last : let s := tide.wr .TIDE_LCLASS_RELEASES 0 0 1
    takes s .host ⟨.TIDE_RELEASE, 0, 0⟩ 0 ∧ 0 + 1 = s.classReleases 0 ∧
    SMap.find (s.tctx 0 0).slots ⟨0, 0, 0⟩ = none ∧ up.tideFind 0 0 = none ∧
    runs (core (cust 0x2B 3 0 0 1 0) []) 0 0 (.tideRel 1) 4 :=
  ⟨takes_of (by decide +kernel), by unfold runs; decide +kernel⟩

theorem witness_TideMessages :
    (let ws := Msg.close (0x01 + 2 ^ 32) 0 0 0
     Msg.checkOk ws = true ∧ Msg.type ws = 1 ∧ tide.forContext 0 0 ws = true ∧ Msg.tidemark ws = tide.tidemark ∧
     Msg.attempt ws = tide.rd .TIDE_ATTEMPT_ATTEMPT 0 ∧ tide.downMark 0 0 < Msg.mark ws) ∧
    (Msg.checkOk [1, 0, 0, 0] = false) ∧
    (let ws := Msg.close 0x01 0 1 0; Msg.checkOk ws = true ∧ Msg.tidemark ws = tide.tidemark + 1) ∧
    (let ws := Msg.close 0x01 0 0 1; Msg.checkOk ws = true ∧ Msg.attempt ws ≠ tide.rd .TIDE_ATTEMPT_ATTEMPT 0) ∧
    (tide.wr .TIDE_SD_MARKS_OWN_MARK 0 0 1).ownMark 0 0 ≠ (tide.tctx 0 0).reported := by decide +kernel

theorem witness_Resend : let l : Injected := ⟨0, (segment 0 2).head, 2 ^ 20⟩
    let s := tide.setTctx 0 0 { TideCtx.init with laps := [l] }
    let ws := Msg.close (0x02 + 2 ^ 16) (2 ^ 32) 0 0
    Msg.checkOk ws = true ∧ Msg.type ws = 2 ∧ s.tideOn 0 0 = true ∧ s.forContext 0 0 ws = true ∧ Msg.tideDest ws = s.tidePos 0 0 ∧
    hasBit (Msg.acc ws) 15 = false ∧ (s.tctx 0 0).laps.find? (fun l => l.p == Msg.lap ws) = some l ∧
    (s.tideRead 0 0 l.addr (256 * Hdr.payloadFlits l.head)).2.isOk = true := by decide +kernel

theorem witness_TideControl : let s := (up.wr .TIDE_LCLASS_RELEASES 0 0 1).wr .TIDE_SD_LB_SIZE 0 0 1
    let r : RegRef := ⟨.TIDE_CTRL, 0, 0⟩
    takes s .host r (withField s r .TIDE_CTRL_ENABLE 1) ∧ takes tide .host r (withField tide r .TIDE_CTRL_PAUSE 1) ∧
    takes tide .host r (withField tide r .TIDE_CTRL_VOID 1) ∧ s.flag .TIDE_CTRL_ENABLE 0 = false ∧ s.tideEnableOk 0 = true ∧
    (s.wr .TIDE_SD_CFG_VALID 0 0 1 |>.wr .TIDE_SD_WINDOW_LOG2 0 0 4).tideEnableOk 0 = false ∧
    ((tide.wr .TIDE_CTRL_PAUSE 0 0 1).flag .TIDE_CTRL_PAUSE 0 = true) ∧ tide.tideQuiet 0 = true :=
  ⟨takes_of (by decide +kernel), takes_of (by decide +kernel), takes_of (by decide +kernel), by decide +kernel⟩

theorem witness_WantWrites :
    takes tide .host ⟨.TIDE_SD_WANT_MARK, 0, 0⟩ 5 ∧ takes tide .host ⟨.TIDE_WANT, 0, 63⟩ 0xFFFFFFFF ∧
    tide.rd .TIDE_SD_WANT_MARK_MARK 0 0 < fv .TIDE_SD_WANT_MARK_MARK 5 ∧ fv .TIDE_SD_WANT_MARK_MARK 0 ≤ tide.rd .TIDE_SD_WANT_MARK_MARK 0 0 :=
  ⟨takes_of (by decide +kernel), takes_of (by decide +kernel), by decide +kernel⟩

theorem test_header_fails : let u := after1 (.segmentArrive 0 0 ⟨List.replicate 32 0, [], [], 0, 0, [], []⟩) tide
    u.flag .TIDE_ERR_STATUS_HEADER 0 = true ∧ u.rd .SIG_STATUS_VOIDED = 1 := by decide +kernel
theorem test_stale_attempt : let g : Seg := ⟨Hdr.sealWords [0x11, 0, 0, 0, 2 ^ 51, 0, 0] (List.replicate 16 0), [], [], 0, 0, [], []⟩
    (after1 (.segmentArrive 0 0 g) tide).rd .TIDE_SD_STALE_COUNT 0 0 = 1 := by decide +kernel
theorem test_arrives : let u := after1 (.segmentArrive 0 0 (segment 0 2)) tide
    (u.slotAt 0 0 0).map (fun x => (x.state, x.lands, x.addr)) = some (.arriving, true, 2 ^ 20) := by decide +kernel
theorem test_injects : let u := after1 (.segmentInject 0 0) tideList
    u.rd .TIDE_SD_INJ_NEXT 0 0 = 1 ∧ (u.tctx 0 0).last = some 0 := by decide +kernel
theorem test_credit : (after1 (.credit 0 0 (Msg.close (0x01 + 3 * 2 ^ 32) 0 0 0)) tide).downMark 0 0 = 3 := by decide +kernel

/-! ### Signals, barriers, guards and the void sequencer -/

/-- One signal on its way to counter 5 of tile 0. -/
def flying (kind amount : Nat) : State := { up with flights := [⟨kind * 2 ^ 62 + 5 * 2 ^ 16, 0, amount, .host, false, false⟩] }

theorem witness_SignalsApplied :
    (let s := flying 0 3
     s.mayArrive 0 = some ⟨5 * 2 ^ 16, 0, 3, .host, false, false⟩ ∧ SigWord.kind (5 * 2 ^ 16) = 0 ∧ SigWord.counter (5 * 2 ^ 16) = 5 ∧
     s.isOpen kTile 0 = true ∧ s.waitersOn 0 5 = [] ∧ s.rd .SIG_CNT_VALUE 0 5 + 3 ≤ 0xFFFF) ∧
    ((flying 0 3).wr .SIG_CNT_VALUE 0 5 0xFFFD).rd .SIG_CNT_VALUE 0 5 + 3 > 0xFFFF ∧
    SigWord.kind (2 ^ 62) = 1 ∧ ((flying 1 3).mayArrive 0).isSome = true ∧ (flying 1 3).rd .SIG_CNT_VALUE 0 5 < 3 ∧
    3 ≤ ((flying 1 3).wr .SIG_CNT_VALUE 0 5 3).rd .SIG_CNT_VALUE 0 5 ∧
    (let s := (flying 0 3).wr .RST_CTRL_COMPUTE 0 0 1; (s.mayArrive 0).isSome = true ∧ s.isOpen kTile 0 = false) := by
  decide +kernel

theorem witness_SignalsApplied_served : let s := (flying 0 3).setWaiters 0 5 [⟨2, 3⟩, ⟨1, 9⟩]
    let s := s.setCtx 0 2 { Ctx.init with wait := .counter 5 3 1 }
    s.waitersOn 0 5 = [⟨2, 3⟩, ⟨1, 9⟩] ∧ (∀ z ∈ [(⟨1, 9⟩ : Waiter)], 0 + 3 - 3 < z.amount) ∧ (s.ctx 0 2).wait = .counter 5 3 1 := by
  decide +kernel

theorem witness_SignalsApplied_sum :
    let f : Flight := ⟨5 * 2 ^ 16, 0, 3, .host, false, false⟩
    let g : Flight := ⟨5 * 2 ^ 16, 0, 4, .host, false, false⟩
    let s := { up with flights := [f, g] }
    s.mayArrive 0 = some f ∧ s.mayArrive 1 = some g ∧ s.waitersOn 0 5 = [] ∧ s.rd .SIG_CNT_VALUE 0 5 + 3 + 4 ≤ 0xFFFF := by
  decide +kernel

theorem witness_SignalsApplied_remote :
    let f : Flight := ⟨2 ^ 61 + 5 * 2 ^ 16 + 3 * 2 ^ 51, 0, 1, .ctx 0 0, true, false⟩
    let s := { up with flights := [f] }.wr .SIG_ROUTE_VALID 0 (SigWord.pkn f.word) 1
    s.mayArrive 0 = some f ∧ SigWord.kind f.word ≠ 2 ∧ s.flag .SIG_ROUTE_VALID 0 (SigWord.pkn f.word) = true := by decide +kernel

theorem witness_SignalsApplied_resend : let s := flying 2 3
    (s.mayArrive 0).isSome = true ∧ SigWord.kind (2 * 2 ^ 62 + 5 * 2 ^ 16) = 2 ∧ s.matchSlot 0 0 0 0 = none ∧ s.waitersOn 0 5 = [] ∧
    (s.wr .TILE_RESEND_ARM_VALID 0 3 1).matchSlot 0 0 0 0 = some 3 := by decide +kernel

/-- GLB_VOID_CTRL with EN, step barrier 0, replay barrier 1 and a limit of 1. -/
def voidCtrl : Nat := 2 ^ Fd.GLB_VOID_CTRL_EN.spec.lo + 2 ^ Fd.GLB_VOID_CTRL_REPLAY_BAR.spec.lo + 2 ^ Fd.GLB_VOID_CTRL_MAX.spec.lo

theorem witness_SignalRegisters :
    takes up .host ⟨.SIG_CNT, 0, 63⟩ 7 ∧ takes up .host ⟨.SIG_CNT_CFG, 0, 63⟩ 7 ∧ takes up .host ⟨.SIG_BAR_CFG, 0, 511⟩ (2 ^ 24) ∧
    takes up .host ⟨.SIG_TIDEMARK, 0, 0⟩ 7 ∧ takes (up.wr .HST_STATUS_JOB_STATE 0 0 1) .host ⟨.SIG_TIDEMARK, 0, 0⟩ 7 ∧
    takes up .host ⟨.SIG_CTRL, 0, 0⟩ (withField up ⟨.SIG_CTRL, 0, 0⟩ .SIG_CTRL_CLEAR_BAR 1) ∧ takes up .host ⟨.GLB_VOID_CTRL, 0, 0⟩ voidCtrl ∧
    up.jobState ≠ jobLoading ∧ (up.wr .HST_STATUS_JOB_STATE 0 0 1).jobState = jobLoading ∧
    up.waitersOn 0 63 = [] ∧ up.rd .SIG_BAR_STATE_ARRIVED 0 511 = 0 ∧ up.rd .GLB_VOID_STATUS_STATE = 0 ∧
    (up.setWaiters 0 63 [⟨0, 1⟩]).waitersOn 0 63 ≠ [] ∧ (up.wr .SIG_BAR_STATE_ARRIVED 0 511 1).rd .SIG_BAR_STATE_ARRIVED 0 511 ≠ 0 ∧
    (up.wr .GLB_VOID_STATUS_STATE 0 0 1).rd .GLB_VOID_STATUS_STATE ≠ 0 :=
  ⟨takes_of (by decide +kernel), takes_of (by decide +kernel), takes_of (by decide +kernel), takes_of (by decide +kernel),
   takes_of (by decide +kernel), takes_of (by decide +kernel), takes_of (by decide +kernel), by decide +kernel⟩

theorem witness_SignalRegisters_same_cycle : let s := flying 0 3
    takes s .host ⟨.SIG_CNT, 0, 5⟩ 7 ∧ s.waitersOn 0 5 = [] ∧ s.isOpen kTile 0 = true ∧ fv .SIG_CNT_VALUE 7 + 3 ≤ 0xFFFF ∧
    ∃ g, s.mayArrive 0 = some g ∧ g.remote = false ∧ SigWord.kind g.word = 0 ∧ g.tile = 0 ∧ SigWord.counter g.word = 5 ∧ g.amount = 3 :=
  ⟨takes_of (by decide +kernel), by decide +kernel, by decide +kernel, by decide +kernel, _, rfl, by decide +kernel⟩

theorem witness_SignalRegisters_halted :
    let s := ((up.wr .GLB_HALT_CTRL_HALTED 0 0 1).wr .SIG_BAR_CFG_VALID 0 3 1).wr .SIG_BAR_CFG_STEP 0 3 1
    takes s .host ⟨.GLB_HALT_CTRL, 0, 0⟩ (withField s ⟨.GLB_HALT_CTRL, 0, 0⟩ .GLB_HALT_CTRL_HALTED 1) ∧
    s.flag .GLB_HALT_CTRL_HALTED = true ∧ s.rd .GLB_HALT_CTRL_EN < 2 ∧ s.barValid 3 = true ∧ s.barStep 3 = true ∧
    ∀ b' < 512, s.barValid b' = true → s.barStep b' = true → b' = 3 :=
  ⟨takes_of (by decide +kernel), by decide +kernel⟩

/-- A message of type `t` from package `src` to package `dest`. -/
def message (t src dest w1 tidemark attempt : Nat) : List Nat :=
  Msg.close (t + dest * 2 ^ 16 + src * 2 ^ 32) w1 tidemark attempt

theorem witness_BarrierMessages :
    (let ws := message 0x10 1 0 (0x50000) 0 0
     Msg.checkOk ws = true ∧ Msg.type ws = 0x10 ∧ Msg.dest ws = up.pkn ∧ Msg.tidemark ws = up.tidemark ∧ Msg.attempt ws = up.attempt) ∧
    (let ws := message 0x11 1 7 0 0 0
     Msg.checkOk ws = true ∧ Msg.dest ws ≠ up.pkn ∧ up.flag .SIG_ROUTE_VALID 0 7 = false ∧
     (up.wr .SIG_ROUTE_VALID 0 7 1).flag .SIG_ROUTE_VALID 0 7 = true) ∧
    (Msg.checkOk [0x10, 0, 0, 0] = false) ∧ (Msg.attempt (message 0x10 1 0 0 0 1) ≠ up.attempt) ∧
    (Msg.tidemark (message 0x10 1 0 0 1 0) = up.tidemark + 1 ∧ up.holdQueue.length < 64) ∧
    (let t := Msg.tidemark (message 0x10 1 0 0 5 0); t ≠ up.tidemark ∧ t ≠ (up.tidemark + 1) % 2 ^ 64) := by decide +kernel

theorem witness_BarrierMessages_barriers :
    let s := (up.wr .SIG_BAR_CFG_VALID 0 0 1).wr .SIG_BAR_CFG_PKGS 0 0 3
    (let ws := message 0x11 1 0 0 0 0
     Msg.barrier ws = 0 ∧ s.barValid 0 = true ∧ s.pkn = s.barRoot 0 ∧ s.barRoot 0 ≤ Msg.src ws ∧ Msg.src ws < s.barRoot 0 + s.barPkgs 0 ∧
     bits (hw ws 1) 31 0 = s.barGen 0 ∧ setBit (s.bar 0).mask (Msg.src ws - s.barRoot 0) ≠ 2 ^ s.barPkgs 0 - 1) ∧
    (up.barValid 0 = false) ∧
    (s.barStep 0 = false ∧ (s.wr .GLB_VOID_CTRL_REPLAY_BAR 0 0 9).replayBar ≠ 0 ∧ s.rd .SIG_BAR_STATE_SENSE 0 0 < 2) ∧
    (let t := s.wr .SIG_BAR_CFG_STEP 0 0 1
     t.barStep 0 = true ∧ t.seqState = 0 ∧ t.seqArmed = false ∧ t.flag .GLB_HALT_CTRL_EN = false ∧ t.holdQueue = [] ∧
     t.guards = [] ∧ t.tctxs = [] ∧ t.links = []) := by decide +kernel

theorem witness_BarrierLimits :
    let s := ((up.wr .SIG_BAR_CFG_VALID 0 9 1).wr .SIG_BAR_CFG_PKGS 0 9 3).setBar 9 { BarPhase.init with mask := 1 }
    s.barValid 9 = true ∧ (s.bar 9).reported = false ∧ s.pkn = s.barRoot 9 ∧ (s.bar 9).mask ≠ 0 ∧
    (List.range (s.barPkgs 9)).filter (fun i => !hasBit (s.bar 9).mask i) = [1, 2] ∧
    (let t := (s.wr .SIG_BAR_CFG_ROOT 0 9 4).setBar 9 { BarPhase.init with done := true }
     t.pkn ≠ t.barRoot 9 ∧ (t.bar 9).done = true ∧ (t.bar 9).reported = false) := by decide +kernel

theorem witness_WaitLimits :
    (let s := (core 0 []).setCtx 0 0 { Ctx.init with wait := .counter 5 3 1 }; (s.ctx 0 0).wait = .counter 5 3 1) ∧
    (let s := (core 0 []).setCtx 0 0 { Ctx.init with wait := .barrier 5 1 false }; (s.ctx 0 0).wait = .barrier 5 1 false) ∧
    (let s := (queued 3 gemmOne).setArray 0 { MatArray.init with waiting := true }
     (s.engine 0 eArray).queue.head? = some ⟨desc gemmOne, 0, 1⟩ ∧ (s.array 0).waiting = true ∧ (s.array 0).reported = false) := by
  decide +kernel

/-- A guarded packet of tag 1, the first of two, and the last. -/
def packet : Packet := ⟨0, 1, 2, false, 0, 3, tileBase 0, [1, 2, 3, 4, 5, 6, 7, 8], false, false, false, false⟩

theorem witness_GuardedTransfers :
    (up.guardOf 0 1 = none ∧ (up.guards.filter fun g => g.die == up.portDie 0).length < 256 ∧ 0 < packet.count ∧ packet.cls ≠ cMirror ∧
     up.stalled packet.addr packet.data.length = false ∧
     (({ up with guards := [⟨0, 1, 2, 0, none⟩] } : State).writeSpan { num := 0, waiterKind := 3, waiter := 0 } packet.addr packet.data).2 = none) ∧
    (let s : State := { up with guards := [⟨0, 1, 3, 0, none⟩] }
     s.guardOf (s.portDie 0) 1 = some ⟨0, 1, 3, 0, none⟩ ∧ packet.count ≠ 3) ∧
    (let s : State := { up with guards := (List.range 256).map fun n => ⟨0, n + 2, 3, 0, none⟩ }
     s.guardOf (s.portDie 0) 1 = none ∧ 256 ≤ (s.guards.filter fun g => g.die == s.portDie 0).length) ∧
    (let k : Packet := { packet with stored := true, verified := true }
     let s : State := { up with guards := [⟨0, 1, 2, 1, some 0x50000⟩], packets := [k] }
     s.packets[0]? = some k ∧ s.portDie k.port = 0 ∧ s.hasDie 0 = true ∧ (s.guardOf 0 1).isSome = true) ∧
    (let s : State := { up with heldPackets := [packet] }; s.heldPackets.find? s.packetFits = some packet) := by decide +kernel

theorem witness_VoidSequence :
    let s := ((up.wr .GLB_VOID_CTRL_EN 0 0 1).wr .GLB_VOID_CTRL_REPLAY_BAR 0 0 1).wr .SIG_BAR_CFG_VALID 0 0 1
    let s := (s.wr .SIG_BAR_CFG_STEP 0 0 1).wr .SIG_BAR_CFG_VALID 0 1 1
    let s := { s with cause := some (0x0A, 3) }
    s.seqState = 0 ∧ s.seqArmed = true ∧ s.cause = some (0x0A, 3) ∧ up.cause = none ∧
    (let ws := Msg.close 0 0 0 0; bits (hw ws 3) 63 32 = crc32c ((wordsBytes (ws.take 4)).take 28)) ∧
    (let t := (((s.wr .GLB_VOID_STATUS_STATE 0 0 1).wr .SIG_BAR_CFG_ROOT 0 0 4).wr .SIG_ROUTE_VALID 0 4 1).wr .SIG_BAR_CFG_PKGS 0 0 8
     t.seqState = 1 ∧ t.unitsDone = true ∧ t.seqReleased = false ∧ (t.bar t.stepBar).done = false ∧ t.barPkgs t.stepBar ≠ 1 ∧ t.pkn ≠ t.barRoot t.stepBar ∧
     t.flag .SIG_ROUTE_VALID 0 (t.barRoot t.stepBar) = true) := by decide +kernel

theorem test_add_saturates : let u := after1 (.signalApply [0]) ((flying 0 3).wr .SIG_CNT_VALUE 0 5 0xFFFE)
    u.rd .SIG_CNT_VALUE 0 5 = 0xFFFF ∧ u.rd .SIG_TILE_OVER_OVER 0 = 32 ∧ u.rd .SIG_STATUS_VOIDED = 1 := by decide +kernel
theorem test_add_bounded : let u := after1 (.signalApply [0]) (((flying 0 3).wr .SIG_CNT_CFG_MODE 0 5 1).wr .SIG_CNT_CFG_BOUND 0 5 2)
    u.rd .SIG_CNT_VALUE 0 5 = 2 ∧ u.flag .SIG_ERR_STATUS_DRIFT = true := by decide +kernel
theorem test_sub_floor : let u := after1 (.signalApply [0]) ((flying 1 3).wr .SIG_CNT_VALUE 0 5 1)
    u.rd .SIG_CNT_VALUE 0 5 = 0 ∧ u.rd .SIG_CNT_ADDED_ADDED 0 5 = 2 ^ 48 - 3 := by decide +kernel
theorem test_set_counter : let u := after1 (.sigCntWrite .host 0 5 ⟨7, []⟩) (up.wr .SIG_CNT_TAKEN_TAKEN 0 5 9)
    u.rd .SIG_CNT_ADDED_ADDED 0 5 = 16 := by decide +kernel
theorem test_set_then_add : let u := after1 (.sigCntWrite .host 0 5 ⟨7, [0]⟩) (flying 0 3)
    u.rd .SIG_CNT_VALUE 0 5 = 10 ∧ u.rd .SIG_CNT_ADDED_ADDED 0 5 = 10 ∧ u.flights = [] := by decide +kernel
theorem test_release : let s := (up.wr .SIG_BAR_CFG_VALID 0 1 1).wr .GLB_VOID_CTRL_REPLAY_BAR 0 0 9
    let u := after1 (.barReleaseMsg (message 0x12 0 0 0 0 0 |>.set 0 (0x12 + 2 ^ 48) |> fun ws => Msg.close (hw ws 0) 0 0 0)) s
    u.tileSense 0 1 = 1 ∧ u.rd .SIG_BAR_STATE_GEN 0 1 = 1 := by decide +kernel
theorem test_guard_completes : let k : Packet := { packet with stored := true, verified := true }
    let s : State := { up with guards := [⟨0, 1, 2, 1, some 0x50001⟩], packets := [k] }
    ((after1 (.guardPacketWritten 0) s).flights.map (·.amount)) = [1] := by decide +kernel

/-! ### Memory controllers and arbitration -/

def anyReq : Req := { num := 2, waiterKind := 1, waiter := 0 }

theorem witness_StackAccesses :
    up.target 0 = .stack ∧ up.stalled 0 64 = false ∧ 64 ≤ up.fuses.memory ∧
    up.reachesStack anyReq (stackOf up.fuses.nStacks 0) = true ∧ up.isOpen kMemc (stackOf up.fuses.nStacks 0) = true ∧
    up.mem.badIn 0 8 = none ∧ ({ up with mem := up.mem.mark ⟨0, 64, 5⟩ } : State).mem.badIn 8 8 = some 5 ∧
    (let s : State := { up with fuses := { Fuses.default with ident := 8 * 32 + 4 * 2 } }
     s.target s.fuses.memory = .hole ∧ s.stalled s.fuses.memory 1 = false) ∧ anyReq.saver = false ∧ anyReq.mirrorFrom = none ∧
    ¬up.fuses.ctxBase < 0 + 8 ∧ up.fuses.ctxBase < up.fuses.ctxBase + 1 ∧ up.flag .MEM_RGN_MIRROR_ARMED = false := by decide +kernel

theorem witness_StackAccesses_waits : let s := up.wr .MEM_STATUS_ZEROING (stackOf 16 0) 0 1
    s.target 0 = .stack ∧ s.stalled 0 8 = true := by decide +kernel

theorem witness_ControllerActivities :
    up.hasStack 15 = true ∧ (up.wr .MEM_STATUS_TRAINED 0 0 1).scrubbing 0 = true ∧ up.scrubbing 0 = false ∧
    (let a := deviceAddr 16 0 0; up.mem.badAt a = none ∧ ({ up with mem := up.mem.mark ⟨a, 64, 5⟩ } : State).mem.badAt a = some 5 ∧
     (up.rd .MEM_CE_COUNT_COUNT (stackOf 16 a) + 1) % up.rd .MEM_CE_THRESH_THRESH (stackOf 16 a) ≠ 0) ∧
    (up.wr .HST_STATUS_JOB_STATE 0 0 5).jobState = jobScouring ∧ up.isOpen kMemc 0 = true ∧
    (up.wr .MEM_STATUS_ZEROING 0 0 1).flag .MEM_STATUS_ZEROING 0 = true ∧ up.hst.active = false := by decide +kernel

theorem witness_ControllerActivities_fill : ∀ k, (up.shingle k).rcOpening = false := fun _ => rfl

theorem witness_MirrorRegion :
    takes up .host ⟨.MEM_RGN_MIRROR, 0, 0⟩ (2 ^ Fd.MEM_RGN_MIRROR_ARMED.spec.lo) ∧
    up.flag .MEM_RGN_MIRROR_ARMED = false ∧ (up.wr .MEM_RGN_MIRROR_ARMED 0 0 1).flag .MEM_RGN_MIRROR_ARMED = true ∧
    (∀ k ∈ up.packets, k.cls ≠ cMirror) ∧ up.disarm = false ∧ ({ up with disarm := true } : State).disarm = true :=
  ⟨takes_of (by decide +kernel), by decide +kernel⟩

/-- Port 0 UP. -/
def portUp0 : State := up.wr .TWY_PORT_STATUS_STATE 0 0 3

/-- A unit of a class in one port's queue, of `n` flits. -/
def unit (c n : Nat) : TxUnit := { unit := { port := 0, cls := c, dest := none, guard := [], words := [] }, left := n, size := n }

/-- EBB holds port 0 with a group that it has not begun; FLOOD, the owner of every slot, waits with one of its own. -/
def contended : State :=
  (portUp0.wr .SLU_ACTIVE_SLOTS 0 0 0).setLink 0
    { Link.init with queue := [unit cEbb 16, unit cFlood 16], granted := List.replicate 6 100, holder := some cEbb }

theorem witness_Arbitration :
    (up.hasPoint (.bank 0 9) = true ∧ up.hasPoint (.fabric 0 4) = true ∧ up.hasPoint (.memory 15) = true ∧
     cycleFits (.bank 0 9) ⟨[0, 2], false, 9, []⟩ = true ∧ cycleFits (.bank 0 9) ⟨[0, 2], false, 0, []⟩ = false ∧
     up.holderOf (.bank 0 9) = none ∧ up.cycleRequests (.bank 0 9) 2 ⟨[0, 2], false, 9, []⟩ = [2, 0] ∧
     (up.wr .RST_CTRL_COMPUTE 0 0 1).cycleRequests (.bank 0 9) 2 ⟨[6], false, 9, []⟩ = [6]) ∧
    (let s := contended; let l := s.link 0
     s.requests 0 l cFlood = true ∧ l.holder = some cEbb ∧ s.requests 0 l cSignal = false ∧
     s.requests 0 { l with holder := none } cEbb = true ∧ s.decideGrant 0 { l with holder := none } none = some cFlood) := by
  decide +kernel

theorem witness_Tables :
    up.portUp 0 = false ∧ up.portState 0 ≠ pDraining ∧ portUp0.portUp 0 = true ∧
    (portUp0.link 0).queue = [] ∧ (portUp0.link 0).holder = none ∧ (portUp0.rd .SLU_STATUS_SLOT 0 + 1) % 64 ≠ 0 ∧
    ((portUp0.wr .SLU_STATUS_SLOT 0 0 63).rd .SLU_STATUS_SLOT 0 + 1) % 64 = 0 ∧ up.flag .SLU_STATUS_COMMIT_PENDING 0 = false ∧
    (up.wr .SLU_STATUS_COMMIT_PENDING 0 0 1).flag .SLU_STATUS_COMMIT_PENDING 0 = true := by decide +kernel

theorem witness_Tables_draining : let s := up.wr .TWY_PORT_STATUS_STATE 0 0 7
    s.portUp 0 = false ∧ s.portState 0 = pDraining ∧ (s.link 0).holder = none := by decide +kernel

theorem witness_Tables_claim : let v := contended.flitTimes 0 4 16
    v.portUp 0 = true ∧ (v.link 0).claim = none ∧ (v.link 0).served = false ∧ (v.link 0).holder = some cEbb ∧
    v.slotOwner 0 (v.rd .SLU_STATUS_SLOT 0) = cFlood ∧ cEbb ≠ cFlood ∧ cFlood < 6 ∧ v.mayHave 0 (v.link 0) cFlood = true := by decide +kernel

theorem witness_SluWrites :
    takes up .host ⟨.SLU_CTRL, 0, 0⟩ (withField up ⟨.SLU_CTRL, 0, 0⟩ .SLU_CTRL_COMMIT 1) ∧
    takes up .host ⟨.SLU_RANK, 31, 0⟩ 0o43210 ∧ takes up .host ⟨.SLU_SHADOW, 31, 7⟩ 0x76543210 ∧
    (∀ n < 8, bits (up.rd .SLU_SHADOW_SLOTS 0 0) (4 * n + 3) (4 * n) ≠ 6) ∧
    bits ((up.wr .SLU_SHADOW_SLOTS 0 0 6).rd .SLU_SHADOW_SLOTS 0 0) 3 0 = 6 :=
  ⟨takes_of (by decide +kernel), takes_of (by decide +kernel), takes_of (by decide +kernel), by decide +kernel⟩

theorem test_region : let u := after1 (.memAccess anyReq up.fuses.ctxBase 8 (some (List.replicate 8 1)) []) up
    u.flag .MEM_ERR_STATUS_REGION (stackOf 16 up.fuses.ctxBase) = true ∧ u.mem.read up.fuses.ctxBase = 0 := by decide +kernel
theorem test_heal : let s := { up with mem := up.mem.mark ⟨0, 64, 5⟩ }
    (after1 (.memAccess anyReq 0 64 (some (List.replicate 64 1)) []) s).mem.badAt 0 = none ∧
    (after1 (.memAccess anyReq 0 8 (some (List.replicate 8 1)) []) s).mem.read 0 = 0 := by decide +kernel
theorem test_refresh_hysteresis : let u := after1 (.refreshRateChange 0 86) up
    u.rd .MEM_REFRESH_RATE 0 = 1 ∧ (after1 (.refreshRateChange 0 84) u).rd .MEM_REFRESH_RATE 0 = 1 ∧
    (after1 (.refreshRateChange 0 83) u).rd .MEM_REFRESH_RATE 0 = 0 := by decide +kernel
theorem test_commit_refused : (after1 (.commit .host 0) (up.wr .SLU_SHADOW_SLOTS 0 0 6)).flag .SLU_ERR_STATUS_TABLE 0 = true := by
  decide +kernel
theorem test_slot_wraps : let s := (portUp0.wr .SLU_STATUS_SLOT 0 0 63).wr .SLU_SHADOW_SLOTS 0 7 0x11111111
    (after1 (.slotAdvance ⟨0, 0⟩) (s.wr .SLU_STATUS_COMMIT_PENDING 0 0 1)).rd .SLU_ACTIVE_SLOTS 0 7 = 0x11111111 := by decide +kernel

theorem test_claim : -- the group of EBB has not ended with the slot: FLOOD goes first in the next one
    let u := after1 (.slotAdvance ⟨0, 4⟩) contended
    (u.link 0).claim = some cFlood ∧ ((u.flitTimes 0 0 4).link 0).holder = some cFlood := by decide +kernel
theorem test_break : -- the group of EBB ends with the slot: its owner has the grant
    ((after1 (.slotAdvance ⟨0, 0⟩) contended).link 0).holder = some cFlood := by decide +kernel
theorem test_bank_refused : (after1 (.backoffExpiry (.bank 0 9) 2 ⟨[0], false, 9, []⟩) up).backoffs.length = 1 := by decide +kernel
theorem test_rows : -- the worked example of R116
    (List.range 10).map (fun i => (rowBank (640 + 2 * i)).1) = [4, 6, 8, 0, 2, 5, 7, 9, 1, 3] := by decide +kernel

/-! ### Tideway links -/

/-- A sound data flit of SEQ `q` and class `c`, a whole unit, with zeros for its body. -/
def flit (q c : Nat) : Flit :=
  ⟨0, 0, sealHeader (flitHead q 1023 c true true true false 0 0) 0 0 0 (List.replicate 32 0), List.replicate 32 0⟩

/-- A group of zeros that came with no tag of this package's. -/
def group0 : Sealed := ⟨0, 0, 0, 0, [], [], 0⟩

/-- A plan in which port 0 joins the package at location 5, a tray, by its port 3, and leads to the time parent. -/
def planned : State :=
  { up with plan := { up.plan with entries := [(⟨0, 0, 0⟩, 2 * 2 ^ 11 + 5 * 2 ^ 14 + 3 * 2 ^ 27 + 2 ^ 32)] } }

/-- Port 0 of that plan in state `st`. -/
def port0 (st : Nat) : State := (planned.wr .TWY_PORT_STATUS_STATE 0 0 st).wr .TWY_GLB_CTRL_LINKS_EN 0 0 1

/-- A control flit with one record in its slot 0. -/
def recordFlit (ws : List Nat) : Flit := ⟨0, 0, (plainFlit 1 0 ws).1, (plainFlit 1 0 ws).2⟩

/-- Port 0 UP, its peer told of 8 flits of credit in every class. -/
def credited : State := (portUp0.wr .TWY_PORT_CREDIT_EBB 0 0 8).setLink 0 { Link.init with told := List.replicate 6 8 }

theorem witness_LinkLayer_flits : let s := credited
    noScans s 0 ∧ s.portState 0 ∈ [2, 3, 4, 7] ∧ ¬up.portState 0 ∈ [2, 3, 4, 7] ∧ (port0 2).portState 0 = 2 ∧
    s.portState 0 = 3 ∧ up.portState 0 ≠ 3 ∧ up.portState 0 ≠ 7 ∧ (flit 0 1).ftype = 0 ∧ (flit 1 1).ftype = 0 ∧ (flit 1 1).seq ≠ (s.link 0).expSeq ∧
    (flit 0 1).crcOk = true ∧ (flit 0 1).uncorrected = 0 ∧ (flit 0 1).seq = (s.link 0).expSeq ∧
    at0 (s.link 0).recv 1 < at0 (s.link 0).told 1 ∧
    (flit 0 1).cls = 1 ∧ 1 < (s.link 0).recv.length ∧ (s.link 0).queue = [] ∧
    at0 (portUp0.link 0).told 1 ≤ at0 (portUp0.link 0).recv 1 := by unfold noScans; decide +kernel

theorem witness_LinkLayer_controls :
    (∀ ws ∈ [[0x05, 0, 0, 0], [0x02 + 9 * 2 ^ 16, 0, 0, 0], [0x01 + 9 * 2 ^ 16, 0, 0, 1]],
      (recordFlit ws).ftype = 1 ∧ (recordFlit ws).crcOk = true ∧ (recordFlit ws).uncorrected = 0 ∧
      (recordFlit ws).body = ws ++ List.replicate 28 0) ∧
    (⟨0, 1, (recordFlit []).header, []⟩ : Flit).uncorrected ≠ 0 := by decide +kernel

theorem witness_LinkLayer_groups : ({ up with packets := [packet] } : State).packets[0]? = some packet ∧
    (let x := slot (segment 0 2).head
     (tide.setSlot 0 0 x).slotAt 0 0 0 = some x ∧ x.again = 0) := by decide +kernel

/-- Port 0 UP with two flits in its replay buffer. -/
def sent2 : State := portUp0.setLink 0 { Link.init with replay := [⟨0, .nobody, [], []⟩, ⟨1, .xfer 7, [], []⟩], nextSeq := 2 }

theorem witness_LinkLayer_retry :
    (sent2.portState 0 = 3 ∧ (sent2.link 0).replay = [⟨0, .nobody, [], []⟩] ++ ⟨1, .xfer 7, [], []⟩ :: [] ∧
     (∀ y ∈ [(⟨0, .nobody, [], []⟩ : TxFlit)], y.seq ≠ 1) ∧ (sent2.link 0).queue = [] ∧
     (∀ y ∈ (sent2.link 0).replay, y.seq ≠ (0 + 1023) % 1024)) ∧
    (sent2.link 0).replayRun + 1 < sent2.rd .TWY_PORT_LIMITS_RETRY 0 ∧
    (let s := sent2.wr .TWY_PORT_LIMITS_RETRY 0 0 1; s.rd .TWY_PORT_LIMITS_RETRY 0 ≤ (s.link 0).replayRun + 1) ∧
    (portUp0.link 0).replay = [] ∧
    ((portUp0.updateCredits 0).link 0).owed ≠ [] ∧
    (let s := portUp0.updateCredits 0
     let s := s.setLink 0 { s.link 0 with owed := [] }
     ((s.updateCredits 0).link 0).owed = []) := by decide +kernel

theorem witness_LinkTraining :
    (port0 1).portState 0 = 1 ∧ ((port0 1).link 0).pcs = false ∧
    (let s := (port0 1).setLink 0 { Link.init with pcs := true }; s.portState 0 = 1 ∧ (s.link 0).pcs = true) ∧
    (port0 2).portState 0 = 2 ∧ (port0 5).portState 0 = 5 ∧ (port0 3).portState 0 = 3 ∧
    (let e := (port0 2).portEntry 0
     bits e 13 11 = 2 ∧ bits e 23 14 = 5 ∧ bits e 26 24 = 0 ∧ bits e 31 27 = 3 ∧ (port0 2).portQuads 0 = 1) ∧
    (up.wr .TWY_PORT_STATUS_STATE 0 0 2).portState 0 = 2 ∧
    (let s := { port0 2 with plan := { up.plan with entries := [(⟨0, 0, 0⟩, 1 * 2 ^ 11)] } }
     bits (s.portEntry 0) 13 11 = 1 ∧ s.portState 0 = 2) := by decide +kernel

theorem witness_LinkTraining_enable :
    (∀ st ∈ [1, 2], noScans (port0 st) 0 ∧ ((port0 st).wr .TWY_PORT_CTRL_ENABLE 0 0 0).flag .TWY_PORT_CTRL_ENABLE 0 = false ∧
      ((port0 st).wr .TWY_PORT_CTRL_ENABLE 0 0 1).flag .TWY_PORT_CTRL_ENABLE 0 = true) ∧
    (∀ st ∈ [1, 2, 4, 5, 6], (port0 st).portInUse 0 = false ∧ (port0 st).portState 0 = st) := by unfold noScans; decide +kernel

theorem witness_PortControl_enable :
    takes (port0 0) .host ⟨.TWY_PORT_CTRL, 0, 0⟩ (withField (port0 0) ⟨.TWY_PORT_CTRL, 0, 0⟩ .TWY_PORT_CTRL_ENABLE 1) ∧
    takes (port0 3) .host ⟨.TWY_PORT_CTRL, 0, 0⟩ (withField (port0 3) ⟨.TWY_PORT_CTRL, 0, 0⟩ .TWY_PORT_CTRL_ENABLE 0) ∧
    (let s := (port0 3).wr .TWY_PORT_CTRL_ENABLE 0 0 1
     takes s .host ⟨.TWY_PORT_CTRL, 0, 0⟩ (withField s ⟨.TWY_PORT_CTRL, 0, 0⟩ .TWY_PORT_CTRL_RETRAIN 1)) ∧
    takes (port0 0) .host ⟨.TWY_PORT_CREDIT, 0, 0⟩ 0x0101_0101_0101 ∧
    takes (port0 3) .host ⟨.TWY_PORT_CREDIT, 0, 0⟩ 0x0101_0101_0101 :=
  ⟨takes_of (by decide +kernel), takes_of (by decide +kernel), takes_of (by decide +kernel), takes_of (by decide +kernel),
   takes_of (by decide +kernel)⟩

theorem witness_PortControl_enable_premises :
    ((port0 3).wr .TWY_PORT_CTRL_ENABLE 0 0 1).portInUse 0 = false ∧ (port0 0).rd .TWY_PORT_CTRL_EXCUSE 0 < 2 ∧ (port0 0).rd .TWY_PORT_CTRL_ENABLE 0 < 2 ∧ (port0 0).inLoopback 0 = false ∧
    (port0 0).portInUse 0 = false ∧ (port0 0).portRole 0 ≠ 0 ∧ up.portRole 0 = 0 ∧ (port0 0).portState 0 = 0 ∧
    (port0 0).flag .TWY_GLB_CTRL_LINKS_EN = true ∧ (port0 0).isOpen kPort 0 = true ∧ (port0 3).portInUse 0 = false ∧
    (((port0 3).wr .TIDE_CTRL_ENABLE 0 0 1).wr .SIG_ROUTE_VALID 0 9 1).portInUse 0 = true ∧ (port0 3).portState 0 = 3 := by
  decide +kernel

theorem witness_PortControl_time :
    (port0 3).portState 0 = 3 ∧ (port0 7).portState 0 = 7 ∧ ((port0 7).link 0).replay = [] ∧ ((port0 7).link 0).queue = [] ∧
    ((port0 7).setLink 0 { Link.init with replay := [⟨0, .nobody, [], []⟩] } |>.link 0).replay ≠ [] ∧
    ((port0 7).wr .TWY_PORT_CTRL_ENABLE 0 0 0).flag .TWY_PORT_CTRL_ENABLE 0 = false ∧ (port0 7).flag .TWY_PORT_STATUS_PENDING_ENABLE 0 = false ∧
    (port0 3).timeParent 0 = true ∧ portUp0.timeParent 0 = false ∧ (port0 3).jobState = 0 ∧ (port0 3).timeStepped = false ∧
    ({ port0 3 with timeStepped := true } : State).timeStepped = true := by decide +kernel

theorem witness_PendingEnables : let s := (port0 7).wr .TWY_PORT_STATUS_PENDING_ENABLE 0 0 1
    takes s .host ⟨.TWY_PORT_CTRL, 0, 0⟩ (withField s ⟨.TWY_PORT_CTRL, 0, 0⟩ .TWY_PORT_CTRL_ENABLE 1) ∧
    takes s .host ⟨.TWY_PORT_CTRL, 0, 0⟩ (withField s ⟨.TWY_PORT_CTRL, 0, 0⟩ .TWY_PORT_CTRL_ENABLE 0) ∧
    s.rd .TWY_PORT_CTRL_EXCUSE 0 < 2 ∧ s.portState 0 = 7 ∧ s.inLoopback 0 = false ∧ s.portRole 0 ≠ 0 ∧
    s.portInUse 0 = false ∧ s.flag .TWY_PORT_STATUS_PENDING_ENABLE 0 = true ∧ s.flag .TWY_GLB_CTRL_LINKS_EN = true ∧
    s.isOpen kPort 0 = true ∧ (s.link 0).replay = [] ∧ (s.link 0).queue = [] :=
  ⟨takes_of (by decide +kernel), takes_of (by decide +kernel), by decide +kernel⟩

/-- A transfer of 64 bytes from the start of stack memory to package 9, stream 3. -/
def xferWords : List Nat := [1 * 2 ^ 48, 9 * 2 ^ 48, 64 + 3 * 2 ^ 32, 0, 0, 0, 0, 1]

theorem witness_TransferRequests :
    takes up .host ⟨.TWY_XFER, 0, 0⟩ (xferWords.zipIdx.foldl (fun v x => v + x.1 % 2 ^ 64 * 2 ^ (64 * x.2)) 0) ∧
    xferWords.length = 8 ∧ (∀ w ∈ xferWords, w < 2 ^ 64) ∧ xferReserved xferWords = false ∧
    xferReserved (List.replicate 8 0) = true ∧ up.flag .SIG_ROUTE_VALID 0 9 = false ∧
    (up.wr .SIG_ROUTE_VALID 0 9 1).flag .SIG_ROUTE_VALID 0 9 = true ∧ (up.xferQueue 0).length < 64 :=
  ⟨takes_of (by decide +kernel), by decide +kernel⟩

theorem witness_TransferRequests_sent :
    let r : XferReq := ⟨0, 1, 0x10000, 9, 64, 0, 0, 3 * 2 ^ 10⟩
    let s := (port0 3).setXferQueue 0 [r]
    s.hasDie 0 = true ∧ s.xferQueue 0 = r :: [] ∧ s.portUp (s.rd .SIG_ROUTE_PORT 0 r.dest) = true ∧
    s.stalled r.src r.len = false ∧ (up.setXferQueue 0 (List.replicate 64 r)).xferQueue 0 = List.replicate 64 r ∧
    ((s.setXferQueue 0 []).readSpan { num := 2, waiterKind := 0, waiter := 0 } r.src r.len).2.isOk = true ∧
    (let x : XferLive := ⟨r.tag, 0, 0⟩
     let u := { sent2 with xfers := [x] }
     u.xfers.find? (fun y => y.tag == r.tag) = some x ∧ ¬((∃ f ∈ (u.link x.port).replay, f.owner = .xfer r.tag) ∨ ∃ q ∈ (u.link x.port).queue, q.owner = .xfer r.tag)) ∧
    (let u := sent2
     ∃ f ∈ (u.link 0).replay, f.owner = .xfer 7) ∧
    up.flag .TWY_LOC_ROUTE_VALID 0 9 = false ∧
    ((port0 3).wr .TWY_LOC_ROUTE_VALID 0 9 1).portUp (((port0 3).wr .TWY_LOC_ROUTE_VALID 0 9 1).rd .TWY_LOC_ROUTE_PORT 0 9) = true := by
  decide +kernel

theorem test_flit_accepted : let s := credited
    ((after1 (.dataFlitReceive 0 (flit 0 1)) s).link 0).expSeq = 1 ∧
    ((after1 (.dataFlitReceive 0 (flit 5 1)) s).outbox.length = s.outbox.length + 1) := by decide +kernel
theorem test_flit_overrun : ((after1 (.dataFlitReceive 0 (flit 0 1)) portUp0).portState 0) = 6 := by decide +kernel
theorem test_control_flit : let u := after1 (.dataFlitReceive 0 (recordFlit [0x05, 0, 0, 0])) portUp0
    u.portState 0 = 7 ∧ (u.wire.map fun f => bits (at0 f.header 0) 4 3) = [1] := by decide +kernel
theorem test_ack : ((after1 (.ack 0 1 [0, 0, 0, 0, 0, 0]) sent2).link 0).replay = [] := by decide +kernel
theorem test_ident : let u := after1 (.ident 0 5 0 3 1 0xABCD 0 [1, 2, 3, 4, 5, 6]) (port0 2)
    u.portState 0 = 3 ∧ u.rd .TWY_PORT_PEER_SERIAL 0 = 0xABCD ∧ (u.link 0).granted = [1, 2, 3, 4, 5, 6] := by decide +kernel
theorem test_ident_misplaced : let u := after1 (.ident 0 6 0 3 1 0xABCD 0 [1, 2, 3, 4, 5, 6]) (port0 2)
    u.portState 0 = 4 ∧ u.rd .TWY_PORT_STATUS_REASON 0 = 6 := by decide +kernel
theorem test_time : let u := after1 (.time 0 90 200 110) { port0 3 with time := 100 }
    u.rd .TWY_TIME_OFFSET_OFFSET 0 = 40 ∧ u.time = 140 := by decide +kernel

theorem test_flit_corrupt : let f := flit 0 1
    { f with body := 1 :: List.replicate 31 0 }.crcOk = false := by decide +kernel
theorem test_drains : let u := after1 (.off 0) portUp0
    u.portState 0 = 7 ∧ (after1 (.drainComplete 0) u).portState 0 = 0 := by decide +kernel
theorem test_time_answered : (after1 (.time 0 90 0 0) { portUp0 with time := 100 }).outbox.map (·.words) = [[0x03, 100, 100, 90]] := by
  decide +kernel
theorem test_retrain : let s := (port0 3).wr .TWY_PORT_CTRL_ENABLE 0 0 1
    (after1 (.retrain .host 0) s).portState 0 = 7 := by decide +kernel
theorem test_credit_rises : let u := after1 (.creditAllotWrite .host 0 0x0101_0101_0102) portUp0
    at0 (u.link 0).adv 0 = 32 := by decide +kernel
theorem test_transit_guard : let s := (portUp0.wr .TWY_LOC_ROUTE_VALID 0 9 1)
    (after1 (.transitForward 1 9 4 1 ⟨0, 0, 2, 3, [7, 8], List.replicate 32 0, [0], []⟩) s).outbox.map (fun x => (x.guard, x.origin, x.nonce)) =
      [([7, 8], 2, 3)] := by decide +kernel

/-! ### The host interface and the job -/

/-- A state with a window over the first 64 KiB of host memory, both rings of queue 0 in it, and job state `st`. -/
def hosted (st : Nat) : State :=
  up |>.wr .HST_FWIN_LIMIT_LIMIT 0 0 15 |>.wr .HST_FWIN_LIMIT_VALID 0 0 1 |>.wr .HST_CTRL_ENABLE 0 0 1 |>.wr .HST_Q_CFG_ENABLE 0 0 1
    |>.wr .HST_Q_CFG_SQ_LOG2 0 0 4 |>.wr .HST_Q_CFG_CQ_LOG2 0 0 4 |>.wr .HST_CQ_BASE_BASE 0 0 1
    |>.wr .HST_STATUS_JOB_STATE 0 0 st

/-- A submission entry in slot 0 of queue 0, which the tail has passed. -/
def submitted (st : Nat) (ws : List Nat) : State :=
  let s := (hosted st).wr .HST_SQ_TAIL_TAIL 0 0 1
  { s with hostMem := s.hostMem.writeN 0 (leBytes 64 (desc ws)) }

/-- The command in the first place of the commands that have started, or of the job sequencer. -/
def started (st : Nat) (ws : List Nat) : State :=
  let s := hosted st
  { s with hst := { s.hst with started := [⟨0, ws, 0⟩] } }

def jobOf (st : Nat) (ws : List Nat) : State :=
  let s := hosted st
  { s with hst := { s.hst with jobs := [⟨0, ws, 0⟩] } }

/-- A FERRY of 64 bytes from host address 0x2000 to the start of stack memory, and one back. -/
def ferryIn : List Nat := [1, 0x380000002000, 0, 64, 0, 0, 0, 0]
def ferryOut : List Nat := [1, 0, 0x380000002000, 64, 0, 0, 0, 0]

theorem witness_HostQueues_doorbells :
    takes (hosted 0) .host ⟨.HST_SQ_TAIL, 0, 0⟩ 15 ∧ takes (hosted 0) .host ⟨.HST_SQ_TAIL, 0, 0⟩ 16 ∧
    takes (hosted 0) .host ⟨.HST_CQ_HEAD, 0, 0⟩ 16 ∧ takes (hosted 0) .host ⟨.HST_Q_CFG, 0, 0⟩ (2 ^ 31 + 4 * 16 + 4) ∧
    takes up .host ⟨.HST_Q_CFG, 0, 63⟩ (2 ^ 31 + 4 * 16 + 4) ∧ takes up .host ⟨.HST_HOST_SIG, 0, 0⟩ 128 ∧ takes up .host ⟨.HST_HOST_SIG, 0, 0⟩ 127 :=
  ⟨takes_of (by decide +kernel), takes_of (by decide +kernel), takes_of (by decide +kernel), takes_of (by decide +kernel),
   takes_of (by decide +kernel), takes_of (by decide +kernel), takes_of (by decide +kernel)⟩

theorem witness_HostQueues_values :
    fv .HST_SQ_TAIL_TAIL 15 = 15 ∧ fv .HST_HOST_SIG_VECTOR 128 = 128 ∧ (hosted 0).flag .HST_Q_CFG_ENABLE 0 0 = true ∧
    up.flag .HST_Q_CFG_ENABLE 0 63 = false ∧ fv .HST_Q_CFG_ENABLE (2 ^ 31 + 4 * 16 + 4) = 1 ∧ fv .HST_Q_CFG_ENABLE (4 * 16 + 4) = 0 ∧
    up.flag .HST_MSIX_MASK 0 128 = true ∧ (up.wr .HST_MSIX_MASK 0 128 0).flag .HST_MSIX_MASK 0 128 = false ∧
    up.boot.pwrok = true ∧ up.boot.perst = false ∧ up.tap.pcieLb = 0 ∧ (hosted 5).jobState = 5 := by decide +kernel

theorem witness_HostQueues_fetch :
    up.fetchable 0 = false ∧
    (let s := submitted 0 [0, 0, 0, 0, 0, 0, 0, 0]; s.fetchable 0 = true ∧ s.outside 0 64 = none) ∧
    (let s := (submitted 0 []).wr .HST_FWIN_LIMIT_VALID 0 0 0; s.fetchable 0 = true ∧ s.outside 0 64 = some 0) ∧
    (let s := submitted 0 [2 ^ 8]
     let s := { s with hst := { s.hst with started := [⟨0, [1], 0⟩] } }
     s.fetchable 0 = true ∧ HostCmd.fence ⟨0, [2 ^ 8], 0⟩ = true ∧ s.outstanding 0 ≠ 0) ∧
    HostCmd.op ⟨0, [5], 0⟩ ∉ [0x00, 0x01, 0x10, 0x11, 0x12, 0x13, 0x14] ∧ HostCmd.reserved ⟨0, [0x10], 0⟩ = false ∧
    HostCmd.reserved ⟨0, ferryIn, 0⟩ = false ∧ (hosted 0).ferryQueue 0 = [] := by decide +kernel

theorem witness_HostQueues_complete : let s := started 0 [0]
    s.hst.started.find? (fun c => c.q == 0) = some ⟨0, [0], 0⟩ ∧ s.outside 0x1000 16 = none ∧ s.behindJob ⟨0, [0], 0⟩ = false ∧
    (let t := { s with hst := { s.hst with started := [⟨0, [0], 2⟩], jobs := [⟨0, [0x11], 0⟩, ⟨0, [0x12], 1⟩] } }
     t.hst.started.find? (fun c => c.q == 0) = some ⟨0, [0], 2⟩ ∧ t.behindJob ⟨0, [0], 2⟩ = true) ∧
    (up.hst.started.find? (fun c => c.q == 0)).isNone = true := by decide +kernel

theorem witness_HostTransfers_ferry :
    (let s := started 1 ferryIn
     s.hst.started.find? (fun c => c.q == 0) = some ⟨0, ferryIn, 0⟩ ∧ s.behindJob ⟨0, ferryIn, 0⟩ = false ∧ HostCmd.op ⟨0, ferryIn, 0⟩ = 1 ∧ ferryBad ⟨0, ferryIn, 0⟩ = false ∧
     s.ferryAllowed ⟨0, ferryIn, 0⟩ = true ∧ s.jobState ∈ [1, 2] ∧ s.ferryOutside ⟨0, ferryIn, 0⟩ = none ∧ s.isOpen kFerry 0 = true ∧
     s.ferryQueue 0 = [] ∧ s.ferryWaits ⟨0, ferryIn, 0⟩ = false ∧ 0x380000000000 ≤ HostCmd.src ⟨0, ferryIn, 0⟩) ∧
    ferryBad ⟨0, [1], 0⟩ = true ∧ (started 0 ferryIn).jobState ∉ [1, 2, 4] ∧
    ((started 1 ferryIn).wr .HST_FWIN_LIMIT_VALID 0 0 0).ferryOutside ⟨0, ferryIn, 0⟩ = some 0x2000 ∧
    ((started 1 ferryIn).setShutter kFerry 0 2).isOpen kFerry 0 = false := by decide +kernel

theorem witness_HostTransfers_data :
    (let s := (started 1 ferryIn).setFerries 0 [⟨⟨0, ferryIn, 0⟩, [], false, none⟩]
     (s.writeSpan hostReq 0 (s.hostMem.readN 0x2000 64)).2 = none) ∧
    (let s := (started 1 ferryOut).setFerries 0 [⟨⟨0, ferryOut, 0⟩, [], false, none⟩]
     (s.readSpan hostReq 0 64).2.isOk = true) ∧
    (let s := (hosted 1).setFerries 0 [⟨⟨0, ferryIn, 0⟩, [], false, some (0, 64)⟩]
     s.ferryQueue 0 = [⟨⟨0, ferryIn, 0⟩, [], false, some (0, 64)⟩]) := by decide +kernel

theorem witness_HostTransfers_bar2 :
    (let s := up.wr .TILE_WATERLINE_REWRITING 0 0 1; s.barStalled = false ∧ s.stalled 0x200000000000 4 = true) ∧
    up.barStalled = false ∧ (hosted 5).barStalled = true ∧ up.stalled 0 4 = false ∧ (up.readSpan hostReq 0 4).2.isOk = true ∧
    (up.writeSpan hostReq 0 [1, 2, 3, 4]).2 = none ∧
    (let s := up.setShutter kMemc 0 2
     (s.readSpan hostReq 0 4).2.isOk = false ∧ (s.writeSpan hostReq 0 [1]).2.isSome = true) ∧
    (let s := { up with hst := { up.hst with stalled := [⟨0, 4, none⟩] } }
     s.hst.stalled = ⟨0, 4, none⟩ :: [] ∧ s.barStalled = false ∧ s.stalled 0 4 = false) ∧
    (let s := { up with hst := { up.hst with stalled := [⟨0, 4, some [1, 2, 3, 4]⟩] } }
     s.hst.stalled = ⟨0, 4, some [1, 2, 3, 4]⟩ :: [] ∧
     (State.writeSpan { s with hst := { s.hst with stalled := [] } } hostReq 0 [1, 2, 3, 4]).2 = none) := by decide +kernel

/-- The recovery window is open. -/
def recovering : State := (up.wr .HST_STATUS_RECOVERY 0 0 1).wr .HST_RCV_STATUS_READY 0 0 1

theorem witness_HostTransfers_recovery :
    takes recovering .host ⟨.HST_RCV_CTRL, 0, 0⟩ (2 ^ Fd.HST_RCV_CTRL_GO.spec.lo + 4 * 2 ^ Fd.HST_RCV_CTRL_LEN.spec.lo) ∧
    fv .HST_RCV_CTRL_GO (2 ^ Fd.HST_RCV_CTRL_GO.spec.lo) = 1 ∧ recovering.flag .HST_STATUS_RECOVERY = true ∧
    recovering.flag .HST_RCV_STATUS_READY = true ∧ (recovering.wr .HST_RCV_CTRL_GO 0 0 1).flag .HST_RCV_CTRL_GO = true ∧
    (recovering.wr .HST_RCV_STATUS_READY 0 0 0).flag .HST_RCV_STATUS_READY = false ∧ up.imageOk 0 = false :=
  ⟨takes_of (by decide +kernel), by decide +kernel⟩

/-- A manifest of job 7 for an assembly of 16 stacks and 4 I/O dies. -/
def manifest : List Nat := [7 + 2 ^ 32 + 4 * 2 ^ 39 + 2 ^ 42 + 16 * 2 ^ 43, 0, 0, 0, 0, 0, 0, 0]

/-- JOB_OPEN of the manifest at host address 0x2000. -/
def opening : State :=
  let s := jobOf 0 [0x10, 0x380000002000]
  { s with hostMem := s.hostMem.writeN 0x2000 (leBytes 64 (desc manifest)) }

theorem witness_JobCommands_open :
    opening.hst.jobs = [⟨0, [0x10, 0x380000002000], 0⟩] ∧ opening.hst.active = false ∧ opening.jobState = 0 ∧
    opening.openWaits = false ∧ opening.outside 0x2000 64 = none ∧ bytesWords (opening.hostMem.readN 0x2000 64) = manifest ∧
    manifestBad manifest = false ∧ manifestXts manifest = false ∧ manifestBad [] = true ∧
    (opening.wr .SEC_STATUS_SECRET_SET 0 0 1).flag .SEC_STATUS_SECRET_SET = true ∧
    opening.flag .SEC_STATUS_SECRET_SET = false ∧ manifestXts [2 ^ 36] = true := by decide +kernel

theorem witness_JobCommands_start : let s := jobOf 1 [0x11]
    s.hst.jobs = [⟨0, [0x11], 0⟩] ∧ s.jobState = 1 ∧ s.hst.active = false ∧ s.variantOk manifest = true ∧ s.variantOk [] = false ∧
    s.behindStart ⟨0, [0x11], 0⟩ = false ∧
    ({ s with hst := { s.hst with started := [⟨0, [0], 0⟩] } } : State).behindStart ⟨0, [0x11], 1⟩ = true := by decide +kernel

/-- The job that is loaded is that of `m`. -/
def loaded (m : List Nat) : State := let s := jobOf 1 [0x11]; { s with hst := { s.hst with manifest := m } }

theorem witness_JobCommands_image :
    (loaded manifest).variantOk (loaded manifest).hst.manifest = true ∧ (loaded manifest).readImage = (loaded manifest, .ok []) :=
  ⟨by decide +kernel, rfl⟩
theorem witness_JobCommands_no_image : -- an IMAGE of 64 bytes above the fitted stacks
    let s := loaded ((manifest.set 3 0x01F000000000).set 4 64)
    s.variantOk s.hst.manifest = true ∧ s.readImage.2.isOk = false := by decide +kernel

/-- The measurement of the job leaves the modes of the tide engines as they are. -/
theorem measured_mode (s : State) (b : List Byte) (v d : Nat) :
    ((s.measureJob b).wr .TWY_KEY_TM_TIDEMARK 0 0 v).rd .TIDE_CTRL_MODE d = s.rd .TIDE_CTRL_MODE d := by
  rw [rd_wr_ne _ _ (by decide) (by simp), measureJob, State.measure, rd_wr_ne _ _ (by decide) (by simp)]

theorem witness_JobCommands_tides : let s := jobOf 1 [0x11]
    let m := (s.measureJob []).wr .TWY_KEY_TM_TIDEMARK 0 0 s.tidemark
    let t := s.wr .TIDE_CTRL_MODE 0 0 1
    let n := (t.measureJob []).wr .TWY_KEY_TM_TIDEMARK 0 0 t.tidemark
    (∀ d < 4, m.rd .TIDE_CTRL_MODE d = 0) ∧ n.fuses.dieFitted 0 = true ∧ n.rd .TIDE_CTRL_MODE 0 = 1 := by
  simp only [measured_mode]; decide +kernel

/-- A JOB_PAUSE that has come as far as order `n`. -/
def pausing (n : Nat) : State :=
  let s := (List.range 4).foldl (fun s d => s.wr .TIDE_STATUS_QUIESCENT d 0 1) (jobOf 3 [0x12])
  { s with hst := { s.hst with active := true, order := n } }

theorem witness_JobCommands_pause :
    (let s := jobOf 2 [0x12]; s.jobState = 2 ∧ s.hst.active = false) ∧ (pausing 2).jobState = 3 ∧ (pausing 2).hst.order = 2 ∧
    (pausing 2).drainedJob = true ∧ (pausing 4).unitsDone = true ∧ (pausing 5).hst.order = 5 ∧
    (∀ e ∈ (pausing 2).engines, e.2.queue = []) := by decide +kernel

/-- Does the header that is read name the job? `none` where it cannot be read. -/
def named (s : State) : Option Bool :=
  match s.readHeader with
  | (t, .ok bs) => some (t.headerNames (leNat bs))
  | (_, .error _) => none

theorem witness_JobCommands_resume : let s := jobOf 4 [0x13]
    let s := { s with mem := s.mem.writeN (s.fuses.ctxBase + 0x4E000000) (leBytes 8 (2 ^ 36)) }
    let far (s : State) : State := s.setShutter kMemc ((stackOf s.fuses.nStacks (s.fuses.ctxBase + 0x4E000000) + 1) % 16) 2
    let near (s : State) : State := s.setShutter kMemc (stackOf s.fuses.nStacks (s.fuses.ctxBase + 0x4E000000)) 2
    s.jobState = 4 ∧ named s = some true ∧ named up = some false ∧ named (near s) = none ∧ s.readArea.2 = none ∧
    named (far s) = some true ∧ (far s).readArea.2 = some .isolated := by decide +kernel

theorem witness_KillAndScour :
    (let s := jobOf 2 [0x14]; s.hst.jobs = ⟨0, [0x14], 0⟩ :: [] ∧ HostCmd.op ⟨0, [0x14], 0⟩ = 0x14 ∧ s.hst.active = false ∧ s.behindStart ⟨0, [0x14], 0⟩ = false) ∧
    (let s := { pausing 2 with hst := { (pausing 2).hst with jobs := [⟨0, [0x12], 0⟩, ⟨0, [0x14], 0⟩] } }
     s.jobState = 3 ∧ s.hst.active = true) ∧
    (let s := { hosted 5 with hst := { (hosted 5).hst with order := 3 } }
     s.jobState = 5 ∧ s.flag .RST_CTRL_COMPUTE = false ∧ 6 ≤ s.boot.order) ∧
    (hosted 5).zeroing = false ∧ (hosted 5).sec.unlock = none ∧ up.jobState ≠ 5 := by decide +kernel

theorem test_tail_past : (after1 (.sqTailWrite .host 0 16) (hosted 0)).flag .HST_Q_CFG_ENABLE 0 0 = false ∧
    (after1 (.sqTailWrite .host 0 15) (hosted 0)).rd .HST_SQ_TAIL_TAIL 0 0 = 15 := by decide +kernel
theorem test_nop_completes : let u := after1 (.nop 0) (after1 (.submissionFetch 0) (submitted 0 [7 * 2 ^ 16]))
    u.hostMem.readN 0x1000 2 = leBytes 2 7 ∧ u.rd .HST_Q_STATUS_CQ_TAIL 0 0 = 1 := by decide +kernel
theorem test_ferry : let s := started 1 ferryIn
    (after1 (.ferry 0 [] false) { s with hostMem := s.hostMem.writeN 0x2000 [9] }).mem.read 0 = 9 := by decide +kernel
theorem test_bar2_discard : (after1 (.bar2Access 0 4 (some [1, 2, 3, 4])) (hosted 5)).rd .HST_BAR2_DISCARD_COUNT = 1 := by
  decide +kernel
theorem test_job_open : let u := after1 (.jobOpen false) (opening.wr .SEC_STATUS_SECRET_SET 0 0 1)
    u.jobState = 1 ∧ u.rd .HST_JOB_TAG_JOB = 7 := by decide +kernel
theorem test_pause_refused : let u := after1 .jobPause (jobOf 1 [0x12])
    u.jobState = 1 ∧ u.hst.jobs = [] ∧ u.hostMem.readN 0x1004 1 = leBytes 1 1 := by decide +kernel

/-! ### Survey and recode -/

/-- A survey of stack 0 is open; format FP8 E4M3, epoch 1. -/
def survey : State := ((up.wr .SHG_SV_STATUS_OPEN 0 0 1).wr .SHG_SV_CTRL_FORMAT 0 0 3).wr .SHG_SV_CTRL_EPOCH 0 0 1
def svCtrl : Nat := 3 * 2 ^ 21 + 2 ^ 26

theorem witness_Surveys :
    takes up .host ⟨.SHG_SV_CTRL, 0, 0⟩ (setBit svCtrl 0) ∧ takes survey .host ⟨.SHG_SV_FEED, 0, 0⟩ (2 ^ 20) ∧
    takes survey .host ⟨.SHG_SV_CTRL, 0, 0⟩ (withField survey ⟨.SHG_SV_CTRL, 0, 0⟩ .SHG_SV_CTRL_FINISH 1) ∧
    fv .SHG_SV_CTRL_FINISH (setBit svCtrl 0) = 0 ∧ up.surveyOpen 0 = false ∧ survey.surveyOpen 0 = true ∧
    survey.feedable (2 ^ 20) 4096 = true ∧ survey.feedable 0x019000000000 4096 = false ∧ (survey.shingle 0).feeds.length < 64 ∧
    (survey.shingle 0).feeds = [] ∧ at0 (survey.shingle 0).fed 0 = 0 :=
  ⟨takes_of (by decide +kernel), takes_of (by decide +kernel), takes_of (by decide +kernel), by decide +kernel⟩

theorem witness_Surveys_fed :
    let s := survey.setShingle 0 { Shingle.init with feeds := [(tileBase 0, 1)] }
    (s.shingle 0).feeds = [(tileBase 0, 1)] ∧ (s.readSpan shingleReq (tileBase 0) 4096).2.isOk = true ∧
    (let t := survey.setShingle 0 { Shingle.init with svFinish := true }
     (t.shingle 0).svFinish = true ∧ (t.shingle 0).feeds = [] ∧ Codec.planes (t.rd .SHG_SV_CTRL_FORMAT 0) = 1) := by decide +kernel

theorem witness_Surveys_waits :
    (let s := survey.setShingle 0 { Shingle.init with feeds := List.replicate 64 (0, 1) }
     64 ≤ (s.shingle 0).feeds.length ∧ (s.wr .MEM_STATUS_ZEROING 0 0 1).stalled 0 4096 = true ∧ s.stalled 0 4096 = false) ∧
    (let s := survey.setShingle 0 { Shingle.init with svFinish := true, fed := [1, 0, 0, 0] }
     at0 (s.shingle 0).fed 0 ≠ 0 ∧ (s.shingle 0).waitFeeds = [] ∧ s.stalled (s.bookOut 0 0) 0x8000 = false) ∧
    (let s := up.setShingle 0 { Shingle.init with recodes := List.replicate 64 5 }
     64 ≤ (s.shingle 0).recodes.length ∧ s.recodeStalled 0 5 = false ∧ (s.wr .MEM_STATUS_ZEROING 0 0 1).recodeStalled 0 5 = true) := by
  decide +kernel

/-- A recode of stack 0 is open on `book`, at 32 KiB; directory entry 0, at 4 KiB, names a segment at 1 MiB without blocks. -/
def recode : State :=
  let s := ((up.wr .SHG_RC_STATUS_OPEN 0 0 1).wr .SHG_RC_BOOK_BASE 0 0 1).wr .SHG_RC_DIR_BASE 0 0 1
  { s with mem := (s.mem.writeN 4096 (leBytes 16 (2 ^ 124 + 4096))).writeN 32768 book }

/-- Do the books of a recode pass the checks? `none` where one cannot be read. -/
def openable (s : State) : Option Bool :=
  match (s.setShingle 0 { s.shingle 0 with rcOpening := false }).recodeBooks 0 with
  | (_, .ok bs) => some (recodeBooksOk bs)
  | (_, .error _) => none

theorem witness_Recodes :
    takes up .host ⟨.SHG_RC_CTRL, 0, 0⟩ (withField up ⟨.SHG_RC_CTRL, 0, 0⟩ .SHG_RC_CTRL_OPEN 1) ∧ takes up .host ⟨.SHG_RC_FEED, 0, 0⟩ 5 ∧
    takes recode .host ⟨.SHG_RC_CTRL, 0, 0⟩ (withField recode ⟨.SHG_RC_CTRL, 0, 0⟩ .SHG_RC_CTRL_FINISH 1) ∧
    up.recodeOpen 0 = false ∧ openable up = some false ∧ openable (recode.wr .SHG_RC_STATUS_OPEN 0 0 0) = some true ∧
    openable (up.setShutter kMemc 0 2) = none ∧ up.recodeBooksStalled 0 = false ∧
    (up.wr .MEM_STATUS_ZEROING 0 0 1).recodeBooksStalled 0 = true ∧ recode.recodeOpen 0 = true ∧
    (recode.shingle 0).recodes = [] :=
  ⟨takes_of (by decide +kernel), takes_of (by decide +kernel), takes_of (by decide +kernel), by decide +kernel⟩

theorem witness_Recodes_segment : let s := recode.setShingle 0 { Shingle.init with recodes := [0, 1] }
    let r1 := s.readSpan shingleReq 4096 16
    let r2 := r1.1.readSpan shingleReq (2 ^ 20) 256
    let r3 := r2.1.readSpan shingleReq (2 ^ 20 + 256) 256
    (s.shingle 0).recodes = [0, 1] ∧ (s.shingle 0).rcFinish = false ∧ r1.2.isOk = true ∧
    DirEntry.valid (leNat (okOf r1.2)) = true ∧ DirEntry.addr (leNat (okOf r1.2)) = 2 ^ 20 ∧ r2.2.isOk = true ∧
    (∀ e ∈ ((bytesWords (okOf r2.2)).drop 8).take 16, MapEntry.present e = false) ∧ r3.2.isOk = true ∧
    (let r4 := r3.1.recodeBooks 0
     let w := r4.1.writeSpan shingleReq (2 ^ 20 + 256) (zeroBytes 256)
     r4.2.isOk = true ∧ w.2 = none ∧ (w.1.writeSpan shingleReq (2 ^ 20 + 64) (wordBytes (List.replicate 16 0))).2 = none) := by decide +kernel

theorem witness_Recodes_refused :
    (let s := { recode with mem := recode.mem.writeN 4096 (leBytes 16 0) }
     let r := s.readSpan shingleReq 4096 16; r.2.isOk = true ∧ DirEntry.valid (leNat (okOf r.2)) = false) ∧
    (let s := { recode with mem := recode.mem.writeN (2 ^ 20 + 64) (leBytes 8 (2 ^ 14 + 5)) }
     let h := bytesWords (okOf (s.readSpan shingleReq (2 ^ 20) 256).2)
     MapEntry.present (hw h 8) = true ∧ MapEntry.raw (hw h 8) = false) := by decide +kernel

theorem test_survey_opens : let u := after1 (.surveyOpen .host 0 svCtrl) up
    u.flag .SHG_SV_STATUS_OPEN 0 = true ∧ u.rd .SHG_SV_CTRL_FORMAT 0 = 3 := by decide +kernel
theorem test_survey_refused : (after1 (.surveyFeed .host 0 (2 ^ 20)) up).flag .SHG_ERR_STATUS_SURVEY 0 = true := by decide +kernel
theorem test_recode_counts : let s := recode.setShingle 0 { Shingle.init with recodes := [0, 1] }
    let u := after1 (.recodeSegmentDone 0) s
    u.rd .SHG_RC_STATUS_RECODED 0 = 1 ∧ bits (leNat (u.mem.readN 4096 16)) 49 42 = 1 := by decide +kernel

/-! ### Resets, shutters and the boot -/

/-- An option block without its digest: M16H-X4 of grade A, every domain on the reference input. -/
def optionHead (seq : Nat) : List Nat :=
  [0x4A, 0x4E, 0x56, 0x4F, 1, 0, 0, 0x10, seq, 0, 0, 0] ++ List.replicate 164 0 ++ [16, 96, 4, 0] ++ List.replicate 3884 0

/-- A valid option block. -/
def optionBlock (seq : Nat) : List Nat := optionHead seq ++ Config.shake256 (optionHead seq) 32

theorem optionBlock_ok : optionOk up.fuses (optionBlock 1) = true := by
  have h : (Config.shake256 (optionHead 1) 32).length = 32 := by simp [Config.shake256]
  have h1 : (optionBlock 1).take 0xFE0 = optionHead 1 := List.take_left' (by decide +kernel)
  have h2 : ((optionBlock 1).drop 0xFE0).take 32 = Config.shake256 (optionHead 1) 32 := by
    rw [optionBlock, List.drop_left' (by decide +kernel), List.take_of_length_le (Nat.le_of_eq h)]
  have h3 : (((optionBlock 1).drop 0xFE0).take 32 == Config.shake256 ((optionBlock 1).take 0xFE0) 32) = true := by
    rw [h1, h2]; simp
  unfold optionOk
  rw [h3]
  decide +kernel

theorem flashRead_flashWrite (s : State) (a : Nat) (bs : List Nat) (h : ∀ b ∈ bs, b < 256) :
    (s.flashWrite a bs).flashRead a bs.length = bs := by
  have e : (s.flashWrite a bs).flash.readN a bs.length = bs.map fun b => BitVec.ofNat 8 (255 - b % 256) := by
    have := Memory.readN_writeN s.flash a (bs.map fun b => BitVec.ofNat 8 (255 - b % 256))
    rwa [List.length_map] at this
  rw [flashRead, e, List.map_map]
  conv => rhs; rw [← List.map_id bs]
  refine List.map_congr_left fun b hb => ?_
  have := h b hb
  simp only [Function.comp_apply, BitVec.toNat_ofNat, id_eq]
  omega

theorem optionBlock_bytes : ∀ b ∈ optionBlock 1, b < 256 := by
  intro b hb
  rcases List.mem_append.1 hb with h | h
  · exact (by decide +kernel : ∀ b ∈ optionHead 1, b < 256) b h
  · simp only [Config.shake256, List.mem_map] at h
    obtain ⟨i, -, rfl⟩ := h; exact BitVec.isLt _

/-- PWROK high, the fuses loaded, and a valid option block in the first copy. -/
def booting : State := State.flashWrite { up with boot := { Boot.init with pwrok := true, fuseDone := true, order := 1 } } 0 (optionBlock 1)

theorem witness_ResetSources_boots :
    booting.boot.pwrok = true ∧ booting.boot.fuseDone = true ∧ booting.warmHeld = false ∧ booting.boot.order = 1 ∧
    booting.rd .RST_BOOT_FAULT = 0 ∧ ∃ c, booting.optionCopy = some c := by
  refine ⟨rfl, rfl, rfl, rfl, rfl, ?_⟩
  have h : booting.flashRead 0 4096 = optionBlock 1 := by
    have := flashRead_flashWrite { up with boot := { Boot.init with pwrok := true, fuseDone := true, order := 1 } } 0 _ optionBlock_bytes
    rwa [show (optionBlock 1).length = 4096 by decide +kernel] at this
  have g : booting.fuses = up.fuses := rfl
  unfold optionCopy
  simp only [h, g, optionBlock_ok]
  cases optionOk up.fuses (booting.flashRead 0x10000 4096) <;> exact ⟨_, rfl⟩

theorem witness_ResetSources :
    State.reset.boot.pwrok = false ∧ up.boot.pwrok = true ∧ up.boot.perst = false ∧ up.boot.tray = false ∧
    up.rd .LHS_STATUS_FW = 2 ∧ up.boot.pkg = false ∧ up.rd .RST_CTRL_COMPUTE < 2 ∧ State.reset.rd .LHS_STATUS_FW ≠ 2 ∧
    (let s := { up with boot := { up.boot with perst := true, tray := true, pkg := true, wdog := true } }
     s.boot.perst = true ∧ s.boot.tray = true ∧ s.boot.pkg = true ∧ s.boot.wdog = true) ∧
    up.flag .RST_CTRL_COMPUTE = false ∧ (up.wr .RST_CTRL_COMPUTE 0 0 1).flag .RST_CTRL_COMPUTE = true := by decide +kernel

theorem witness_ResetSources_writes :
    takes up .host ⟨.RST_CTRL, 0, 0⟩ (withField up ⟨.RST_CTRL, 0, 0⟩ .RST_CTRL_PKG 1) ∧
    takes up .host ⟨.RST_CTRL, 0, 0⟩ (withField up ⟨.RST_CTRL, 0, 0⟩ .RST_CTRL_COMPUTE 1) ∧
    takes up .host ⟨.RST_CTRL, 0, 0⟩ (withField up ⟨.RST_CTRL, 0, 0⟩ .RST_CTRL_COMPUTE 0) :=
  ⟨takes_of (by decide +kernel), takes_of (by decide +kernel), takes_of (by decide +kernel)⟩

/-- The boot has come as far as order `n`, under an option block with the assembly's bytes. -/
def bootAt (n : Nat) : State :=
  { up with boot := { up.boot with
      order := n, romDone := false, option := List.replicate 0xB0 0 ++ [16, up.fuses.stackGib, 4, 0] ++ List.replicate 12 0 } }

theorem witness_BootSequence :
    (let s := { up with boot := { Boot.init with pwrok := true } }; s.boot.pwrok = true ∧ s.boot.fuseDone = false) ∧
    (bootAt 2).boot.order = 2 ∧ (bootAt 2).warmHeld = false ∧ (bootAt 2).assemblyOk = true ∧
    (let s := { bootAt 2 with boot := { (bootAt 2).boot with option := [] } }; s.assemblyOk = false ∧ s.rd .RST_BOOT_FAULT = 0) ∧
    clockPresent up.fuses 0 = true ∧ (up.wr .CLK_DOMAIN_SEL 0 0 1).rd .CLK_DOMAIN_SEL 0 0 = 1 ∧ up.rd .CLK_DOMAIN_SEL 0 0 ≠ 1 ∧
    (bootAt 5).hasStack 15 = true ∧ (bootAt 5).flag .MEM_STATUS_TRAINED 15 = false ∧ ((bootAt 5).setShutter kMemc 15 3).shutter kMemc 15 = 3 ∧
    (bootAt 5).boot.romDone = false ∧ (bootAt 5).rd .RST_BOOT_FAULT = 0 ∧ (bootAt 5).imageOk 0 = false ∧
    (let s := (List.range 16).foldl (fun s i => s.wr .MEM_STATUS_TRAINED i 0 1)
       { bootAt 5 with boot := { (bootAt 5).boot with romDone := true } }
     s.boot.romDone = true ∧ ∀ st < s.fuses.nStacks, s.flag .MEM_STATUS_TRAINED st = true) ∧
    (bootAt 6).boot.order = 6 ∧ (bootAt 6).rd .LHS_STATUS_FW = 2 := by decide +kernel

/-- The header of an image of TARGET, signed by owner 1, with a key of zeros. -/
def imageHead (target : Nat) : List Nat :=
  [0x4A, 0x4E, 0x56, 0x49, 1, target + 1, 0, 0, 16, 0, 0, 0, 1, 0, 0, 0, 1] ++ List.replicate 239 0

/-- Both images in flash, and owner 1 enrolled with the hash of that key. -/
def imaged : State :=
  let s := ((bootAt 5).flashWrite 0x01600000 (imageHead 0)).flashWrite 0x01200000 (imageHead 1)
  { s with fuses := { s.fuses with ownerHash := [(⟨1, 0, 0⟩, spanNat (Config.shake256 (List.replicate 64 0) 32) 0 32)] }
           sec := { s.sec with owners := 1 } }

/-- Whether a signature verifies is a free value: where it does, both images are accepted. -/
theorem witness_BootSequence_images (h : ∀ k d, Config.signed k d = true) : imaged.imageOk 0 = true ∧ imaged.imageOk 1 = true := by
  have k : imaged.keyMatches 1 (List.replicate 64 0) = true := by simp [keyMatches, imaged, SMap.get, SMap.find]
  have e0 : imaged.flashRead (imageArea 0).1 0x100 = imageHead 0 := by decide +kernel
  have e1 : imaged.flashRead (imageArea 1).1 0x100 = imageHead 1 := by decide +kernel
  have n (t : Nat) (ht : t < 2) : (imageHead t).getD 0x10 0 = 1 ∧ ((imageHead t).drop 0x40).take 0x40 = List.replicate 64 0 := by
    revert t; decide +kernel
  have w : imaged.enrolled 1 = true := by decide +kernel
  constructor
  · simp only [imageOk, h, e0, n 0 (by decide), k, w, Bool.and_true]; decide +kernel
  · simp only [imageOk, h, e1, n 1 (by decide), k, w, Bool.and_true]; decide +kernel

theorem witness_ShuttersResetBlocks :
    takes up .host ⟨.RST_TILE_HOLD, 0, 0⟩ 1 ∧ takes up .host ⟨.RST_PORT_HOLD, 0, 0⟩ 1 ∧
    takes (up.wr .RST_FERRY_HOLD_HOLD 0 0 1) .host ⟨.RST_FERRY_HOLD, 0, 0⟩ 0 ∧ takes up .host ⟨.RST_MEMC_HOLD, 0, 0⟩ (2 ^ 15) :=
  ⟨takes_of (by decide +kernel), takes_of (by decide +kernel), takes_of (by decide +kernel), takes_of (by decide +kernel)⟩

theorem witness_ShuttersResetBlocks_states :
    up.hasBlock 1 3071 = true ∧ up.hasBlock 2 31 = true ∧ up.hasBlock 3 15 = true ∧ up.hasBlock 4 15 = true ∧
    (∀ k < 5, 1 ≤ k → up.domainHeld k = false ∧ up.shutter k 0 = 0 ∧ (up.setShutter k 0 1).shutter k 0 = 1 ∧
      (up.setShutter k 0 2).shutter k 0 = 2 ∧ (up.setShutter k 0 3).shutter k 0 = 3 ∧ up.bitOf (holdFd k 0) = false ∧
      (up.setBitOf (holdFd k 0) true).bitOf (holdFd k 0) = true) ∧
    (let s := ((port0 0).wr .TWY_PORT_CTRL_ENABLE 0 0 1).setShutter 2 0 3
     s.hasBlock 2 0 = true ∧ s.shutter 2 0 = 3 ∧ s.flag .TWY_PORT_CTRL_ENABLE 0 = true ∧ s.flag .TWY_GLB_CTRL_LINKS_EN = true ∧
     s.portState 0 = 0 ∧ s.portRole 0 ≠ 0 ∧ s.inLoopback 0 = false) ∧ up.boot.order ≠ 5 := by decide +kernel

theorem witness_ShuttersResetBlocks_quiet : noScans up 31 ∧ up.mState 5 15 ≠ 2 ∧ up.holders = [] := by unfold noScans; decide +kernel

theorem test_hold : let u := after1 (.holdWrite .host 4 3 true) up
    u.shutter 4 3 = 1 ∧ u.rd .RST_CAUSE_FERRY = 1 ∧ (after1 (.shutterClosed 4 3 0) u).flag .RST_ERR_STATUS_BLOCK = true := by
  decide +kernel
theorem test_pllUnlock : let u := after1 (.pllUnlock 0) (up.wr .CLK_DOMAIN_SEL 0 0 1)
    u.rd .CLK_DOMAIN_FREQ 0 0 = 200 ∧ u.rd .CLK_DOMAIN_SEL 0 0 = 0 := by decide +kernel
theorem test_warm_reset_ends : let s := { up with tap := { up.tap with pcieLb := 2 }, boot := { up.boot with production := true } }
    (after1 .perstAssert s).tap.pcieLb = 0 := by decide +kernel
theorem test_shore : (after1 .shoreConfigApply (bootAt 6)).boot.order = 7 := by decide +kernel

/-! ### Lighthouse -/

/-- A mailbox request of opcode `op`, with the body `body`, in the request buffer. -/
def requested (op : Nat) (body : List Nat) : State :=
  let bs := leBytes 2 op ++ leBytes 2 0 ++ leBytes 2 body.length ++ List.replicate 10 0 ++ body.map (BitVec.ofNat 8)
  { up with bufs := up.bufs.writeN 0x21000 bs }

/-- That request posted. -/
def posted (op : Nat) (body : List Nat) : State := (requested op body).wr .LHS_MB_CTRL_REQ 0 0 1

theorem witness_MailboxAndPackets_request :
    takes (requested 1 []) .host ⟨.LHS_MB_CTRL, 0, 0⟩ (withField (requested 1 []) ⟨.LHS_MB_CTRL, 0, 0⟩ .LHS_MB_CTRL_REQ 1) ∧
    leNat ((requested 1 []).bufs.readN 0x21000 2) = 1 ∧ (requested 1 []).flag .LHS_MB_CTRL_REQ = false ∧
    (requested 1 []).flag .LHS_MB_CTRL_RSP = false ∧ (posted 1 []).flag .LHS_MB_CTRL_REQ = true ∧
    (requested 1 []).rd .LHS_STATUS_FW = 2 ∧
    leNat ((requested 0x99 []).bufs.readN 0x21000 2) ∉
      [0x01, 0x02, 0x10, 0x11, 0x20, 0x30, 0x31, 0x32, 0x33, 0x34, 0x35, 0x36, 0x37, 0x38, 0x39, 0x40] ∧
    ((requested 0x99 []).wr .LHS_STATUS_FW 0 0 3).rd .LHS_STATUS_FW = 3 ∧ State.reset.rd .LHS_STATUS_FW = 0 :=
  ⟨takes_of (by decide +kernel), by decide +kernel⟩

theorem witness_MailboxAndPackets_served :
    (∀ op ∈ [0x01, 0x02, 0x10, 0x11, 0x20, 0x40], (posted op []).flag .LHS_MB_CTRL_REQ = true ∧
      leNat ((posted op []).bufs.readN 0x21000 2) = op) ∧
    (let s := { up with lhs := { up.lhs with offDue := true } }; s.lhs.offDue = true ∧ s.rd .LHS_STATUS_FW = 2) ∧
    (let s := (posted 0x40 []).wr .SEC_STATUS_MGMT_KEYED 0 0 1
     s.flag .SEC_STATUS_MGMT_KEYED = true ∧ s.flag .TWY_LOC_ROUTE_VALID 0 9 = false ∧
     (s.wr .TWY_LOC_ROUTE_VALID 0 9 1).flag .TWY_LOC_ROUTE_VALID 0 9 = true) ∧
    (posted 0x40 []).flag .SEC_STATUS_MGMT_KEYED = false := by decide +kernel

/-- A management packet of kind `k` for location 0, without a payload. -/
def mgmt (k : Nat) : List Nat := let w := [k, 0, 0, 0]; [k, 0, 0, crc32c ((wordsBytes w).take 28) * 2 ^ 32]

theorem witness_MailboxAndPackets_packets : let s := up.wr .SEC_STATUS_MGMT_KEYED 0 0 1
    s.flag .SEC_STATUS_MGMT_KEYED = true ∧ bits (hw (mgmt 2) 0) 25 16 = s.rd .TWY_SELF_LOC_LOC ∧ mgmtSound (mgmt 1) = true ∧
    mgmtSound (mgmt 2) = true ∧ mgmtSound (mgmt 3) = false ∧ bits (hw (mgmt 1) 0) 7 0 = 1 ∧ s.lhs.inbox.length < 64 ∧
    64 ≤ ({ s with lhs := { s.lhs with inbox := List.replicate 64 [] } } : State).lhs.inbox.length := by decide +kernel

/-- A group sealed under the key and the step of its class verifies. -/
theorem witness_MailboxAndPackets_tag (s : State) (c o n i : Nat) (aad ws : List Nat) :
    s.tagOk ⟨c, o, n, i, aad, ws, Config.gcmTag (s.classKey c) (groupIv o c n i (s.classStep c).1 (s.classStep c).2) aad ws⟩ = true := by
  simp [tagOk]

/-- A telemetry sample in which every sensor reads 50 °C. -/
def sample : Sample := ⟨54000, 10000, 12000, 7, [], List.replicate 256 800, List.replicate 8 800, List.replicate 16 800, 480, 400, [0, 0, 0, 0]⟩

theorem witness_HeatAndPower_telemetry :
    4 ≤ up.boot.order ∧ sample.temps.length = 256 ∧ State.reset.boot.order < 4 ∧ up.rd .LHS_STATUS_FW = 2 ∧
    takes up .host ⟨.LHS_GOV_LIMIT, 0, 0⟩ 0xFFFF :=
  ⟨by decide +kernel, by decide +kernel, by decide +kernel, by decide +kernel, takes_of (by decide +kernel)⟩

/-- The last samples read `p` tenths of a watt, the cap stands at `cap` W and its depth at `g`. -/
def capped (p cap g run : Nat) : State :=
  let s := (up.wr .LHS_CAP_CAP_W 0 0 cap).wr .LHS_CAP_CAP_G 0 0 g
  { s with lhs := { s.lhs with samples := [p, p, p], capRun := run } }

theorem witness_HeatAndPower_cap :
    (∀ g ∈ [0, 16], let s := capped 10001 1000 g 0
      let xs := (10001 :: s.lhs.samples).take 4
      4 ≤ s.boot.order ∧ xs.length = 4 ∧ 40 * s.rd .LHS_CAP_CAP_W < xs.sum ∧ s.rd .LHS_CAP_CAP_G = g ∧ s.lhs.capAt = none) ∧
    (∀ r ∈ [0, 15], let s := capped 9700 1000 16 r
      let xs := (9700 :: s.lhs.samples).take 4
      xs.length = 4 ∧ 100 * xs.sum ≤ 97 * 40 * s.rd .LHS_CAP_CAP_W ∧ s.lhs.capRun = r) ∧
    (let s := capped 10000 1000 16 0
     let xs := (10000 :: s.lhs.samples).take 4
     xs.sum ≤ 40 * s.rd .LHS_CAP_CAP_W ∧ 97 * 40 * s.rd .LHS_CAP_CAP_W < 100 * xs.sum) ∧
    (let s := { up with lhs := { up.lhs with capAt := some 0 } }; s.lhs.capAt = some 0 ∧ ¬0 + 1000000000 ≤ s.time.toNat) := by
  decide +kernel

theorem witness_HeatAndPower_limits :
    up.boot.fuseDone = true ∧ up.lhs.tripped = false ∧ State.reset.boot.fuseDone = false ∧
    (up.fuses.rail 0).2 = (600, 900) ∧ up.secondPassed (SMap.find up.lhs.clampAt ⟨0, 0, 0⟩) = true ∧
    1500 * 60000 % up.lhs.flowK = 0 ∧ 1 * 60000 < 1800 * up.lhs.flowK ∧
    (let s := { up with lhs := { up.lhs with flowLow := 2 } }.wr .TST_TEL_PIN_POWER 0 0 2500; s.active = true ∧ s.lhs.flowLow = 2) := by
  decide +kernel

theorem witness_HeatAndPower_voltage : up.rd .TST_TEL_PIN_VOLT < 4400 ∧ 4400 < (up.wr .TST_TEL_PIN_VOLT 0 0 5400).rd .TST_TEL_PIN_VOLT ∧
    ¬4400 < up.rd .TST_TEL_PIN_VOLT ∧ State.reset.rd .LHS_STATUS_FW ∈ [0, 1, 3] ∧ up.outputs.valve ≠ none := by decide +kernel

theorem witness_HeatAndPower_broken : let v := { sample with temps := List.replicate 256 (16 * 96), power := 65535 }
    10 * min (up.rd .LHS_GOV_LIMIT_LIMIT_W) up.fuses.maxPower < v.power ∧ 16 * (up.lhs.tjTarget : Int) < v.temps.getD (64 * 3 + 63) 0 ∧
    up.fuses.dieFitted 0 = true ∧ up.lhs.capAt.isNone = true := by decide +kernel

theorem test_tj : (after1 (.setTjTarget 101) (posted 0x10 [])).lhs.tjTarget = 95 ∧
    (after1 (.setTjTarget 100) (posted 0x10 [])).lhs.tjTarget = 100 := by decide +kernel
theorem test_cap : (after1 (.capSample 10001) (capped 10001 1000 60 0)).rd .LHS_CAP_CAP_G = 64 ∧
    (after1 (.capSample 9700) (capped 9700 1000 16 15)).rd .LHS_CAP_CAP_G = 15 := by decide +kernel
theorem test_clamp : let u := after1 (.voltageRequest 0 901) up
    SMap.get u.lhs.rails ⟨0, 0, 0⟩ 0 = 900 ∧ u.rd .LHS_CLAMP_INFO_REQ_MV = 901 := by decide +kernel
theorem test_rom_pins : (up.wr .LHS_STATUS_FW 0 0 1).outputs.valve = none ∧ (up.wr .LHS_STATUS_FW 0 0 3).outputs.pump = none := by
  decide +kernel
theorem test_trip : (after1 (.thermalTrip 2 3) up).rd .SIG_STATUS_VOIDED = 1 := by decide +kernel

/-! ### The porter -/

/-- The porter's input buffer holds `bs`. -/
def withInput (s : State) (bs : List Nat) : State := { s with bufs := s.bufs.writeN 0x50000 (bs.map (BitVec.ofNat 8)) }

/-- The challenge reads zero, and the entropy source passes. -/
def challenged : State :=
  let s := up.wr .SEC_STATUS_ENTROPY_OK 0 0 1
  { s with regs := (List.range 8).foldl (fun m i => SMap.insert m (key .SEC_CHALLENGE_WORD 0 i) 0) s.regs }

theorem witness_PorterCommands_takes :
    (∀ f ∈ [Fd.SEC_CTRL_QUOTE, .SEC_CTRL_REKEY, .SEC_CTRL_CLEAR_SECRET, .SEC_CTRL_SVN_FW, .SEC_CTRL_SVN_SHORE, .SEC_CTRL_ENROL,
      .SEC_CTRL_UNLOCK], takes up .host ⟨.SEC_CTRL, 0, 0⟩ (2 ^ f.spec.lo)) ∧
    takes up .host ⟨.SEC_JOB_SECRET, 0, 7⟩ 5 := by
  refine ⟨fun f hf => takes_of ?_, takes_of (by decide +kernel)⟩
  revert f; decide +kernel

theorem witness_PorterCommands_states :
    up.jobState = 0 ∧ (hosted 4).jobState = 4 ∧ (hosted 2).jobState ≠ 0 ∧ (hosted 2).jobState ≠ 4 ∧
    (up.wr .SEC_STATUS_CMD_BUSY 0 0 1).flag .SEC_STATUS_CMD_BUSY = true ∧ up.flag .SEC_STATUS_CMD_BUSY = false ∧
    up.flag .SEC_STATUS_SECRET_SET = false ∧ ((hosted 4).wr .SEC_STATUS_SECRET_SET 0 0 1).flag .SEC_STATUS_SECRET_SET = true := by
  decide +kernel

theorem witness_PorterCommands_ends :
    (let b := List.replicate 256 0
     let s := { up with sec := { up.sec with cmd := some (.quote b) } }
     s.sec.cmd = some (.quote b) ∧ b.length = 256) ∧ up.sec.cmd = none ∧
    (let s := { up with sec := { up.sec with cmd := some (.enrol 1 4 [] []) } }
     s.sec.cmd = some (.enrol 1 4 [] []) ∧ Fuses.slotState s.fuses.ownerState 4 = 0) := by decide +kernel

/-- An enrolment record that names slot 1, before any owner: it needs no signature (R431). -/
def enrolment : List Nat := [0x4A, 0x4E, 0x56, 0x45, 1, 1, 1, 0] ++ List.replicate 248 0

theorem witness_PorterCommands_record :
    challenged.recordOk enrolment = true ∧ challenged.recordOk (List.replicate 256 0) = false ∧
    (withInput challenged enrolment).inputBytes 256 = enrolment ∧ challenged.tokenOk (List.replicate 128 0) = false := by
  decide +kernel

/-- A token of owner 1 for this package. -/
def token : List Nat := [0x4A, 0x4E, 0x56, 0x44, 1, 3, 1, 0] ++ List.replicate 120 0

/-- Whether a signature verifies is a free value: where it does, the token is accepted. -/
theorem witness_PorterCommands_token (h : ∀ k d, Config.signed k d = true) :
    let s := { challenged with sec := { challenged.sec with owners := 1 }, fuses := { challenged.fuses with
      ownerHash := [(⟨1, 0, 0⟩, spanNat (Config.shake256 (List.replicate 64 0) 32) 0 32)] } }
    s.tokenOk token = true := by
  intro s
  have k : s.keyMatches 1 (List.replicate 64 0) = true := by simp [s, keyMatches, SMap.get, SMap.find]
  have e : token.getD 6 0 = 1 ∧ (token.drop 48).take 64 = List.replicate 64 0 := by decide +kernel
  simp only [tokenOk, h, e, k, Bool.and_true]
  decide +kernel

theorem witness_SvnFusesRaised : (∀ shore : Bool, let f : Fd := if shore then .SEC_CTRL_SVN_SHORE else .SEC_CTRL_SVN_FW
    (up.wr .SEC_SVN_FW_RUN 0 0 64).rd .SEC_SVN_FW_RUN ≤ 64 ∧ takes up .host ⟨.SEC_CTRL, 0, 0⟩ (2 ^ f.spec.lo)) ∧
    up.flag .SEC_STATUS_CMD_BUSY = false :=
  ⟨fun shore => ⟨by decide +kernel, takes_of (by revert shore; decide +kernel)⟩, by decide +kernel⟩

theorem test_svn : (after1 .secCommandDone (after1 (.svnFw .host) (up.wr .SEC_SVN_FW_RUN 0 0 3))).fuses.fwSvn = 7 := by decide +kernel
theorem test_secret : (after1 (.secJobSecretWrite .host 7 0xABCD) up).flag .SEC_STATUS_SECRET_SET = true ∧
    (after1 (.secJobSecretWrite .host 7 0xABCD) (hosted 2)).flag .SEC_STATUS_SECRET_SET = false := by decide +kernel

/-! ### The journal, maintenance and the flash -/

/-- The body of a journal request: TYPE, KEY, LEN and the value. -/
def jrnBody (type key len : Nat) (value : List Nat) : List Nat := type :: State.natBytes 8 key ++ len :: value

/-- A request posted while the journal is mounted. -/
def mounted (op : Nat) (body : List Nat) : State := (posted op body).wr .JRN_STATUS_MOUNTED 0 0 1

theorem witness_JournalRequests_asked :
    (∀ op ∈ [0x30, 0x31, 0x32, 0x33, 0x34, 0x35, 0x36, 0x37, 0x38, 0x39], (mounted op []).flag .LHS_MB_CTRL_REQ = true ∧
      leNat ((mounted op []).bufs.readN 0x21000 2) = op ∧ (mounted op []).rd .LHS_STATUS_FW = 2 ∧
      (mounted op []).flag .JRN_STATUS_MOUNTED = true ∧
      (mounted op []).jrn.held.any (·.2) = false) ∧ up.flag .LHS_MB_CTRL_REQ = false := by decide +kernel

theorem witness_JournalRequests_append : let s := mounted 0x31 (jrnBody 0x20 143 7 [1, 2, 3, 4, 5, 6, 7])
    leNat (s.bufs.readN 0x21010 1) = 0x20 ∧ leNat (s.bufs.readN 0x21011 8) = 143 ∧ leNat (s.bufs.readN 0x21019 1) = 7 ∧
    10 + 7 ≤ leNat (s.bufs.readN 0x21004 2) ∧ s.jrn.phase = 0 ∧ s.rd .JRN_FILL_USED < 131072 ∧
    s.flashRead 0x00200000 64 = List.replicate 64 255 ∧ 131072 ≤ (s.wr .JRN_FILL_USED 0 0 131072).rd .JRN_FILL_USED ∧
    (let t := { s with jrn := { s.jrn with phase := 3 } }; 1 ≤ t.jrn.phase ∧ t.jrn.phase ≤ 4 ∧ t.jrn.held.length < 256) ∧
    (let t := { s with jrn := { s.jrn with phase := 3, held := List.replicate 256 (⟨0, 0, 0, []⟩, false) } }
     256 ≤ t.jrn.held.length ∧ t.jrn.held.any (·.2) = false) ∧
    leNat ((mounted 0x31 (jrnBody 0x20 144 7 [])).bufs.readN 0x21011 8) = 144 := by decide +kernel

theorem witness_JournalRequests_values :
    (let s := { mounted 0x30 (jrnBody 0x40 5 0 []) with jrn := { Jrn.init with held := [(⟨0, 0x40, 5, [9]⟩, false)] } }
     s.effective 0x40 5 = (2, some ⟨2 ^ 48, 0x40, 5, [9]⟩)) ∧
    (mounted 0x30 (jrnBody 0x40 5 0 [])).effective 0x40 5 = (0, none) ∧ mListed 1 31 = true ∧ mListed 1 32 = false ∧
    (let s := { up with jrn := { Jrn.init with held := [(⟨0, 0x30, 1 * 2 ^ 16 + 31, [9]⟩, false)] } }
     liveIn s.journal 0x30 (1 * 2 ^ 16 + 31) = some ⟨2 ^ 48, 0x30, 1 * 2 ^ 16 + 31, [9]⟩) ∧
    liveIn up.journal 0x30 7 = none ∧
    (let s := mounted 0x37 [0, 0, 2, 0, 5, 6]
     leNat (s.bufs.readN 0x21010 2) + leNat (s.bufs.readN 0x21012 2) ≤ 4096 ∧ 4 + 2 ≤ leNat (s.bufs.readN 0x21004 2)) ∧
    4096 < leNat ((mounted 0x37 [0xFF, 0x0F, 2, 0, 5, 6]).bufs.readN 0x21010 2) + 2 := by decide +kernel

theorem find_zipIdx (b : List Nat) : ∀ n i : Nat,
    SMap.find ((b.zipIdx n).map fun x => ((⟨x.2, 0, 0⟩ : Key), x.1)) ⟨n + i, 0, 0⟩ = b[i]? := by
  induction b with
  | nil => intro n i; rfl
  | cons x b ih =>
    intro n i
    rw [List.zipIdx_cons, List.map_cons, SMap.find]
    by_cases h : i = 0
    · subst h; simp
    · rw [if_neg (by simp; omega), show n + i = n + 1 + (i - 1) by omega, ih, List.getElem?_cons]
      simp [h]

theorem witness_JournalRequests_commit :
    let s := { State.flashWrite (mounted 0x38 []) 8 [0, 0, 0, 0] with jrn := { Jrn.init with
      staged := (optionBlock 1).zipIdx.map fun (x : Nat × Nat) => ((⟨x.2, 0, 0⟩ : Key), x.1) } }
    let b := (List.range 4096).map fun i => SMap.get s.jrn.staged ⟨i, 0, 0⟩ 0
    optionOk s.fuses b = true ∧ optionSeq (s.flashRead (0x10000 * s.rd .RST_BOOT_COPY) 4096) < optionSeq b ∧
    (∀ x ∈ b, x < 256) ∧ ¬optionOk up.fuses (List.replicate 4096 0) = true := by
  intro s b
  have l : (optionBlock 1).length = 4096 := by decide +kernel
  have e : b = optionBlock 1 := by
    refine List.ext_getElem (by simp [b, l]) fun i h h' => ?_
    have := find_zipIdx (optionBlock 1) 0 i
    rw [Nat.zero_add] at this
    simp only [b, List.getElem_map, List.getElem_range, SMap.get, s]
    rw [this, List.getElem?_eq_getElem h', Option.getD_some]
  have f : s.fuses = up.fuses := rfl
  refine ⟨by rw [e, f]; exact optionBlock_ok, ?_, by rw [e]; exact optionBlock_bytes, by decide +kernel⟩
  rw [e]
  have o : optionSeq (optionBlock 1) = 1 := by decide +kernel
  have q : optionSeq (s.flashRead (0x10000 * s.rd .RST_BOOT_COPY) 4096) = 0 := by decide +kernel
  rw [o, q]; exact Nat.one_pos

theorem witness_FlashAndCompaction :
    up.rd .LHS_STATUS_FW = 2 ∧ up.flashRefused .firmware 0x00200000 1 = false ∧ up.flashRefused .firmware 0x00100000 1 = true ∧
    (up.wr .LHS_STATUS_FW 0 0 1).rd .LHS_STATUS_FW = 1 ∧ up.flashRefused .bootRom 0x01600000 1 = false ∧
    (let s := { up with boot := { up.boot with production := true } }
     s.boot.pwrok = true ∧ s.tapMayFlash 0x00100000 1 = true ∧ s.flashRefused .tap 0x00100000 1 = false) ∧
    (let s := (up.wr .JRN_MAINT_ST_STATE 0 96 2).wr .JRN_STATUS_MOUNTED 0 0 1
     s.rd .JRN_MAINT_ST_STATE 0 96 = 2 ∧ s.jrn.phase = 0 ∧ s.flag .JRN_STATUS_MOUNTED = true) ∧ up.flag .JRN_STATUS_MOUNTED = false ∧
    up.rd .JRN_MAINT_ST_STATE 0 96 ≠ 2 ∧
    (let s := { up with jrn := { up.jrn with phase := 3 } }
     s.jrn.phase = 3 ∧ s.jrn.held = [] ∧ s.areaRecords 1 = [] ∧ s.flashRead 0x00A00000 64 = List.replicate 64 255) := by
  decide +kernel

theorem witness_FlashRefusals :
    (∃ x, 0x001FFFFF ≤ x ∧ x < 0x001FFFFF + [0, 0].length ∧ 0x00100000 ≤ x ∧ x < 0x00200000) ∧
    (∃ x, 0x03500000 ≤ x ∧ x < 0x03500000 + 0x10000 ∧ 0x01200000 ≤ x ∧ x < 0x03600000) ∧ up.boot.production = false ∧
    FlashSource.firmware ≠ .bootRom ∧ up.boot.pwrok = true :=
  ⟨⟨0x001FFFFF, by decide⟩, ⟨0x03500000, by decide⟩, rfl, by decide, rfl⟩

theorem witness_LiveRecords : let rs : List JRec := [⟨1, 0x40, 5, [1]⟩, ⟨3, 0x40, 5, [2]⟩, ⟨2, 0x20, 0, [1]⟩, ⟨4, 0x10, 0, []⟩]
    (rs.map (·.seq)).Nodup ∧ liveIn rs 0x40 5 = some ⟨3, 0x40, 5, [2]⟩ ∧ liveIn rs 0x20 0 = none := by decide +kernel

theorem witness_MaintenanceRequests :
    (∀ f ∈ [Fd.JRN_MAINT_REQ_START, .JRN_MAINT_REQ_CANCEL], takes up .host ⟨.JRN_MAINT_REQ, 0, 0⟩ (maintValue f 5 15 7)) ∧
    mListed 5 15 = true ∧ (∀ b < 6, ∀ j < 32, up.mState b j ≠ 1) ∧ up.mReason 5 15 = 0 ∧ up.mReason 1 0 ≠ 0 ∧
    up.mBlocker 5 15 = none ∧ up.mShown 0 0 = 2 ∧ up.mShown 1 0 ≠ 1 ∧ up.mShown 1 0 ≠ 2 ∧
    (let s := (portUp0.wr .JRN_MAINT_ST_STATE 0 32 1).wr .JRN_MAINT_ST_STATE 0 64 2
     s.mState 1 0 = 1 ∧ (s.mBlocker 1 0).isSome = true) ∧
    (let s := portUp0.wr .JRN_MAINT_ST_STATE 0 32 2; s.mState 1 0 = 2 ∧ s.portUp 0 = true ∧ s.isOpen kPort 0 = true) := by
  refine ⟨fun f hf => takes_of ?_, by decide +kernel⟩
  revert f; decide +kernel

theorem witness_MaintenanceRequests_states :
    (let s := up.wr .JRN_MAINT_ST_STATE 0 175 1
     s.mState 5 15 = 1 ∧ s.mReason 5 15 = 0 ∧ ∀ b < 6, ∀ j < 32, (b, j) ≠ (5, 15) → s.mState b j ≠ 1) ∧
    (let s := (up.wr .JRN_MAINT_ST_STATE 0 175 1).wr .HST_STATUS_JOB_STATE 0 0 2; s.mReason 5 15 ≠ 0) ∧
    (up.wr .JRN_MAINT_ST_STATE 0 175 2).mState 5 15 = 2 ∧ (portUp0.wr .JRN_MAINT_ST_STATE 0 32 2).mState 1 0 = 2 ∧
    portUp0.portUp 0 = true ∧ (port0 3).portFormed 0 = true ∧
    (let s := { up.wr .JRN_MAINT_ST_STATE 0 96 2 with jrn := { up.jrn with phase := 6 } }; s.mState 3 0 = 2 ∧ s.jrn.phase = 6) ∧
    (up.wr .LHS_STATUS_FW 0 0 3).rd .LHS_STATUS_FW ≠ 2 := by decide +kernel

theorem test_append_refused : let u := after1 .jrnWrite (mounted 0x31 (jrnBody 0x20 144 7 [1, 2, 3, 4, 5, 6, 7]))
    u.bufs.readN 0x22006 1 = leBytes 1 2 ∧ u.rd .JRN_FILL_USED = 0 := by decide +kernel
theorem test_unmounted : (after1 .jrnWrite (posted 0x31 (jrnBody 0x20 143 7 [1, 2, 3, 4, 5, 6, 7]))).rd .LHS_MB_CTRL_RSP = 0 := by
  decide +kernel
theorem test_eye_scan_lost : let u := after1 (.laneLockLoss 0) (portUp0.wr .JRN_MAINT_ST_STATE 0 32 2)
    u.mState 1 0 = 0 ∧ u.rd .JRN_MAINT_ST_REASON 0 32 = 2 := by decide +kernel
theorem test_program : (after1 (.flashCommand .firmware 0x00200000 (.program [0x0F]))
    (up.flashWrite 0x00200000 [0xF3])).flashRead 0x00200000 1 = [3] := by decide +kernel
theorem test_maint_refused : (after1 (.start .host 1 0 0) up).rd .JRN_MAINT_ST_REASON 0 32 = 1 := by decide +kernel
theorem test_maint_test : (after1 (.start .host 5 0 0) up).mState 5 0 = 2 := by decide +kernel

/-! ### Loopbacks, self-tests and the test access port -/

/-- The memory loopback is selected. -/
def looped : State := (up.wr .TST_LB_CTRL_KIND 0 0 2).wr .TST_LB_CTRL_MODE 0 0 1

theorem witness_TestsAndLoopbacks_select :
    takes (port0 0) .host ⟨.TST_LB_CTRL, 0, 0⟩ (1 * 2 ^ 12 + 1 * 2 ^ 9 + 0) ∧ takes up .host ⟨.TST_LB_CTRL, 0, 0⟩ (2 * 2 ^ 12 + 1 * 2 ^ 9 + 0) ∧
    takes looped .host ⟨.TST_LB_CTRL, 0, 0⟩ (withField looped ⟨.TST_LB_CTRL, 0, 0⟩ .TST_LB_CTRL_RUN 1) ∧
    takes up .host ⟨.TST_BIST_CTRL, 0, 0⟩ 9 :=
  ⟨takes_of (by decide +kernel), takes_of (by decide +kernel), takes_of (by decide +kernel), takes_of (by decide +kernel)⟩

theorem witness_TestsAndLoopbacks_states :
    (port0 0).portRole 0 ≠ 0 ∧ (port0 0).portState 0 = 0 ∧ up.rd .TST_BIST_STATUS_RUNNING = 0 ∧ up.jobState = 0 ∧
    (∀ i < 16, up.mState 5 i ≠ 2) ∧ up.lbSelected = false ∧ up.flag .TST_LB_CTRL_RUN = false ∧
    looped.lbSelected = true ∧ looped.lbKind < 8 ∧ looped.lbMode < 8 ∧ looped.lbPort < 32 ∧
    (up.wr .TST_LB_CTRL_RUN 0 0 1).flag .TST_LB_CTRL_RUN = true ∧ (up.wr .TST_LB_STATUS_BUSY 0 0 1).flag .TST_LB_STATUS_BUSY = true ∧
    looped.flag .TST_LB_STATUS_BUSY = false ∧ (hosted 2).jobState ≠ 0 ∧
    up.bistAllowed 0 = true ∧ (hosted 2).bistAllowed 0 = false ∧
    hasBit ((up.wr .TST_BIST_STATUS_RUNNING 0 0 1).rd .TST_BIST_STATUS_RUNNING) 0 = true := by decide +kernel

theorem witness_TestsAndLoopbacks_tap :
    up.boot.pwrok = true ∧ State.reset.boot.pwrok = false ∧ up.jobState = 0 ∧ (hosted 2).jobState ≠ 0 ∧ (hosted 2).jobState ≠ 5 ∧
    7 ≤ (hosted 2).boot.order ∧ up.target (tileBase 0) = .tile 0 0 ∧ up.instrumentsOpen = false ∧
    ({ up with boot := { up.boot with production := true } } : State).instrumentsOpen = true ∧
    (let s := up.wr .SEC_DEBUG_CAPS 0 0 1; hasBit (s.rd .SEC_DEBUG_CAPS) 0 = true ∧ s.rd .LHS_STATUS_FW = 2) := by decide +kernel

theorem witness_TestsAndLoopbacks_instruments :
    (let s := { up with tap := { up.tap with pcieLb := 1 } }; s.tap.pcieLb ≠ 0 ∧ s.flag .TST_LB_STATUS_BUSY = false) ∧
    (let s := up.wr .TST_LB_STATUS_BUSY 0 0 1; s.flag .TST_LB_STATUS_BUSY = true ∧ s.flag .TST_LB_CTRL_RUN = false) ∧
    (Fd.ofNat 0).spec.reg.spec.block ≠ .SEC ∧ (up.wr .LHS_STATUS_FW 0 0 4).rd .LHS_STATUS_FW = 4 ∧ up.nTiles = 3072 := by decide +kernel

theorem test_ir_capture : (after1 .bypass (after1 .extest (hosted 2))).tap.irOut = 5 := by decide +kernel
theorem test_pcie_run : let s := after1 (.ijtag .pcieRun) (after1 (.ijtag (.pcieLb 1)) up)
    s.rd .TST_LB_STATUS_COUNTERS = 16 ∧ (after1 (.ijtag (.pcieEnd 100 [])) s).rd .TST_LB_STATUS_PASS = 1 := by decide +kernel
theorem test_loopback : let s := looped.wr .TST_LB_CTRL_RUN 0 0 1
    (after1 (.loopbackEnd 1000 []) s).rd .TST_LB_STATUS_PASS = 1 ∧ (after1 (.loopbackEnd 1000 [1]) s).rd .TST_LB_STATUS_FAIL = 1 := by
  decide +kernel
theorem test_extest : (after1 .extest (hosted 2)).tap.refused = true ∧ (after1 .extest up).tap.refused = false := by decide +kernel

/-! ### The package and the step -/

theorem witness_ErrorReports : let s := up.wr .SIG_ERR_TAIL_TAIL 0 0 1
    ¬(up.rd .SIG_ERR_HEAD_HEAD + 1) % 256 = up.rd .SIG_ERR_TAIL_TAIL ∧ (s.rd .SIG_ERR_HEAD_HEAD + 1) % 256 = s.rd .SIG_ERR_TAIL_TAIL ∧
    errField 0x07 0 = some .TWY_ERR_STATUS_ABSENT ∧ (up.wr .HST_MSIX_MASK 0 1 0).flag .HST_MSIX_MASK 0 1 = false ∧
    (up.wr .SIG_INT_EN_RECORD 0 0 1).flag .SIG_INT_EN_RECORD = true ∧ (errReg 0x07).isSome = true ∧
    hasBit ((up.wr .TST_BIST_STATUS_RUNNING 0 0 4).rd .TST_BIST_STATUS_RUNNING) 2 = true := by decide +kernel

theorem witness_FusesStayBlown : let s := { up with pending := [.secCommandDone], sec := { up.sec with cmd := some (.enrol 2 0 [] []) } }
    fusesLegal s.fuses ∧ ∃ u, step s = .next u ∧ u.fuses.foundationRevoked = true :=
  ⟨⟨by decide +kernel, by decide +kernel, ⟨0, by decide +kernel⟩, ⟨0, by decide +kernel⟩⟩, _, rfl, by decide +kernel⟩

theorem test_step_front : step { up with pending := [.off 0, .nop 0] } = exec (.off 0) { up with pending := [.nop 0] } := rfl
theorem test_absent : exec (.trainingStageDone 32 .done) up = .next up := rfl

end Sys2Proof.Tests
end

/-! SUPPORT. REGISTER_WRITE of one 32-bit word: the steps from the command to the register it names, and the two statements
about it (R9, R10, R12, R13, R15). -/
namespace Sys2Proof.Machine.State

/-! ### States that differ in their registers alone -/

theorem next_of_noRegs {s u : State} (h : u.noRegs = s.noRegs) : answer s u = .next u :=
  answer_eq (by have h := congrArg State.pending h; exact h) (by have h := congrArg State.fuses h; exact h)

@[simp] theorem noRegs_wr (s : State) (f : Fd) (i x v : Nat) : (s.wr f i x v).noRegs = s.noRegs := rfl

@[simp] theorem noRegs_fieldWrite (s : State) (i x v : Nat) (f : Fd) : (s.fieldWrite i x v f).noRegs = s.noRegs := by
  unfold fieldWrite; split <;> rfl

/-- A plain write changes registers alone. -/
@[simp] theorem noRegs_plainWrite (s : State) (r : RegRef) (v : Nat) : (s.plainWrite r v).noRegs = s.noRegs := by
  rw [plainWrite_eq]
  generalize r.reg.spec.fields = l
  induction l generalizing s with
  | nil => rfl
  | cons f l ih => rw [List.foldl_cons, ih, noRegs_fieldWrite]

/-! ### Discarded writes -/

@[simp] theorem noRegs_offend (s : State) (f : Fd) (src : Source) (off : Nat) : (s.offend f src off).noRegs = s.noRegs := by
  unfold offend; dsimp only; split <;> rfl

/-- Outside GLB_STATUS_ADDR a discarded write changes its bit of GLB_STATUS alone. -/
theorem rd_offend (s : State) (f : Fd) (src : Source) (off : Nat) {g : Fd} (i x : Nat)
    (ha : g.spec.reg ≠ .GLB_STATUS_ADDR) : (s.offend f src off).rd g i x = (s.wr f 0 0 1).rd g i x := by
  unfold offend
  dsimp only
  split
  · rw [rd_wr_out _ _ _ _ _ _ ha (by decide), rd_wr_out _ _ _ _ _ _ ha (by decide),
      rd_wr_out _ _ _ _ _ _ ha (by decide)]
  · rfl

/-- A discarded write may change GLB_STATUS and GLB_STATUS_ADDR, and no other register. -/
theorem rd_offend_out (s : State) {f : Fd} (src : Source) (off : Nat) (hf : f.spec.reg = .GLB_STATUS) {g : Fd} {i x : Nat}
    (hg : g.spec.reg ∉ [Reg.GLB_STATUS, .GLB_STATUS_ADDR]) : (s.offend f src off).rd g i x = s.rd g i x := by
  simp only [List.mem_cons, List.not_mem_nil, or_false, not_or] at hg
  obtain ⟨hs, ha⟩ := hg
  rw [rd_offend s f src off i x ha, rd_wr_out s 0 0 1 i x (by rw [hf]; exact hs) (by rw [hf]; decide)]

/-- The bit of GLB_STATUS that tells of a discarded write is set. -/
theorem flag_offend (s : State) {f : Fd} (src : Source) (off : Nat) (hf : f.spec.reg = .GLB_STATUS) (hw : f.width = 1) :
    (s.offend f src off).flag f = true := by
  unfold flag
  rw [rd_offend s f src off 0 0 (by rw [hf]; decide), rd_wr_self, hw]
  rfl

/-! ### From the command to the register -/

/-- A source that can make the access reaches what its write comes to; no byte lane is left out. -/
theorem exec_registerWrite {s u : State} {src : Source} {off n v : Nat} (hs : s.hasSource src = true)
    (ha : s.canAccess src off = true) (hw : s.writeMap src off n v = (u, none)) :
    exec (.registerWrite src off n ⟨v, []⟩) s = answer s u := by
  show answerIf (s.hasSource src) s (s.registerWrite src off n v []) = answer s u
  have hr : s.registerWrite src off n v [] = u := by simp [registerWrite, access, ha, hw]
  rw [answerIf_true hs, hr]

/-- A source that the mirror reaches at an offset is not turned away there. -/
theorem not_unmirrored {src : Source} {off : Nat} (hm : throughMirror src = true → mirrored off = true) :
    ¬(throughMirror src = true ∧ (!mirrored off) = true) := fun h => by
  simp [hm h.1] at h

/-- A write that no rule of the mirror refuses is refused from no source. -/
theorem refused_none {s : State} {src : Source} {off : Nat} (hr : throughMirror src = true → s.mirrorRefused off = none) :
    (if throughMirror src = true then s.mirrorRefused off else none) = none := by
  split
  · rename_i h; exact hr h
  · rfl

/-- An access of a wrong size, or not aligned to its size, is discarded (R496). -/
theorem writeMap_unsized {s : State} {src : Source} {off n v : Nat} (hm : throughMirror src = true → mirrored off = true)
    (hz : sized off n = false) : s.writeMap src off n v = (s.reservedWrite src off, none) := by
  have hn := not_unmirrored hm
  simp only [writeMap, if_neg hn, hz, Bool.not_false, if_true]

/-- An aligned word outside the memory-like regions is a write of a register's part. -/
theorem writeMap_word {s : State} {src : Source} {off v : Nat} (hm : throughMirror src = true → mirrored off = true)
    (hr : throughMirror src = true → s.mirrorRefused off = none) (hb : bufferAt off = none) (h4 : off % 4 = 0) :
    s.writeMap src off 4 v = s.writePart src off 4 v := by
  have hn := not_unmirrored hm
  have hz : sized off 4 = true := by simp [sized, h4]
  simp only [writeMap, if_neg hn, hz, refused_none hr, hb, Bool.not_true, Bool.false_eq_true, if_false, if_true]
  rfl

/-- A register of at most 32 bits is written whole. -/
theorem writePart_whole {s : State} {src : Source} {r : RegRef} {off n v : Nat} (hat : regAt off = some (r, 0))
    (hw : r.reg.spec.width ≤ 32) : s.writePart src off n v = s.writeReg src r off v := by
  simp [writePart, hat, hw]

/-- The lower half of a wider register goes to the stage of its source (R10). -/
theorem writePart_lower {s : State} {src : Source} {r : RegRef} {off v : Nat} (hat : regAt off = some (r, 0))
    (hw : 32 < r.reg.spec.width) (hl : memoryLike r.reg = false) (hs : s.regShut r = false) :
    s.writePart src off 4 v =
      ({ s with stages := setPart s.stages src r (withBits ((partOf s.stages src r).getD 0) 31 0 v) }, none) := by
  have hw' : ¬r.reg.spec.width ≤ 32 := Nat.not_le.2 hw
  simp [writePart, hat, hw', hl, hs]

/-- The lower half of a word is what was put there. -/
theorem bits_withBits_lower (w v : Nat) : bits (withBits w 31 0 v) 31 0 = v % 2 ^ 32 := by
  unfold bits withBits
  omega

/-! ### What keeps a write from its register -/

/-- GLB_BOOT_LOCK keeps a write from a register that it locks (R15). -/
theorem writeReg_locked {s : State} {src : Source} {r : RegRef} {off v : Nat}
    (hm : throughMirror src = true → s.mirrorRefused off = none) (hi : s.hasInst r.reg.spec.block r.inst = true)
    (hs : s.regShut r = false) (hh : hasLocked r.reg = true) (hl : s.locked = true) :
    s.writeReg src r off v = (s.lockedWrite src off, none) := by
  simp [writeReg, hi, hs, refused_none hm, hh, hl]

/-- A reserved encoding keeps a write from its register (R12). -/
theorem writeReg_reserved {s : State} {src : Source} {r : RegRef} {off v : Nat}
    (hm : throughMirror src = true → s.mirrorRefused off = none) (hi : s.hasInst r.reg.spec.block r.inst = true)
    (hs : s.regShut r = false) (hl : ¬(hasLocked r.reg = true ∧ s.locked = true)) (ht : s.tideLocked r = false)
    (hv : s.reservedValue r v = true) : s.writeReg src r off v = (s.reservedWrite src off, none) := by
  simp only [writeReg, hi, hs, refused_none hm, ht, hv, Bool.not_true, Bool.false_eq_true, if_false, if_neg hl, if_true]

/-! ### Plain registers -/

open Sys2Proof.Claims

theorem fields_nodup_of_plain : ∀ q ∈ plainRegs, q.spec.fields.Nodup := by decide

theorem field_reg_of_plain : ∀ q ∈ plainRegs, ∀ f ∈ q.spec.fields, f.spec.reg = q := by decide

theorem ranks_not_plain : Reg.GLB_TILE_RANK ∉ plainRegs ∧ Reg.TILE_ARB_RANK ∉ plainRegs := by decide

/-- No plain register is one of those that the four tide engines share. -/
theorem storeInst_of_plain {q : Reg} (h : q ∈ plainRegs) (i : Nat) : storeInst q i = i := by
  have hc : q ≠ .TIDE_LCLASS := fun e => absurd (e ▸ h) (by decide)
  have hw : q ≠ .TIDE_WANT := fun e => absurd (e ▸ h) (by decide)
  unfold storeInst
  split <;> first | contradiction | rfl

/-- Each field takes what its access code gives it. -/
theorem rd_fieldWrite_self (s : State) (i x v : Nat) (f : Fd) :
    (s.fieldWrite i x v f).rd f i x = written f.spec.acc f.width (s.rd f i x) (fv f v) := by
  unfold fieldWrite written
  cases f.spec.acc with
  | rw | rwl => simp [fv]
  | w1c | w1s => simp
  | ro | wo => rfl

theorem rd_plainWrite_field (s : State) {r : RegRef} (v : Nat) (hr : r.reg ∈ plainRegs) {f : Fd}
    (hf : f ∈ r.reg.spec.fields) :
    (s.plainWrite r v).rd f r.inst r.idx = written f.spec.acc f.width (s.rd f r.inst r.idx) (fv f v) := by
  have ha : f.spec.reg ≠ .TILE_ARB_RANK := by
    rw [field_reg_of_plain _ hr f hf]; exact fun e => ranks_not_plain.2 (e ▸ hr)
  rw [plainWrite_eq, storeInst_of_plain hr, rd_fields _ (fields_nodup_of_plain _ hr) _ _ _ _ hf ha, rd_fieldWrite_self]

theorem rd_plainWrite_ne (s : State) {r : RegRef} (v : Nat) (hr : r.reg ∈ plainRegs) {f : Fd} {i x : Nat}
    (hk : ¬(f.spec.reg = r.reg ∧ i = r.inst ∧ x = r.idx)) : (s.plainWrite r v).rd f i x = s.rd f i x := by
  rw [plainWrite_eq, storeInst_of_plain hr]
  refine rd_fields_ne _ s _ _ v (fun _ hm => ?_) fun ⟨hf, hi⟩ => hk ⟨field_reg_of_plain _ hr f hf, hi⟩
  have e : Reg.GLB_TILE_RANK = r.reg := field_reg_of_plain _ hr _ hm
  exact ranks_not_plain.1 (e ▸ hr)

/-- Lighthouse writes a plain register as every source does. -/
theorem lighthouseWrite_of_plain (s : State) {r : RegRef} (v : Nat) (hr : r.reg ∈ plainRegs) :
    s.lighthouseWrite r v = none := by
  unfold lighthouseWrite
  split
  case h_7 => rfl
  all_goals (rename_i e; exact absurd (e ▸ hr) (by decide))

/-- A plain register but MEM_SCRUB_CFG has no effect of its own. -/
theorem effect_of_plain (s : State) (src : Source) {r : RegRef} (v : Nat) (hr : r.reg ∈ plainRegs)
    (hs : r.reg ≠ .MEM_SCRUB_CFG) : s.effect src r v = s.plainWrite r v := by
  have hq : r.reg ∈ plainRegs.erase .MEM_SCRUB_CFG := (List.mem_erase_of_ne hs).2 hr
  unfold effect
  dsimp only
  split
  case h_55 => rw [lighthouseWrite_of_plain s v hr, Option.getD_none, ite_self]
  all_goals (rename_i e; exact absurd (e ▸ hq) (by decide))

/-- MEM_SCRUB_CFG is written as a plain register too, and the patrol scrubs are watched meanwhile (R462). -/
theorem effect_scrubCfg (s : State) (src : Source) {r : RegRef} (v : Nat) (h : r.reg = .MEM_SCRUB_CFG) :
    s.effect src r v = s.watchScrubs fun s => s.plainWrite r v := by
  unfold effect
  rw [h]

theorem rd_effect_of_plain (s : State) (src : Source) {r : RegRef} (v : Nat) (hr : r.reg ∈ plainRegs)
    (f : Fd) (i x : Nat) : (s.effect src r v).rd f i x = (s.plainWrite r v).rd f i x := by
  by_cases hs : r.reg = .MEM_SCRUB_CFG
  · rw [effect_scrubCfg s src v hs, rd_watchScrubs]
  · rw [effect_of_plain s src v hr hs]

/-- Beside registers a plain write changes the times of the patrol scrubs at most. -/
theorem noJrn_effect_of_plain (s : State) (src : Source) {r : RegRef} (v : Nat) (hr : r.reg ∈ plainRegs) :
    (s.effect src r v).noRegs.noJrn = s.noRegs.noJrn := by
  have hw : (s.effect src r v).noJrn = (s.plainWrite r v).noJrn := by
    by_cases hs : r.reg = .MEM_SCRUB_CFG
    · rw [effect_scrubCfg s src v hs, noJrn_watchScrubs]
    · rw [effect_of_plain s src v hr hs]
  calc (s.effect src r v).noRegs.noJrn = (s.effect src r v).noJrn.noRegs := rfl
    _ = (s.plainWrite r v).noJrn.noRegs := by rw [hw]
    _ = (s.plainWrite r v).noRegs.noJrn := rfl
    _ = s.noRegs.noJrn := by rw [noRegs_plainWrite]

theorem next_of_noJrn {s u : State} (h : u.noRegs.noJrn = s.noRegs.noJrn) : answer s u = .next u :=
  answer_eq (by have h := congrArg State.pending h; exact h) (by have h := congrArg State.fuses h; exact h)

/-! ### The statements -/

/-- A word written to a register of at most 32 bits that nothing keeps away has the register's effect. -/
theorem exec_registerWrite_effect {s : State} {src : Source} {r : RegRef} {v : Nat} (hat : regAt r.offset = some (r, 0))
    (hb : bufferAt r.offset = none) (h4 : r.offset % 4 = 0) (hw : r.reg.spec.width ≤ 32) (h : takes s src r v) :
    exec (.registerWrite src r.offset 4 ⟨v, []⟩) s = answer s (s.effect src r v) := by
  obtain ⟨hsrc, hacc, hmir, hinst, hshut, hlock, htide, hres⟩ := h
  refine exec_registerWrite hsrc hacc ?_
  rw [writeMap_word (fun h => (hmir h).1) (fun h => (hmir h).2) hb h4, writePart_whole hat hw,
    writeReg_effect r.offset (fun h => (hmir h).2) hinst hshut hlock htide hres]

/-- What a discarded write does: one bit of GLB_STATUS, and nothing outside GLB_STATUS and GLB_STATUS_ADDR. -/
theorem exec_registerWrite_offend {s : State} {src : Source} {off n v : Nat} {f : Fd} (hs : s.hasSource src = true)
    (ha : s.canAccess src off = true) (hf : f.spec.reg = .GLB_STATUS) (hf1 : f.width = 1)
    (hw : s.writeMap src off n v = (s.offend f src off, none)) :
    ∃ u, exec (.registerWrite src off n ⟨v, []⟩) s = .next u ∧ u.flag f = true ∧
      regsBut s u [.GLB_STATUS, .GLB_STATUS_ADDR] ∧ u.noRegs = s.noRegs := by
  have hk := noRegs_offend s f src off
  exact ⟨s.offend f src off, by rw [exec_registerWrite hs ha hw, next_of_noRegs hk], flag_offend s src off hf hf1,
    fun _ _ _ hg => rd_offend_out s src off hf hg, hk⟩

/-- A stage given to a register holds its value, and nothing else of that source. -/
theorem mem_tail_setPart {l : List Part} {src : Source} {r : RegRef} {v : Nat} {q : Part}
    (h : q ∈ (setPart l src r v).tail) : q ∈ l ∧ q.src ≠ src := by
  simpa [setPart] using h

end Sys2Proof.Machine.State

namespace Sys2Proof

open Machine Machine.State Claims

/-- Settles O11: the write reaches the register, whose effect is the plain write of its fields. -/
theorem plainRegisterWrites : Obligations.PlainRegisterWrites := by
  unfold Obligations.PlainRegisterWrites
  intro s src r v hr hat hb h4 hw h
  have hj := noJrn_effect_of_plain s src v hr
  refine ⟨s.effect src r v, ?_, fun f hf => ?_, fun f i x hk => ?_, fun hs => ?_, ?_⟩
  · rw [exec_registerWrite_effect hat hb h4 hw h, next_of_noJrn hj]
  · rw [rd_effect_of_plain s src v hr, rd_plainWrite_field s v hr hf]
  · rw [rd_effect_of_plain s src v hr, rd_plainWrite_ne s v hr hk]
  · rw [effect_of_plain s src v hr hs, noRegs_plainWrite]
  · exact congrArg (fun u : State => { u with jrn := s.jrn }) hj

/-- Settles O12: each rule that stops a write is met on its way to the register, or the source's stage takes it. -/
theorem registerWritesHeld : Obligations.RegisterWritesHeld := by
  unfold Obligations.RegisterWritesHeld
  intro s src off v hsrc hacc hmir
  refine ⟨fun size hz => ?_, fun r hoff hat hb h8 hinst hshut href => ?_⟩
  · have hz' : sized off size = false := by simpa [sized] using hz
    exact exec_registerWrite_offend hsrc hacc rfl rfl (writeMap_unsized hmir hz')
  · have hword : s.writeMap src off 4 v = s.writePart src off 4 v := writeMap_word hmir href hb (by omega)
    refine ⟨fun hw hh hl => ?_, fun hw hl ht hv => ?_, fun hw hm => ?_⟩
    · refine exec_registerWrite_offend hsrc hacc rfl rfl ?_
      rw [hword, writePart_whole hat hw, writeReg_locked href hinst hshut hh hl]; rfl
    · refine exec_registerWrite_offend hsrc hacc rfl rfl ?_
      rw [hword, writePart_whole hat hw, writeReg_reserved href hinst hshut hl ht hv]; rfl
    · have hstage := hword.trans (writePart_lower hat hw hm hshut)
      refine ⟨_, _, (exec_registerWrite hsrc hacc hstage).trans (answer_eq rfl rfl), rfl, rfl, rfl, rfl, rfl,
        bits_withBits_lower _ v, fun q hq => mem_tail_setPart hq⟩

end Sys2Proof

/-! SUPPORT. The registers of the signal unit with effects of their own: what each of their commands comes to, and what its
effect does to the fields, the contexts and the counters (R21, R207, R209, R227, R240, R241, R384, R385). -/
namespace Sys2Proof.Machine

theorem SMap.mem_of_find {α : Type} {m : SMap α} {k : Key} {v : α} (h : SMap.find m k = some v) : (k, v) ∈ m := by
  induction m with
  | nil => cases h
  | cons e m ih =>
    obtain ⟨k', v'⟩ := e
    rw [SMap.find] at h
    split at h
    · rename_i hk
      injection h with hv
      rw [hk, hv]
      exact List.mem_cons_self
    · exact List.mem_cons_of_mem _ (ih h)

/-- Setting a key to its default twice is setting it once. -/
theorem SMap.set_default_idem {α : Type} [DecidableEq α] (m : SMap α) (k : Key) (d : α) :
    SMap.set (SMap.set m k d d) k d d = SMap.set m k d d := by
  simp [SMap.set, SMap.erase, List.filter_filter]

/-- The bit that is replaced reads as the bit put there. -/
theorem bit_withBits_self (v b x : Nat) : bit (withBits v b b x) b = x % 2 := by
  have hv := Nat.div_add_mod v (2 ^ b)
  have hr := Nat.mod_lt v (Nat.two_pow_pos b)
  have hq := Nat.div_add_mod (v / 2 ^ b) 2
  have hsum : withBits v b b x = v % 2 ^ b + 2 ^ b * (2 * (v / 2 ^ b / 2) + x % 2) := by
    have hw : b + 1 - b = 1 := by omega
    unfold withBits
    rw [hw, pow_one]
    generalize v / 2 ^ b = q at *
    generalize v % 2 ^ b = r at *
    have hm : 2 ^ b * q = 2 ^ b * (2 * (q / 2)) + q % 2 * 2 ^ b := by
      rw [Nat.mul_comm (q % 2), ← Nat.mul_add, hq]
    rw [Nat.mul_add, Nat.mul_comm (2 ^ b) (x % 2)]
    omega
  unfold bit
  rw [hsum, Nat.add_mul_div_left _ _ (Nat.two_pow_pos b), Nat.div_eq_of_lt hr]
  omega

/-- The one number below `n` that satisfies `p` is the one found. -/
theorem find?_range_unique {p : Nat → Bool} {n b : Nat} (hb : b < n) (hp : p b = true) (hu : ∀ c < n, p c = true → c = b) :
    (List.range n).find? p = some b := by
  cases hf : (List.range n).find? p with
  | none => exact absurd hp (List.find?_eq_none.1 hf b (List.mem_range.2 hb))
  | some c => rw [hu c (List.mem_range.1 (List.mem_of_find?_eq_some hf)) (List.find?_some hf)]

/-- The elements of a list by their places. -/
theorem filterMap_range_getElem? {α : Type} (l : List α) : (List.range l.length).filterMap (fun i => l[i]?) = l := by
  induction l with
  | nil => rfl
  | cons a l ih => simpa [List.range_succ_eq_map, List.filterMap_map, Function.comp_def] using ih

/-- The elements of a list but for that of one place. -/
theorem filterMap_range_ne {α : Type} (l : List α) (j : Nat) :
    ((List.range l.length).filter fun i => !([j] : List Nat).contains i).filterMap (fun i => l[i]?) = l.eraseIdx j := by
  induction l generalizing j with
  | nil => rfl
  | cons a l ih =>
    rw [List.length_cons, List.range_succ_eq_map]
    cases j with
    | zero =>
      simp [List.filter_map, List.filterMap_map, Function.comp_def, filterMap_range_getElem?]
    | succ j =>
      simpa [List.filter_map, List.filterMap_map, Function.comp_def] using ih j

namespace State

open Sys2Proof.Claims

/-! ### Commands that write one register -/

theorem writeWhole_of_takes {s : State} {src : Source} {r : RegRef} {v : Nat} (h : takes s src r v) :
    s.writeWhole src r v = s.effect src r v := by
  obtain ⟨-, hacc, hmir, hinst, hshut, hlock, htide, hres⟩ := h
  exact writeWhole_effect hacc hmir hinst hshut hlock htide hres

/-- A write that reaches its register comes to the register's effect. -/
theorem answerIf_writeWhole {s : State} {src : Source} {r : RegRef} {v : Nat} (h : takes s src r v) :
    answerIf (s.hasSource src) s (s.writeWhole src r v) = answer s (s.effect src r v) := by
  rw [answerIf_true h.1, writeWhole_of_takes h]

theorem exec_sigCntCfgWrite {s : State} {src : Source} {t n v : Nat} (h : takes s src ⟨.SIG_CNT_CFG, t, n⟩ v) :
    exec (.sigCntCfgWrite src t n v) s =
      answer s (if (s.waitersOn t n).isEmpty then s.plainWrite ⟨.SIG_CNT_CFG, t, n⟩ v else s.setErr 0x0A 7 0) :=
  answerIf_writeWhole h

theorem exec_sigBarCfgWrite {s : State} {src : Source} {b v : Nat} (h : takes s src ⟨.SIG_BAR_CFG, 0, b⟩ v) :
    exec (.sigBarCfgWrite src b v) s =
      answer s (if s.rd .SIG_BAR_STATE_ARRIVED 0 b ≠ 0 then s.setErr 0x0A 7 0 else s.plainWrite ⟨.SIG_BAR_CFG, 0, b⟩ v) :=
  answerIf_writeWhole h

theorem exec_sigTidemarkWrite {s : State} {src : Source} {v : Nat} (h : takes s src ⟨.SIG_TIDEMARK, 0, 0⟩ v) :
    exec (.sigTidemarkWrite src v) s =
      answer s (if src = .host ∧ s.jobState = jobLoading then s.plainWrite ⟨.SIG_TIDEMARK, 0, 0⟩ v else s) :=
  answerIf_writeWhole h

theorem exec_voidCtrlWrite {s : State} {src : Source} {v : Nat} (h : takes s src ⟨.GLB_VOID_CTRL, 0, 0⟩ v) :
    exec (.voidCtrlWrite src v) s =
      answer s (if s.seqState = vIdle then s.plainWrite ⟨.GLB_VOID_CTRL, 0, 0⟩ v else s) :=
  answerIf_writeWhole h

theorem exec_clearBar {s : State} {src : Source}
    (h : takes s src ⟨.SIG_CTRL, 0, 0⟩ (withField s ⟨.SIG_CTRL, 0, 0⟩ .SIG_CTRL_CLEAR_BAR 1)) :
    exec (.clearBar src) s = answer s s.clearBars := by
  have hv : s.heldValue ⟨.SIG_CTRL, 0, 0⟩ = 0 := rfl
  have hclear : fv .SIG_CTRL_CLEAR_BAR (withField s ⟨.SIG_CTRL, 0, 0⟩ .SIG_CTRL_CLEAR_BAR 1) = 1 := by
    unfold withField; rw [hv]; decide
  have heff : ∀ v, s.effect src ⟨.SIG_CTRL, 0, 0⟩ v = if fv .SIG_CTRL_CLEAR_BAR v = 1 then s.clearBars else s :=
    fun _ => rfl
  refine (answerIf_writeWhole h).trans ?_
  rw [heff, if_pos hclear]

/-- GLB_HALT_CTRL with HALTED written and EN as it is. -/
theorem withField_halted {s : State} (h : s.rd .GLB_HALT_CTRL_EN < 2) :
    withField s ⟨.GLB_HALT_CTRL, 0, 0⟩ .GLB_HALT_CTRL_HALTED 1 = s.rd .GLB_HALT_CTRL_EN + 2 := by
  have hv : s.heldValue ⟨.GLB_HALT_CTRL, 0, 0⟩ = 0 + s.rd .GLB_HALT_CTRL_EN % 2 ^ 1 * 2 ^ 0 := rfl
  show withBits (s.heldValue ⟨.GLB_HALT_CTRL, 0, 0⟩) 1 1 1 = _
  rw [hv]
  unfold withBits
  omega

theorem exec_haltResume {s : State} {src : Source} (he : s.rd .GLB_HALT_CTRL_EN < 2)
    (h : takes s src ⟨.GLB_HALT_CTRL, 0, 0⟩ (withField s ⟨.GLB_HALT_CTRL, 0, 0⟩ .GLB_HALT_CTRL_HALTED 1)) :
    exec (.haltResume src) s = answer s (s.wr .GLB_HALT_CTRL_EN 0 0 (s.rd .GLB_HALT_CTRL_EN)).resumeHalt := by
  have hw := withField_halted he
  have hen : fv .GLB_HALT_CTRL_EN (s.rd .GLB_HALT_CTRL_EN + 2) = s.rd .GLB_HALT_CTRL_EN := by
    show (s.rd .GLB_HALT_CTRL_EN + 2) / 1 % 2 = _
    omega
  have hhalted : fv .GLB_HALT_CTRL_HALTED (s.rd .GLB_HALT_CTRL_EN + 2) = 1 := by
    show (s.rd .GLB_HALT_CTRL_EN + 2) / 2 % 2 = _
    omega
  have heff : ∀ v, s.effect src ⟨.GLB_HALT_CTRL, 0, 0⟩ v =
      if fv .GLB_HALT_CTRL_HALTED v = 1 then (s.wr .GLB_HALT_CTRL_EN 0 0 (fv .GLB_HALT_CTRL_EN v)).resumeHalt
      else s.wr .GLB_HALT_CTRL_EN 0 0 (fv .GLB_HALT_CTRL_EN v) := fun _ => rfl
  refine (answerIf_writeWhole h).trans ?_
  rw [hw, heff, if_pos hhalted, hen]

/-! ### Fields written -/

theorem puts_nil (s : State) : puts s s [] := ⟨fun _ hw => absurd hw List.not_mem_nil, fun _ _ _ _ => rfl⟩

/-- One more field written: it takes its value in place of an earlier one. -/
theorem puts_wr {s u : State} {l : List (Fd × Nat × Nat × Nat)} (h : puts s u l) {f : Fd} (i x v : Nat)
    (hf : f.spec.reg ≠ .GLB_TILE_RANK) :
    puts s (u.wr f i x v) ((f, i, x, v) :: l.filter fun w => decide ((w.1, w.2.1, w.2.2.1) ≠ (f, i, x))) := by
  have hne : ∀ g j y, (g, j, y) ≠ (f, i, x) → (u.wr f i x v).rd g j y = u.rd g j y := fun g j y hk =>
    rd_wr_ne u v (fun _ e => hf (by rw [e]; rfl)) fun e => hk (by rw [e.1, e.2.1, e.2.2])
  obtain ⟨hin, hout⟩ := h
  refine ⟨fun w hw => ?_, fun g j y hk => ?_⟩
  · rcases List.mem_cons.1 hw with rfl | hw
    · exact rd_wr_self u f i x v
    · obtain ⟨hl, hk⟩ := List.mem_filter.1 hw
      rw [hne _ _ _ (of_decide_eq_true hk), hin w hl]
  · have hkf := hk _ List.mem_cons_self
    rw [hne _ _ _ hkf]
    refine hout _ _ _ fun w hw => ?_
    by_cases hp : (w.1, w.2.1, w.2.2.1) = (f, i, x)
    · rw [hp]; exact hkf
    · exact hk w (List.mem_cons_of_mem _ (List.mem_filter.2 ⟨hw, decide_eq_true hp⟩))

/-- A field with the value it holds after a write. -/
def cut (w : Fd × Nat × Nat × Nat) : Fd × Nat × Nat × Nat := (w.1, w.2.1, w.2.2.1, w.2.2.2 % 2 ^ w.1.width)

theorem puts_iff_cut {s u : State} {l : List (Fd × Nat × Nat × Nat)} :
    puts s u l ↔ (∀ w ∈ l.map cut, u.rd w.1 w.2.1 w.2.2.1 = w.2.2.2) ∧
      ∀ f i x, (∀ w ∈ l.map cut, (f, i, x) ≠ (w.1, w.2.1, w.2.2.1)) → u.rd f i x = s.rd f i x := by
  simp only [puts, List.forall_mem_map, cut]

/-- The order of the fields does not count, nor what a value has above its field's width. -/
theorem puts_of_perm {s u : State} {l m : List (Fd × Nat × Nat × Nat)} (h : puts s u l)
    (hp : (l.map cut).Perm (m.map cut)) : puts s u m := by
  rw [puts_iff_cut] at h ⊢
  simpa only [hp.mem_iff] using h

theorem puts_of_rd {s u w : State} {l : List (Fd × Nat × Nat × Nat)} (h : puts s u l)
    (hw : ∀ f i x, w.rd f i x = u.rd f i x) : puts s w l := by
  simpa only [puts, hw] using h

theorem answer_of_onlyPuts {s u : State} {l : List (Fd × Nat × Nat × Nat)} (h : onlyPuts s u l) : answer s u = .next u :=
  next_of_noRegs h.2

/-- The registers of this family whose fields are all read and written, and which take a write as a plain one. -/
def rwRegs : List Reg := [.SIG_CNT_CFG, .SIG_BAR_CFG, .SIG_TIDEMARK, .GLB_VOID_CTRL]

theorem fields_of_rwRegs : ∀ q ∈ rwRegs, q.spec.fields.Nodup ∧ ∀ f ∈ q.spec.fields, f.spec.reg = q ∧ f.spec.acc = .rw := by
  decide

theorem storeInst_of_rwRegs {q : Reg} (h : q ∈ rwRegs) (i : Nat) : storeInst q i = i := by
  simp only [rwRegs, List.mem_cons, List.not_mem_nil, or_false] at h
  rcases h with rfl | rfl | rfl | rfl <;> rfl

/-- A plain write of such a register puts into each of its fields what the value has there, and changes nothing else. -/
theorem onlyPuts_plainWrite (s : State) {r : RegRef} (v : Nat) (hq : r.reg ∈ rwRegs) {l : List Fd}
    (hl : l.Perm r.reg.spec.fields) :
    onlyPuts s (s.plainWrite r v) (l.map fun f => (f, r.inst, r.idx, fv f v)) := by
  obtain ⟨hnodup, hfield⟩ := fields_of_rwRegs _ hq
  have harb : r.reg ≠ .TILE_ARB_RANK ∧ r.reg ≠ .GLB_TILE_RANK :=
    ⟨fun e => absurd (e ▸ hq) (by decide), fun e => absurd (e ▸ hq) (by decide)⟩
  refine ⟨⟨fun w hw => ?_, fun g j y hk => ?_⟩, noRegs_plainWrite s r v⟩
  · obtain ⟨f, hf, rfl⟩ := List.mem_map.1 hw
    have hf' := hl.mem_iff.1 hf
    obtain ⟨hreg, hacc⟩ := hfield f hf'
    dsimp only
    rw [plainWrite_eq, storeInst_of_rwRegs hq, rd_fields _ hnodup _ _ _ _ hf' (by rw [hreg]; exact harb.1),
      rd_fieldWrite_self, hacc]
    exact (Nat.mod_mod _ _).symm
  · rw [plainWrite_eq, storeInst_of_rwRegs hq]
    refine rd_fields_ne _ s _ _ v (fun _ hm => harb.2 (hfield _ hm).1.symm) fun ⟨hg, hj, hy⟩ => ?_
    exact hk _ (List.mem_map.2 ⟨g, hl.mem_iff.2 hg, rfl⟩) (by rw [hj, hy])

theorem answer_plainWrite (s : State) {q : Reg} (i x v : Nat) (hq : q ∈ rwRegs) (l : List Fd) (hl : l.Perm q.spec.fields) :
    ∃ u, answer s (s.plainWrite ⟨q, i, x⟩ v) = .next u ∧ onlyPuts s u (l.map fun f => (f, i, x, fv f v)) :=
  have h := onlyPuts_plainWrite s (r := ⟨q, i, x⟩) v hq hl
  ⟨_, answer_of_onlyPuts h, h⟩

/-- A write that finds its object in use sets SIG_ERR_STATUS.CONFIG, with the interrupt that this brings. -/
theorem answer_configError (s : State) :
    ∃ u, answer s (s.setErr 0x0A 7 0) = .next u ∧ u.flag .SIG_ERR_STATUS_CONFIG = true ∧ u.noInt = s.noInt ∧
      regsBut s u [.SIG_ERR_STATUS, .HST_PBA] := by
  have hn := noInt_setErr s 0x0A 7 0
  refine ⟨_, answer_eq (by have h := congrArg State.pending hn; exact h) (by have h := congrArg State.fuses hn; exact h),
    flag_setErr s 0 (cls := 0x0A) (n := 7) (f := .SIG_ERR_STATUS_CONFIG) rfl rfl, hn, fun g i x hg => ?_⟩
  simp only [List.mem_cons, List.not_mem_nil, or_false, not_or] at hg
  exact rd_setErr s 0x0A 7 0 g i x (by simpa [errReg] using Ne.symm hg.1) hg.2

/-! ### Contexts woken -/

theorem tileSense_of_noCtx {u s : State} (h : u.noCtx = s.noCtx) (t b : Nat) : u.tileSense t b = s.tileSense t b := by
  have h := congrArg (fun w : State => w.tileSense t b) h
  exact h

/-- A state that differs in its contexts from one with the queue and the fuses kept is an answer as it is. -/
theorem answer_of_noCtx {s u w : State} (h : u.noCtx = w.noCtx) (hp : w.pending = s.pending) (hf : w.fuses = s.fuses) :
    answer s u = .next u := by
  have h1 := congrArg State.pending h
  have h2 := congrArg State.fuses h
  exact answer_eq (h1.trans hp) (h2.trans hf)

/-- A loop that changes contexts alone. -/
theorem noCtx_foldl {α : Type} {f : State → α → State} (hf : ∀ u a, (f u a).noCtx = u.noCtx) (l : List α) (s : State) :
    (l.foldl f s).noCtx = s.noCtx := by
  induction l generalizing s with
  | nil => rfl
  | cons a l ih => rw [List.foldl_cons, ih, hf]

/-- What the release of a barrier does for one of the contexts listed. -/
def wakeOne (b : Nat) (s : State) (e : Key × Ctx) : State :=
  match e.2.wait with
  | .barrier b' v _ =>
    if b' = b ∧ s.tileSense e.1.a b = v then s.setCtx e.1.a e.1.b { s.ctx e.1.a e.1.b with wait := .served 0 0 } else s
  | _ => s

theorem wakeBarrier_eq (s : State) (b : Nat) : s.wakeBarrier b = s.ctxs.foldl (wakeOne b) s := rfl

theorem noCtx_wakeOne (b : Nat) (s : State) (e : Key × Ctx) : (wakeOne b s e).noCtx = s.noCtx := by
  unfold wakeOne
  split
  · split <;> rfl
  · rfl

/-- A context that has been served stays served. -/
theorem wakeOne_served {s : State} {b t c : Nat} (e : Key × Ctx) (h : (s.ctx t c).wait = .served 0 0) :
    ((wakeOne b s e).ctx t c).wait = .served 0 0 := by
  unfold wakeOne
  split
  · split
    · rw [ctx_setCtx]
      split
      · rfl
      · exact h
    · exact h
  · exact h

/-- A context that waits for the sense its tile has is served. -/
theorem wakeOne_waiting {s : State} {b v : Nat} {y : Bool} {e : Key × Ctx} (hs : s.tileSense e.1.a b = v)
    (he : e.2.wait = .barrier b v y) : ((wakeOne b s e).ctx e.1.a e.1.b).wait = .served 0 0 := by
  unfold wakeOne
  rw [he]
  simp [hs]

theorem foldl_wakeOne_served {b t c v : Nat} (l : List (Key × Ctx)) {s : State} (hs : s.tileSense t b = v)
    (h : (s.ctx t c).wait = .served 0 0 ∨ ∃ e ∈ l, e.1.a = t ∧ e.1.b = c ∧ ∃ y, e.2.wait = .barrier b v y) :
    ((l.foldl (wakeOne b) s).ctx t c).wait = .served 0 0 := by
  induction l generalizing s with
  | nil => exact h.resolve_right fun ⟨_, he, _⟩ => absurd he List.not_mem_nil
  | cons d l ih =>
    have hs' := (tileSense_of_noCtx (noCtx_wakeOne b s d) t b).trans hs
    refine ih hs' ?_
    rcases h with h | ⟨e, he, ha, hb, y, hy⟩
    · exact .inl (wakeOne_served d h)
    · rcases List.mem_cons.1 he with rfl | he
      · subst ha hb
        exact .inl (wakeOne_waiting hs hy)
      · exact .inr ⟨e, he, ha, hb, y, hy⟩

/-- The release wakes each context that waits for the sense its tile's copy has (R224). -/
theorem wakeBarrier_served {s : State} {b t c v : Nat} {y : Bool} (hs : s.tileSense t b = v)
    (h : (s.ctx t c).wait = .barrier b v y) : ((s.wakeBarrier b).ctx t c).wait = .served 0 0 := by
  rw [wakeBarrier_eq]
  refine foldl_wakeOne_served _ hs (.inr ⟨(⟨t, c, 0⟩, s.ctx t c), ?_, rfl, rfl, y, h⟩)
  unfold ctx SMap.get at h ⊢
  cases hf : SMap.find s.ctxs ⟨t, c, 0⟩ with
  | none => rw [hf] at h; cases h
  | some x => exact SMap.mem_of_find hf

/-! ### HALTED cleared -/

/-- Every tile's copy of a barrier's SENSE takes the sense that is broadcast. -/
theorem tileSense_setSenses (s : State) (b v t : Nat) : (s.setSenses b v).tileSense t b = v % 2 := by
  unfold tileSense setSenses SMap.get
  dsimp only
  cases hf : SMap.find _ (⟨t, 0, 0⟩ : Key) with
  | none => exact bit_withBits_self s.senses b v
  | some x =>
    have hm := (List.mem_filter.1 (SMap.mem_of_find hf)).1
    obtain ⟨e, -, he⟩ := List.mem_map.1 hm
    injection he with _ hx
    rw [Option.getD_some, ← hx]
    exact bit_withBits_self e.2 b v

theorem noCtx_broadcast (s : State) (b : Nat) :
    (s.broadcast b).noCtx = (s.setSenses b (s.rd .SIG_BAR_STATE_SENSE 0 b)).noCtx :=
  noCtx_foldl (noCtx_wakeOne b) _ _

theorem rd_broadcast (s : State) (b : Nat) (f : Fd) (i x : Nat) : (s.broadcast b).rd f i x = s.rd f i x :=
  rd_of_noCtx (noCtx_broadcast s b) f i x

theorem tileSense_broadcast (s : State) (b t : Nat) :
    (s.broadcast b).tileSense t b = s.rd .SIG_BAR_STATE_SENSE 0 b % 2 :=
  (tileSense_of_noCtx (noCtx_broadcast s b) t b).trans (tileSense_setSenses s b _ t)

theorem broadcast_served {s : State} {b t c : Nat} {y : Bool}
    (h : (s.ctx t c).wait = .barrier b (s.rd .SIG_BAR_STATE_SENSE 0 b % 2) y) :
    ((s.broadcast b).ctx t c).wait = .served 0 0 :=
  wakeBarrier_served (tileSense_setSenses s b _ t) h

theorem barValid_wr (s : State) {f : Fd} (i x v b : Nat) (hf : f.spec.reg ∉ [Reg.SIG_BAR_CFG, .GLB_TILE_RANK]) :
    (s.wr f i x v).barValid b = s.barValid b ∧ (s.wr f i x v).barStep b = s.barStep b := by
  simp only [List.mem_cons, List.not_mem_nil, or_false, not_or] at hf
  unfold barValid barStep flag
  exact ⟨by rw [rd_wr_out s _ _ _ _ _ (Ne.symm hf.1) hf.2], by rw [rd_wr_out s _ _ _ _ _ (Ne.symm hf.1) hf.2]⟩

/-- The sense withheld is that of the first step barrier (R384). -/
theorem resumeHalt_eq {s : State} {b : Nat} (hh : s.flag .GLB_HALT_CTRL_HALTED = true)
    (hf : ((List.range 512).find? fun c => s.barValid c && s.barStep c) = some b) :
    s.resumeHalt = (s.wr .GLB_HALT_CTRL_HALTED 0 0 0).broadcast b := by
  have hbar := fun c => barValid_wr s (f := .GLB_HALT_CTRL_HALTED) 0 0 0 c (by decide)
  unfold resumeHalt
  simp only [hh, (hbar _).1, (hbar _).2, hf, Bool.not_true, Bool.false_eq_true, if_false]

/-- GLB_HALT_CTRL as a resume leaves it. -/
def haltCleared (s : State) : State :=
  (s.wr .GLB_HALT_CTRL_EN 0 0 (s.rd .GLB_HALT_CTRL_EN)).wr .GLB_HALT_CTRL_HALTED 0 0 0

theorem puts_haltCleared (s : State) : puts s s.haltCleared
    [(.GLB_HALT_CTRL_HALTED, 0, 0, 0), (.GLB_HALT_CTRL_EN, 0, 0, s.rd .GLB_HALT_CTRL_EN)] :=
  puts_wr (puts_wr (puts_nil s) 0 0 _ (by decide)) 0 0 0 (by decide)

/-- With one step barrier, a resume clears HALTED and broadcasts that barrier's sense. -/
theorem exec_haltResume_one {s : State} {src : Source} {b : Nat}
    (h : takes s src ⟨.GLB_HALT_CTRL, 0, 0⟩ (withField s ⟨.GLB_HALT_CTRL, 0, 0⟩ .GLB_HALT_CTRL_HALTED 1))
    (hh : s.flag .GLB_HALT_CTRL_HALTED = true) (he : s.rd .GLB_HALT_CTRL_EN < 2) (hv : s.barValid b = true)
    (hs : s.barStep b = true) (hb : b < 512) (hu : ∀ c < 512, s.barValid c = true → s.barStep c = true → c = b) :
    exec (.haltResume src) s = .next (s.haltCleared.broadcast b) := by
  have hbar := fun c => barValid_wr s (f := .GLB_HALT_CTRL_EN) 0 0 (s.rd .GLB_HALT_CTRL_EN) c (by decide)
  have hflag : (s.wr .GLB_HALT_CTRL_EN 0 0 (s.rd .GLB_HALT_CTRL_EN)).flag .GLB_HALT_CTRL_HALTED = true := by
    unfold flag at hh ⊢
    rwa [rd_wr_ne s _ (by decide) (by simp)]
  rw [exec_haltResume he h, resumeHalt_eq (b := b) hflag]
  · exact answer_of_noCtx (noCtx_broadcast _ b) rfl rfl
  · simp only [(hbar _).1, (hbar _).2]
    refine find?_range_unique hb (by rw [hv, hs]; rfl) fun c hc hp => ?_
    rw [Bool.and_eq_true] at hp
    exact hu c hc hp.1 hp.2

/-! ### CLEAR_BAR -/

/-- The fields of a barrier object (R227). -/
def barFds : List Fd :=
  [.SIG_BAR_STATE_SENSE, .SIG_BAR_STATE_ARRIVED, .SIG_BAR_STATE_GEN, .SIG_BAR_STATE_ERR, .SIG_BAR_STATE_LAST_ERR]

theorem barFds_reg : ∀ f ∈ barFds, f.spec.reg = .SIG_BAR_STATE := by decide

/-- A barrier object with every field 0. -/
def zeroBar (s : State) (b : Nat) : State := barFds.foldl (fun s f => s.wr f 0 b 0) s

theorem noRegs_zeroBar (s : State) (b : Nat) : (s.zeroBar b).noRegs = s.noRegs := rfl

theorem rd_zeroBar (s : State) (b : Nat) (f : Fd) (i x : Nat) :
    (s.zeroBar b).rd f i x = if f ∈ barFds ∧ i = 0 ∧ x = b then 0 else s.rd f i x := by
  have h : ∀ (l : List Fd) (u : State), .GLB_TILE_RANK_ORDER ∉ l → (l.foldl (fun s f => s.wr f 0 b 0) u).rd f i x =
      if f ∈ l ∧ i = 0 ∧ x = b then 0 else u.rd f i x := by
    intro l
    induction l with
    | nil => intro u _; simp
    | cons g l ih =>
      intro u hl
      simp only [List.mem_cons, not_or] at hl
      rw [List.foldl_cons, ih _ hl.2, rd_wr u g f 0 b 0 i x fun _ => Ne.symm hl.1, Nat.zero_mod]
      simp only [List.mem_cons]
      split_ifs <;> tauto
  exact h barFds s (by decide)

theorem noRegs_foldl_zeroBar (l : List Nat) (s : State) : (l.foldl zeroBar s).noRegs = s.noRegs := by
  induction l generalizing s with
  | nil => rfl
  | cons b l ih => rw [List.foldl_cons, ih, noRegs_zeroBar]

theorem rd_foldl_zeroBar_zero {f : Fd} (hf : f ∈ barFds) {b : Nat} (l : List Nat) {s : State}
    (h : b ∈ l ∨ s.rd f 0 b = 0) : (l.foldl zeroBar s).rd f 0 b = 0 := by
  induction l generalizing s with
  | nil => exact h.resolve_left List.not_mem_nil
  | cons c l ih =>
    refine ih (or_iff_not_imp_left.2 fun hl => ?_)
    rw [rd_zeroBar]
    split_ifs with hc
    · rfl
    · refine h.resolve_left fun hm => hc ⟨hf, rfl, ?_⟩
      exact (List.mem_cons.1 hm).resolve_right hl

theorem rd_foldl_zeroBar_out {f : Fd} (hf : f ∉ barFds) (i x : Nat) (l : List Nat) (s : State) :
    (l.foldl zeroBar s).rd f i x = s.rd f i x := by
  induction l generalizing s with
  | nil => rfl
  | cons c l ih => rw [List.foldl_cons, ih, rd_zeroBar, if_neg fun h => hf h.1]

/-- No phase of a barrier, no guarded transfer and no message held is under way, and every sense is 0. -/
def withoutPhases (s : State) : State :=
  { s with bars := [], senses := 0, tileSenses := [], guards := [], packets := [], holdQueue := [] }

/-- But for the contexts it wakes, CLEAR_BAR puts every object back and ends every phase. -/
theorem noCtx_clearBars (s : State) : s.clearBars.noCtx = ((List.range 512).foldl zeroBar s).withoutPhases.noCtx := by
  unfold clearBars
  generalize List.range 512 = l
  refine noCtx_foldl (fun u e => ?_) _ _
  split <;> rfl

theorem rd_withoutPhases (s : State) (f : Fd) (i x : Nat) : s.withoutPhases.rd f i x = s.rd f i x := rfl

theorem rd_clearBars (s : State) (f : Fd) (i x : Nat) :
    s.clearBars.rd f i x = ((List.range 512).foldl zeroBar s).rd f i x :=
  (rd_of_noCtx (noCtx_clearBars s) f i x).trans (rd_withoutPhases _ f i x)

theorem rd_clearBars_zero (s : State) {f : Fd} (hf : f ∈ barFds) {b : Nat} (hb : b < 512) : s.clearBars.rd f 0 b = 0 :=
  (rd_clearBars s f 0 b).trans (rd_foldl_zeroBar_zero hf _ (.inl (List.mem_range.2 hb)))

theorem rd_clearBars_out (s : State) {f : Fd} (hf : f ∉ barFds) (i x : Nat) : s.clearBars.rd f i x = s.rd f i x :=
  (rd_clearBars s f i x).trans (rd_foldl_zeroBar_out hf i x _ s)

theorem answer_clearBars (s : State) : answer s s.clearBars = .next s.clearBars := by
  have hr := noRegs_foldl_zeroBar (List.range 512) s
  have hp := congrArg State.pending hr
  have hf := congrArg State.fuses hr
  exact answer_of_noCtx (noCtx_clearBars s) hp hf

theorem phases_of_noCtx {u w : State} (h : u.noCtx = w.withoutPhases.noCtx) :
    u.guards = [] ∧ u.packets = [] ∧ u.holdQueue = [] ∧ ∀ b, u.bar b = BarPhase.init := by
  have hguards := congrArg State.guards h
  have hpackets := congrArg State.packets h
  have hheld := congrArg State.holdQueue h
  have hbars : u.bars = [] := by have h := congrArg State.bars h; exact h
  exact ⟨hguards, hpackets, hheld, fun b => by unfold bar; rw [hbars, SMap.get_nil]⟩

theorem tileSense_clearBars (s : State) (t b : Nat) : s.clearBars.tileSense t b = 0 := by
  have h := tileSense_of_noCtx (noCtx_clearBars s) t b
  exact h.trans (by simp [tileSense, withoutPhases, bit])

/-! ### A counter written, and the adds of the same cycle -/

theorem mirrorRefused_eq_none {s : State} {off : Nat} : s.mirrorRefused off = none ↔
    ¬(0x10000 ≤ off ∧ off < 0x20000) ∧ ¬(0x30000 ≤ off ∧ off < 0x70000) ∧ ¬(0x700000 ≤ off ∧ off < 0x708000) := by
  unfold mirrorRefused
  split_ifs <;> simp_all

/-- Neither the signals on their way nor the waiters of a counter keep a write from SIG_CNT. -/
theorem takes_counter {s : State} {src : Source} {t n v : Nat} (h : takes s src ⟨.SIG_CNT, t, n⟩ v) (fs : List Flight)
    (ws : List Waiter) : takes (({ s with flights := fs } : State).setWaiters t n ws) src ⟨.SIG_CNT, t, n⟩ v := by
  obtain ⟨hsrc, hacc, hmir, hinst, hshut, hlock, htide, hres⟩ := h
  exact ⟨hsrc, hacc, fun ht => ⟨(hmir ht).1, mirrorRefused_eq_none.2 (mirrorRefused_eq_none.1 (hmir ht).2)⟩, hinst, hshut,
    hlock, htide, hres⟩

/-- Setting no waiters twice is setting none once. -/
theorem setWaiters_nil_nil (s : State) (t n : Nat) : (s.setWaiters t n []).setWaiters t n [] = s.setWaiters t n [] :=
  congrArg (fun w => ({ s with waiters := w } : State)) (SMap.set_default_idem s.waiters ⟨t, n, 0⟩ [])

/-- Where nobody waits nobody is served. -/
theorem serve_no_waiters (s : State) (t n : Nat) : (s.setWaiters t n []).serve t n = s.setWaiters t n [] := by
  unfold serve
  rw [waitersOn_setWaiters, if_pos ⟨rfl, rfl⟩, serveFrom, setWaiters_nil_nil]

theorem takeFlights_nil (s : State) : s.takeFlights [] = ([], s) := by
  simp [takeFlights, filterMap_range_getElem?]

theorem takeFlights_one {s : State} {j : Nat} {g : Flight} (h : s.flights[j]? = some g) :
    s.takeFlights [j] = ([g], { s with flights := s.flights.eraseIdx j }) := by
  unfold takeFlights
  dsimp only
  rw [filterMap_range_ne]
  simp [h]

theorem flight_of_mayArrive {s : State} {j : Nat} {g : Flight} (h : s.mayArrive j = some g) : s.flights[j]? = some g := by
  unfold mayArrive at h
  split at h
  · cases h
  · rename_i f hf
    rw [hf]
    split at h
    · split at h
      · cases h
      · exact h
    · exact h

theorem cyclePicks_nil (s : State) (t n : Nat) : s.cyclePicks t n [] = [] := by simp [cyclePicks]

/-- A signal that may arrive at the counter is one of its cycle. -/
theorem cyclePicks_one {s : State} {j : Nat} {g : Flight} (h : s.mayArrive j = some g) (hr : g.remote = false) :
    s.cyclePicks g.tile (SigWord.counter g.word) [j] = [j] := by
  have hlen : j < s.flights.length := (List.getElem?_eq_some_iff.1 (flight_of_mayArrive h)).1
  have ha : s.arrivesAt g.tile (SigWord.counter g.word) j = true := by simp [arrivesAt, h, hr]
  have hp : ∀ i ∈ List.range s.flights.length,
      (([j] : List Nat).contains i && s.arrivesAt g.tile (SigWord.counter g.word) i) = (i == j) := fun i _ => by
    by_cases e : i = j
    · subst e; simp [ha]
    · simp [e]
  unfold cyclePicks
  rw [List.filter_congr hp, List.filter_beq, List.count_eq_one_of_mem List.nodup_range (List.mem_range.2 hlen)]
  rfl

/-- A counter set without waiters, and the signals of the cycle after it. -/
theorem writeCntCycle_eq {s : State} {src : Source} {t n v : Nat} {picks : List Nat} {fs : List Flight} {rest : List Flight}
    (h : takes s src ⟨.SIG_CNT, t, n⟩ v) (hw : s.waitersOn t n = [])
    (ht : s.takeFlights (s.cyclePicks t n picks) = (fs, { s with flights := rest })) :
    s.writeCntCycle src t n ⟨v, picks⟩ =
      ((({ s with flights := rest } : State).cntSet t n (fv .SIG_CNT_VALUE v)).setWaiters t n []).cycleSignals t n fs := by
  have hwait : ({ s with flights := rest } : State).waitersOn t n = [] := hw
  have heff : ∀ w : State, w.effect src ⟨.SIG_CNT, t, n⟩ v = (w.cntSet t n (fv .SIG_CNT_VALUE v)).serve t n := fun _ => rfl
  have hset : ∀ w : State, (w.setWaiters t n []).cntSet t n (fv .SIG_CNT_VALUE v) =
      (w.cntSet t n (fv .SIG_CNT_VALUE v)).setWaiters t n [] := fun _ => rfl
  unfold writeCntCycle
  rw [ht]
  dsimp only
  rw [writeWhole_of_takes (takes_counter h rest []), heff, hset, serve_no_waiters, hwait, setWaiters_nil_nil]

/-- A field outside the registers that reset and boot keep leaves every shutter as it is. -/
theorem isOpen_wr (s : State) {f : Fd} (i x v kind j : Nat) (hf : f.spec.reg ∉ [Reg.RST_CTRL, .RST_BOOT, .GLB_TILE_RANK]) :
    (s.wr f i x v).isOpen kind j = s.isOpen kind j := by
  simp only [List.mem_cons, List.not_mem_nil, or_false, not_or] at hf
  obtain ⟨hc, hb, hr⟩ := hf
  have h1 := rd_wr_out s i x v 0 0 (g := .RST_CTRL_COMPUTE) (Ne.symm hc) hr
  have h2 := rd_wr_out s i x v 0 0 (g := .RST_BOOT_FAULT) (Ne.symm hb) hr
  unfold isOpen shutter domainHeld flag
  rw [h1, h2]
  rfl

/-- A counter set: its ADDED becomes its TAKEN plus the value (R207). -/
theorem puts_cntSet (s : State) (t n v : Nat) : puts s (s.cntSet t n v)
    [(.SIG_CNT_VALUE, t, n, v), (.SIG_CNT_ADDED_ADDED, t, n, s.rd .SIG_CNT_TAKEN_TAKEN t n + v)] := by
  have htaken : (s.wr .SIG_CNT_VALUE t n v).cntTaken t n = s.rd .SIG_CNT_TAKEN_TAKEN t n :=
    rd_wr_out s _ _ _ _ _ (by decide) (by decide)
  have h := puts_wr (puts_wr (puts_nil s) (f := .SIG_CNT_VALUE) t n v (by decide)) (f := .SIG_CNT_ADDED_ADDED) t n
    (s.cntTaken t n + v) (by decide)
  refine puts_of_perm h ?_
  simp [cut, cntTaken, List.Perm.swap]

/-- An add that the counter has room for. -/
theorem cntAdd_fits {s : State} {t n a : Nat} (w : Nat) (h : s.cntValue t n + a ≤ s.cntCap t n) :
    s.cntAdd t n a w =
      (s.wr .SIG_CNT_ADDED_ADDED t n (s.cntAdded t n + a)).wr .SIG_CNT_VALUE t n (s.cntValue t n + a) := by
  unfold cntAdd
  dsimp only
  rw [if_pos h]

theorem noRegs_cntAdd_fits {s : State} {t n a : Nat} (w : Nat) (h : s.cntValue t n + a ≤ s.cntCap t n) :
    (s.cntAdd t n a w).noRegs = s.noRegs := by
  rw [cntAdd_fits w h]; rfl

theorem cntCap_cntSet (s : State) (t n v : Nat) : (s.cntSet t n v).cntCap t n = s.cntCap t n := by
  have hkeep : ∀ f : Fd, f.spec.reg = .SIG_CNT_CFG → (s.cntSet t n v).rd f t n = s.rd f t n := fun f hf => by
    unfold cntSet
    rw [rd_wr_out _ _ _ _ _ _ (by rw [hf]; decide) (by decide), rd_wr_out _ _ _ _ _ _ (by rw [hf]; decide) (by decide)]
  unfold cntCap cntBounded flag
  rw [hkeep _ rfl, hkeep _ rfl]

theorem noRegs_cntSet (s : State) (t n v : Nat) : (s.cntSet t n v).noRegs = s.noRegs := rfl

theorem fv_lt (f : Fd) (v : Nat) : fv f v < 2 ^ f.width := Nat.mod_lt _ (Nat.two_pow_pos _)

theorem cntValue_cntSet (s : State) (t n : Nat) {v : Nat} (hv : v < 2 ^ Fd.SIG_CNT_VALUE.width) :
    (s.cntSet t n v).cntValue t n = v :=
  ((puts_cntSet s t n v).1 (.SIG_CNT_VALUE, t, n, v) (by simp)).trans (Nat.mod_eq_of_lt hv)

/-- A counter set has room for what its limit leaves over the value. -/
theorem cntSet_room {s : State} {t n v a : Nat} (hv : v < 2 ^ Fd.SIG_CNT_VALUE.width) (h : v + a ≤ s.cntCap t n) :
    (s.cntSet t n v).cntValue t n + a ≤ (s.cntSet t n v).cntCap t n := by
  rwa [cntValue_cntSet s t n hv, cntCap_cntSet]

/-- A counter set, and an add of the same cycle that it has room for (R207, R209). -/
theorem onlyPuts_cntSet_cntAdd {s : State} {t n v a : Nat} (w : Nat) (hv : v < 2 ^ Fd.SIG_CNT_VALUE.width)
    (h : v + a ≤ s.cntCap t n) : onlyPuts s ((s.cntSet t n v).cntAdd t n a w)
      [(.SIG_CNT_VALUE, t, n, v + a), (.SIG_CNT_ADDED_ADDED, t, n, s.rd .SIG_CNT_TAKEN_TAKEN t n + v + a)] := by
  have hset := puts_cntSet s t n v
  have hroom := cntSet_room hv h
  have hadded : (s.cntSet t n v).cntAdded t n = (s.rd .SIG_CNT_TAKEN_TAKEN t n + v) % 2 ^ Fd.SIG_CNT_ADDED_ADDED.width :=
    hset.1 (.SIG_CNT_ADDED_ADDED, t, n, _) (by simp)
  refine ⟨?_, (noRegs_cntAdd_fits w hroom).trans (noRegs_cntSet s t n v)⟩
  rw [cntAdd_fits w hroom, cntValue_cntSet s t n hv, hadded]
  refine puts_of_perm (puts_wr (puts_wr hset t n _ (by decide)) t n _ (by decide)) ?_
  simp [cut]

/-- A signal that is no resend meets no slot (R108). -/
theorem settleResends_one {s : State} {g : Flight} (h : SigWord.kind g.word ≠ 2) : s.settleResends [g] = (s, [g]) := by
  simp [settleResends, h]

/-- In a cycle without signals the waiters alone are looked at. -/
theorem cycleSignals_nil (s : State) (t n : Nat) :
    (s.setWaiters t n []).cycleSignals t n [] = s.setWaiters t n [] := by
  unfold cycleSignals applySignals settleResends
  dsimp only [List.foldl_nil]
  split
  · rfl
  · exact serve_no_waiters s t n

/-- One add at an open tile whose counter has no waiters. -/
theorem cycleSignals_add {s : State} {t n : Nat} {g : Flight} (ho : s.isOpen kTile t = true)
    (hk : SigWord.kind g.word = 0) (h : s.cntValue t n + g.amount ≤ s.cntCap t n) :
    (s.setWaiters t n []).cycleSignals t n [g] = (s.cntAdd t n g.amount g.word).setWaiters t n [] := by
  have hw : (s.setWaiters t n []).cntAdd t n g.amount g.word = (s.cntAdd t n g.amount g.word).setWaiters t n [] := by
    rw [cntAdd_fits _ h, cntAdd_fits (s := s.setWaiters t n []) _ h]
    rfl
  have ho' : (s.setWaiters t n []).isOpen kTile t = true := ho
  have hadd : signalSum [g] false = (g.amount, some g.word) := by simp [signalSum, hk]
  have hsub : signalSum [g] true = (0, none) := by simp [signalSum, hk]
  unfold cycleSignals applySignals
  rw [settleResends_one (by omega)]
  dsimp only
  rw [ho', hadd, hsub]
  dsimp only
  rw [hw, serve_no_waiters]
  simp

theorem exec_sigCntWrite {s : State} {src : Source} (h : s.hasSource src = true) (t n : Nat) (w : CntWrite) :
    exec (.sigCntWrite src t n w) s = answer s (s.writeCntCycle src t n w) := answerIf_true h

/-- What a counter's write changes beside registers: the signals on their way that have arrived, and its waiters. -/
theorem answer_setWaiters {s u : State} {fs : List Flight} (t n : Nat) (ws : List Waiter)
    (h : u.noRegs = ({ s with flights := fs } : State).noRegs) :
    answer s (u.setWaiters t n ws) = .next (u.setWaiters t n ws) := by
  have hp := congrArg State.pending h
  have hf := congrArg State.fuses h
  exact answer_eq hp hf

/-- A counter without waiters is set (R207). -/
theorem exec_sigCntWrite_set {s : State} {src : Source} {t n v : Nat} (h : takes s src ⟨.SIG_CNT, t, n⟩ v)
    (hw : s.waitersOn t n = []) :
    exec (.sigCntWrite src t n ⟨v, []⟩) s = .next ((s.cntSet t n (fv .SIG_CNT_VALUE v)).setWaiters t n []) := by
  rw [exec_sigCntWrite h.1, writeCntCycle_eq (rest := s.flights) h hw (by rw [cyclePicks_nil, takeFlights_nil]),
    cycleSignals_nil]
  exact answer_setWaiters (fs := s.flights) t n [] rfl

/-- A counter without waiters is set before the add of the same cycle (R209). -/
theorem exec_sigCntWrite_add {s : State} {src : Source} {t n v j : Nat} {g : Flight}
    (h : takes s src ⟨.SIG_CNT, t, n⟩ v) (hw : s.waitersOn t n = []) (hj : s.mayArrive j = some g) (hr : g.remote = false)
    (hk : SigWord.kind g.word = 0) (ht : g.tile = t) (hn : SigWord.counter g.word = n) (ho : s.isOpen kTile t = true)
    (hfit : fv .SIG_CNT_VALUE v + g.amount ≤ s.cntCap t n) :
    exec (.sigCntWrite src t n ⟨v, [j]⟩) s =
      .next (((({ s with flights := s.flights.eraseIdx j } : State).cntSet t n (fv .SIG_CNT_VALUE v)).cntAdd t n g.amount
        g.word).setWaiters t n []) := by
  have hpick : s.takeFlights (s.cyclePicks t n [j]) = ([g], { s with flights := s.flights.eraseIdx j }) := by
    subst ht hn
    rw [cyclePicks_one hj hr, takeFlights_one (flight_of_mayArrive hj)]
  rw [exec_sigCntWrite h.1, writeCntCycle_eq h hw hpick]
  generalize hq : ({ s with flights := s.flights.eraseIdx j } : State) = q
  have hroom : (q.cntSet t n (fv .SIG_CNT_VALUE v)).cntValue t n + g.amount ≤
      (q.cntSet t n (fv .SIG_CNT_VALUE v)).cntCap t n := cntSet_room (fv_lt _ v) (by rw [← hq]; exact hfit)
  have hopen : (q.cntSet t n (fv .SIG_CNT_VALUE v)).isOpen kTile t = true := by
    unfold cntSet
    rw [isOpen_wr _ _ _ _ _ _ (by decide), isOpen_wr _ _ _ _ _ _ (by decide), ← hq]
    exact ho
  rw [cycleSignals_add hopen hk hroom]
  refine answer_setWaiters (fs := s.flights.eraseIdx j) t n [] ?_
  rw [noRegs_cntAdd_fits _ hroom, noRegs_cntSet, hq]

end State

end Sys2Proof.Machine

namespace Sys2Proof

open Machine Machine.State Claims

/-- Settles O26: each command comes to its register's effect, and the effect to the fields, contexts and counters named. -/
theorem signalRegisters : Obligations.SignalRegisters := by
  unfold Obligations.SignalRegisters
  intro s src
  refine ⟨fun t n v h hw => ⟨?_, fun j g hj hr hk ht hn ho hfit => ?_⟩, fun t n v h => ⟨fun hw => ?_, fun hw => ?_⟩,
    fun b v h => ⟨fun ha => ?_, fun ha => ?_⟩, fun v h => ⟨fun hl => ?_, fun hl => ?_⟩, fun h => ?_,
    fun v h => ⟨fun hi => ?_, fun hi => ?_⟩, fun h hh he b hv hs hb hu => ?_⟩
  · exact ⟨_, exec_sigCntWrite_set h hw, puts_cntSet s t n _, rfl⟩
  · exact ⟨_, exec_sigCntWrite_add h hw hj hr hk ht hn ho hfit, onlyPuts_cntSet_cntAdd _ (fv_lt _ v) hfit⟩
  · rw [exec_sigCntCfgWrite h, if_pos (List.isEmpty_iff.2 hw)]
    exact answer_plainWrite s t n v (by decide) [.SIG_CNT_CFG_MODE, .SIG_CNT_CFG_BOUND] (by decide)
  · rw [exec_sigCntCfgWrite h, if_neg fun e => hw (List.isEmpty_iff.1 e)]
    exact answer_configError s
  · rw [exec_sigBarCfgWrite h, if_neg (not_not.2 ha)]
    exact answer_plainWrite s 0 b v (by decide) _ (by decide)
  · rw [exec_sigBarCfgWrite h, if_pos ha]
    exact answer_configError s
  · rw [exec_sigTidemarkWrite h, if_pos hl]
    exact answer_plainWrite s 0 0 v (by decide) [.SIG_TIDEMARK_TIDEMARK] (by decide)
  · rw [exec_sigTidemarkWrite h, if_neg hl]
    exact answer_eq rfl rfl
  · obtain ⟨hguards, hpackets, hheld, hbars⟩ := phases_of_noCtx (noCtx_clearBars s)
    refine ⟨s.clearBars, (exec_clearBar h).trans (answer_clearBars s), hguards, hpackets, hheld, fun b hb => ?_,
      tileSense_clearBars s, fun f i x hf => ?_⟩
    · refine ⟨?_, ?_, ?_, ?_, ?_, hbars b⟩ <;> exact rd_clearBars_zero s (by decide) hb
    · exact rd_clearBars_out s (fun hm => hf (by rw [barFds_reg f hm]; exact List.mem_cons_self)) i x
  · rw [exec_voidCtrlWrite h, if_pos (show s.seqState = vIdle from hi)]
    exact answer_plainWrite s 0 0 v (by decide) _ (by decide)
  · rw [exec_voidCtrlWrite h, if_neg (show ¬s.seqState = vIdle from hi)]
    exact answer_eq rfl rfl
  · have hput := puts_haltCleared s
    have hsense : s.haltCleared.rd .SIG_BAR_STATE_SENSE 0 b = s.rd .SIG_BAR_STATE_SENSE 0 b := hput.2 _ _ _ (by simp)
    refine ⟨_, exec_haltResume_one h hh he hv hs hb hu, puts_of_rd hput (rd_broadcast _ b), fun t => ?_, fun t c y hw => ?_⟩
    · rw [tileSense_broadcast, hsense]
    · refine broadcast_served (y := y) ?_
      rw [hsense]
      exact hw

end Sys2Proof

/-! SUPPORT. The tide engines: what their contexts and slots hold, what an error, a unit sent, a slot settled and an access
to memory leave alone. -/
namespace Sys2Proof.Machine.State

open Sys2Proof.Claims

/-! ### Contexts and slots -/

theorem tctx_setTctx (s : State) (d c : Nat) (y : TideCtx) (d' c' : Nat) :
    (s.setTctx d c y).tctx d' c' = if d' = d ∧ c' = c then y else s.tctx d' c' := by
  unfold tctx setTctx
  split
  · rename_i h; obtain ⟨rfl, rfl⟩ := h; exact SMap.get_set_self _ _ _ _
  · rename_i h; exact SMap.get_set_ne _ _ _ _ fun e => h (by simpa using e)

@[simp] theorem tctx_setTctx_self (s : State) (d c : Nat) (y : TideCtx) : (s.setTctx d c y).tctx d c = y := by
  simp [tctx_setTctx]

@[simp] theorem tctx_wr (s : State) (f : Fd) (i x v d c : Nat) : (s.wr f i x v).tctx d c = s.tctx d c := rfl
@[simp] theorem rd_setTctx (s : State) (d c : Nat) (y : TideCtx) (f : Fd) (i x : Nat) :
    (s.setTctx d c y).rd f i x = s.rd f i x := rfl

/-- A slot set: the other parts of its context stay. -/
theorem tctx_setSlot (s : State) (d c : Nat) (y : Slot) :
    (s.setSlot d c y).tctx d c =
      { s.tctx d c with slots := SMap.insert (s.tctx d c).slots ⟨y.p % s.tideW d c, 0, 0⟩ y } :=
  tctx_setTctx_self _ _ _ _

/-- What the slot of a lap position holds. -/
theorem slotAt_eq_some {s : State} {d c p : Nat} {x : Slot} (h : s.slotAt d c p = some x) :
    SMap.find (s.tctx d c).slots ⟨p % s.tideW d c, 0, 0⟩ = some x ∧ x.p = p := by
  simpa [slotAt, Option.filter_eq_some_iff] using h

/-! ### The commands of a tide engine -/

theorem answer_self (s : State) : answer s s = .next s := rfl

/-- A step of a tide engine is made where nothing holds the stacks. -/
theorem tideStep_free {s : State} (h : stacksFree s) (u : State) : s.tideStep u = u := by
  obtain ⟨hz, hl⟩ := h
  simp [tideStep, hz, hl]

theorem tideStep_held {s : State} (h : ¬stacksFree s) (u : State) : s.tideStep u = s := by
  unfold tideStep
  rw [if_pos]
  simpa [stacksFree, or_iff_not_imp_left] using h

theorem tideStep_self (s : State) : s.tideStep s = s := by unfold tideStep; rw [ite_self]

theorem exec_segmentArrive {s : State} {d c : Nat} (h : s.hasTide d c = true) (g : Seg) :
    exec (.segmentArrive d c g) s = answer s (s.tideStep (s.arriveSegment d c g)) := answerIf_true h

/-! ### Errors of a tide engine -/

@[simp] theorem noTideRec_wr (s : State) (f : Fd) (i x v : Nat) : (s.wr f i x v).noTideRec = s.noTideRec := rfl

@[simp] theorem noTideRec_report (s : State) (e : Err) : (s.report e).noTideRec = s.noTideRec :=
  congrArg (fun v : State => { v with tideInfo := [] }) (noRec_report s e)

theorem next_of_noTideRec {s u : State} (h : u.noTideRec = s.noTideRec) : answer s u = .next u :=
  answer_eq (by have h := congrArg State.pending h; exact h) (by have h := congrArg State.fuses h; exact h)

@[simp] theorem noTideRec_tideInfoOf (s : State) (d ctx lap detail : Nat) :
    (s.tideInfoOf d ctx lap detail).noTideRec = s.noTideRec := by
  unfold tideInfoOf; split <;> rfl

/-- The first error's words are kept in TIDE_ERR_INFO alone. -/
theorem rd_tideInfoOf (s : State) (d ctx lap detail : Nat) (g : Fd) (i x : Nat) (h : g.spec.reg ≠ .TIDE_ERR_INFO) :
    (s.tideInfoOf d ctx lap detail).rd g i x = s.rd g i x := by
  unfold tideInfoOf
  split
  · rfl
  · dsimp only
    rw [rd_wr_out _ _ _ _ _ _ h (by decide), rd_wr_out _ _ _ _ _ _ h (by decide), rd_wr_out _ _ _ _ _ _ h (by decide)]
    rfl

@[simp] theorem noTideRec_tideErr (s : State) (n d c lap detail : Nat) (void : Bool) :
    (s.tideErr n d c lap detail void).noTideRec = s.noTideRec := by
  unfold tideErr; rw [noTideRec_report, noTideRec_tideInfoOf]

theorem rd_tideErr_void (s : State) (n d c lap detail : Nat) (void : Bool) :
    (s.tideErr n d c lap detail void).rd .SIG_STATUS_VOIDED = if void then 1 else s.rd .SIG_STATUS_VOIDED := by
  unfold tideErr; rw [rd_report_voided, rd_tideInfoOf _ _ _ _ _ _ _ _ (by decide)]

theorem flag_tideErr_self (s : State) {n : Nat} {f : Fd} (d c lap detail : Nat) (void : Bool) (hn : n < 0x80)
    (hf : errField 0x06 n = some f) (h1 : f.width = 1) : (s.tideErr n d c lap detail void).flag f d = true := by
  unfold tideErr; exact flag_report _ _ hn hf h1

/-- A command that comes to an error of a context: its status bit, the void where it brings one, and nothing else. -/
theorem answer_tideErr (s : State) {n : Nat} {f : Fd} (d c lap detail : Nat) (void : Bool) (hn : n < 0x80)
    (hf : errField 0x06 n = some f) (h1 : f.width = 1) :
    ∃ u, answer s (s.tideErr n d c lap detail void) = .next u ∧ u.flag f d = true ∧
      u.rd .SIG_STATUS_VOIDED = (if void then 1 else s.rd .SIG_STATUS_VOIDED) ∧ u.noTideRec = s.noTideRec :=
  ⟨_, next_of_noTideRec (noTideRec_tideErr s n d c lap detail void), flag_tideErr_self s d c lap detail void hn hf h1,
    rd_tideErr_void s n d c lap detail void, noTideRec_tideErr s n d c lap detail void⟩

@[simp] theorem noTideRec_engineErr (s : State) (n d ctx lap : Nat) :
    (s.engineErr n d ctx lap).noTideRec = s.noTideRec := by
  unfold engineErr; rw [noTideRec_report, noTideRec_tideInfoOf]

theorem rd_engineErr_void (s : State) (n d ctx lap : Nat) :
    (s.engineErr n d ctx lap).rd .SIG_STATUS_VOIDED = s.rd .SIG_STATUS_VOIDED := by
  unfold engineErr; rw [rd_report_voided, rd_tideInfoOf _ _ _ _ _ _ _ _ (by decide)]; rfl

theorem flag_engineErr_self (s : State) {n : Nat} {f : Fd} (d ctx lap : Nat) (hn : n < 0x80)
    (hf : errField 0x06 n = some f) (h1 : f.width = 1) : (s.engineErr n d ctx lap).flag f d = true := by
  unfold engineErr; exact flag_report _ _ hn hf h1

/-! ### What sending changes -/

/-- Without what a port's sending side changes: an error report, the links with their grants and nonces, and what has been
handed to the ports. -/
def noSend (s : State) : State := { s.noTideRec with links := [], nonces := [], outbox := [], backoffs := [] }

/-- Without what the tide's traffic changes: the sending side, the contexts of the engines, and the signals on their way. -/
def noTraffic (s : State) : State := { s.noSend with tctxs := [], flights := [] }

theorem noSend_of_noTideRec {s u : State} (h : u.noTideRec = s.noTideRec) : u.noSend = s.noSend :=
  congrArg (fun v : State => { v with links := [], nonces := [], outbox := [], backoffs := [] }) h

theorem noTraffic_of_noSend {s u : State} (h : u.noSend = s.noSend) : u.noTraffic = s.noTraffic :=
  congrArg (fun v : State => { v with tctxs := [], flights := [] }) h

@[simp] theorem noSend_report (s : State) (e : Err) : (s.report e).noSend = s.noSend :=
  noSend_of_noTideRec (noTideRec_report s e)

/-- A loop whose every step keeps a part of what it changes keeps it. -/
theorem foldl_keeps {α β γ : Type} {f : γ → α → γ} (g : γ → β) (hf : ∀ s a, g (f s a) = g s) (l : List α) (s : γ) :
    g (l.foldl f s) = g s := by
  induction l generalizing s with
  | nil => rfl
  | cons a l ih => rw [List.foldl_cons, ih, hf]

theorem pump_keeps (s : State) (p : Nat) : (s.pump p).noSend = s.noSend ∧ (s.pump p).regs = s.regs := by
  have hg : ∀ (u : State) (g : Option Nat), (u.giveGrant p g).noSend = u.noSend ∧ (u.giveGrant p g).regs = u.regs := by
    intro u g; unfold giveGrant; dsimp only; split <;> exact ⟨rfl, rfl⟩
  have hr : ∀ u : State, (u.refuseClasses p).noSend = u.noSend ∧ (u.refuseClasses p).regs = u.regs := by
    intro u
    unfold refuseClasses
    refine ⟨foldl_keeps noSend (fun s c => ?_) _ _, foldl_keeps State.regs (fun s c => ?_) _ _⟩ <;>
      (dsimp only; split <;> rfl)
  unfold pump
  dsimp only
  rw [(hr _).1, (hr _).2]
  split
  · exact ⟨rfl, rfl⟩
  · split
    · exact ⟨rfl, rfl⟩
    · exact hg _ _

/-! ### Changes that keep a part of the state -/

/-- `u` agrees with `s` in what `part` leaves of a state, and in every register field that `fs` does not name. -/
structure Keeps (part : State → State) (fs : Fd → Prop) (s u : State) : Prop where
  rest : part u = part s
  rd : ∀ f i x, ¬fs f → u.rd f i x = s.rd f i x

namespace Keeps

variable {part : State → State} {fs : Fd → Prop} {s u v : State}

theorem refl (s : State) : Keeps part fs s s := ⟨rfl, fun _ _ _ _ => rfl⟩

theorem trans (h : Keeps part fs s u) (k : Keeps part fs u v) : Keeps part fs s v :=
  ⟨k.rest.trans h.rest, fun f i x hf => (k.rd f i x hf).trans (h.rd f i x hf)⟩

/-- A change beside what the registers read as. -/
theorem of_rd (h : part u = part s) (hr : ∀ f i x, u.rd f i x = s.rd f i x) : Keeps part fs s u :=
  ⟨h, fun f i x _ => hr f i x⟩

/-- A loop of such changes is one. -/
theorem foldl {α : Type} {f : State → α → State} (hf : ∀ s a, Keeps part fs s (f s a)) (l : List α) (s : State) :
    Keeps part fs s (l.foldl f s) := by
  induction l generalizing s with
  | nil => exact refl s
  | cons a l ih => exact (hf s a).trans (ih _)

/-- A register field written. -/
theorem wr {f : Fd} (i x n : Nat) (hp : part (s.wr f i x n) = part s) (hf : fs f) (hr : f ≠ .GLB_TILE_RANK_ORDER) :
    Keeps part fs s (s.wr f i x n) :=
  ⟨hp, fun _ _ _ hg => rd_wr_ne s n (fun _ => hr) fun e => hg (e.1 ▸ hf)⟩

end Keeps

/-- The registers that the tide's traffic may change, beside the marks of its contexts: those of error reports, and the count
of skipped segments. -/
def trafficRegs : List Reg := errRegs ++ recordRegs ++ [.TIDE_ERR_INFO, .TIDE_SD_SKIPPED]

/-- `u` differs from `s` in what sending changes alone. -/
abbrev Sends : State → State → Prop := Keeps noSend fun f => f.spec.reg ∈ trafficRegs

/-- `u` differs from `s` in what the tide's traffic changes alone. -/
abbrev Calm : State → State → Prop :=
  Keeps noTraffic fun f => f.spec.reg ∈ trafficRegs ∨ f = .TIDE_SD_MARKS_OWN_MARK

/-! ### Units sent -/

/-- Where traffic leaves the registers alone, every field reads as before. -/
theorem rd_of_noTraffic {s u : State} (h : u.noTraffic = s.noTraffic) (hr : u.regs = s.regs) (f : Fd) (i x : Nat) :
    u.rd f i x = s.rd f i x := by
  have hp : u.plan = s.plan := by have h := congrArg State.plan h; exact h
  have hf : u.fuses = s.fuses := by have h := congrArg State.fuses h; exact h
  have ht : u.straps = s.straps := by have h := congrArg State.straps h; exact h
  unfold rd fieldReset portQuads portEntry
  rw [hr, hp, hf, ht]

namespace Sends

variable {s u : State}

theorem calm (h : Sends s u) : Calm s u :=
  ⟨noTraffic_of_noSend h.rest, fun f i x hf => h.rd f i x fun hr => hf (.inl hr)⟩

theorem tctxs (h : Sends s u) : u.tctxs = s.tctxs := by have h := congrArg State.tctxs h.rest; exact h

theorem tctx (h : Sends s u) (d c : Nat) : u.tctx d c = s.tctx d c := by unfold State.tctx; rw [h.tctxs]

theorem of_regs (h : u.noSend = s.noSend) (hr : u.regs = s.regs) : Sends s u :=
  .of_rd h (rd_of_noTraffic (noTraffic_of_noSend h) hr)

theorem report (s : State) (e : Err) : Sends s (s.report e) := by
  refine ⟨noSend_report s e, fun f i x hf => rd_report s e f i x (fun h => hf ?_) fun h => hf ?_⟩
  · exact List.mem_append_left _ (List.mem_append_left _ (errReg_mem h))
  · exact List.mem_append_left _ (List.mem_append_right _ h)

theorem tideErr (s : State) (n d c lap detail : Nat) (void : Bool) : Sends s (s.tideErr n d c lap detail void) := by
  have h : ∀ ctx, Sends s (s.tideInfoOf d ctx lap detail) := fun ctx =>
    ⟨noSend_of_noTideRec (noTideRec_tideInfoOf s d ctx lap detail), fun f i x hf =>
      rd_tideInfoOf s d ctx lap detail f i x fun e => hf (e ▸ by decide)⟩
  exact (h _).trans (report _ _)

theorem pump (s : State) (p : Nat) : Sends s (s.pump p) := by
  obtain ⟨hn, hr⟩ := pump_keeps s p
  exact of_regs hn hr

/-- A unit handed to a port: an error at a shutter that is not open, nothing at a port that is not UP, else the port's own
side. -/
theorem queueUnit (s : State) (x : TxUnit) : Sends s (s.queueUnit x) := by
  unfold State.queueUnit
  dsimp only
  split
  · exact report s _
  · split
    · exact .refl s
    · refine .trans ?_ (pump _ _)
      exact of_regs rfl rfl

theorem takeNonce (s : State) (p c : Nat) : Sends s (s.takeNonce p c).1 := by
  unfold State.takeNonce
  dsimp only
  split
  · dsimp only
    exact report s _
  · exact of_regs rfl rfl

theorem originate (s : State) (p c flits : Nat) (pkn : Option Nat) (guard words : List Nat) (owner : TxOwner) (src : Nat) :
    Sends s (s.originate p c flits pkn guard words owner src) := by
  have h := takeNonce s p c
  unfold State.originate
  dsimp only
  split
  · exact h
  · exact h.trans (queueUnit _ _)

/-- A segment sent, as origin or passed on. -/
theorem sendSegment (s : State) (d c : Nat) (g : Seg) (origin : Bool) : Sends s (s.sendSegment d c g origin) := by
  unfold State.sendSegment
  dsimp only
  split
  · exact originate _ _ _ _ _ _ _ _ _
  · exact queueUnit _ _

end Sends

/-! ### The traffic of a context -/

/-- The slots of a context whose lap positions are not finished. -/
def unfinished (s : State) (d c : Nat) : SMap Slot := (s.tctx d c).slots.filter fun e => !s.slotFinished d c e.2

/-- A context whose finished lap positions have left their slots. -/
def leaveSlots (s : State) (d c : Nat) (done : List Nat) : State :=
  s.setTctx d c { s.tctx d c with slots := s.unfinished d c, done := done }

/-- What settling comes to: the finished lap positions leave their slots, the mark may follow, and then its report (R39, R41). -/
theorem settle_cases (s : State) (d c : Nat) : ∃ done mark,
    s.settle d c = s.leaveSlots d c done ∨
    s.settle d c = (s.leaveSlots d c done).wr .TIDE_SD_MARKS_OWN_MARK d c mark ∨
    s.settle d c = ((s.leaveSlots d c done).wr .TIDE_SD_MARKS_OWN_MARK d c mark).sendCredit d c := by
  unfold State.settle
  extract_lets t fin done own mark
  refine ⟨done.filter fun p => decide (mark ≤ p), mark, ?_⟩
  split
  · exact .inl rfl
  · split
    · exact .inr (.inr rfl)
    · exact .inr (.inl rfl)

/-- A slot that is not finished stays when the finished ones leave. -/
theorem find_unfinished {s : State} {d c : Nat} {k : Key} {x : Slot} (h : SMap.find (s.tctx d c).slots k = some x)
    (hx : s.slotFinished d c x = false) : SMap.find (s.unfinished d c) k = some x := by
  unfold unfinished
  generalize (s.tctx d c).slots = m at h
  induction m with
  | nil => cases h
  | cons e m ih =>
    obtain ⟨k', y⟩ := e
    rw [SMap.find] at h
    split at h
    · rename_i hk
      injection h with h
      subst h
      rw [List.filter_cons_of_pos (by simp [hx]), SMap.find, if_pos hk]
    · rename_i hk
      rw [List.filter_cons]
      split
      · rw [SMap.find, if_neg hk]; exact ih h
      · exact ih h

/-- A CREDIT changes of its context what it has reported. -/
theorem tctx_sendCredit (s : State) (d c : Nat) :
    (s.sendCredit d c).tctx d c = { s.tctx d c with reported := s.ownMark d c } := by
  have h : (s.setTctx d c { s.tctx d c with reported := s.ownMark d c }).tctx d c =
      { s.tctx d c with reported := s.ownMark d c } := tctx_setTctx_self s d c _
  unfold sendCredit
  dsimp only
  split
  · exact h
  · rw [(Sends.originate _ _ _ _ _ _ _ _ _).tctx, h]

/-- Settling changes of its context the slots, the finished positions kept, and what has been reported. -/
theorem tctx_settle (s : State) (d c : Nat) : ∃ done reported, (s.settle d c).tctx d c =
    { s.tctx d c with slots := s.unfinished d c, done := done, reported := reported } := by
  obtain ⟨done, mark, h⟩ := settle_cases s d c
  have ht : (s.leaveSlots d c done).tctx d c = { s.tctx d c with slots := s.unfinished d c, done := done } :=
    tctx_setTctx_self s d c _
  rcases h with h | h | h <;> rw [h]
  · exact ⟨done, _, ht⟩
  · exact ⟨done, _, ht⟩
  · rw [tctx_sendCredit, tctx_wr, ht]
    exact ⟨done, _, rfl⟩

namespace Calm

variable {s u : State}

theorem mem (h : Calm s u) : u.mem = s.mem := by have h := congrArg State.mem h.rest; exact h
theorem books (h : Calm s u) : u.books = s.books := by have h := congrArg State.books h.rest; exact h

theorem next (h : Calm s u) : answer s u = .next u :=
  answer_eq (by have h := congrArg State.pending h.rest; exact h) (by have h := congrArg State.fuses h.rest; exact h)

theorem setTctx (s : State) (d c : Nat) (y : TideCtx) : Calm s (s.setTctx d c y) :=
  .of_rd (by rfl) (rd_setTctx s d c y)

theorem setSlot (s : State) (d c : Nat) (y : Slot) : Calm s (s.setSlot d c y) := setTctx s d c _

theorem sendCredit (s : State) (d c : Nat) : Calm s (s.sendCredit d c) := by
  unfold State.sendCredit
  dsimp only
  split
  · exact setTctx s d c _
  · exact (setTctx s d c _).trans (Sends.originate _ _ _ _ _ _ _ _ _).calm

theorem settle (s : State) (d c : Nat) : Calm s (s.settle d c) := by
  obtain ⟨done, mark, h⟩ := settle_cases s d c
  have ht := setTctx s d c { s.tctx d c with slots := s.unfinished d c, done := done }
  have hw : Calm s ((s.leaveSlots d c done).wr .TIDE_SD_MARKS_OWN_MARK d c mark) :=
    ht.trans (.wr d c mark rfl (.inr rfl) (by decide))
  rcases h with h | h | h <;> rw [h]
  · exact ht
  · exact hw
  · exact hw.trans (sendCredit _ d c)

theorem raiseLanding (s : State) (d c : Nat) (head : List Nat) (again : Bool) : Calm s (s.raiseLanding d c head again) := by
  refine .foldl (fun u t => .of_rd ?_ (rd_of_noTraffic ?_ ?_)) _ s <;> rfl

theorem trySignal (s : State) (d c : Nat) (x : Slot) : Calm s (s.trySignal d c x) := by
  unfold State.trySignal
  dsimp only
  split
  · exact setSlot s d c _
  · exact (setSlot s d c _).trans (Sends.tideErr _ _ _ _ _ _ _).calm
  · split
    · exact setSlot s d c _
    · exact (setSlot s d c _).trans (raiseLanding _ d c _ _)

theorem slotLanded (s : State) (d c : Nat) (x : Slot) : Calm s (s.slotLanded d c x) := by
  unfold State.slotLanded State.drainUnwanted
  dsimp only
  split
  · exact setSlot s d c _
  · split
    · exact (setSlot s d c _).trans (settle _ d c)
    · split
      · exact (setSlot s d c _).trans (settle _ d c)
      · exact trySignal s d c x

theorem retrySignals (s : State) (d c : Nat) : Calm s (s.retrySignals d c) := by
  refine .foldl (fun s y => .foldl (fun s e => ?_) _ s) _ s
  split
  · split
    · exact trySignal s _ _ _
    · exact .refl s
  · exact .refl s

theorem markInstalled (s : State) (d c : Nat) (x : Slot) : Calm s (s.markInstalled d c x) := by
  refine .foldl (fun s y => ?_) _ s
  split
  · split
    · exact (setSlot s _ _ _).trans (settle _ _ _)
    · exact .refl s
  · exact .refl s

end Calm

/-! ### Accesses to device memory -/

theorem noTideRec_of_noRec {s u : State} (h : u.noRec = s.noRec) : u.noTideRec = s.noTideRec :=
  congrArg (fun v : State => { v with tideInfo := [] }) h

@[simp] theorem noTideRec_tileErr (s : State) (t n addr : Nat) (void : Bool) (ok o d5 d6 wk w : Nat) :
    (s.tileErr t n addr void ok o d5 d6 wk w).noTideRec = s.noTideRec :=
  noTideRec_of_noRec (noRec_tileErr s t n addr void ok o d5 d6 wk w)

@[simp] theorem noTideRec_memErr (s : State) (st n : Nat) (req : Req) (a synd : Nat) (void : Bool) :
    (s.memErr st n req a synd void).noTideRec = s.noTideRec := by
  unfold memErr; dsimp only; rw [noTideRec_report]; split <;> rfl

@[simp] theorem noTideRec_memUncorrectable (s : State) (req : Req) (a synd : Nat) :
    (s.memUncorrectable req a synd).noTideRec = s.noTideRec := by
  unfold memUncorrectable; dsimp only; rw [noTideRec_memErr]; rfl

@[simp] theorem noTideRec_rangeError (s : State) (req : Req) (a : Nat) :
    (s.rangeError req a).noTideRec = s.noTideRec := by
  unfold rangeError; dsimp only; rw [noTideRec_report]; split <;> rfl

@[simp] theorem noTideRec_countBytes (s : State) (f : Fd) (a n : Nat) : (s.countBytes f a n).noTideRec = s.noTideRec := by
  refine foldl_keeps noTideRec (fun u l => ?_) _ s
  exact noTideRec_wr u f _ _ _

/-- A read changes registers and reports alone. -/
theorem noTideRec_readSpan (s : State) (req : Req) (a n : Nat) : (s.readSpan req a n).1.noTideRec = s.noTideRec := by
  unfold readSpan
  repeat' split
  all_goals simp

@[simp] theorem noTideRec_tideIsolated (s : State) (d c a : Nat) (f : Option Fail) :
    (s.tideIsolated d c a f).noTideRec = s.noTideRec := by
  unfold tideIsolated reportIsolated; split <;> simp

theorem noTideRec_tideRead (s : State) (d c a n : Nat) : (s.tideRead d c a n).1.noTideRec = s.noTideRec := by
  have h := noTideRec_readSpan s (tideReader d c) a n
  unfold tideRead
  split
  · rename_i e; rw [e] at h; exact h
  · rename_i e; rw [e] at h; simpa using h

/-- Without what an access to device memory changes: the memory, and what an error of an engine changes. -/
def noData (s : State) : State := { s.noTideRec with mem := Memory.empty }

theorem noData_of_noTideRec {s u : State} (h : u.noTideRec = s.noTideRec) : u.noData = s.noData :=
  congrArg (fun v : State => { v with mem := Memory.empty }) h

theorem noData_mem (s : State) (m : Memory) : ({ s with mem := m } : State).noData = s.noData := rfl

theorem noData_wr (s : State) (f : Fd) (i x v : Nat) : (s.wr f i x v).noData = s.noData := rfl

theorem noData_writeLine (s : State) (req : Req) (a : Nat) (bs : List Byte) :
    (s.writeLine req a bs).1.noData = s.noData := by
  unfold writeLine
  dsimp only
  split
  · split
    · exact noData_mem s _
    · exact noData_of_noTideRec (noTideRec_memUncorrectable _ _ _ _)
  · split
    · exact noData_mem s _
    · exact (noData_wr _ _ _ _ _).trans (noData_mem s _)

theorem noData_regionError (s : State) (req : Req) (a : Nat) : (s.regionError req a).noData = s.noData :=
  noData_of_noTideRec (noTideRec_memErr s _ _ _ _ _ _)

theorem noData_stackLine (s : State) (req : Req) (fs : List (Fail × Nat)) (a : Nat) (bs : List Byte) :
    (s.stackLine req fs a bs).1.noData = s.noData := by
  have hl := noData_writeLine s req a bs
  have hr := noData_of_noTideRec (noTideRec_rangeError s req a)
  have hg := noData_regionError s req a
  unfold stackLine
  extract_lets st add
  split
  · split
    · rfl
    · dsimp only; split
      · rfl
      · exact hr
  · split
    · dsimp only; split
      · rfl
      · exact hg
    · split
      · rfl
      · dsimp only
        split
        · exact (noData_wr _ _ _ _ _).trans hl
        · exact hl

theorem noData_writeRow (s : State) (req : Req) (t a : Nat) (bs : List Byte) :
    (s.writeRow req t a bs).1.noData = s.noData := by
  unfold writeRow
  split
  · split
    · exact noData_mem s _
    · dsimp only
      exact (noData_of_noTideRec (noTideRec_tileErr _ _ _ _ _ _ _ _ _ _ _)).trans (noData_mem s _)
  · exact noData_mem s _

theorem noData_stackLines (s : State) (req : Req) (a : Nat) (bs : List Byte) :
    (s.stackLines req a bs).1.noData = s.noData := by
  have h : ∀ (ls : List Nat) (x : State × List (Fail × Nat)), (ls.foldl (fun acc l =>
      acc.1.stackLine req acc.2 (max a (64 * l)) ((bs.drop (max a (64 * l) - a)).take (lineBytes a bs.length l))) x).1.noData =
        x.1.noData := by
    intro ls
    induction ls with
    | nil => intro x; rfl
    | cons l ls ih => intro x; rw [List.foldl_cons, ih, noData_stackLine]
  exact h _ (s, [])

theorem noData_writeRows (s : State) (req : Req) (t a : Nat) (bs : List Byte) :
    (s.writeRows req t a bs).1.noData = s.noData := by
  unfold writeRows
  generalize spanLines a bs.length = ls
  generalize true = ok
  induction ls generalizing s ok with
  | nil => rfl
  | cons l ls ih =>
    rw [List.foldl_cons]
    dsimp only
    rw [ih, noData_writeRow]

theorem noData_regionErrors (s : State) (req : Req) (a n : Nat) : (s.regionErrors req a n).noData = s.noData := by
  unfold regionErrors
  dsimp only
  generalize spanLines a n = ls
  generalize s.fuses.nStacks = k
  generalize ([] : List Nat) = done
  induction ls generalizing s done with
  | nil => rfl
  | cons l ls ih =>
    rw [List.foldl_cons]
    split
    · exact ih s done
    · rw [ih, noData_regionError]

/-- A write changes memory, registers and reports alone. -/
theorem noData_writeSpan (s : State) (req : Req) (a : Nat) (bs : List Byte) :
    (s.writeSpan req a bs).1.noData = s.noData := by
  unfold writeSpan
  split
  · split
    · exact noData_regionErrors s req a _
    · exact noData_stackLines s req a bs
  · exact noData_of_noTideRec (noTideRec_rangeError s req a)
  · split
    · rfl
    · split
      · rfl
      · split
        · rfl
        · exact noData_writeRows s req _ a bs
  all_goals rfl

theorem noData_tideWrite (s : State) (d c a : Nat) (bs : List Byte) : (s.tideWrite d c a bs).1.noData = s.noData := by
  unfold tideWrite
  dsimp only
  exact (noData_of_noTideRec (noTideRec_tideIsolated _ _ _ _ _)).trans (noData_writeSpan s _ _ _)

/-- The accesses of a context leave the contexts as they are. -/
theorem tctx_of_noData {s u : State} (h : u.noData = s.noData) (d c : Nat) : u.tctx d c = s.tctx d c := by
  have h := congrArg (fun v : State => v.tctx d c) h
  exact h

theorem noData_writeHead (s : State) (d c p : Nat) (head rec : List Nat) :
    (s.writeHead d c p head rec).1.noData = s.noData := noData_tideWrite s d c _ _

end Sys2Proof.Machine.State

/-! SUPPORT. Segments that arrive: what the checks decide, and what a landed one leaves in its slot. -/
namespace Sys2Proof.Machine.State

open Sys2Proof.Claims

/-! ### A segment that arrives -/

/-- A counter raised, and nothing else changed. -/
theorem onlyPuts_bump (s : State) {f : Fd} (i x : Nat) (hf : f.spec.reg ≠ .GLB_TILE_RANK) (h32 : f.width = 32) :
    onlyPuts s (s.bump f i x 1) [(f, i, x, min (s.rd f i x + 1) (2 ^ 32 - 1))] := by
  have h := puts_wr (puts_nil s) i x (min (s.rd f i x + 1) (2 ^ 32 - 1)) hf
  have hb : s.bump f i x 1 = s.wr f i x (min (s.rd f i x + 1) (2 ^ 32 - 1)) := by
    unfold bump satNat; rw [h32]
  rw [hb]
  exact ⟨h, rfl⟩

theorem arriveSegment_off {s : State} {d c : Nat} (g : Seg) (h : s.tideOn d c = false) : s.arriveSegment d c g = s := by
  simp [arriveSegment, h]

/-- A segment put behind those held for the next step (R52). -/
def holdSegment (s : State) (d c : Nat) (g : Seg) : State :=
  s.setTctx d c { s.tctx d c with held := (s.tctx d c).held ++ [g] }

theorem arriveSegment_behind {s : State} {d c : Nat} (g : Seg) (h : s.tideOn d c = true) (hh : (s.tctx d c).held ≠ []) :
    s.arriveSegment d c g = s.holdSegment d c g := by
  simp [arriveSegment, h, hh, holdSegment]

theorem arriveSegment_first {s : State} {d c : Nat} (g : Seg) (h : s.tideOn d c = true) (hh : (s.tctx d c).held = []) :
    s.arriveSegment d c g = s.judgeSegment d c g := by
  simp [arriveSegment, h, hh]

theorem judgeSegment_unsound {s : State} {d c : Nat} {g : Seg}
    (h : ¬(Hdr.sound g.head = true ∧ Hdr.job g.head = s.rd .TIDE_JOB_JOB d)) :
    s.judgeSegment d c g = s.tideErr eHeader d c (Hdr.lap g.head) 0xFFFFFFFF true := by
  unfold judgeSegment
  rw [if_pos]
  simpa [← not_and_or, imp_iff_not_or] using h

/-- A sound segment of the job is judged by its step (R52). -/
theorem judgeSegment_sound {s : State} {d c : Nat} {g : Seg}
    (h : Hdr.sound g.head = true ∧ Hdr.job g.head = s.rd .TIDE_JOB_JOB d) :
    s.judgeSegment d c g =
      if Hdr.tidemark g.head = s.tidemark then
        if Hdr.attempt g.head = s.rd .TIDE_ATTEMPT_ATTEMPT d ∧ (s.tctx d c).voided = false then s.acceptSegment d c g
        else s.bump .TIDE_SD_STALE_COUNT d c 1
      else if Hdr.tidemark g.head = s.tidemark + 1 then s.holdSegment d c g
      else s.tideErr eHeader d c (Hdr.lap g.head) 0xFFFFFFFF true := by
  unfold judgeSegment
  dsimp only
  rw [if_neg (by simp [h.1, h.2])]
  rfl

/-- Off a folded strand no other context shares a landing buffer (R58). -/
theorem slotShared_of_not_folded {s : State} {d : Nat} (h : s.tideFolded d = false) (c p : Nat) :
    s.slotShared d c p = false := by
  simp [slotShared, storeUsers, h]

/-- A wanted forward segment that finds its slot free is landed there, and goes on cut-through inside the window (R42, R47). -/
theorem acceptSegment_forward {s : State} {d c : Nat} {g : Seg} (hr : Hdr.resend g.head = false)
    (hb : Hdr.isBackward g.head = false) (he : Hdr.expert g.head = false) (hf : s.tideFolded d = false)
    (hs : (SMap.find (s.tctx d c).slots ⟨Hdr.lap g.head % s.tideW d c, 0, 0⟩).isSome = false) :
    s.acceptSegment d c g = s.placeSegment d c g
      (s.arriveSlot d c g.head .arriving true .yes (if Hdr.home g.head = s.tideDown d c then .none else .due))
      (decide (Hdr.lap g.head < s.downMark d c + s.tideW d c ∧ ¬Hdr.home g.head = s.tideDown d c)) := by
  have hw : s.wantNow d c g.head = .yes := by simp [wantNow, he]
  have hl : s.visitLands d c g.head = true := by simp [visitLands, hf]
  unfold acceptSegment
  simp [hb, hr, hs, hw, hl, slotShared_of_not_folded hf, beq_eq_decide]

/-- A segment put into the cut-through queue (R47). -/
def queueCut (s : State) (d c : Nat) (g : Seg) : State :=
  s.setTctx d c { s.tctx d c with cut := (s.tctx d c).cut ++ [g] }

theorem placeSegment_eq {s v : State} {d c : Nat} {g : Seg} {x : Slot} (cut : Bool) (hl : x.lands = true)
    (hv : s.landSegment d c g = (v, true)) :
    s.placeSegment d c g x cut =
      (if cut then (v.setSlot d c { x with bad := false }).queueCut d c g else v.setSlot d c { x with bad := false }).settle d c := by
  unfold placeSegment
  simp [hl, hv, queueCut]

/-- A segment landed and not finished stands in its slot, and in the cut-through queue where it was put there. -/
theorem placeSegment_lands {s v : State} {d c : Nat} {g : Seg} {x : Slot} (cut : Bool) (hl : x.lands = true)
    (hv : s.landSegment d c g = (v, true)) (hx : ∀ u : State, u.slotFinished d c { x with bad := false } = false) :
    (s.placeSegment d c g x cut).mem = v.mem ∧
    SMap.find ((s.placeSegment d c g x cut).tctx d c).slots ⟨x.p % v.tideW d c, 0, 0⟩ = some { x with bad := false } ∧
    ((s.placeSegment d c g x cut).tctx d c).cut = if cut then (v.tctx d c).cut ++ [g] else (v.tctx d c).cut := by
  have hset := tctx_setSlot v d c { x with bad := false }
  have hmem := (Calm.setSlot v d c { x with bad := false }).mem
  rw [placeSegment_eq cut hl hv]
  generalize v.setSlot d c { x with bad := false } = w at hset hmem
  have hq : (if cut then w.queueCut d c g else w).mem = v.mem ∧
      SMap.find ((if cut then w.queueCut d c g else w).tctx d c).slots ⟨x.p % v.tideW d c, 0, 0⟩ =
        some { x with bad := false } ∧
      ((if cut then w.queueCut d c g else w).tctx d c).cut = if cut then (v.tctx d c).cut ++ [g] else (v.tctx d c).cut := by
    cases cut
    · exact ⟨hmem, by rw [if_neg (by decide), hset]; exact SMap.find_insert_self _ _ _,
        by rw [if_neg (by decide), hset]; rfl⟩
    · have ht : (w.queueCut d c g).tctx d c = { w.tctx d c with cut := (w.tctx d c).cut ++ [g] } :=
        tctx_setTctx_self w d c _
      exact ⟨hmem, by rw [if_pos rfl, ht, hset]; exact SMap.find_insert_self _ _ _, by rw [if_pos rfl, ht, hset]; rfl⟩
  generalize (if cut then w.queueCut d c g else w) = y at hq
  obtain ⟨hqm, hqs, hqc⟩ := hq
  obtain ⟨done, reported, ht⟩ := tctx_settle y d c
  refine ⟨(Calm.settle y d c).mem.trans hqm, ?_, ?_⟩
  · rw [ht]; exact find_unfinished hqs (hx y)
  · rw [ht]; exact hqc

/-- A slot that waits for its writes is not finished (R39). -/
theorem slotFinished_arriving {s : State} {d c : Nat} {x : Slot} (hs : x.state = .arriving) (hi : x.installed = false) :
    s.slotFinished d c x = false := by
  simp [slotFinished, hs, hi]

/-- A segment that meets none held before it is judged. -/
theorem exec_segmentArrive_first {s : State} {d c : Nat} (g : Seg) (hc : s.hasTide d c = true) (hfree : stacksFree s)
    (hon : s.tideOn d c = true) (hheld : (s.tctx d c).held = []) :
    exec (.segmentArrive d c g) s = answer s (s.judgeSegment d c g) := by
  rw [exec_segmentArrive hc g, tideStep_free hfree, arriveSegment_first g hon hheld]

/-- A wanted forward segment of this step and attempt: landed in its slot, and queued for cut-through inside the window
(R42, R47, R48). -/
theorem judgeSegment_forward {s v : State} {d c : Nat} {g : Seg}
    (hsound : Hdr.sound g.head = true ∧ Hdr.job g.head = s.rd .TIDE_JOB_JOB d) (htm : Hdr.tidemark g.head = s.tidemark)
    (hatt : Hdr.attempt g.head = s.rd .TIDE_ATTEMPT_ATTEMPT d) (hvoid : (s.tctx d c).voided = false)
    (hr : Hdr.resend g.head = false) (hb : Hdr.isBackward g.head = false) (he : Hdr.expert g.head = false)
    (hf : s.tideFolded d = false)
    (hs : (SMap.find (s.tctx d c).slots ⟨Hdr.lap g.head % s.tideW d c, 0, 0⟩).isSome = false)
    (hland : s.landSegment d c g = (v, true)) :
    let x := s.arriveSlot d c g.head .arriving true .yes (if Hdr.home g.head = s.tideDown d c then .none else .due)
    (s.judgeSegment d c g).mem = v.mem ∧
    SMap.find ((s.judgeSegment d c g).tctx d c).slots ⟨Hdr.lap g.head % v.tideW d c, 0, 0⟩ = some x ∧
    ((s.judgeSegment d c g).tctx d c).cut =
      if Hdr.lap g.head < s.downMark d c + s.tideW d c ∧ ¬Hdr.home g.head = s.tideDown d c then (v.tctx d c).cut ++ [g]
      else (v.tctx d c).cut := by
  intro x
  rw [judgeSegment_sound hsound, if_pos htm, if_pos ⟨hatt, hvoid⟩, acceptSegment_forward hr hb he hf hs]
  have h := placeSegment_lands (x := x)
    (decide (Hdr.lap g.head < s.downMark d c + s.tideW d c ∧ ¬Hdr.home g.head = s.tideDown d c)) rfl hland
    fun u => slotFinished_arriving rfl rfl
  simp only [decide_eq_true_eq] at h
  exact h

end Sys2Proof.Machine.State

namespace Sys2Proof

open Machine Machine.State Claims

/-- Settles O21: the rows of R52 one by one, and the landing of R42 and R47. -/
theorem segmentsArrive : Obligations.SegmentsArrive := by
  unfold Obligations.SegmentsArrive
  intro s d c g hc
  refine ⟨fun h => ?_, fun hfree hon h => ⟨s.holdSegment d c g, ?_, rfl⟩, fun hfree hon hheld hsound htm h => ?_,
    fun hfree hon hheld h => ?_,
    fun v hfree hon hheld hvoid hsound htm hatt hres hback hexp hfold hslot hland => ?_⟩
  · rw [exec_segmentArrive hc g]
    rcases h with hoff | hbusy
    · rw [arriveSegment_off g hoff, tideStep_self]; rfl
    · rw [tideStep_held hbusy]; rfl
  · by_cases hheld : (s.tctx d c).held = []
    · obtain ⟨hsound, htm⟩ := h.resolve_left (not_not.2 hheld)
      rw [exec_segmentArrive_first g hc hfree hon hheld, judgeSegment_sound hsound, if_neg (by omega), if_pos htm]
      rfl
    · rw [exec_segmentArrive hc g, tideStep_free hfree, arriveSegment_behind g hon hheld]
      rfl
  · have hput := onlyPuts_bump s (f := .TIDE_SD_STALE_COUNT) d c (by decide) rfl
    have hstale : ¬(Hdr.attempt g.head = s.rd .TIDE_ATTEMPT_ATTEMPT d ∧ (s.tctx d c).voided = false) :=
      fun ⟨ha, hv⟩ => h.elim (fun hne => hne ha) (fun ht => by simp [ht] at hv)
    refine ⟨_, ?_, hput⟩
    rw [exec_segmentArrive_first g hc hfree hon hheld, judgeSegment_sound hsound, if_pos htm, if_neg hstale,
      answer_of_onlyPuts hput]
  · rw [exec_segmentArrive_first g hc hfree hon hheld, judgeSegment_unsound h]
    exact answer_tideErr s d c _ _ true (by decide) (f := .TIDE_ERR_STATUS_HEADER) rfl rfl
  · obtain ⟨hmem, hfind, hcut⟩ := judgeSegment_forward hsound htm hatt hvoid hres hback hexp hfold hslot hland
    exact ⟨_, _, exec_segmentArrive_first g hc hfree hon hheld, hfind, rfl, rfl, rfl, rfl, rfl, rfl, hmem, hcut⟩

end Sys2Proof

/-! SUPPORT. Fields of words replaced, and the header of a resent copy. -/
namespace Sys2Proof.Machine

/-! ### Fields of words -/

/-- A field replaced: what lies below it stays, and it reads as what was put there. -/
theorem withBits_eq (v hi lo x : Nat) : withBits v hi lo x =
    v % 2 ^ lo + 2 ^ lo * (2 ^ (hi + 1 - lo) * (v / 2 ^ lo / 2 ^ (hi + 1 - lo)) + x % 2 ^ (hi + 1 - lo)) := by
  unfold withBits
  have hv := Nat.div_add_mod v (2 ^ lo)
  have hq := Nat.div_add_mod (v / 2 ^ lo) (2 ^ (hi + 1 - lo))
  generalize v / 2 ^ lo = q at *
  generalize v % 2 ^ lo = r at *
  generalize 2 ^ (hi + 1 - lo) = m at *
  have hqm : 2 ^ lo * q = 2 ^ lo * (m * (q / m)) + q % m * 2 ^ lo := by
    rw [Nat.mul_comm (q % m), ← Nat.mul_add, hq]
  rw [Nat.mul_add, Nat.mul_comm (2 ^ lo) (x % m)]
  omega

theorem withBits_mod (v hi lo x : Nat) : withBits v hi lo x % 2 ^ lo = v % 2 ^ lo := by
  rw [withBits_eq, Nat.add_mul_mod_self_left, Nat.mod_mod]

theorem bits_withBits_self (v hi lo x : Nat) : bits (withBits v hi lo x) hi lo = x % 2 ^ (hi + 1 - lo) := by
  unfold bits
  rw [withBits_eq, Nat.add_mul_div_left _ _ (Nat.two_pow_pos lo), Nat.div_eq_of_lt (Nat.mod_lt _ (Nat.two_pow_pos lo)),
    Nat.zero_add, Nat.mul_add_mod, Nat.mod_mod]

theorem hasBit_eq_testBit (v i : Nat) : hasBit v i = v.testBit i := by
  rw [Nat.testBit_eq_decide_div_mod_eq]; rfl

/-- A bit below the field replaced reads as before. -/
theorem hasBit_withBits_below (v hi x : Nat) {lo i : Nat} (h : i < lo) : hasBit (withBits v hi lo x) i = hasBit v i := by
  have hmod : ∀ n : Nat, hasBit n i = (n % 2 ^ lo).testBit i := fun n => by
    rw [hasBit_eq_testBit, Nat.testBit_mod_two_pow]; simp [h]
  rw [hmod, withBits_mod, ← hmod]

theorem hasBit_setBit_self (v i : Nat) : hasBit (setBit v i) i = true := by
  have h : bit (withBits v i i 1) i = 1 := bit_withBits_self v i 1
  simpa [setBit, hasBit, bit] using h

theorem bits_lt (v hi lo : Nat) : bits v hi lo < 2 ^ (hi + 1 - lo) := Nat.mod_lt _ (Nat.two_pow_pos _)

/-! ### The header of a resent copy (R82) -/

/-- The map of a header that is sealed. -/
theorem Hdr.mapEntry_sealWords (a0 a1 a2 a3 a4 a5 a6 : Nat) (map : List Nat) {k : Nat} (hk : k < 16)
    (hm : map.length = 16) : Hdr.mapEntry (Hdr.sealWords [a0, a1, a2, a3, a4, a5, a6] map) k = map.getD k 0 := by
  have ht : map.take 16 = map := List.take_of_length_le (by omega)
  have hs : Hdr.sealWords [a0, a1, a2, a3, a4, a5, a6] map =
      [a0, a1, a2, a3, a4, a5, a6, Hdr.check (a0 :: a1 :: a2 :: a3 :: a4 :: a5 :: a6 :: 0 :: map) * 2 ^ 32] ++
        (map ++ List.replicate 8 0) := by
    conv_rhs => rw [← ht]
    rfl
  unfold Hdr.mapEntry hw
  rw [hs, List.getD_append_right _ _ _ _ (by simp)]
  simp only [List.length_cons, List.length_nil]
  rw [show 8 + k - (0 + 1 + 1 + 1 + 1 + 1 + 1 + 1 + 1) = k by omega, List.getD_append _ _ _ _ (by omega)]

/-- Sealing changes neither the first word of a header nor the sixth. -/
theorem Hdr.first_sealWords (a0 : Nat) (ws map : List Nat) : hw (Hdr.sealWords (a0 :: ws) map) 0 = a0 := rfl

theorem Hdr.sixth_sealWords (a0 a1 a2 a3 a4 a5 : Nat) (ws map : List Nat) :
    hw (Hdr.sealWords (a0 :: a1 :: a2 :: a3 :: a4 :: a5 :: ws) map) 5 = a5 := rfl

/-- The header of a resent copy of weight blocks: RESEND, TARGET and RESEND_MASK set, with its own counts and map. -/
def copyHead (h : List Nat) (pay : List Byte) (mask target : Nat) : List Nat :=
  let r := State.pickBlocks h pay mask
  Hdr.sealWords [withBits (setBit (hw h 0) 14) 37 28 target, hw h 1, hw h 2, hw h 3,
    withBits (withBits (hw h 4) 39 32 (r.2.length / 256 - 1)) 50 40 0, withBits (hw h 5) 15 0 mask, hw h 6] r.1

theorem resend_copyHead (h : List Nat) (pay : List Byte) (mask target : Nat) :
    Hdr.resend (copyHead h pay mask target) = true := by
  unfold Hdr.resend copyHead
  rw [Hdr.first_sealWords, hasBit_withBits_below _ _ _ (by decide), hasBit_setBit_self]

theorem target_copyHead (h : List Nat) (pay : List Byte) (mask target : Nat) :
    Hdr.target (copyHead h pay mask target) = target % 1024 := by
  unfold Hdr.target copyHead
  rw [Hdr.first_sealWords, bits_withBits_self, show 2 ^ (37 + 1 - 28) = 1024 from rfl]

theorem resendMask_copyHead (h : List Nat) (pay : List Byte) (target : Nat) {mask : Nat} (hm : mask < 2 ^ 16) :
    Hdr.resendMask (copyHead h pay mask target) = mask := by
  unfold Hdr.resendMask copyHead
  rw [Hdr.sixth_sealWords, bits_withBits_self]
  exact Nat.mod_eq_of_lt hm

theorem lap_copyHead (h : List Nat) (pay : List Byte) (mask target : Nat) :
    Hdr.lap (copyHead h pay mask target) = Hdr.lap h := rfl

/-- The entries that are picked are present, and no other. -/
theorem present_pickBlocks (h : List Nat) (pay : List Byte) (mask : Nat) :
    (State.pickBlocks h pay mask).1.map MapEntry.present =
      (List.range 16).map fun n => hasBit mask n && MapEntry.present (Hdr.mapEntry h n) := by
  have hfold : ∀ (ns : List Nat) (r : List Nat × List Byte), (ns.foldl (fun (r : List Nat × List Byte) n =>
      let e := Hdr.mapEntry h n
      if hasBit mask n && MapEntry.present e then
        (r.1 ++ [withBits e 27 16 (r.2.length / 16)],
         r.2 ++ padTo 16 ((pay.drop (16 * MapEntry.offset e)).take (MapEntry.bytes e)))
      else (r.1 ++ [0], r.2)) r).1.map MapEntry.present =
        r.1.map MapEntry.present ++ ns.map fun n => hasBit mask n && MapEntry.present (Hdr.mapEntry h n) := by
    intro ns
    induction ns with
    | nil => intro r; simp
    | cons n ns ih =>
      intro r
      rw [List.foldl_cons, ih]
      dsimp only
      split
      · rename_i hp
        have he : MapEntry.present (withBits (Hdr.mapEntry h n) 27 16 (r.2.length / 16)) = true :=
          (hasBit_withBits_below _ _ _ (by decide)).trans (Bool.and_eq_true_iff.1 hp).2
        simp [he, hp]
      · rename_i hp
        have he : MapEntry.present 0 = false := rfl
        rw [Bool.not_eq_true] at hp
        simp [he, hp]
  exact hfold (List.range 16) ([], [])

theorem present_copyHead (h : List Nat) (pay : List Byte) (mask target : Nat) {k : Nat} (hk : k < 16) :
    MapEntry.present (Hdr.mapEntry (copyHead h pay mask target) k) =
      (hasBit mask k && MapEntry.present (Hdr.mapEntry h k)) := by
  have hp := present_pickBlocks h pay mask
  have hlen : (State.pickBlocks h pay mask).1.length = 16 := by
    have h := congrArg List.length hp
    simpa using h
  have hget := congrArg (fun l => l.getD k false) hp
  rw [copyHead, Hdr.mapEntry_sealWords _ _ _ _ _ _ _ _ hk hlen, List.getD_eq_getElem _ _ (by omega)]
  simpa [List.getD_eq_getElem?_getD, hk, hlen] using hget

end Sys2Proof.Machine

/-! SUPPORT. Releases, the messages of the tide, and its timers. -/
namespace Sys2Proof.Machine.State

open Sys2Proof.Claims

/-- An answer depends on the command's state only by what is pending and by the fuses. -/
theorem answer_congr {s w : State} (hp : w.pending = s.pending) (hf : w.fuses = s.fuses) (u : State) :
    answer s u = answer w u := by unfold answer; rw [hp, hf]

theorem next_of_noSend {s u : State} (h : u.noSend = s.noSend) : answer s u = .next u :=
  answer_eq (by have h := congrArg State.pending h; exact h) (by have h := congrArg State.fuses h; exact h)

/-! ### Releases -/

theorem Sends.engineErr (s : State) (n d ctx lap : Nat) : Sends s (s.engineErr n d ctx lap) := by
  have h : Sends s (s.tideInfoOf d ctx lap 0) :=
    ⟨noSend_of_noTideRec (noTideRec_tideInfoOf s d ctx lap 0), fun f i x hf =>
      rd_tideInfoOf s d ctx lap 0 f i x fun e => hf (e ▸ by decide)⟩
  exact h.trans (Sends.report _ _)

theorem exec_tideRelease {s : State} {src : Source} {i v : Nat} (h : takes s src ⟨.TIDE_RELEASE, i, 0⟩ v) :
    exec (.tideRelease src i v) s = answer s (s.releaseLap i (fv .TIDE_RELEASE_STRAND v) (fv .TIDE_RELEASE_DIR v)
      (fv .TIDE_RELEASE_LAP_POS v)) := answerIf_writeWhole h

section
variable {s : State} {strand dir d c p : Nat} {x : Slot}

/-- A release that is not the last one is counted (R50). -/
theorem releaseLap_counted (i : Nat) (hctx : s.tideFind strand dir = some (d, c))
    (hfind : SMap.find (s.tctx d c).slots ⟨p % s.tideW d c, 0, 0⟩ = some x) (hp : x.p = p) (hs : x.state = .signalled)
    (hmore : x.releases + 1 < s.classReleases (Hdr.lclass x.head)) :
    s.releaseLap i strand dir p = s.setSlot d c { x with releases := x.releases + 1 } := by
  unfold releaseLap
  simp only [hctx, hfind]
  rw [if_neg (by simp [hs, hp]; omega), if_pos hmore]

/-- The last release lets the slot drain (R50, R51). -/
theorem releaseLap_last (i : Nat) (hctx : s.tideFind strand dir = some (d, c))
    (hfind : SMap.find (s.tctx d c).slots ⟨p % s.tideW d c, 0, 0⟩ = some x) (hp : x.p = p) (hs : x.state = .signalled)
    (hlast : x.releases + 1 = s.classReleases (Hdr.lclass x.head)) :
    s.releaseLap i strand dir p = (s.setSlot d c { x with
      releases := x.releases + 1, state := .draining,
      onward := if Hdr.isBackward x.head = true ∧ x.home = false then .due else x.onward }).settle d c := by
  unfold releaseLap
  simp only [hctx, hfind]
  rw [if_neg (by simp [hs, hp]; omega), if_neg (by omega)]
  simp

/-- A release that no signalled slot takes is an error of its context (R50). -/
theorem releaseLap_refused (i : Nat) (hctx : s.tideFind strand dir = some (d, c))
    (hno : ∀ x, SMap.find (s.tctx d c).slots ⟨p % s.tideW d c, 0, 0⟩ = some x →
      x.p ≠ p ∨ x.state ≠ .signalled ∨ s.classReleases (Hdr.lclass x.head) ≤ x.releases) :
    ∃ detail, s.releaseLap i strand dir p = s.tideErr eRelease d c p detail false := by
  unfold releaseLap
  simp only [hctx]
  split
  · exact ⟨0, rfl⟩
  · rename_i y hy
    refine ⟨y.releases, if_pos ?_⟩
    rcases hno y hy with h | h | h
    · exact .inr (.inl h)
    · exact .inl h
    · exact .inr (.inr h)

theorem releaseLap_nobody (i : Nat) (hctx : s.tideFind strand dir = none) :
    s.releaseLap i strand dir p = s.engineErr eRelease i (dir * 4 + strand) p := by
  unfold releaseLap; simp only [hctx]

end

theorem Calm.releaseLap (s : State) (i strand dir p : Nat) : Calm s (s.releaseLap i strand dir p) := by
  unfold State.releaseLap
  split
  · exact (Sends.engineErr _ _ _ _ _).calm
  · split
    · exact (Sends.tideErr _ _ _ _ _ _ _).calm
    · dsimp only
      split
      · exact (Sends.tideErr _ _ _ _ _ _ _).calm
      · split
        · exact setSlot _ _ _ _
        · exact (setSlot _ _ _ _).trans (settle _ _ _)

/-- TIDE.REL stores its operand to TIDE_RELEASE of I/O die 0 once the instruction has retired (R99). -/
theorem exec_tideRel {s : State} {t c n rs1 : Nat} (h : runs s t c (.tideRel rs1) n) :
    exec (.tideRel t) s = answer s (((s.takeCore t c).retire t c n).storeReg t c
      (RegRef.mk .TIDE_RELEASE 0 0).offset 4 (s.x t c rs1).toNat) := by
  obtain ⟨ht, -, hi⟩ := h
  refine (answerIf_true (hasTile_of ht)).trans ?_
  rw [onCoreDo_eq hi]
  rfl

/-- A store of a context to TIDE_RELEASE that reaches it is a release. -/
theorem storeReg_release {w : State} {t c v : Nat} (h : takes w (.ctx t c) ⟨.TIDE_RELEASE, 0, 0⟩ v) :
    w.storeReg t c (RegRef.mk .TIDE_RELEASE 0 0).offset 4 v = w.releaseLap 0 (fv .TIDE_RELEASE_STRAND v)
      (fv .TIDE_RELEASE_DIR v) (fv .TIDE_RELEASE_LAP_POS v) := by
  obtain ⟨-, -, hmir, hinst, hshut, hlock, htide, hres⟩ := h
  have hwrite : w.writeMap (.ctx t c) (RegRef.mk .TIDE_RELEASE 0 0).offset 4 v =
      (w.releaseLap 0 (fv .TIDE_RELEASE_STRAND v) (fv .TIDE_RELEASE_DIR v) (fv .TIDE_RELEASE_LAP_POS v), none) := by
    rw [writeMap_word (fun h => (hmir h).1) (fun h => (hmir h).2) (by decide) (by decide),
      writePart_whole (r := ⟨.TIDE_RELEASE, 0, 0⟩) (by decide) (by decide),
      writeReg_effect _ (fun h => (hmir h).2) hinst hshut hlock htide hres]
    rfl
  unfold storeReg
  rw [hwrite]

theorem tideReleases : TideReleases := by
  refine ⟨fun s src i v h => ?_, fun s t c n rs1 h => ?_⟩
  · have hexec := exec_tideRelease h
    refine ⟨fun d c x hctx hfind hp hs hmore => ?_, fun d c x hctx hfind hp hs hlast => ?_, fun d c hctx hno => ?_,
      fun hctx => ?_⟩
    · exact ⟨_, by rw [hexec, releaseLap_counted i hctx hfind hp hs hmore, (Calm.setSlot s d c _).next], rfl⟩
    · rw [hexec, releaseLap_last i hctx hfind hp hs hlast]
      exact Calm.next ((Calm.setSlot s d c _).trans (Calm.settle _ d c))
    · obtain ⟨detail, hr⟩ := releaseLap_refused i hctx hno
      rw [hexec, hr]
      exact answer_tideErr s d c _ detail false (by decide) (f := .TIDE_ERR_STATUS_RELEASE) rfl rfl
    · have hk := noTideRec_engineErr s eRelease i (fv .TIDE_RELEASE_DIR v * 4 + fv .TIDE_RELEASE_STRAND v)
        (fv .TIDE_RELEASE_LAP_POS v)
      rw [hexec, releaseLap_nobody i hctx]
      exact ⟨_, next_of_noTideRec hk, flag_engineErr_self s i _ _ (by decide) (f := .TIDE_ERR_STATUS_RELEASE) rfl rfl,
        rd_engineErr_void s _ _ _ _, hk⟩
  · refine ⟨(s.takeCore t c).retire t c n, ⟨fun t' c' hne => ?_, rfl⟩, ?_, fun hw => ?_⟩
    · rw [ctx_retire, if_neg hne, ctx_takeCore]
    · rw [ctx_retire, if_pos ⟨rfl, rfl⟩, ctx_takeCore]; rfl
    · rw [exec_tideRel h, storeReg_release hw]
      rw [← (Calm.releaseLap _ _ _ _ _).next]
      exact answer_congr (w := (s.takeCore t c).retire t c n) rfl rfl _

/-! ### CREDIT, RESEND and the timers -/

theorem exec_credit {s : State} {d c : Nat} (hc : s.hasTide d c = true) (ws : List Nat) :
    exec (.credit d c ws) s = answer s (s.tideMessage 0x01 d c ws fun s => s.takeCredit d c ws) := answerIf_true hc

theorem exec_resend {s : State} {d c : Nat} (hc : s.hasTide d c = true) (ws : List Nat) (n : Nat) :
    exec (.resend d c ws n) s = answer s (s.tideMessage 0x02 d c ws fun s => s.tideStep (s.takeResend d c ws n)) :=
  answerIf_true hc

theorem exec_creditTimer {s : State} {d c : Nat} (hc : s.hasTide d c = true) :
    exec (.creditTimer d c) s = answer s (s.creditTimer d c) := answerIf_true hc

theorem exec_tideStallTimeout {s : State} {d c : Nat} (hc : s.hasTide d c = true) :
    exec (.tideStallTimeout d c) s = answer s (s.tideStall d c) := answerIf_true hc

section
variable {s : State} {d c : Nat} {ws : List Nat}

theorem tideMessage_bad (type : Nat) (f : State → State) (h : Msg.checkOk ws = false) :
    s.tideMessage type d c ws f = s.badMessage ws := by simp [tideMessage, h]

theorem tideMessage_off (type : Nat) (f : State → State) (h : Msg.checkOk ws = true) (hon : s.tideOn d c = false) :
    s.tideMessage type d c ws f = s := by simp [tideMessage, h, hon]

theorem tideMessage_taken {type : Nat} (f : State → State) (h : Msg.checkOk ws = true) (ht : Msg.type ws = type)
    (hon : s.tideOn d c = true) (hctx : s.forContext d c ws = true) : s.tideMessage type d c ws f = f s := by
  simp [tideMessage, h, ht, hon, hctx]

/-- A bad message is one report, which voids the step. -/
theorem answer_badMessage (s : State) (ws : List Nat) :
    ∃ u, answer s (s.badMessage ws) = .next u ∧ reports s u 0x0A 6 0xFFFF true :=
  ⟨_, next_of_noTideRec (noTideRec_report s _), _, rfl, rfl, rfl, rfl, rfl⟩

/-- A mark above the one known is taken, and memory stays. -/
theorem applyCredit_above {m : Nat} (h : s.downMark d c < m) (hm : m < 2 ^ 26) :
    (s.applyCredit d c m).downMark d c = m ∧ Calm (s.wr .TIDE_SD_MARKS_DOWN_MARK d c m) (s.applyCredit d c m) := by
  have hk := Calm.settle (s.wr .TIDE_SD_MARKS_DOWN_MARK d c m) d c
  have ha : s.applyCredit d c m = (s.wr .TIDE_SD_MARKS_DOWN_MARK d c m).settle d c := if_neg (Nat.not_le.2 h)
  rw [ha]
  refine ⟨?_, hk⟩
  have hr := hk.rd .TIDE_SD_MARKS_DOWN_MARK d c (by decide)
  rw [rd_wr_self] at hr
  exact hr.trans (Nat.mod_eq_of_lt hm)

theorem mark_lt (ws : List Nat) : Msg.mark ws < 2 ^ 26 := bits_lt _ 57 32

theorem takeCredit_stale (h : Msg.tidemark ws = s.tidemark)
    (hv : Msg.attempt ws ≠ s.rd .TIDE_ATTEMPT_ATTEMPT d ∨ (s.tctx d c).voided = true) :
    s.takeCredit d c ws = s.bump .TIDE_SD_STALE_COUNT d c 1 := by
  unfold takeCredit
  rw [if_neg (by omega), if_neg]
  rintro ⟨-, ha, hn⟩
  rcases hv with h | h
  · exact h ha
  · rw [hn] at h; cases h

theorem takeCredit_now (h : Msg.tidemark ws = s.tidemark) (ha : Msg.attempt ws = s.rd .TIDE_ATTEMPT_ATTEMPT d)
    (hv : (s.tctx d c).voided = false) : s.takeCredit d c ws = s.applyCredit d c (Msg.mark ws) := by
  unfold takeCredit
  rw [if_neg (by omega), if_pos ⟨h, ha, hv⟩]

theorem takeResend_onward (n : Nat) (h : Msg.tidemark ws = s.tidemark) (ha : Msg.attempt ws = s.rd .TIDE_ATTEMPT_ATTEMPT d)
    (hv : (s.tctx d c).voided = false) (hd : Msg.tideDest ws ≠ s.tidePos d c) :
    s.takeResend d c ws n = s.originate (s.rd .TIDE_SD_CFG_RX_PORT d c) cSignal 1 none [] ws := by
  unfold takeResend
  rw [if_neg (by simp [h, ha, hv]), if_pos hd]

/-- Weight blocks asked of the package that injected the lap (R60, R82). -/
theorem takeResend_weights (n : Nat) {l : Injected} (h : Msg.tidemark ws = s.tidemark)
    (ha : Msg.attempt ws = s.rd .TIDE_ATTEMPT_ATTEMPT d) (hv : (s.tctx d c).voided = false)
    (hd : Msg.tideDest ws = s.tidePos d c) (hacc : hasBit (Msg.acc ws) 15 = false)
    (hl : (s.tctx d c).laps.find? (fun l => l.p == Msg.lap ws) = some l) :
    s.takeResend d c ws n = s.resendWeights d c (Msg.blocks ws) n l := by
  unfold takeResend
  rw [if_neg (by simp [h, ha, hv]), if_neg (by simp [hd])]
  simp [hacc, hl]

/-- The copy that a request for weight blocks sends. -/
theorem resendWeights_sends (mask n : Nat) {l : Injected} {v : State} {pay : List Byte}
    (h : s.tideRead d c l.addr (256 * Hdr.payloadFlits l.head) = (v, .ok pay)) :
    s.resendWeights d c mask n l =
      v.sendSegment d c ⟨copyHead l.head pay mask n, (pickBlocks l.head pay mask).2, [], 0, 0, [], []⟩ true := by
  unfold resendWeights
  rw [h]
  rfl

theorem creditTimer_due (hon : s.tideOn d c = true) (h : (s.tctx d c).reported < s.ownMark d c) :
    s.creditTimer d c = s.sendCredit d c := if_pos ⟨hon, h⟩

theorem creditTimer_idle (h : s.tideOn d c = false ∨ s.ownMark d c ≤ (s.tctx d c).reported) :
    s.creditTimer d c = s := by
  refine if_neg ?_
  rintro ⟨hon, hlt⟩
  rcases h with h | h
  · rw [hon] at h; cases h
  · omega

end

theorem tideMessages : TideMessages := by
  intro s d c hc
  refine ⟨fun ws hbad => ⟨?_, fun n => ?_⟩, fun ws hok hoff => ⟨?_, fun n => ?_⟩,
    fun ws hok htype hon hctx => ⟨fun htm => ?_, fun htm ha hv => ⟨fun hle => ?_, fun hlt => ?_⟩, fun htm hv => ?_⟩,
    fun ws n hok htype hon hctx hfree htm ha hv => ⟨fun hd => ?_, fun l v pay hd hacc hl hread => ?_⟩,
    fun hon hlt => ?_, fun h => ?_, fun hact => ?_, fun hact => ?_⟩
  · rw [exec_credit hc, tideMessage_bad _ _ hbad]; exact answer_badMessage s ws
  · rw [exec_resend hc, tideMessage_bad _ _ hbad]; exact answer_badMessage s ws
  · rw [exec_credit hc, tideMessage_off _ _ hok hoff, answer_self]
  · rw [exec_resend hc, tideMessage_off _ _ hok hoff, answer_self]
  · refine ⟨_, ?_, rfl⟩
    rw [exec_credit hc, tideMessage_taken _ hok htype hon hctx]
    unfold takeCredit
    rw [if_pos htm]
    exact (Calm.setTctx s d c _).next
  · rw [exec_credit hc, tideMessage_taken _ hok htype hon hctx, takeCredit_now htm ha hv]
    unfold applyCredit
    rw [if_pos hle, answer_self]
  · obtain ⟨hdown, hcalm⟩ := applyCredit_above hlt (mark_lt ws)
    refine ⟨_, ?_, hdown, hcalm.mem⟩
    rw [exec_credit hc, tideMessage_taken _ hok htype hon hctx, takeCredit_now htm ha hv]
    exact (answer_congr rfl rfl _).trans hcalm.next
  · have hput := onlyPuts_bump s (f := .TIDE_SD_STALE_COUNT) d c (by decide) rfl
    refine ⟨_, ?_, hput⟩
    rw [exec_credit hc, tideMessage_taken _ hok htype hon hctx, takeCredit_stale htm hv]
    exact answer_of_onlyPuts hput
  · rw [exec_resend hc, tideMessage_taken _ hok htype hon hctx, tideStep_free hfree, takeResend_onward n htm ha hv hd]
    exact (Sends.originate _ _ _ _ _ _ _ _ _).calm.next
  · have hk := noTideRec_tideRead s d c l.addr (256 * Hdr.payloadFlits l.head)
    rw [hread] at hk
    refine ⟨_, copyHead l.head pay (Msg.blocks ws) n, ?_, resend_copyHead _ _ _ _, target_copyHead _ _ _ _,
      resendMask_copyHead _ _ _ (bits_lt _ 47 32), lap_copyHead _ _ _ _, fun k hk => present_copyHead _ _ _ _ hk, rfl⟩
    rw [exec_resend hc, tideMessage_taken _ hok htype hon hctx, tideStep_free hfree,
      takeResend_weights n htm ha hv hd hacc hl, resendWeights_sends _ n hread]
    have hs := Sends.sendSegment v d c ⟨copyHead l.head pay (Msg.blocks ws) n,
      (pickBlocks l.head pay (Msg.blocks ws)).2, [], 0, 0, [], []⟩ true
    exact next_of_noSend (hs.rest.trans (noSend_of_noTideRec hk))
  · refine ⟨_, ?_, ?_, (Calm.sendCredit s d c).mem⟩
    · rw [exec_creditTimer hc, creditTimer_due hon hlt]
      exact (Calm.sendCredit s d c).next
    · rw [tctx_sendCredit]
  · rw [exec_creditTimer hc, creditTimer_idle h, answer_self]
  · rw [exec_tideStallTimeout hc]
    unfold tideStall
    rw [if_neg (by simp [hact]), answer_self]
  · rw [exec_tideStallTimeout hc]
    unfold tideStall
    rw [if_pos hact]
    exact answer_tideErr s d c _ _ false (by decide) (f := .TIDE_ERR_STATUS_STALL) rfl rfl

end Sys2Proof.Machine.State

namespace Sys2Proof

open Machine Machine.State Claims

/-- Settles O23, by saying what a release, a message and a timer do and that settling a context keeps memory and the marks
received. -/
theorem tideMessagesAndReleases : Obligations.TideMessagesAndReleases := ⟨tideReleases, tideMessages⟩

end Sys2Proof

/-! SUPPORT. TIDE_CTRL part by part, the loops over an engine's contexts, and the want table. -/
namespace Sys2Proof.Machine.State

open Sys2Proof.Claims

/-! ### TIDE_CTRL -/

/-- A write of TIDE_CTRL that reaches it. -/
theorem answerIf_tideCtrl {s : State} {src : Source} {d v : Nat} (h : takes s src ⟨.TIDE_CTRL, d, 0⟩ v) :
    answerIf (s.hasSource src) s (s.writeWhole src ⟨.TIDE_CTRL, d, 0⟩ v) = answer s (s.writeTideCtrl d v) :=
  answerIf_writeWhole h

/-- The value of TIDE_CTRL by its fields: MODE, PAUSE, VOID and ENABLE. -/
def ctrlWord (m p o e : Nat) : Nat := 64 * m + 32 * p + 16 * o + e

section
variable {m p o e : Nat}

theorem fv_mode (hm : m < 4) (hp : p < 2) (ho : o < 2) (he : e < 2) : fv .TIDE_CTRL_MODE (ctrlWord m p o e) = m := by
  show (64 * m + 32 * p + 16 * o + e) / 64 % 4 = m
  omega

theorem fv_pause (hp : p < 2) (ho : o < 2) (he : e < 2) : fv .TIDE_CTRL_PAUSE (ctrlWord m p o e) = p := by
  show (64 * m + 32 * p + 16 * o + e) / 32 % 2 = p
  omega

theorem fv_void (ho : o < 2) (he : e < 2) : fv .TIDE_CTRL_VOID (ctrlWord m p o e) = o := by
  show (64 * m + 32 * p + 16 * o + e) / 16 % 2 = o
  omega

theorem fv_enable (he : e < 2) : fv .TIDE_CTRL_ENABLE (ctrlWord m p o e) = e := by
  show (64 * m + 32 * p + 16 * o + e) / 1 % 2 = e
  omega

end

/-- The fields of an engine's TIDE_CTRL are in their ranges. -/
structure CtrlFields (s : State) (d : Nat) : Prop where
  mode : s.rd .TIDE_CTRL_MODE d < 4
  pause : s.rd .TIDE_CTRL_PAUSE d < 2
  enable : s.rd .TIDE_CTRL_ENABLE d < 2

theorem view_tideCtrl {s : State} {d : Nat} (hi : s.hasInst .TIDE d = true) {f : Fd}
    (hf : f ∈ [Fd.TIDE_CTRL_MODE, .TIDE_CTRL_PAUSE, .TIDE_CTRL_ENABLE]) : s.view f d 0 = s.rd f d := by
  have hsome : f.spec.reg.spec.block = .TIDE → f.spec.acc ≠ .wo →
      ¬((!s.hasInst f.spec.reg.spec.block d) = true ∨ f.spec.acc = .wo) := fun hb hw => by rw [hb, hi]; simp [hw]
  simp only [List.mem_cons, List.not_mem_nil, or_false] at hf
  rcases hf with rfl | rfl | rfl <;>
  · unfold view
    rw [if_neg (hsome rfl (by decide))]
    rfl

theorem heldValue_tideCtrl {s : State} {d : Nat} (hi : s.hasInst .TIDE d = true) (h : CtrlFields s d) :
    s.heldValue ⟨.TIDE_CTRL, d, 0⟩ = ctrlWord (s.rd .TIDE_CTRL_MODE d) (s.rd .TIDE_CTRL_PAUSE d) 0 (s.rd .TIDE_CTRL_ENABLE d) := by
  obtain ⟨hm, hp, he⟩ := h
  have hv : s.heldValue ⟨.TIDE_CTRL, d, 0⟩ = 0 + s.view .TIDE_CTRL_MODE d 0 % 2 ^ 2 * 2 ^ 6 +
    s.view .TIDE_CTRL_PAUSE d 0 % 2 ^ 1 * 2 ^ 5 + s.view .TIDE_CTRL_ENABLE d 0 % 2 ^ 1 * 2 ^ 0 := rfl
  rw [hv, view_tideCtrl hi (by decide), view_tideCtrl hi (by decide), view_tideCtrl hi (by decide)]
  unfold ctrlWord
  omega


theorem withField_enable {s : State} {d : Nat} (hi : s.hasInst .TIDE d = true) (h : CtrlFields s d) :
    withField s ⟨.TIDE_CTRL, d, 0⟩ .TIDE_CTRL_ENABLE 1 =
      ctrlWord (s.rd .TIDE_CTRL_MODE d) (s.rd .TIDE_CTRL_PAUSE d) 0 1 := by
  obtain ⟨hm, hp, he⟩ := h
  show withBits (s.heldValue ⟨.TIDE_CTRL, d, 0⟩) 0 0 1 = _
  rw [heldValue_tideCtrl hi ⟨hm, hp, he⟩]
  unfold withBits ctrlWord
  omega

theorem withField_pause {s : State} {d p : Nat} (hi : s.hasInst .TIDE d = true) (h : CtrlFields s d) (hp1 : p < 2) :
    withField s ⟨.TIDE_CTRL, d, 0⟩ .TIDE_CTRL_PAUSE p =
      ctrlWord (s.rd .TIDE_CTRL_MODE d) p 0 (s.rd .TIDE_CTRL_ENABLE d) := by
  obtain ⟨hm, hp, he⟩ := h
  show withBits (s.heldValue ⟨.TIDE_CTRL, d, 0⟩) 5 5 p = _
  rw [heldValue_tideCtrl hi ⟨hm, hp, he⟩]
  unfold withBits ctrlWord
  omega

theorem withField_void {s : State} {d : Nat} (hi : s.hasInst .TIDE d = true) (h : CtrlFields s d) :
    withField s ⟨.TIDE_CTRL, d, 0⟩ .TIDE_CTRL_VOID 1 =
      ctrlWord (s.rd .TIDE_CTRL_MODE d) (s.rd .TIDE_CTRL_PAUSE d) 1 (s.rd .TIDE_CTRL_ENABLE d) := by
  obtain ⟨hm, hp, he⟩ := h
  show withBits (s.heldValue ⟨.TIDE_CTRL, d, 0⟩) 4 4 1 = _
  rw [heldValue_tideCtrl hi ⟨hm, hp, he⟩]
  unfold withBits ctrlWord
  omega

/-! ### What control leaves alone -/

/-- Without what the control of an engine changes. -/
def noControl (s : State) : State := { s with regs := [], tctxs := [], dcache := [], books := [] }

theorem mem_wr (s : State) (f : Fd) (i x v : Nat) : (s.wr f i x v).mem = s.mem := rfl

theorem noControl_wr (s : State) (f : Fd) (i x v : Nat) : (s.wr f i x v).noControl = s.noControl := rfl

/-- The registers that the control of an engine writes, TIDE_CTRL apart. -/
def controlRegs : List Reg := [.TIDE_DCACHE_MISS, .TIDE_SD_INJ, .TIDE_SD_LANDED, .TIDE_SD_SKIPPED, .TIDE_SD_FWD_STALL,
  .TIDE_SD_STALE, .TIDE_SD_MARKS, .TIDE_SD_WANT_MARK, .TIDE_WANT]

/-- `u` differs from `s` in what the control of an engine changes, TIDE_CTRL apart. -/
abbrev Controls : State → State → Prop := Keeps noControl fun f => f.spec.reg ∈ controlRegs

namespace Controls

variable {s u : State}

theorem mem (h : Controls s u) : u.mem = s.mem := by have h := congrArg State.mem h.rest; exact h

theorem next (h : Controls s u) : answer s u = .next u :=
  answer_eq (by have h := congrArg State.pending h.rest; exact h) (by have h := congrArg State.fuses h.rest; exact h)

theorem wr (s : State) (f : Fd) (i x n : Nat) (hf : f.spec.reg ∈ controlRegs) : Controls s (s.wr f i x n) :=
  Keeps.wr i x n rfl hf fun e => absurd (e ▸ hf) (by decide)

end Controls

/-! ### The walkers start -/

/-- A context with its walker at the start. -/
def restarted (t : TideCtx) : TideCtx := { t with last := none, stopped := false, voided := false }

/-- What ENABLE does to one context: the walker at entry 0 and the counts at 0 (R38). -/
def startWalker (s : State) (d c : Nat) : State :=
  ((((s.restartWalker d c).wr .TIDE_SD_LANDED_COUNT d c 0).wr .TIDE_SD_SKIPPED_COUNT d c 0).wr
    .TIDE_SD_FWD_STALL_COUNT d c 0).wr .TIDE_SD_STALE_COUNT d c 0

/-- ENABLE set and the directory cache empty, before the walkers start. -/
def enabled (s : State) (d : Nat) : State :=
  ((s.wr .TIDE_CTRL_ENABLE d 0 1).dropDirCache d).wr .TIDE_DCACHE_MISS_COUNT d 0 0

/-- The walkers of an engine started. -/
def startAll (s : State) (d : Nat) : State := (List.range 4).foldl (fun s c => s.startWalker d c) s

theorem enableTide_ok {s : State} {d : Nat} (hoff : s.flag .TIDE_CTRL_ENABLE d = false) (hok : s.tideEnableOk d = true) :
    s.enableTide d = (s.enabled d).startAll d := by
  unfold enableTide
  rw [if_neg (by simp [hoff]), if_neg (by simp [hok])]
  rfl

theorem enableTide_bad {s : State} {d : Nat} (hoff : s.flag .TIDE_CTRL_ENABLE d = false) (hbad : s.tideEnableOk d = false) :
    ∃ ctx, s.enableTide d = s.engineErr eConfig d ctx 0 := by
  unfold enableTide
  rw [if_neg (by simp [hoff]), if_pos (by simp [hbad])]
  exact ⟨_, rfl⟩

theorem enableTide_on {s : State} {d : Nat} (hon : s.flag .TIDE_CTRL_ENABLE d = true) : s.enableTide d = s := if_pos hon

theorem Controls.startWalker (s : State) (d c : Nat) : Controls s (s.startWalker d c) := by
  have ht : Controls s (s.setTctx d c (restarted (s.tctx d c))) := .of_rd rfl (rd_setTctx s d c _)
  exact ((((ht.trans (wr _ .TIDE_SD_INJ_NEXT d c 0 (by decide))).trans
    (wr _ .TIDE_SD_LANDED_COUNT d c 0 (by decide))).trans (wr _ .TIDE_SD_SKIPPED_COUNT d c 0 (by decide))).trans
    (wr _ .TIDE_SD_FWD_STALL_COUNT d c 0 (by decide))).trans (wr _ .TIDE_SD_STALE_COUNT d c 0 (by decide))

theorem tctx_startWalker (s : State) (d c d' c' : Nat) :
    (s.startWalker d c).tctx d' c' = if d' = d ∧ c' = c then restarted (s.tctx d c) else s.tctx d' c' :=
  tctx_setTctx s d c _ d' c'

/-- Only the walker's own marks are set to 0, and those of no other context change. -/
theorem rd_startWalker (s : State) (d c c' : Nat) {f : Fd} (hf : f = .TIDE_SD_INJ_NEXT ∨ f = .TIDE_SD_LANDED_COUNT) :
    (s.startWalker d c).rd f d c' = if c' = c then 0 else s.rd f d c' := by
  unfold startWalker restartWalker
  rcases hf with rfl | rfl
  all_goals
    rw [rd_wr_out _ _ _ _ _ _ (by decide) (by decide), rd_wr_out _ _ _ _ _ _ (by decide) (by decide),
      rd_wr_out _ _ _ _ _ _ (by decide) (by decide)]
  · rw [rd_wr_out _ _ _ _ _ _ (by decide) (by decide), rd_wr _ _ _ _ _ _ _ _ (by decide)]
    simp
  · rw [rd_wr _ _ _ _ _ _ _ _ (by decide), rd_wr_out _ _ _ _ _ _ (by decide) (by decide)]
    simp

/-- A loop establishes for each of its members what its own turn establishes and no other turn undoes. -/
theorem foldl_of_mem {α γ : Type} {f : γ → α → γ} (p : γ → α → Prop) (hself : ∀ s a, p (f s a) a)
    (hkeep : ∀ s a b, p s a → p (f s b) a) {l : List α} {a : α} (h : a ∈ l) (s : γ) : p (l.foldl f s) a := by
  have hstay : ∀ (l : List α) s, p s a → p (l.foldl f s) a := by
    intro l
    induction l with
    | nil => exact fun _ h => h
    | cons b l ih => exact fun s h => ih _ (hkeep s a b h)
  induction l generalizing s with
  | nil => cases h
  | cons b l ih =>
    rcases List.mem_cons.1 h with rfl | h
    · exact hstay l _ (hself s a)
    · exact ih h _

theorem Controls.startAll (s : State) (d : Nat) : Controls s (s.startAll d) :=
  .foldl (fun s c => startWalker s d c) _ s

theorem dcache_startAll (s : State) (d : Nat) : (s.startAll d).dcache = s.dcache := by
  have hone : ∀ (u : State) (c : Nat), (u.startWalker d c).dcache = u.dcache := fun _ _ => rfl
  exact foldl_keeps (f := fun s c => startWalker s d c) State.dcache hone _ s

theorem rd_startAll (s : State) {d c : Nat} (hc : c < 4) {f : Fd} (hf : f = .TIDE_SD_INJ_NEXT ∨ f = .TIDE_SD_LANDED_COUNT) :
    (s.startAll d).rd f d c = 0 := by
  refine foldl_of_mem (fun u c => State.rd u f d c = 0) (fun u c => ?_) (fun u c b h => ?_) (List.mem_range.2 hc) s
  · rw [rd_startWalker u d c c hf, if_pos rfl]
  · rw [rd_startWalker u d b c hf, h, ite_self]

theorem tctx_startAll (s : State) {d c : Nat} (hc : c < 4) : (s.startAll d).tctx d c = restarted (s.tctx d c) := by
  have hkeep : restarted ((s.startAll d).tctx d c) = restarted (s.tctx d c) := by
    refine foldl_keeps (fun u : State => restarted (u.tctx d c)) (fun u b => ?_) _ s
    rw [tctx_startWalker]
    split
    · rename_i h; rw [h.2]; rfl
    · rfl
  have hself : (s.startAll d).tctx d c = restarted ((s.startAll d).tctx d c) := by
    refine foldl_of_mem (fun (u : State) c => u.tctx d c = restarted (u.tctx d c)) (fun u c => ?_) (fun u c b h => ?_)
      (List.mem_range.2 hc) s
    · rw [tctx_startWalker, if_pos ⟨rfl, rfl⟩]; rfl
    · rw [tctx_startWalker]
      split
      · rfl
      · exact h
  rw [hself, hkeep]

/-- An engine whose walkers start: ENABLE set, its directory cache empty, memory as it was (R33, R38). -/
theorem startAll_enabled (s : State) (d : Nat) :
    ((s.enabled d).startAll d).flag .TIDE_CTRL_ENABLE d = true ∧
    (∀ i, SMap.get ((s.enabled d).startAll d).dcache ⟨d, i, 0⟩ none = none) ∧
    ((s.enabled d).startAll d).mem = s.mem := by
  have hk := Controls.startAll (s.enabled d) d
  refine ⟨?_, fun i => ?_, hk.mem⟩
  · have hr : ((s.enabled d).startAll d).rd .TIDE_CTRL_ENABLE d = 1 := by
      rw [hk.rd _ _ _ (by decide)]
      unfold enabled
      rw [rd_wr_out _ _ _ _ _ _ (by decide) (by decide)]
      exact rd_wr_self s .TIDE_CTRL_ENABLE d 0 1
    unfold flag
    rw [hr]
    rfl
  · rw [dcache_startAll]
    refine (SMap.get_drop s.dcache (fun k => k.a == d) ⟨d, i, 0⟩ none).trans ?_
    simp

/-! ### VOID -/

/-- A context voided: what is held for the next step stays held. -/
def emptied (t : TideCtx) : TideCtx :=
  { TideCtx.init with stopped := true, voided := true, held := t.held, heldCredit := t.heldCredit }

/-- What VOID does to one context: slots free, marks at 0 (R63). -/
def voidCtx (s : State) (d c : Nat) : State :=
  (((s.setTctx d c (emptied (s.tctx d c))).wr .TIDE_SD_MARKS_OWN_MARK d c 0).wr .TIDE_SD_MARKS_DOWN_MARK d c 0).wr .TIDE_SD_WANT_MARK_MARK d c 0

/-- What VOID leaves of a context. -/
structure VoidedCtx (s : State) (d c : Nat) : Prop where
  own : s.rd .TIDE_SD_MARKS_OWN_MARK d c = 0
  down : s.rd .TIDE_SD_MARKS_DOWN_MARK d c = 0
  want : s.rd .TIDE_SD_WANT_MARK_MARK d c = 0
  slots : (s.tctx d c).slots = []
  cut : (s.tctx d c).cut = []
  voided : (s.tctx d c).voided = true

theorem Controls.voidCtx (s : State) (d c : Nat) : Controls s (s.voidCtx d c) := by
  have ht : Controls s (s.setTctx d c (emptied (s.tctx d c))) := .of_rd rfl (rd_setTctx s d c _)
  exact ((ht.trans (wr _ .TIDE_SD_MARKS_OWN_MARK d c 0 (by decide))).trans
    (wr _ .TIDE_SD_MARKS_DOWN_MARK d c 0 (by decide))).trans (wr _ .TIDE_SD_WANT_MARK_MARK d c 0 (by decide))

theorem rd_voidCtx (s : State) (d c c' : Nat) {f : Fd}
    (hf : f ∈ [Fd.TIDE_SD_MARKS_OWN_MARK, .TIDE_SD_MARKS_DOWN_MARK, .TIDE_SD_WANT_MARK_MARK]) :
    (s.voidCtx d c).rd f d c' = if c' = c then 0 else s.rd f d c' := by
  unfold voidCtx
  rw [rd_wr _ _ _ _ _ _ _ _ fun _ => by decide, rd_wr _ _ _ _ _ _ _ _ fun _ => by decide,
    rd_wr _ _ _ _ _ _ _ _ fun _ => by decide]
  simp only [List.mem_cons, List.not_mem_nil, or_false] at hf
  rcases hf with rfl | rfl | rfl <;> simp

theorem tctx_voidCtx (s : State) (d c d' c' : Nat) : (s.voidCtx d c).tctx d' c' =
    if d' = d ∧ c' = c then emptied (s.tctx d c) else s.tctx d' c' :=
  tctx_setTctx s d c (emptied (s.tctx d c)) d' c'

theorem voidedCtx_self (s : State) (d c : Nat) : VoidedCtx (s.voidCtx d c) d c := by
  constructor <;> simp [rd_voidCtx, tctx_voidCtx, emptied, TideCtx.init]

theorem VoidedCtx.keep {s : State} {d c : Nat} (h : VoidedCtx s d c) (b : Nat) : VoidedCtx (s.voidCtx d b) d c := by
  by_cases hb : c = b
  · rw [← hb]; exact voidedCtx_self s d c
  · constructor <;> simp [rd_voidCtx, tctx_voidCtx, hb, h.own, h.down, h.want, h.slots, h.cut, h.voided]

/-- Every context of an engine voided. -/
def voidAll (s : State) (d : Nat) : State := (List.range 4).foldl (fun s c => s.voidCtx d c) s

/-- The books of an engine and the want table gone, and its directory cache. -/
def clearTide (s : State) (d : Nat) : State :=
  ({ s with books := SMap.drop s.books fun k => k.a == d
            regs := SMap.drop s.regs fun k => k.a == Fd.TIDE_WANT_WANT.ctorIdx } : State).dropDirCache d

theorem voidTide_eq (s : State) (d : Nat) : s.voidTide d = (s.voidAll d).clearTide d := rfl

/-- The other fields read as before when the want table is cleared. -/
theorem rd_clearTide (s : State) (d : Nat) {f : Fd} (i x : Nat) (hf : f ≠ .TIDE_WANT_WANT) :
    (s.clearTide d).rd f i x = s.rd f i x := by
  have hget : ∀ (g : Fd) j y e, g ≠ .TIDE_WANT_WANT →
      SMap.get (s.clearTide d).regs (key g j y) e = SMap.get s.regs (key g j y) e := fun g j y e hg => by
    have hk : ((key g j y).a == Fd.TIDE_WANT_WANT.ctorIdx) = false := by
      refine beq_eq_false_iff_ne.2 fun h => hg (key_eq.1 (?_ : key g 0 0 = key .TIDE_WANT_WANT 0 0)).1
      exact congrArg (fun a => (⟨a, 0, 0⟩ : Key)) h
    refine (SMap.get_drop s.regs (fun k => k.a == Fd.TIDE_WANT_WANT.ctorIdx) (key g j y) e).trans ?_
    rw [hk]; rfl
  have hreset : (s.clearTide d).fieldReset f i x = s.fieldReset f i x := by
    unfold fieldReset
    rw [hget _ _ _ _ (by decide)]
    rfl
  unfold rd
  rw [hreset, hget _ _ _ _ hf]

/-- The want table reads as 0 once cleared. -/
theorem want_clearTide (s : State) (d k : Nat) : (s.clearTide d).rd .TIDE_WANT_WANT 0 k = 0 := by
  refine (SMap.get_drop s.regs (fun k => k.a == Fd.TIDE_WANT_WANT.ctorIdx) (key .TIDE_WANT_WANT 0 k) _).trans ?_
  rfl

theorem books_clearTide (s : State) (d c cb : Nat) : SMap.get (s.clearTide d).books ⟨d, c, cb⟩ none = none := by
  refine (SMap.get_drop s.books (fun k => k.a == d) ⟨d, c, cb⟩ none).trans ?_
  simp

theorem dcache_clearTide (s : State) (d i : Nat) : SMap.get (s.clearTide d).dcache ⟨d, i, 0⟩ none = none := by
  refine (SMap.get_drop s.dcache (fun k => k.a == d) ⟨d, i, 0⟩ none).trans ?_
  simp

theorem tctx_clearTide (s : State) (d d' c' : Nat) : (s.clearTide d).tctx d' c' = s.tctx d' c' := rfl

theorem Controls.clearTide (s : State) (d : Nat) : Controls s (s.clearTide d) :=
  ⟨rfl, fun _ i x hf => rd_clearTide s d i x fun e => hf (e ▸ by decide)⟩

theorem Controls.voidTide (s : State) (d : Nat) : Controls s (s.voidTide d) :=
  (Keeps.foldl (fun s c => voidCtx s d c) _ s).trans (clearTide _ d)

/-- Every context of a voided engine is empty, with its marks at 0 (R63). -/
theorem voidedCtx_voidTide (s : State) {d c : Nat} (hc : c < 4) : VoidedCtx (s.voidTide d) d c := by
  have hall : VoidedCtx (s.voidAll d) d c :=
    foldl_of_mem (fun (u : State) c => VoidedCtx u d c) (fun u c => voidedCtx_self u d c) (fun _ _ b h => h.keep b)
      (List.mem_range.2 hc) s
  obtain ⟨hown, hdown, hwant, hslots, hcut, hvoid⟩ := hall
  rw [voidTide_eq]
  constructor <;> simp only [tctx_clearTide, rd_clearTide _ d d c, ne_eq, reduceCtorEq, not_false_eq_true, *]

/-- What VOID leaves of an engine: its books, its directory cache, its contexts and the want table empty. -/
structure VoidedTide (s : State) (d : Nat) : Prop where
  books : ∀ c cb, SMap.get s.books ⟨d, c, cb⟩ none = none
  dcache : ∀ i, SMap.get s.dcache ⟨d, i, 0⟩ none = none
  want : ∀ k, s.rd .TIDE_WANT_WANT 0 k = 0
  ctxs : ∀ c < 4, VoidedCtx s d c

theorem voidedTide_voidTide (s : State) (d : Nat) : VoidedTide (s.voidTide d) d :=
  ⟨books_clearTide (s.voidAll d) d, dcache_clearTide (s.voidAll d) d, want_clearTide (s.voidAll d) d,
    fun _ hc => voidedCtx_voidTide s hc⟩

/-- ENABLE cleared: the engine stays voided. -/
theorem VoidedTide.disable {s : State} {d : Nat} (h : VoidedTide s d) : VoidedTide (s.wr .TIDE_CTRL_ENABLE d 0 0) d := by
  obtain ⟨hbooks, hcache, hwant, hctxs⟩ := h
  have hr : ∀ (f : Fd) i x, f.spec.reg ≠ .TIDE_CTRL → (s.wr .TIDE_CTRL_ENABLE d 0 0).rd f i x = s.rd f i x :=
    fun f i x hf => rd_wr_out s d 0 0 i x hf (by decide)
  refine ⟨hbooks, hcache, fun k => (hr _ _ _ (by decide)).trans (hwant k), fun c hc => ?_⟩
  obtain ⟨hown, hdown, hmark, hslots, hcut, hvoid⟩ := hctxs c hc
  exact ⟨(hr _ _ _ (by decide)).trans hown, (hr _ _ _ (by decide)).trans hdown, (hr _ _ _ (by decide)).trans hmark,
    hslots, hcut, hvoid⟩

/-! ### What a write of TIDE_CTRL comes to -/

/-- The enable check rests on what the registers read as, on the plan and on the fuses. -/
theorem tideEnableOk_congr {s u : State} (hr : ∀ f i x, u.rd f i x = s.rd f i x) (hp : u.plan = s.plan)
    (hf : u.fuses = s.fuses) (d : Nat) : u.tideEnableOk d = s.tideEnableOk d := by
  have hflag : ∀ f i x, u.flag f i x = s.flag f i x := fun f i x => by unfold flag; rw [hr]
  have hup : ∀ p, u.portUp p = s.portUp p := fun p => by unfold portUp portState; rw [hr]
  have hholds : ∀ p, u.portHolds p = s.portHolds p := fun p => by
    unfold portHolds portRole portEntry; rw [hup, hflag, hp]
  have hctx : ∀ c, u.ctxEnableBad d c = s.ctxEnableBad d c := fun c => by
    unfold ctxEnableBad tideValid tideW tideU
    simp only [hflag, hr, hup]
  unfold tideEnableOk holdsAtShore
  simp only [hflag, hr, hf, hholds, hctx]

/-- The state with MODE written as it is. -/
def modeKept (s : State) (d : Nat) : State := s.wr .TIDE_CTRL_MODE d 0 (s.rd .TIDE_CTRL_MODE d)

section
variable {s : State} {d : Nat}

theorem rd_modeKept (hm : s.rd .TIDE_CTRL_MODE d < 4) (f : Fd) (i x : Nat) : (s.modeKept d).rd f i x = s.rd f i x := by
  unfold modeKept
  rw [rd_wr _ _ _ _ _ _ _ _ fun _ => by decide]
  split
  · rename_i h
    obtain ⟨rfl, rfl, rfl⟩ := h
    exact Nat.mod_eq_of_lt hm
  · rfl

theorem flag_modeKept (hm : s.rd .TIDE_CTRL_MODE d < 4) (f : Fd) (i x : Nat) : (s.modeKept d).flag f i x = s.flag f i x := by
  unfold flag; rw [rd_modeKept hm]

/-- A flag of one bit by its value. -/
theorem flag_eq_beq_one {f : Fd} {i x : Nat} (h : s.rd f i x < 2) : s.flag f i x = (s.rd f i x == 1) := by
  unfold flag
  have hv : s.rd f i x = 0 ∨ s.rd f i x = 1 := by omega
  rcases hv with hv | hv <;> rw [hv] <;> rfl

/-- A write of TIDE_CTRL, part by part: MODE and VOID, then PAUSE where it changes, then ENABLE. -/
theorem writeTideCtrl_of {v : Nat} {w u : State}
    (hw : (if fv .TIDE_CTRL_VOID v = 1 then (s.wr .TIDE_CTRL_MODE d 0 (fv .TIDE_CTRL_MODE v)).voidTide d
      else s.wr .TIDE_CTRL_MODE d 0 (fv .TIDE_CTRL_MODE v)) = w)
    (hu : (if (fv .TIDE_CTRL_PAUSE v == 1) = w.flag .TIDE_CTRL_PAUSE d then w
      else w.pauseTide d (fv .TIDE_CTRL_PAUSE v == 1)) = u) :
    s.writeTideCtrl d v = if fv .TIDE_CTRL_ENABLE v = 1 then u.enableTide d else u.wr .TIDE_CTRL_ENABLE d 0 0 := by
  subst hw hu; rfl

/-- ENABLE written with a 1, MODE and PAUSE as they are. -/
theorem writeTideCtrl_enable (h : CtrlFields s d) :
    s.writeTideCtrl d (ctrlWord (s.rd .TIDE_CTRL_MODE d) (s.rd .TIDE_CTRL_PAUSE d) 0 1) = (s.modeKept d).enableTide d := by
  obtain ⟨hm, hp, he⟩ := h
  have hpause := (flag_modeKept hm .TIDE_CTRL_PAUSE d 0).trans (flag_eq_beq_one hp)
  rw [writeTideCtrl_of (w := s.modeKept d) (u := s.modeKept d), fv_enable (by decide), if_pos rfl]
  · rw [fv_void (by decide) (by decide), fv_mode hm hp (by decide) (by decide)]; exact if_neg (by decide)
  · rw [fv_pause hp (by decide) (by decide)]; exact if_pos hpause.symm

/-- PAUSE written with another value, on an engine that is enabled. -/
theorem writeTideCtrl_pause (h : CtrlFields s d) {on : Bool} (hon : s.flag .TIDE_CTRL_ENABLE d = true)
    (hne : s.flag .TIDE_CTRL_PAUSE d ≠ on) :
    s.writeTideCtrl d (ctrlWord (s.rd .TIDE_CTRL_MODE d) (b2n on) 0 (s.rd .TIDE_CTRL_ENABLE d)) =
      (s.modeKept d).pauseTide d on := by
  obtain ⟨hm, hp, he⟩ := h
  have hb : b2n on < 2 := by cases on <;> decide
  have hbit : (b2n on == 1) = on := by cases on <;> rfl
  have henable : s.rd .TIDE_CTRL_ENABLE d = 1 := by simpa [flag_eq_beq_one he] using hon
  have hkept : ((s.modeKept d).pauseTide d on).flag .TIDE_CTRL_ENABLE d = true := by
    have hr : ((s.modeKept d).pauseTide d on).rd .TIDE_CTRL_ENABLE d = (s.modeKept d).rd .TIDE_CTRL_ENABLE d := by
      unfold pauseTide
      dsimp only
      split
      · exact rd_wr_ne _ _ (fun _ => by decide) fun h => absurd h.1 (by decide)
      · rw [rd_wr_out _ _ _ _ _ _ (by decide) (by decide)]
        exact rd_wr_ne _ _ (fun _ => by decide) fun h => absurd h.1 (by decide)
    unfold flag at hon ⊢
    rw [hr, rd_modeKept hm, hon]
  have hdiff : ¬on = (s.modeKept d).flag .TIDE_CTRL_PAUSE d := by
    rw [flag_modeKept hm]; exact fun e => hne e.symm
  rw [writeTideCtrl_of (w := s.modeKept d) (u := (s.modeKept d).pauseTide d on), fv_enable he, if_pos henable,
    enableTide_on hkept]
  · rw [fv_void (by decide) he, fv_mode hm hb (by decide) he]; exact if_neg (by decide)
  · rw [fv_pause hb (by decide) he, hbit]; exact if_neg hdiff

/-- VOID written with a 1: the other fields stay as they are (R63). -/
theorem writeTideCtrl_void (h : CtrlFields s d) :
    s.writeTideCtrl d (ctrlWord (s.rd .TIDE_CTRL_MODE d) (s.rd .TIDE_CTRL_PAUSE d) 1 (s.rd .TIDE_CTRL_ENABLE d)) =
      if s.flag .TIDE_CTRL_ENABLE d = true then (s.modeKept d).voidTide d
      else ((s.modeKept d).voidTide d).wr .TIDE_CTRL_ENABLE d 0 0 := by
  obtain ⟨hm, hp, he⟩ := h
  have hkept : ∀ f, f = .TIDE_CTRL_PAUSE ∨ f = .TIDE_CTRL_ENABLE →
      ((s.modeKept d).voidTide d).flag f d = s.flag f d := fun f hf => by
    rw [← flag_modeKept hm]
    unfold flag
    rw [(Controls.voidTide (s.modeKept d) d).rd f d 0 (by rcases hf with rfl | rfl <;> decide)]
  have hpause : (s.rd .TIDE_CTRL_PAUSE d == 1) = ((s.modeKept d).voidTide d).flag .TIDE_CTRL_PAUSE d := by
    rw [hkept _ (.inl rfl), flag_eq_beq_one hp]
  rw [writeTideCtrl_of (w := (s.modeKept d).voidTide d) (u := (s.modeKept d).voidTide d), fv_enable he]
  · by_cases hon : s.rd .TIDE_CTRL_ENABLE d = 1
    · have hflag : s.flag .TIDE_CTRL_ENABLE d = true := by rw [flag_eq_beq_one he, hon]; rfl
      rw [if_pos hon, if_pos hflag, enableTide_on ((hkept _ (.inr rfl)).trans hflag)]
    · rw [if_neg hon, if_neg (by rw [flag_eq_beq_one he]; simpa using hon)]
  · rw [fv_void (by decide) he, fv_mode hm hp (by decide) he]; exact if_pos rfl
  · rw [fv_pause hp (by decide) he]; exact if_pos hpause

end

/-- A write of PAUSE changes it alone, and clears QUIESCENT with it (R62). -/
theorem puts_pauseTide {s u : State} (h : puts s u []) (d : Nat) (on : Bool) :
    puts s (u.pauseTide d on)
      ((.TIDE_CTRL_PAUSE, d, 0, b2n on) :: if on then [] else [(.TIDE_STATUS_QUIESCENT, d, 0, 0)]) := by
  have hp := puts_wr h (f := .TIDE_CTRL_PAUSE) d 0 (b2n on) (by decide)
  cases on
  · have hq := puts_wr hp (f := .TIDE_STATUS_QUIESCENT) d 0 0 (by decide)
    exact puts_of_perm hq (.swap _ _ _)
  · exact hp

theorem exec_tideEnable {s : State} {src : Source} {d : Nat} (h : CtrlFields s d)
    (ht : takes s src ⟨.TIDE_CTRL, d, 0⟩ (withField s ⟨.TIDE_CTRL, d, 0⟩ .TIDE_CTRL_ENABLE 1)) :
    exec (.tideEnable src d) s = answer s ((s.modeKept d).enableTide d) := by
  have hi : s.hasInst .TIDE d = true := ht.2.2.2.1
  refine (answerIf_tideCtrl ht).trans ?_
  rw [withField_enable hi h, writeTideCtrl_enable h]

theorem exec_tidePause {s : State} {src : Source} {d : Nat} {on : Bool} (h : CtrlFields s d)
    (ht : takes s src ⟨.TIDE_CTRL, d, 0⟩ (withField s ⟨.TIDE_CTRL, d, 0⟩ .TIDE_CTRL_PAUSE (b2n on)))
    (hon : s.flag .TIDE_CTRL_ENABLE d = true) (hne : s.flag .TIDE_CTRL_PAUSE d ≠ on) :
    exec (.tidePause src d on) s = answer s ((s.modeKept d).pauseTide d on) := by
  have hi : s.hasInst .TIDE d = true := ht.2.2.2.1
  refine (answerIf_tideCtrl ht).trans ?_
  rw [withField_pause hi h (by cases on <;> decide), writeTideCtrl_pause h hon hne]

theorem exec_tideVoid {s : State} {src : Source} {d : Nat} (h : CtrlFields s d)
    (ht : takes s src ⟨.TIDE_CTRL, d, 0⟩ (withField s ⟨.TIDE_CTRL, d, 0⟩ .TIDE_CTRL_VOID 1)) :
    exec (.tideVoid src d) s = answer s (if s.flag .TIDE_CTRL_ENABLE d = true then (s.modeKept d).voidTide d
      else ((s.modeKept d).voidTide d).wr .TIDE_CTRL_ENABLE d 0 0) := by
  have hi : s.hasInst .TIDE d = true := ht.2.2.2.1
  refine (answerIf_tideCtrl ht).trans ?_
  rw [withField_void hi h, writeTideCtrl_void h]

/-- A write of VOID leaves the engine voided, and memory as it was (R63). -/
theorem exec_tideVoid_voided {s : State} {src : Source} {d : Nat} (h : CtrlFields s d)
    (ht : takes s src ⟨.TIDE_CTRL, d, 0⟩ (withField s ⟨.TIDE_CTRL, d, 0⟩ .TIDE_CTRL_VOID 1)) :
    ∃ u, exec (.tideVoid src d) s = .next u ∧ u.mem = s.mem ∧ VoidedTide u d := by
  have hk := Controls.voidTide (s.modeKept d) d
  have hv := voidedTide_voidTide (s.modeKept d) d
  have hmem : ((s.modeKept d).voidTide d).mem = s.mem := hk.mem.trans (mem_wr _ _ _ _ _)
  have hnext : ∀ u, u.noControl = ((s.modeKept d).voidTide d).noControl → answer s u = .next u := fun u hu => by
    have hu := hu.trans hk.rest
    exact answer_eq (by have h := congrArg State.pending hu; exact h) (by have h := congrArg State.fuses hu; exact h)
  rw [exec_tideVoid h ht]
  split
  · exact ⟨_, hnext _ rfl, hmem, hv⟩
  · exact ⟨_, hnext _ (noControl_wr _ _ _ _ _), (mem_wr _ _ _ _ _).trans hmem, hv.disable⟩

theorem exec_tideQuiescent {s : State} {d : Nat} (h : s.hasDie d = true) :
    exec (.tideQuiescent d) s = answer s (s.tideQuiescent d) := answerIf_true h

theorem tideControl : TideControl := by
  intro s src d r hm hp he
  have hf : CtrlFields s d := ⟨hm, hp, he⟩
  refine ⟨fun ht hoff => ⟨fun hok => ?_, fun hbad => ?_⟩, fun on ht ⟨hon, hne⟩ => ?_, fun ht => ?_,
    fun hdie => ⟨fun ⟨hpause, hquiet⟩ => ?_, fun h => ?_⟩⟩
  · rw [exec_tideEnable hf ht, enableTide_ok ((flag_modeKept hm _ _ _).trans hoff)
      ((tideEnableOk_congr (rd_modeKept hm) rfl rfl d).trans hok)]
    obtain ⟨hflag, hcache, hmem⟩ := startAll_enabled (s.modeKept d) d
    refine ⟨_, ?_, hflag, hcache, hmem, fun c hc =>
      ⟨rd_startAll _ hc (.inl rfl), rd_startAll _ hc (.inr rfl), tctx_startAll _ hc⟩⟩
    rw [← (Controls.startAll ((s.modeKept d).enabled d) d).next]
    exact answer_congr rfl rfl _
  · obtain ⟨ctx, hbad⟩ := enableTide_bad ((flag_modeKept hm _ _ _).trans hoff)
      ((tideEnableOk_congr (rd_modeKept hm) rfl rfl d).trans hbad)
    have hk : ((s.modeKept d).engineErr eConfig d ctx 0).noTideRec = s.noTideRec :=
      (noTideRec_engineErr _ _ _ _ _).trans (noTideRec_wr _ _ _ _ _)
    rw [exec_tideEnable hf ht, hbad]
    refine ⟨_, next_of_noTideRec hk, ?_, flag_engineErr_self _ d ctx 0 (by decide) (f := .TIDE_ERR_STATUS_CONFIG) rfl rfl, hk⟩
    have hr := (Sends.engineErr (s.modeKept d) eConfig d ctx 0).rd .TIDE_CTRL_ENABLE d 0 (by decide)
    rw [rd_modeKept hm] at hr
    unfold flag at hoff ⊢
    rw [hr, hoff]
  · have hk : ((s.modeKept d).pauseTide d on).noRegs = s.noRegs := by cases on <;> rfl
    rw [exec_tidePause hf ht hon hne]
    exact ⟨_, next_of_noRegs hk, puts_pauseTide (puts_of_rd (puts_nil s) (rd_modeKept hm)) d on, hk⟩
  · obtain ⟨u, hexec, hmem, hv⟩ := exec_tideVoid_voided hf ht
    obtain ⟨hbooks, hcache, hwant, hctxs⟩ := hv
    refine ⟨u, hexec, hmem, hbooks, hcache, hwant, fun c hc => ?_⟩
    obtain ⟨hown, hdown, hmark, hslots, hcut, hvoid⟩ := hctxs c hc
    exact ⟨hown, hdown, hmark, hslots, hcut, hvoid⟩
  · have hput : onlyPuts s (s.wr .TIDE_STATUS_QUIESCENT d 0 1) [(.TIDE_STATUS_QUIESCENT, d, 0, 1)] :=
      ⟨puts_wr (puts_nil s) d 0 1 (by decide), rfl⟩
    rw [exec_tideQuiescent hdie]
    unfold tideQuiescent
    rw [if_pos ⟨hpause, hquiet⟩]
    exact ⟨_, answer_of_onlyPuts hput, hput⟩
  · rw [exec_tideQuiescent hdie]
    unfold tideQuiescent
    rw [if_neg h, answer_self]

/-! ### The want table -/

theorem exec_wantMarkWrite {s : State} {src : Source} {d c v : Nat} (h : takes s src ⟨.TIDE_SD_WANT_MARK, d, c⟩ v) :
    exec (.wantMarkWrite src d c v) s = answer s (s.raiseWantMark d c (fv .TIDE_SD_WANT_MARK_MARK v)) :=
  answerIf_writeWhole h

/-- The decisions that a raised want mark takes are the tide's traffic. -/
theorem raiseWantMark_above {s : State} {d c m : Nat} (h : s.rd .TIDE_SD_WANT_MARK_MARK d c < m) :
    Calm (s.wr .TIDE_SD_WANT_MARK_MARK d c m) (s.raiseWantMark d c m) := by
  unfold raiseWantMark
  rw [if_neg (by omega)]
  refine .foldl (fun u e => ?_) _ _
  split
  · split
    · have hb : ∀ b : Bool, Calm u (if b then u.bump .TIDE_SD_SKIPPED_COUNT d c 1 else u) := fun b => by
        cases b
        · exact .refl u
        · exact .wr d c _ rfl (.inl (by decide)) (by decide)
      dsimp only
      split
      · exact (hb _).trans (Calm.slotLanded _ _ _ _)
      · exact (hb _).trans (Calm.setSlot _ _ _ _)
    · exact .refl u
  · exact .refl u

theorem exec_tideWantSet {s : State} {src : Source} {k v : Nat} (h : takes s src ⟨.TIDE_WANT, 0, k⟩ v) :
    exec (.tideWantSet src k v) s = answer s (s.wr .TIDE_WANT_WANT 0 k
      (Nat.lor (s.rd .TIDE_WANT_WANT 0 k) (fv .TIDE_WANT_WANT v))) := by
  refine (answerIf_writeWhole h).trans (congrArg (answer s) ?_)
  have hplain : s.effect src ⟨.TIDE_WANT, 0, k⟩ v = s.plainWrite ⟨.TIDE_WANT, 0, k⟩ v :=
    (rfl : s.effect src ⟨.TIDE_WANT, 0, k⟩ v = if src = .lighthouse then s.plainWrite ⟨.TIDE_WANT, 0, k⟩ v
      else s.plainWrite ⟨.TIDE_WANT, 0, k⟩ v).trans (ite_self _)
  rw [hplain]
  rfl

theorem wantWrites : WantWrites := by
  refine fun s src => ⟨fun d c v ht => ⟨fun hle => ?_, fun hlt => ?_⟩, fun k v ht => ?_⟩
  · rw [exec_wantMarkWrite ht]
    unfold raiseWantMark
    rw [if_pos hle, answer_self]
  · have hk := raiseWantMark_above hlt
    refine ⟨_, ?_, ?_, hk.mem⟩
    · rw [exec_wantMarkWrite ht, ← hk.next]
      exact answer_congr rfl rfl _
    · rw [hk.rd _ _ _ (by decide), rd_wr_self]
      exact Nat.mod_mod _ _
  · have hput : onlyPuts s (s.wr .TIDE_WANT_WANT 0 k (Nat.lor (s.rd .TIDE_WANT_WANT 0 k) (fv .TIDE_WANT_WANT v)))
        [(.TIDE_WANT_WANT, 0, k, Nat.lor (s.rd .TIDE_WANT_WANT 0 k) (fv .TIDE_WANT_WANT v))] :=
      ⟨puts_wr (puts_nil s) 0 k _ (by decide), rfl⟩
    rw [exec_tideWantSet ht]
    exact ⟨_, answer_of_onlyPuts hput, hput⟩

end Sys2Proof.Machine.State

namespace Sys2Proof

open Machine Machine.State Claims

/-- Settles O24: a write of TIDE_CTRL is taken part by part, and the loops over an engine's contexts establish for each
context what its own turn does. -/
theorem tideControlAndWants : Obligations.TideControlAndWants := ⟨tideControl, wantWrites⟩

end Sys2Proof

/-! SUPPORT. What a context sends, the walker's injection, landing signals, and the install of a book. -/
namespace Sys2Proof.Machine.State

open Sys2Proof.Claims

/-! ### What the slots leave alone -/

/-- A slot set and its context settled: the queue, the walker's place and the laps stay. -/
theorem tctx_setSlot_settle (s : State) (d c : Nat) (y : Slot) :
    (((s.setSlot d c y).settle d c).tctx d c).cut = (s.tctx d c).cut ∧
    (((s.setSlot d c y).settle d c).tctx d c).last = (s.tctx d c).last ∧
    (((s.setSlot d c y).settle d c).tctx d c).laps = (s.tctx d c).laps := by
  obtain ⟨done, reported, h⟩ := tctx_settle (s.setSlot d c y) d c
  rw [h, tctx_setSlot]
  exact ⟨rfl, rfl, rfl⟩

/-! ### Sending -/

theorem exec_contextSendNext {s : State} {d c : Nat} (h : s.hasTide d c = true) :
    exec (.contextSendNext d c) s = answer s (s.tideStep (s.sendNext d c)) := answerIf_true h

theorem exec_segmentInject {s : State} {d c : Nat} (h : s.hasTide d c = true) :
    exec (.segmentInject d c) s = answer s (s.tideStep (s.walkerStep d c)) := answerIf_true h

section
variable {s : State} {d c : Nat}

theorem sendNext_none (h : s.tideOn d c = false ∨ firstCandidate (s.candidates d c) = none ∨ (s.tctx d c).voided = true) :
    s.sendNext d c = s := by
  unfold sendNext
  rcases h with h | h | h
  · rw [if_pos (by simp [h])]
  · rw [h, ite_self]
  · rw [if_pos (by simp [h])]

theorem sendNext_cut {p : Nat} (hon : s.tideOn d c = true) (hv : (s.tctx d c).voided = false)
    (h : firstCandidate (s.candidates d c) = some (p, .cut)) : s.sendNext d c = s.sendCut d c := by
  unfold sendNext
  rw [if_neg (by simp [hon, hv]), h]

theorem sendNext_walk {p e : Nat} (hon : s.tideOn d c = true) (hv : (s.tctx d c).voided = false)
    (h : firstCandidate (s.candidates d c) = some (p, .walk e)) : s.sendNext d c = s.walkOn d c := by
  unfold sendNext
  rw [if_neg (by simp [hon, hv]), h]

theorem walkerStep_walk {p e : Nat} (h : firstCandidate (s.candidates d c) = some (p, .walk e)) :
    s.walkerStep d c = s.walkOn d c := by
  unfold walkerStep
  rw [h]

theorem walkerStep_none (h : ∀ p e, firstCandidate (s.candidates d c) ≠ some (p, .walk e)) : s.walkerStep d c = s := by
  unfold walkerStep
  split
  · rename_i p e hw; exact absurd hw (h p e)
  · rfl

/-- The segment at the head of the cut-through queue leaves it as it goes (R47). -/
theorem sendCut_cut {g : Seg} {gs : List Seg} (h : (s.tctx d c).cut = g :: gs) : ((s.sendCut d c).tctx d c).cut = gs := by
  have hsent : (((s.setTctx d c { s.tctx d c with cut := gs }).sendSegment d c g false).tctx d c).cut = gs := by
    rw [(Sends.sendSegment _ d c g false).tctx, tctx_setTctx_self]
  unfold sendCut
  rw [h]
  dsimp only
  split
  · exact hsent
  · split
    · rw [(tctx_setSlot_settle _ d c _).1, hsent]
    · exact hsent

/-! ### The walker -/

theorem walkOn_read {v : State} {e : Nat} (h : s.lapRead d c = (v, .ok e)) : s.walkOn d c = v.injectNext d c e := by
  unfold walkOn
  rw [h]

theorem noTideRec_lapRead (s : State) (d c : Nat) : (s.lapRead d c).1.noTideRec = s.noTideRec :=
  noTideRec_tideRead s d c _ _

theorem lapBad_of {e : Nat} (h : LapEntry.reserved e ≠ 0 ∨ LapEntry.kind e = 3 ∨
    ∃ q, (s.tctx d c).last = some q ∧ LapEntry.lap e ≤ q) : s.lapBad d c e = true := by
  unfold lapBad
  rcases h with h | h | ⟨q, hq, hle⟩
  · simp [h]
  · simp [h]
  · simp [hq, hle]

theorem lapBad_eq_false {e : Nat} (hres : LapEntry.reserved e = 0) (hkind : LapEntry.kind e = 0)
    (hlast : ∀ q, (s.tctx d c).last = some q → q < LapEntry.lap e) : s.lapBad d c e = false := by
  unfold lapBad
  cases hl : (s.tctx d c).last with
  | none => simp [hres, hkind]
  | some q => simpa [hres, hkind] using hlast q hl

theorem injectNext_bad {e : Nat} (h : s.lapBad d c e = true) :
    s.injectNext d c e = (s.stopWalker d c).tideErr eLaplist d c (LapEntry.lap e) ((s.tctx d c).last.getD 0) true := by
  unfold injectNext
  exact if_pos h

/-- An entry of a forward lap that passes the checks is injected (R32, R34). -/
theorem injectNext_forward {w : State} {e dir : Nat} (hbad : s.lapBad d c e = false) (hkind : LapEntry.kind e = 0)
    (hindex : LapEntry.index e < s.rd .TIDE_DIR_COUNT_COUNT d) (hread : s.dirRead d c (LapEntry.index e) = (w, some dir))
    (hvalid : DirEntry.valid dir = true) (hhome : DirEntry.home dir = w.tidePos d c)
    (hstrand : DirEntry.strand dir = w.tideStrand d c) (hdir : DirEntry.dir dir = w.tideDir d c)
    (hlap : DirEntry.lap dir = LapEntry.lap e) : s.injectNext d c e = w.injectSegment d c e dir := by
  unfold injectNext
  dsimp only
  rw [if_neg (by simp [hbad]), if_neg (by omega), if_neg (by omega), hread]
  exact if_neg (by simp [hvalid, hhome, hstrand, hdir, hlap, hkind])

/-- A walker that meets a bad entry stops, with ERR_TIDE_LAPLIST (R34). -/
theorem answer_laplist {v : State} {e : Nat} (hread : s.lapRead d c = (v, .ok e)) (hbad : v.lapBad d c e = true) :
    ∃ u, answer s (v.injectNext d c e) = .next u ∧ u.flag .TIDE_ERR_STATUS_LAPLIST d = true ∧
      u.rd .SIG_STATUS_VOIDED = 1 ∧ (u.tctx d c).stopped = true := by
  have hv := noTideRec_lapRead s d c
  rw [hread] at hv
  have hpend : v.pending = s.pending := by have h := congrArg State.pending hv; exact h
  have hfuse : v.fuses = s.fuses := by have h := congrArg State.fuses hv; exact h
  rw [injectNext_bad hbad]
  refine ⟨_, (answer_congr (w := v.stopWalker d c) hpend hfuse _).trans (next_of_noTideRec (noTideRec_tideErr _ _ _ _ _ _ _)),
    flag_tideErr_self _ d c _ _ true (by decide) (f := .TIDE_ERR_STATUS_LAPLIST) rfl rfl,
    rd_tideErr_void _ _ _ _ _ _ true, ?_⟩
  rw [(Sends.tideErr _ _ _ _ _ _ _).tctx]
  unfold stopWalker
  rw [tctx_setTctx_self]

/-- An injection sends its segment, or in resident mode nothing: its context stays. -/
theorem tctx_sendUnless (s : State) (d c : Nat) (res : Bool) (g : Seg) :
    (if res then s else s.sendSegment d c g true).tctx d c = s.tctx d c := by
  split
  · rfl
  · exact (Sends.sendSegment s d c g true).tctx d c

/-- The state of an injection before its slot is filled: the walker past the entry, and the lap kept. -/
def lapKept (s : State) (d c p : Nat) (head : List Nat) (addr : Nat) : State :=
  (s.passEntry d c p).setTctx d c
    { (s.passEntry d c p).tctx d c with laps := ((s.passEntry d c p).tctx d c).laps ++ [⟨p, head, addr⟩] }

theorem tctx_lapKept (s : State) (d c p : Nat) (head : List Nat) (addr : Nat) :
    (s.lapKept d c p head addr).tctx d c =
      { s.tctx d c with last := some p, laps := (s.tctx d c).laps ++ [⟨p, head, addr⟩] } := by
  have hpass : (s.passEntry d c p).tctx d c = { s.tctx d c with last := some p } := by
    unfold passEntry count
    rw [tctx_wr, tctx_setTctx_self]
  unfold lapKept
  rw [tctx_setTctx_self, hpass]

/-- The header-array entry of an injection written, where it has one yet (R47, R78). -/
def headStored (s : State) (d c p : Nat) (head : List Nat) (addr : Nat) (back res : Bool) : State × Bool :=
  if back && !res then (s, true)
  else s.writeHead d c p head (landingRecord addr (if back then s.accAddr d c p else 0) 0
    (if back then Hdr.accBlocks head else 0) 0)

theorem tctx_headStored (s : State) (d c p : Nat) (head : List Nat) (addr : Nat) (back res : Bool) :
    (s.headStored d c p head addr back res).1.tctx d c = s.tctx d c := by
  unfold headStored
  split
  · rfl
  · exact tctx_of_noData (noData_writeHead s d c p head _) d c

/-- The slot of an injection filled, and its segment sent. -/
def slotSent (s : State) (d c : Nat) (skip res : Bool) (x : Slot) (g : Seg) : State :=
  let u := (if skip then s.bump .TIDE_SD_SKIPPED_COUNT d c 1 else s).setSlot d c x
  if res then u else u.sendSegment d c g true

theorem slotSent_settle_keeps (s : State) (d c : Nat) (skip res : Bool) (x : Slot) (g : Seg) :
    (((s.slotSent d c skip res x g).settle d c).tctx d c).last = (s.tctx d c).last ∧
    (((s.slotSent d c skip res x g).settle d c).tctx d c).laps = (s.tctx d c).laps := by
  have hskip : (if skip then s.bump .TIDE_SD_SKIPPED_COUNT d c 1 else s).tctx d c = s.tctx d c := by
    split
    · exact tctx_wr s _ _ _ _ d c
    · rfl
  obtain ⟨done, reported, hsettle⟩ := tctx_settle (s.slotSent d c skip res x g) d c
  rw [hsettle]
  unfold slotSent
  rw [tctx_sendUnless, tctx_setSlot, hskip]
  exact ⟨rfl, rfl⟩

/-- An injection, stage by stage. -/
theorem injectSegment_stages {x : State} {e dir : Nat} {bs : List Byte}
    (h : s.tideRead d c (DirEntry.addr dir) (256 * (DirEntry.length dir + 2)) = (x, .ok bs)) :
    ∃ head slot skip g, s.injectSegment d c e dir =
      (((x.lapKept d c (LapEntry.lap e) head (DirEntry.addr dir + 256)).headStored d c (LapEntry.lap e) head
        (DirEntry.addr dir + 256) (LapEntry.kind e == 1) (x.tideResident d)).1.slotSent d c skip (x.tideResident d) slot
          g).settle d c := by
  unfold injectSegment
  rw [h]
  exact ⟨x.injectWords d c e dir (LapEntry.index e) (bytesWords (bs.take 256)), _, _, _, rfl⟩

/-- An injection: the walker has passed the entry, and the lap is kept for a resend (R34, R60). -/
theorem injectSegment_keeps {x : State} {e dir : Nat} {bs : List Byte}
    (h : s.tideRead d c (DirEntry.addr dir) (256 * (DirEntry.length dir + 2)) = (x, .ok bs)) :
    ((s.injectSegment d c e dir).tctx d c).last = some (LapEntry.lap e) ∧
    ∃ head, ((s.injectSegment d c e dir).tctx d c).laps =
      (x.tctx d c).laps ++ [⟨LapEntry.lap e, head, DirEntry.addr dir + 256⟩] := by
  obtain ⟨head, slot, skip, g, hstages⟩ := injectSegment_stages (e := e) h
  rw [hstages, (slotSent_settle_keeps _ d c _ _ _ _).1, (slotSent_settle_keeps _ d c _ _ _ _).2, tctx_headStored, tctx_lapKept]
  exact ⟨rfl, head, rfl⟩

end

/-- An answer gives a next state with the contexts of the step. -/
theorem answer_tctx (s u : State) : ∃ w, answer s u = .next w ∧ ∀ d c, w.tctx d c = u.tctx d c :=
  ⟨_, rfl, fun _ _ => rfl⟩

theorem segmentsSent : SegmentsSent := by
  intro s d c hc
  refine ⟨fun h => ?_, fun h => ?_, fun p g gs hfree hon hv hcand hcut => ?_,
    fun p e hfree hon hv hcand => ⟨?_, fun v hread hbad => ?_,
      fun v w x dir bs hread hres hkind hlast hindex hdread hvalid hhome hstrand hdir hlap hdata => ?_⟩⟩
  · rw [exec_contextSendNext hc]
    by_cases hfree : stacksFree s
    · have hnone : s.tideOn d c = false ∨ firstCandidate (s.candidates d c) = none ∨ (s.tctx d c).voided = true := by
        simpa [hfree] using h
      rw [sendNext_none hnone, tideStep_self, answer_self]
    · rw [tideStep_held hfree, answer_self]
  · rw [exec_segmentInject hc, walkerStep_none h, tideStep_self, answer_self]
  · obtain ⟨u, hu, htctx⟩ := answer_tctx s (s.sendCut d c)
    refine ⟨u, ?_, by rw [htctx, sendCut_cut hcut]⟩
    rw [exec_contextSendNext hc, tideStep_free hfree, sendNext_cut hon hv hcand, hu]
  · rw [exec_segmentInject hc, exec_contextSendNext hc, walkerStep_walk hcand, sendNext_walk hon hv hcand]
  · rw [exec_segmentInject hc, tideStep_free hfree, walkerStep_walk hcand, walkOn_read hread]
    exact answer_laplist hread (lapBad_of hbad)
  · obtain ⟨hpassed, head, hlaps⟩ := injectSegment_keeps (s := w) (d := d) (c := c) (e := e) hdata
    obtain ⟨u, hu, htctx⟩ := answer_tctx s (w.injectSegment d c e dir)
    refine ⟨u, ⟨LapEntry.lap e, head, DirEntry.addr dir + 256⟩, ?_, by rw [htctx, hpassed], by rw [htctx, hlaps], rfl, rfl⟩
    rw [exec_segmentInject hc, tideStep_free hfree, walkerStep_walk hcand, walkOn_read hread,
      injectNext_forward (lapBad_eq_false hres hkind hlast) hkind hindex hdread hvalid hhome hstrand hdir hlap, hu]

/-! ### Landing signals -/

theorem exec_landingComplete {s : State} {d c p : Nat} (h : s.hasTide d c = true) :
    exec (.landingComplete d c p) s = answer s (s.tideStep (s.landingDone d c p)) := answerIf_true h

theorem exec_codebookInstall {s : State} {d c p : Nat} (h : s.hasTide d c = true) :
    exec (.codebookInstall d c p) s = answer s (s.tideStep (s.tryInstall d c p)) := answerIf_true h

/-- The word of the landing signal of a segment; that of a resent copy names the lap (R48, R60). -/
def landingWord (s : State) (d c : Nat) (head : List Nat) (again : Bool) : Nat :=
  let n := s.rd .TIDE_LCLASS_COUNTER 0 (Hdr.lclass head)
  if again then 2 ^ 63 + Hdr.lap head * 2 ^ 37 + s.tideDir d c * 2 ^ 36 + s.tideStrand d c * 2 ^ 34 + n * 2 ^ 16
  else n * 2 ^ 16

/-- The landing signal of a segment on its way to a tile. -/
def landingFlight (s : State) (d c : Nat) (head : List Nat) (again : Bool) (t : Nat) : Flight :=
  ⟨s.landingWord d c head again, t, s.rd .TIDE_LCLASS_AMOUNT 0 (Hdr.lclass head), .tide d c, false, false⟩

/-- The landing signals of a segment, one for each tile of its class. -/
def landingFlights (s : State) (d c : Nat) (head : List Nat) (again : Bool) : List Flight :=
  (s.fuses.rectTiles (s.classRect (Hdr.lclass head))).map (s.landingFlight d c head again)

/-- Signals launched one by one, where what one is does not rest on those before it. -/
theorem foldl_launch {f : State → Nat → Flight} (hf : ∀ s g, f (s.launch g) = f s) (ts : List Nat) (s : State) :
    ts.foldl (fun s t => s.launch (f s t)) s = { s with flights := s.flights ++ ts.map (f s) } := by
  induction ts generalizing s with
  | nil => simp
  | cons t ts ih =>
    rw [List.foldl_cons, ih, hf]
    simp [launch]

/-- A landing signal raised puts its flights behind those on their way, and changes nothing else. -/
theorem raiseLanding_eq (s : State) (d c : Nat) (head : List Nat) (again : Bool) :
    s.raiseLanding d c head again = { s with flights := s.flights ++ s.landingFlights d c head again } := by
  unfold raiseLanding landingFlights
  exact foldl_launch (f := fun u t => ⟨s.landingWord d c head again, t, u.rd .TIDE_LCLASS_AMOUNT 0 (Hdr.lclass head),
    .tide d c, false, false⟩) (fun _ _ => rfl) _ s

/-- The landing signals rest on the landing classes and on the context's strand and direction. -/
theorem landingFlights_congr {s w : State} (hr : ∀ f i x, f.spec.reg ≠ .TIDE_SD_LANDED → w.rd f i x = s.rd f i x)
    (hf : w.fuses = s.fuses) (d c : Nat) (head : List Nat) (again : Bool) :
    w.landingFlights d c head again = s.landingFlights d c head again := by
  have hword : w.landingWord d c head again = s.landingWord d c head again := by
    unfold landingWord tideDir tideStrand
    rw [hr _ _ _ (by decide), hr _ _ _ (by decide), hr _ _ _ (by decide)]
  have hrect : w.classRect (Hdr.lclass head) = s.classRect (Hdr.lclass head) := by
    unfold classRect
    rw [hr _ _ _ (by decide), hr _ _ _ (by decide), hr _ _ _ (by decide), hr _ _ _ (by decide), hr _ _ _ (by decide)]
  have hflight : w.landingFlight d c head again = s.landingFlight d c head again := funext fun t => by
    unfold landingFlight
    rw [hword, hr _ _ _ (by decide)]
  unfold landingFlights
  rw [hf, hrect, hflight]

/-- Contexts that agree, and windows: a slot set gives contexts that agree. -/
theorem tctxs_setSlot {s w : State} {d c : Nat} (ht : w.tctxs = s.tctxs) (hw : w.tideW d c = s.tideW d c) (y : Slot) :
    (w.setSlot d c y).tctxs = (s.setSlot d c y).tctxs := by
  unfold setSlot setTctx tctx
  rw [ht, hw]

section
variable {s : State} {d c p : Nat} {x : Slot}

theorem landingDone_again (hx : s.slotAt d c p = some x) (h : 0 < x.again) :
    s.landingDone d c p = (s.setSlot d c { x with again := x.again - 1 }).raiseLanding d c x.head true := by
  unfold landingDone
  rw [hx]
  exact if_pos h

theorem landingDone_idle (hx : s.slotAt d c p = some x) (h : x.again = 0) (hl : x.landed = true ∨ x.lands = false) :
    s.landingDone d c p = s := by
  unfold landingDone
  rw [hx]
  dsimp only
  rw [if_neg (by omega), if_pos]
  rcases hl with hl | hl <;> simp [hl]

theorem landingDone_lands (hx : s.slotAt d c p = some x) (h : x.again = 0) (hlanded : x.landed = false)
    (hlands : x.lands = true) (hfwd : Hdr.isBackward x.head = false) (haddr : x.addr = s.landAddr d c p) :
    s.landingDone d c p = (s.bump .TIDE_SD_LANDED_COUNT d c 1).slotLanded d c { x with landed := true } := by
  unfold landingDone
  rw [hx]
  dsimp only
  rw [if_neg (by omega), if_neg (by simp [hlanded, hlands, hfwd]), if_neg (by simp [haddr])]

/-- A segment with no book to wait for is signalled (R48, R54). -/
theorem slotLanded_signals (hbad : x.bad = false) (hframe : Hdr.isFrame x.head = false) (hwant : x.want = .yes)
    (hfwd : Hdr.isBackward x.head = false) (hepoch : Hdr.epoch x.head = 0) :
    s.slotLanded d c x = (s.setSlot d c { x with state := .signalled, refs := [] }).raiseLanding d c x.head false := by
  have hbooks : s.bookCheck d c x = some (.ok []) := by simp [bookCheck, hfwd, hepoch]
  unfold slotLanded trySignal
  rw [if_neg (by simp [hbad]), if_neg (by simp [hframe]), if_neg (by simp [hwant]), hbooks]
  exact if_neg (by simp [hwant])

/-- The signal of a landed segment with no book to wait for: its flights, its slot signalled, and the count of landed
segments raised (R45, R48). -/
theorem landed_signals (y : Slot) (head : List Nat) :
    let u := ((s.bump .TIDE_SD_LANDED_COUNT d c 1).setSlot d c y).raiseLanding d c head false
    answer s u = .next u ∧ u.flights = s.flights ++ s.landingFlights d c head false ∧
      u.rd .TIDE_SD_LANDED_COUNT d c = min (s.rd .TIDE_SD_LANDED_COUNT d c + 1) (2 ^ 32 - 1) ∧
      u.tctxs = (s.setSlot d c y).tctxs := by
  have hbump := onlyPuts_bump s (f := .TIDE_SD_LANDED_COUNT) d c (by decide) rfl
  have hr : ∀ f i x, f.spec.reg ≠ .TIDE_SD_LANDED → (s.bump .TIDE_SD_LANDED_COUNT d c 1).rd f i x = s.rd f i x :=
    fun f i x hf => rd_wr_out s _ _ _ _ _ hf (by decide)
  have hcalm := (Calm.setSlot (s.bump .TIDE_SD_LANDED_COUNT d c 1) d c y).trans (Calm.raiseLanding _ d c head false)
  refine ⟨?_, ?_, ?_, ?_⟩
  · rw [← Calm.next hcalm]
    exact answer_congr rfl rfl _
  · have hcongr := landingFlights_congr (w := (s.bump .TIDE_SD_LANDED_COUNT d c 1).setSlot d c y) hr rfl d c head false
    rw [raiseLanding_eq]
    exact congrArg (s.flights ++ ·) hcongr
  · rw [hcalm.rd _ _ _ (by decide)]
    obtain ⟨⟨hput, -⟩, -⟩ := hbump
    refine (hput _ (List.mem_singleton.2 rfl)).trans (Nat.mod_eq_of_lt ?_)
    exact Nat.lt_of_le_of_lt (Nat.min_le_right _ _) (show 2 ^ 32 - 1 < 2 ^ 32 by decide)
  · have hwindow : (s.bump .TIDE_SD_LANDED_COUNT d c 1).tideW d c = s.tideW d c := by
      unfold tideW; rw [hr _ _ _ (by decide)]
    rw [raiseLanding_eq]
    exact tctxs_setSlot (s := s) (w := s.bump .TIDE_SD_LANDED_COUNT d c 1) rfl hwindow y

/-! ### Books installed -/

theorem tryInstall_of (hx : s.slotAt d c p = some x) : s.tryInstall d c p =
    if Hdr.isFrame x.head && x.landed && !x.bad && !x.installed && !s.framePending d c (Hdr.cbSlot x.head) p then
      s.installFrame d c x
    else s := by
  unfold tryInstall; rw [hx]

theorem installFrame_referred (h : s.refCount d c (Hdr.cbSlot x.head) x.p ≠ 0) : s.installFrame d c x = s := by
  unfold installFrame
  exact if_pos h

theorem tryInstall_not (hx : s.slotAt d c p = some x)
    (h : Hdr.isFrame x.head = false ∨ x.landed = false ∨ x.bad = true ∨ x.installed = true ∨
      s.framePending d c (Hdr.cbSlot x.head) p = true ∨ s.refCount d c (Hdr.cbSlot x.head) p ≠ 0) :
    s.tryInstall d c p = s := by
  rw [tryInstall_of hx]
  split
  · rename_i hgo
    simp only [Bool.and_eq_true, Bool.not_eq_true'] at hgo
    obtain ⟨⟨⟨⟨hframe, hlanded⟩, hbad⟩, hinst⟩, hpend⟩ := hgo
    refine installFrame_referred ?_
    rw [(slotAt_eq_some hx).2]
    simpa [hframe, hlanded, hbad, hinst, hpend] using h
  · rfl

/-- The store entry of a book: what the head of its bytes says (R54, R182). -/
def bookOf (bs : List Byte) : StoreBook :=
  let b := Codec.head bs
  ⟨b.home, b.tensor, b.plane, b.epoch, b.format, b.grad⟩

/-- A book in the store: what follows it in its entry is lost, and the entry names it. -/
def bookKept (s : State) (d c a cb : Nat) (b : StoreBook) : State :=
  let u : State := { s.draw.2 with mem := s.draw.2.mem.lose (.span (a + 16448) (a + 32768)) s.draw.1 }
  { u with books := SMap.set u.books ⟨(u.storeOwner d c).1, (u.storeOwner d c).2, cb⟩ none (some b) }

theorem books_bookKept (s : State) (d c a cb : Nat) (b : StoreBook) :
    SMap.get (s.bookKept d c a cb b).books ⟨(s.storeOwner d c).1, (s.storeOwner d c).2, cb⟩ none = some b :=
  SMap.get_set_self s.books ⟨(s.storeOwner d c).1, (s.storeOwner d c).2, cb⟩ none (some b)

/-- A frame's book installed, stage by stage (R54). -/
theorem installFrame_stages {v w : State} {bs : List Byte} (hrefs : s.refCount d c (Hdr.cbSlot x.head) x.p = 0)
    (hread : s.tideRead d c x.addr (256 * Hdr.payloadFlits x.head) = (v, .ok bs)) (hok : frameOk x.head bs = true)
    (hwrite : v.tideWrite d c (v.storeAddr d c (Hdr.cbSlot x.head)) (bs.take (64 + 4 * (Codec.head bs).size)) = (w, none)) :
    s.installFrame d c x = ((((w.bookKept d c (v.storeAddr d c (Hdr.cbSlot x.head)) (Hdr.cbSlot x.head)
      (bookOf bs)).setSlot d c { x with installed := true }).markInstalled d c x).retrySignals d c).settle d c := by
  unfold installFrame
  extract_lets cb
  rw [if_neg (by simp [cb, hrefs]), hread]
  dsimp only
  rw [if_neg (by simp [hok]), hwrite]
  rfl

/-- A frame that may be installed puts its book into the store (R54). -/
theorem tryInstall_books {v w : State} {bs : List Byte} (hx : s.slotAt d c p = some x)
    (hframe : Hdr.isFrame x.head = true) (hlanded : x.landed = true) (hbad : x.bad = false) (hinst : x.installed = false)
    (hpend : s.framePending d c (Hdr.cbSlot x.head) p = false) (hrefs : s.refCount d c (Hdr.cbSlot x.head) p = 0)
    (hread : s.tideRead d c x.addr (256 * Hdr.payloadFlits x.head) = (v, .ok bs)) (hok : frameOk x.head bs = true)
    (hwrite : v.tideWrite d c (v.storeAddr d c (Hdr.cbSlot x.head)) (bs.take (64 + 4 * (Codec.head bs).size)) = (w, none)) :
    SMap.get (s.tryInstall d c p).books ⟨(w.storeOwner d c).1, (w.storeOwner d c).2, Hdr.cbSlot x.head⟩ none =
      some (bookOf bs) := by
  rw [tryInstall_of hx, if_pos (by simp [hframe, hlanded, hbad, hinst, hpend]),
    installFrame_stages ((slotAt_eq_some hx).2.symm ▸ hrefs) hread hok hwrite,
    Calm.books ((((Calm.setSlot _ d c _).trans (Calm.markInstalled _ d c x)).trans (Calm.retrySignals _ d c)).trans
      (Calm.settle _ d c))]
  exact books_bookKept _ _ _ _ _ _

end

/-- An answer gives a next state with the books of the step. -/
theorem answer_books (s u : State) : ∃ w, answer s u = .next w ∧ w.books = u.books := ⟨_, rfl, rfl⟩

theorem landingsSignal : LandingsSignal := by
  intro s d c p x hc hx
  refine ⟨fun hheld => ⟨?_, ?_⟩, fun hfree hagain => ?_, fun hagain hl => ?_,
    fun hfree hagain hlanded hlands hbad hwant hfwd hframe hepoch haddr => ?_, fun h => ?_,
    fun v w bs hfree hframe hlanded hbad hinst hpend hrefs hread hok hwrite => ?_⟩
  · rw [exec_landingComplete hc, tideStep_held hheld, answer_self]
  · rw [exec_codebookInstall hc, tideStep_held hheld, answer_self]
  · rw [exec_landingComplete hc, tideStep_free hfree, landingDone_again hx hagain]
    have hcalm := (Calm.setSlot s d c { x with again := x.again - 1 }).trans (Calm.raiseLanding _ d c x.head true)
    refine ⟨_, Calm.next hcalm, ?_, ?_⟩
    · rw [raiseLanding_eq]
      rfl
    · rw [raiseLanding_eq]
  · rw [exec_landingComplete hc, landingDone_idle hx hagain hl, tideStep_self, answer_self]
  · rw [exec_landingComplete hc, tideStep_free hfree, landingDone_lands hx hagain hlanded hlands hfwd haddr,
      slotLanded_signals (x := { x with landed := true }) hbad hframe hwant hfwd hepoch]
    exact ⟨_, landed_signals { x with landed := true, state := .signalled, refs := [] } x.head⟩
  · rw [exec_codebookInstall hc, tryInstall_not hx h, tideStep_self, answer_self]
  · obtain ⟨u, hu, hbooks⟩ := answer_books s (s.tryInstall d c p)
    refine ⟨u, ?_, ?_⟩
    · rw [exec_codebookInstall hc, tideStep_free hfree, hu]
    · rw [hbooks]
      exact tryInstall_books hx hframe hlanded hbad hinst hpend hrefs hread hok hwrite

end Sys2Proof.Machine.State

namespace Sys2Proof

open Machine Machine.State Claims

/-- Settles O22: what a context sends is what its first candidate says, an injection keeps its lap, and a landing signal is
the flights that it puts on their way. -/
theorem segmentsSentAndLanded : Obligations.SegmentsSentAndLanded := ⟨segmentsSent, landingsSignal⟩

end Sys2Proof

/-! SUPPORT. The instructions of the scalar cores: from a command to what its instruction does to the context that holds the
core, and what a result, a latch, a trap or a block leaves (R95, R96, R99, R499). -/
namespace Sys2Proof.Machine.State

open Sys2Proof.Claims

/-! ### From the command to the instruction -/

/-- A core whose instruction is one of the command's row does what the row says, on the state in which the context holds it. -/
theorem answerIf_onCoreDo {s w : State} {t c n : Nat} {i : Insn} {f : Nat → Insn → Nat → Option (State → State)}
    (h : runs s t c i n) (hf : (f c i n).map (fun g => g (s.takeCore t c)) = some w) :
    answerIf (s.hasTile t) s (s.onCoreDo t f) = answer s w := by
  obtain ⟨ht, -, hi⟩ := h
  rw [answerIf_true (hasTile_of ht), onCoreDo_eq hi]
  obtain ⟨g, hg, rfl⟩ := Option.map_eq_some_iff.1 hf
  rw [hg]

/-! ### What each command comes to -/

section

variable {s : State} {t c n rd rs1 rs2 : Nat}

theorem exec_wfi (h : runs s t c .wfi n) : exec (.wfi t) s = answer s ((s.takeCore t c).retire t c n) :=
  answerIf_onCoreDo h rfl

theorem exec_ecall (h : runs s t c .ecall n) : exec (.ecall t) s = answer s ((s.takeCore t c).trap t c xEcall 0) :=
  answerIf_onCoreDo h rfl

theorem exec_ebreak (h : runs s t c .ebreak n) : exec (.ebreak t) s =
    answer s ((s.takeCore t c).trap t c xBreak (if Config.trapValue xBreak then (s.ctx t c).pc else 0)) :=
  answerIf_onCoreDo h rfl

theorem exec_fenceI (h : runs s t c .fenceI n) :
    exec (.fenceI t) s = answer s ((s.takeCore t c).illegal t c ((s.takeCore t c).wordAt t c)) :=
  answerIf_onCoreDo h rfl

theorem exec_mret (h : runs s t c .mret n) : exec (.mret t) s = answer s ((s.takeCore t c).mret t c) :=
  answerIf_onCoreDo h rfl

theorem exec_tileHalt (h : runs s t c .tileHalt n) :
    exec (.tileHalt t) s = answer s (((s.takeCore t c).retire t c n).haltCtx t c) := answerIf_onCoreDo h rfl

theorem exec_tileYield (h : runs s t c .tileYield n) : exec (.tileYield t) s = answer s ((s.takeCore t c).yieldCore t c n) :=
  answerIf_onCoreDo h rfl

theorem exec_tileTmark (h : runs s t c (.tileTmark rd) n) :
    exec (.tileTmark t) s = answer s ((s.takeCore t c).tmark t c n rd) := answerIf_onCoreDo h rfl

theorem exec_tileTime (h : runs s t c (.tileTime rd) n) :
    exec (.tileTime t) s = answer s ((s.takeCore t c).timeLow t c n rd) := answerIf_onCoreDo h rfl

theorem exec_csrAccess {f : CsrOp} {src csr : Nat} {imm : Bool} (h : runs s t c (.csr f rd src csr imm) n) :
    exec (.csrAccess t) s = answer s ((s.takeCore t c).csrAccess t c n f rd src csr imm ((s.takeCore t c).wordAt t c)) :=
  answerIf_onCoreDo h rfl

theorem exec_coreLoad {size : Nat} {sg : Bool} {off : BitVec 32} (h : runs s t c (.load rd rs1 size sg off) n) :
    exec (.coreLoad t []) s =
      answer s ((s.takeCore t c).coreLoad t c n (s.effAddr t c rs1 off) rd size sg false []) := answerIf_onCoreDo h rfl

theorem exec_tileLd (h : runs s t c (.tileLd rd rs1) n) :
    exec (.tileLd t []) s = answer s ((s.takeCore t c).coreLoad t c n (s.x t c rs1).toNat rd 8 false true []) :=
  answerIf_onCoreDo h rfl

theorem exec_coreStore {size : Nat} {off : BitVec 32} (h : runs s t c (.store rs1 rs2 size off) n) :
    exec (.coreStore t []) s = answer s ((s.takeCore t c).coreStore t c n (s.effAddr t c rs1 off) size
      ((s.x t c rs2).toNat % 2 ^ (8 * size)) []) := answerIf_onCoreDo h rfl

theorem exec_tileSd (h : runs s t c (.tileSd rs1 rs2) n) :
    exec (.tileSd t []) s = answer s ((s.takeCore t c).coreStore t c n (s.x t c rs1).toNat 8
      (if rs2 = 0 then 0 else (s.x t c rs2).toNat + (s.x t c (rs2 + 1)).toNat * 2 ^ 32) []) := answerIf_onCoreDo h rfl

theorem exec_sigWait (h : runs s t c (.sigWait rd rs1 rs2) n) :
    exec (.sigWait t) s = answer s ((s.takeCore t c).sigWait t c n rd (s.x t c rs1) (s.x t c rs2)) :=
  answerIf_onCoreDo h rfl

theorem exec_sigTry (h : runs s t c (.sigTry rd rs1 rs2) n) :
    exec (.sigTry t) s = answer s ((s.takeCore t c).sigTry t c n rd (s.x t c rs1) (s.x t c rs2)) :=
  answerIf_onCoreDo h rfl

theorem exec_sigPost (h : runs s t c (.sigPost rs1 rs2) n) :
    exec (.sigPost t) s = answer s ((s.takeCore t c).sigPost t c n (s.x t c rs1) (s.x t c rs2)) :=
  answerIf_onCoreDo h rfl

theorem exec_barArrive (h : runs s t c (.barArrive rd rs1) n) :
    exec (.barArrive t) s = answer s ((s.takeCore t c).barArrive t c n rd (s.x t c rs1)) := answerIf_onCoreDo h rfl

theorem exec_barWait (h : runs s t c (.barWait rs1 rs2) n) :
    exec (.barWait t) s = answer s ((s.takeCore t c).barWait t c n (s.x t c rs1) (s.x t c rs2)) := answerIf_onCoreDo h rfl

theorem exec_tqIssue {e : Nat} (h : runs s t c (.tqIssue e rd rs1) n) :
    exec (.tqIssue t []) s = answer s ((s.takeCore t c).tqIssue t c n e rd (s.x t c rs1) []) := answerIf_onCoreDo h rfl

theorem exec_tqFence {e : Nat} (h : runs s t c (.tqFence e rs1) n) :
    exec (.tqFence t) s = answer s ((s.takeCore t c).tqFence t c n e (s.x t c rs1)) := answerIf_onCoreDo h rfl

end

/-! ### Results -/

/-- A change of one context alone, and rd written after it. -/
theorem givesCtx_setX {s w : State} {t c : Nat} {y : Ctx} (rd : Nat) (v : BitVec 32) (hw : onlyCtx s w t c)
    (hcore : holdsCore w t c) (hy : w.ctx t c = y) (hx : y.x = (s.ctx t c).x) :
    givesCtx s (w.setX t c rd v) t c rd v y := by
  obtain ⟨hctx, hrest⟩ := hw
  have hxw : ∀ r, w.x t c r = s.x t c r := fun r => by unfold State.x; rw [hy, hx]
  refine ⟨fun r => ?_, ?_, ⟨fun t' c' hne => ?_, ?_⟩, ?_⟩
  · rw [x_setX, hxw]
  · rw [ctx_setX, if_pos ⟨rfl, rfl⟩, hy]
  · rw [ctx_setX, if_neg hne, hctx t' c' hne]
  · rw [noCtx_setX, hrest]
  · unfold holdsCore
    rw [current_setX]
    exact hcore

theorem onlyCtx_setCtx (s : State) (t c : Nat) (y : Ctx) : onlyCtx s ((s.takeCore t c).setCtx t c y) t c :=
  ⟨fun t' c' hne => by rw [ctx_setCtx, if_neg hne, ctx_takeCore], rfl⟩

theorem holdsCore_setCtx (s : State) (t c : Nat) (y : Ctx) : holdsCore ((s.takeCore t c).setCtx t c y) t c :=
  current_takeCore s t c

theorem next_of_givesCtx {s u : State} {t c rd : Nat} {v : BitVec 32} {y : Ctx} (h : givesCtx s u t c rd v y) :
    answer s u = .next u := by
  obtain ⟨-, -, ⟨-, hrest⟩, -⟩ := h
  exact next_of_noCtx hrest

/-- A result written by the context that holds the core. -/
theorem gives_result (s : State) (t c n rd : Nat) (v : BitVec 32) :
    gives s ((s.takeCore t c).result t c n rd v) t c n rd v :=
  givesCtx_setX rd v (onlyCtx_setCtx s t c _) (holdsCore_setCtx s t c _) (ctx_setCtx_self _ t c _) rfl

/-- An instruction retired without a result. -/
theorem gives_retire (s : State) (t c n : Nat) : gives s ((s.takeCore t c).retire t c n) t c n 0 0 :=
  givesCtx_setX 0 0 (onlyCtx_setCtx s t c _) (holdsCore_setCtx s t c _) (ctx_setCtx_self _ t c _) rfl

/-- A further change of the context, its registers apart, after its result was written. -/
theorem givesCtx_setCtx {s u : State} {t c rd : Nat} {v : BitVec 32} {y : Ctx} (h : givesCtx s u t c rd v y) (f : Ctx → Ctx)
    (hf : ∀ y x, f { y with x := x } = { f y with x := x }) :
    givesCtx s (u.setCtx t c (f (u.ctx t c))) t c rd v (f y) := by
  obtain ⟨hx, hy, ⟨hctx, hrest⟩, hcore⟩ := h
  have hfx : (f (u.ctx t c)).x = (u.ctx t c).x := by
    have h := congrArg Ctx.x (hf (u.ctx t c) (u.ctx t c).x)
    exact h
  refine ⟨fun r => ?_, ?_, ⟨fun t' c' hne => ?_, hrest⟩, hcore⟩
  · rw [x_setCtx_same _ _ _ _ hfx, hx]
  · rw [ctx_setCtx_self, hfx, ← hf, ← hy]
  · rw [ctx_setCtx, if_neg hne, hctx t' c' hne]

/-- A command whose instruction gives a result. -/
theorem exec_gives {s : State} {t c n rd : Nat} {v : BitVec 32} {i : Insn} {f : Nat → Insn → Nat → Option (State → State)}
    (h : runs s t c i n) (hf : (f c i n).map (fun g => g (s.takeCore t c)) = some ((s.takeCore t c).result t c n rd v)) :
    ∃ u, answerIf (s.hasTile t) s (s.onCoreDo t f) = .next u ∧ gives s u t c n rd v :=
  have hr := gives_result s t c n rd v
  ⟨_, (answerIf_onCoreDo h hf).trans (next_of_givesCtx hr), hr⟩

theorem tileReads : TileReads := fun _ _ _ _ _ =>
  ⟨fun h => exec_gives h rfl, fun h => exec_gives h rfl, fun h => exec_gives h rfl, fun h => exec_gives h rfl,
    fun _ h => exec_gives h rfl⟩

theorem tidemark_result (s : State) (t c n rd : Nat) (v : BitVec 32) : (s.result t c n rd v).tidemark = s.tidemark :=
  rd_of_noCtx (noCtx_result s t c n rd v) _ _ _

theorem time_result (s : State) (t c n rd : Nat) (v : BitVec 32) : (s.result t c n rd v).time = s.time := by
  have h := congrArg State.time (noCtx_result s t c n rd v)
  exact h

/-- TILE.TMARK writes its result, and then the latch of the high word. -/
theorem tmark_eq (s : State) (t c n rd : Nat) : s.tmark t c n rd =
    (s.result t c n rd (BitVec.ofNat 32 s.tidemark)).setCtx t c
      { (s.result t c n rd (BitVec.ofNat 32 s.tidemark)).ctx t c with tmarkHi := BitVec.ofNat 32 (s.tidemark / 2 ^ 32) } := by
  unfold tmark
  dsimp only
  rw [tidemark_result]

/-- TILE.TIME writes its result, and then the latch of the high word. -/
theorem timeLow_eq (s : State) (t c n rd : Nat) : s.timeLow t c n rd =
    (s.result t c n rd (s.time.extractLsb' 0 32)).setCtx t c
      { (s.result t c n rd (s.time.extractLsb' 0 32)).ctx t c with timeHi := s.time.extractLsb' 32 32 } := by
  unfold timeLow
  dsimp only
  rw [time_result]

theorem tileLatches : TileLatches := by
  intro s t c n rd
  refine ⟨fun h => ?_, fun h => ?_⟩
  · have hu := givesCtx_setCtx (gives_result s t c n rd (BitVec.ofNat 32 s.tidemark))
      (fun y => { y with tmarkHi := BitVec.ofNat 32 (s.tidemark / 2 ^ 32) }) fun _ _ => rfl
    exact ⟨_, by rw [exec_tileTmark h, tmark_eq]; exact next_of_givesCtx hu, hu⟩
  · have hu := givesCtx_setCtx (gives_result s t c n rd (s.time.extractLsb' 0 32))
      (fun y => { y with timeHi := s.time.extractLsb' 32 32 }) fun _ _ => rfl
    exact ⟨_, by rw [exec_tileTime h, timeLow_eq]; exact next_of_givesCtx hu, hu⟩

/-! ### Exceptions -/

/-- The context at an exception: mepc, mcause and mtval written, and its wait ended. -/
def faulted (y : Ctx) (cause : Nat) (tval : BitVec 32) : Ctx :=
  { y with mepc := y.pc, mcause := BitVec.ofNat 32 cause, mtval := tval, wait := .none }

/-- A context without a handler halts, and its cause and value stay in the tile's registers (R96). -/
def haltedState (s : State) (t c cause : Nat) (tval : BitVec 32) : State :=
  ((((s.setCtx t c (faulted (s.ctx t c) cause tval)).haltCtx t c).wr .TILE_CTX_CAUSE_CAUSE t c cause).wr
    .TILE_CTX_TVAL_TVAL t c tval.toNat)

theorem trap_halts {s : State} {t c cause : Nat} {tval : BitVec 32} (h : (s.ctx t c).mtvec = 0) :
    s.trap t c cause tval =
      (s.haltedState t c cause tval).tileErr t tTrap 0 false 0 0 cause tval.toNat 1 (t * 8 + c) := if_pos h

theorem trap_handled {s : State} {t c cause : Nat} {tval : BitVec 32} (h : (s.ctx t c).mtvec ≠ 0) :
    s.trap t c cause tval = s.setCtx t c { faulted (s.ctx t c) cause tval with
      mpie := (s.ctx t c).mie, mie := false, pc := (s.ctx t c).mtvec &&& 0xFFFFFFFC#32 } := if_neg h

theorem ctx_of_noRec {s u : State} (h : u.noRec = s.noRec) (t c : Nat) : u.ctx t c = s.ctx t c := by
  have h := congrArg (fun v : State => v.ctx t c) h
  exact h

theorem ctx_haltedState (s : State) (t c cause : Nat) (tval : BitVec 32) (t' c' : Nat) :
    (s.haltedState t c cause tval).ctx t' c' = if t' = t ∧ c' = c then faulted (s.ctx t c) cause tval else s.ctx t' c' := by
  unfold haltedState
  rw [ctx_wr, ctx_wr, ctx_haltCtx _ _ _ (by rw [ctx_setCtx_self]; rfl), ctx_setCtx]

theorem rd_haltedState (s : State) (t c cause : Nat) (tval : BitVec 32) {f : Fd} (i x : Nat)
    (h : f.spec.reg ∉ [Reg.TILE_CTX_CTRL, .TILE_CTX_CAUSE, .TILE_CTX_TVAL, .HST_STATUS, .HST_PBA]) :
    (s.haltedState t c cause tval).rd f i x = s.rd f i x := by
  simp only [List.mem_cons, List.not_mem_nil, or_false, not_or] at h
  obtain ⟨hctrl, hcause, htval, hst, hpba⟩ := h
  unfold haltedState
  rw [rd_wr_out _ _ _ _ _ _ htval (by decide), rd_wr_out _ _ _ _ _ _ hcause (by decide),
    rd_haltCtx _ _ _ (by rw [ctx_setCtx_self]; rfl) _ _ _ (by simp [hctrl, hst, hpba]), rd_setCtx]

theorem noHalt_wr (s : State) (f : Fd) (i x v : Nat) : (s.wr f i x v).noHalt = s.noHalt := rfl

theorem noHalt_setCtx (s : State) (t c : Nat) (y : Ctx) : (s.setCtx t c y).noHalt = s.noHalt := rfl

theorem noHalt_haltedState (s : State) (t c cause : Nat) (tval : BitVec 32) :
    (s.haltedState t c cause tval).noHalt = s.noHalt := by
  unfold haltedState
  rw [noHalt_wr, noHalt_wr, noHalt_haltCtx _ _ _ (by rw [ctx_setCtx_self]; rfl), noHalt_setCtx]

theorem errSeq_haltCtx (s : State) (t c : Nat) (h : (s.ctx t c).wait = .none) : (s.haltCtx t c).errSeq = s.errSeq := by
  have h := congrArg State.errSeq (noHaltInt_haltCtx s t c h)
  exact h

theorem cause_haltCtx (s : State) (t c : Nat) (h : (s.ctx t c).wait = .none) : (s.haltCtx t c).cause = s.cause := by
  have h := congrArg State.cause (noHaltInt_haltCtx s t c h)
  exact h

/-- An exception without a handler halts its context (R96). -/
theorem halted_trap {s w : State} {t c cause : Nat} {tval : BitVec 32} (hw : w.noCtx = s.noCtx)
    (hctx : ∀ t' c', w.ctx t' c' = s.ctx t' c') (hwait : (s.ctx t c).wait = .none) (hm : (s.ctx t c).mtvec = 0)
    (hcause : cause < 2 ^ Fd.TILE_CTX_CAUSE_CAUSE.width) :
    halted s (w.trap t c cause tval) t c cause tval := by
  have hrd := rd_of_noCtx hw
  have hidle : ((w.setCtx t c (faulted (w.ctx t c) cause tval)).ctx t c).wait = .none := by rw [ctx_setCtx_self]; rfl
  rw [trap_halts (by rw [hctx]; exact hm)]
  have hrec := noRec_tileErr (w.haltedState t c cause tval) t tTrap 0 false 0 0 cause tval.toNat 1 (t * 8 + c)
  have herr : ∀ f i x, f.spec.reg ∉ [Reg.TILE_ERR_STATUS, .TILE_ERR_INFO, .SIG_ERR_HEAD, .SIG_ERR_DROPPED, .SIG_STATUS,
      .HST_PBA] → ((w.haltedState t c cause tval).tileErr t tTrap 0 false 0 0 cause tval.toNat 1 (t * 8 + c)).rd f i x =
        (w.haltedState t c cause tval).rd f i x := fun f i x hf => rd_tileErr _ _ _ _ _ _ _ _ _ _ _ _ _ _ hf
  refine ⟨?_, ?_, ?_, ?_, ?_, ?_, ?_, ?_, ?_, ?_, ?_, ?_⟩
  · rw [ctx_of_noRec hrec, ctx_haltedState, if_pos ⟨rfl, rfl⟩, hctx]
    unfold faulted
    rw [← hwait]
  · rw [herr _ _ _ (by decide)]
    unfold haltedState
    rw [rd_wr_out _ _ _ _ _ _ (by decide) (by decide), rd_wr_out _ _ _ _ _ _ (by decide) (by decide),
      rd_haltCtx_run _ _ _ hidle]
  · rw [herr _ _ _ (by decide)]
    unfold haltedState
    rw [rd_wr_out _ _ _ _ _ _ (by decide) (by decide), rd_wr_out _ _ _ _ _ _ (by decide) (by decide),
      rd_haltCtx_halted _ _ _ hidle]
  · rw [herr _ _ _ (by decide)]
    unfold haltedState
    rw [rd_wr_out _ _ _ _ _ _ (by decide) (by decide), rd_wr_self, Nat.mod_eq_of_lt hcause]
  · rw [herr _ _ _ (by decide)]
    unfold haltedState
    rw [rd_wr_self]
    exact Nat.mod_eq_of_lt tval.isLt
  · exact flag_tileErr _ _ _ _ _ _ _ _ _ _ (by decide) (by rfl) (by rfl)
  · rw [rd_tileErr_voided, rd_haltedState _ _ _ _ _ _ _ (by decide), hrd]
    rfl
  · rw [errSeq_tileErr]
    show ((w.setCtx t c _).haltCtx t c).errSeq.succ % _ = _
    rw [errSeq_haltCtx _ _ _ hidle]
    have h := congrArg State.errSeq hw
    exact congrArg (fun k => (k + 1) % 2 ^ 32) h
  · intro f i x hf
    have hsub : ∀ l : List Reg, (∀ r ∈ l, r ∈ haltRegs) → f.spec.reg ∉ l := fun l hl hm => hf (hl _ hm)
    rw [herr _ _ _ (hsub _ (by decide)), rd_haltedState _ _ _ _ _ _ _ (hsub _ (by decide)), hrd]
  · intro t' c' hne
    rw [ctx_of_noRec hrec, ctx_haltedState, if_neg hne, hctx]
  · rw [noHalt_of_noRec hrec, noHalt_haltedState, noHalt_of_noCtx hw]
  · rw [cause_tileErr]
    show ((w.setCtx t c _).haltCtx t c).cause = _
    rw [cause_haltCtx _ _ _ hidle]
    have h := congrArg State.cause hw
    exact h

/-- An exception of the context that holds the core (R96). -/
theorem raised_trap {s : State} {t c cause : Nat} (tval : BitVec 32) (hwait : (s.ctx t c).wait = .none)
    (hcause : cause < 2 ^ Fd.TILE_CTX_CAUSE_CAUSE.width) :
    raised s ((s.takeCore t c).trap t c cause tval) t c cause tval := by
  unfold raised
  split
  · rename_i hm
    exact halted_trap (noCtx_takeCore s t c) (ctx_takeCore s t c) hwait hm hcause
  · rename_i hm
    rw [trap_handled (s := s.takeCore t c) hm]
    refine ⟨?_, ⟨fun t' c' hne => ?_, rfl⟩, current_takeCore s t c⟩
    · rw [ctx_setCtx_self, ctx_takeCore]
      unfold faulted
      rw [← hwait]
    · rw [ctx_setCtx, if_neg hne, ctx_takeCore]

theorem next_of_raised {s u : State} {t c cause : Nat} {tval : BitVec 32} (h : raised s u t c cause tval) :
    answer s u = .next u := by
  unfold raised at h
  split at h
  · obtain ⟨-, -, -, -, -, -, -, -, -, -, hrest, -⟩ := h
    exact next_of_noHalt hrest
  · obtain ⟨-, ⟨-, hrest⟩, -⟩ := h
    exact next_of_noCtx hrest

/-- A command that comes to an exception. -/
theorem answer_trap {s : State} {t c n cause : Nat} {i : Insn} (h : runs s t c i n) (tval : BitVec 32)
    (hcause : cause < 2 ^ Fd.TILE_CTX_CAUSE_CAUSE.width) :
    ∃ u, answer s ((s.takeCore t c).trap t c cause tval) = .next u ∧ raised s u t c cause tval := by
  have hr := raised_trap (s := s) (t := t) (c := c) tval (insnAt_wait h.2.2) hcause
  exact ⟨_, next_of_raised hr, hr⟩

/-- An illegal instruction: what mtval holds is the model's choice. -/
theorem answer_illegal {s : State} {t c n : Nat} {i : Insn} (h : runs s t c i n) (word : Nat) :
    ∃ u tval, answer s ((s.takeCore t c).illegal t c word) = .next u ∧ raised s u t c xIllegal tval := by
  obtain ⟨u, hu, hr⟩ := answer_trap h (cause := xIllegal) (if Config.trapValue xIllegal then BitVec.ofNat 32 word else 0) (by decide)
  exact ⟨u, _, hu, hr⟩

/-! ### Control of the core -/

theorem onlyCtx_retire (s : State) (t c n : Nat) : onlyCtx s ((s.takeCore t c).retire t c n) t c := onlyCtx_setCtx s t c _

theorem ctx_retire_self (s : State) (t c n : Nat) : ((s.takeCore t c).retire t c n).ctx t c = after (s.ctx t c) n :=
  ctx_setCtx_self _ _ _ _

/-- TILE.HALT: the context stops behind the instruction, with HALTED set (R99). -/
theorem tileHalt_halts {s : State} {t c n : Nat} (h : runs s t c .tileHalt n) :
    ∃ u, exec (.tileHalt t) s = .next u ∧ u.ctx t c = after (s.ctx t c) n ∧
      u.rd .TILE_CTX_CTRL_RUN t c = 0 ∧ u.rd .TILE_CTX_CTRL_HALTED t c = 1 ∧
      regsBut s u [.TILE_CTX_CTRL, .HST_STATUS, .HST_PBA] ∧
      (∀ t' c', ¬(t' = t ∧ c' = c) → u.ctx t' c' = s.ctx t' c') ∧ u.noInt.noCtx = s.noInt.noCtx := by
  obtain ⟨hctx, hrest⟩ := onlyCtx_retire s t c n
  have hself := ctx_retire_self s t c n
  have hwait : (((s.takeCore t c).retire t c n).ctx t c).wait = .none := by rw [hself]; exact insnAt_wait h.2.2
  refine ⟨_, (exec_tileHalt h).trans (next_of_noHalt ?_), ?_, rd_haltCtx_run _ _ _ hwait,
    rd_haltCtx_halted _ _ _ hwait, fun f i x hf => ?_, fun t' c' hne => ?_, ?_⟩
  · rw [noHalt_haltCtx _ _ _ hwait, noHalt_of_noCtx hrest]
  · rw [ctx_haltCtx _ _ _ hwait, hself]
  · rw [rd_haltCtx _ _ _ hwait _ _ _ hf, rd_of_noCtx hrest]
  · rw [ctx_haltCtx _ _ _ hwait, hctx t' c' hne]
  · rw [noHaltInt_haltCtx _ _ _ hwait]
    exact congrArg noInt hrest

/-- The context that TILE.YIELD gives the core to: the next runnable one in circular order, or the one that yields. -/
def yieldsTo (s : State) (t c : Nat) : Nat :=
  ((([(c + 1) % 4, (c + 2) % 4, (c + 3) % 4]).find? fun i => s.runnable t i).getD c)

theorem runnable_retire (s : State) (t c n i : Nat) : ((s.takeCore t c).retire t c n).runnable t i = s.runnable t i := by
  refine runnable_noCtx (by simp) ?_
  rw [ctx_retire]
  split
  · rename_i h; rw [h.2]; rfl
  · rfl

theorem yieldCore_eq (s : State) (t c n : Nat) :
    (s.takeCore t c).yieldCore t c n = ((s.takeCore t c).retire t c n).takeCore t (s.yieldsTo t c) := by
  unfold yieldCore yieldsTo
  simp only [runnable_retire]

/-- TILE.YIELD (R95, R99). -/
theorem tileYield_yields {s : State} {t c n : Nat} (h : runs s t c .tileYield n) :
    ∃ u, exec (.tileYield t) s = .next u ∧ u.ctx t c = after (s.ctx t c) n ∧ onlyCtx s u t c ∧
      holdsCore u t (s.yieldsTo t c) := by
  have honly := onlyCtx_retire s t c n
  exact ⟨((s.takeCore t c).retire t c n).takeCore t (s.yieldsTo t c),
    by rw [exec_tileYield h, yieldCore_eq]; exact next_of_noCtx ((noCtx_takeCore _ _ _).trans honly.2),
    ctx_retire_self s t c n, honly, current_takeCore _ _ _⟩

theorem tileControl : TileControl := by
  intro s t c n
  refine ⟨fun h => ?_, tileHalt_halts, fun h => ?_⟩
  · have hr := gives_retire s t c n
    exact ⟨_, (exec_wfi h).trans (next_of_givesCtx hr), hr⟩
  · have hc : c < 4 := h.2.1
    obtain ⟨u, hu, hself, honly, hcore⟩ := tileYield_yields h
    refine ⟨u, hu, hself, honly, fun h1 => ?_, fun h1 h2 => ?_, fun h1 h2 h3 => ?_, fun hnone => ?_⟩
    · simpa [yieldsTo, h1] using hcore
    · simpa [yieldsTo, h1, h2] using hcore
    · simpa [yieldsTo, h1, h2, h3] using hcore
    · have hother : ∀ k, 0 < k → k < 4 → s.runnable t ((c + k) % 4) = false := fun k h0 h4 =>
        hnone _ (Nat.mod_lt _ (by decide)) (by omega)
      simpa [yieldsTo, hother 1, hother 2, hother 3] using hcore

theorem noCtx_mret (s : State) (t c : Nat) : (s.mret t c).noCtx = s.noCtx := by simp [mret, retireTo]

theorem ctx_mret (s : State) (t c t' c' : Nat) : (s.mret t c).ctx t' c' = if t' = t ∧ c' = c then
    { s.ctx t c with mie := (s.ctx t c).mpie, mpie := true, pc := (s.ctx t c).mepc,
                     minstret := (s.ctx t c).minstret + 1 } else s.ctx t' c' := by
  unfold mret retireTo
  rw [ctx_setCtx, ctx_setCtx_self, ctx_setCtx]
  split <;> rfl

/-- MRET gives the context back its pc and its interrupt bits (R96). -/
theorem mret_returns {s : State} {t c n : Nat} (h : runs s t c .mret n) :
    ∃ u, exec (.mret t) s = .next u ∧ onlyCtx s u t c ∧ holdsCore u t c ∧
      u.ctx t c = { s.ctx t c with mie := (s.ctx t c).mpie, mpie := true, pc := (s.ctx t c).mepc,
                                   minstret := (s.ctx t c).minstret + 1 } := by
  have hrest := (noCtx_mret (s.takeCore t c) t c).trans (noCtx_takeCore s t c)
  refine ⟨_, (exec_mret h).trans (next_of_noCtx hrest), ⟨fun t' c' hne => ?_, hrest⟩, current_takeCore s t c, ?_⟩
  · rw [ctx_mret, if_neg hne, ctx_takeCore]
  · rw [ctx_mret, if_pos ⟨rfl, rfl⟩, ctx_takeCore]

theorem tileExceptions : TileExceptions := by
  intro s t c n
  refine ⟨fun h => ?_, fun h => ?_, fun h => ?_, mret_returns⟩
  · rw [exec_ecall h]
    exact answer_trap h 0 (by decide)
  · obtain ⟨u, hu, hr⟩ := answer_trap h (cause := xBreak) (if Config.trapValue xBreak then (s.ctx t c).pc else 0) (by decide)
    exact ⟨u, _, (exec_ebreak h).trans hu, hr⟩
  · rw [exec_fenceI h]
    exact answer_illegal h _

/-! ### CSRs -/

/-- The CSRs that hold a value of their own: all but mcycle and mcycleh. -/
def valueCsrs : List Nat := [0x300, 0x305, 0x341, 0x342, 0x343, 0xB02, 0xB82, 0xF14]

theorem mem_valueCsrs {y : Ctx} {t c csr : Nat} {old : BitVec 32} (h : csrValue y t c csr = some old) :
    csr ∈ valueCsrs := by
  unfold csrValue at h
  split at h
  case h_9 => cases h
  all_goals decide

theorem csrValue_ne_none (y : Ctx) (t c : Nat) {csr : Nat} (h : csr ∈ valueCsrs) : csrValue y t c csr ≠ none := by
  simp only [valueCsrs, List.mem_cons, List.not_mem_nil, or_false] at h
  rcases h with rfl | rfl | rfl | rfl | rfl | rfl | rfl | rfl <;> exact Option.some_ne_none _

theorem mem_csrs (csr : Nat) : csrs.contains csr = true ↔ csr ∈ valueCsrs ∨ csr = 0xB00 ∨ csr = 0xB80 := by
  simp [csrs, valueCsrs]
  tauto

/-- Reading such a CSR gives its value and changes nothing. -/
theorem csrRead_of_value {s : State} {t c csr : Nat} {old : BitVec 32} (h : csrValue (s.ctx t c) t c csr = some old) :
    s.csrRead t c csr = (s, old) := by
  have hm := mem_valueCsrs h
  simp only [valueCsrs, List.mem_cons, List.not_mem_nil, or_false] at hm
  rcases hm with rfl | rfl | rfl | rfl | rfl | rfl | rfl | rfl <;> (injection h with h; subst h; rfl)

/-- Writing one changes its context. -/
theorem csrWrite_eq (s : State) (t c : Nat) {csr : Nat} (v : BitVec 32) (h : csr ∈ valueCsrs) (hne : csr ≠ 0xF14) :
    s.csrWrite t c csr v = s.setCtx t c (csrPut (s.ctx t c) v csr) := by
  simp only [valueCsrs, List.mem_cons, List.not_mem_nil, or_false] at h
  rcases h with rfl | rfl | rfl | rfl | rfl | rfl | rfl | rfl
  case inr.inr.inr.inr.inr.inr.inr => exact absurd rfl hne
  all_goals rfl

theorem x_csrPut (y : Ctx) (v : BitVec 32) (csr : Nat) : (csrPut y v csr).x = y.x := by
  unfold csrPut; split <;> rfl

theorem csrWrites_iff (f : CsrOp) (src : Nat) : csrWrites f src = true ↔ f = .write ∨ src ≠ 0 := by
  simp [csrWrites]

/-- The value that a CSR instruction takes as the old one: none is read where none is wanted (R95). -/
def csrOld (s : State) (t c : Nat) (f : CsrOp) (rd csr : Nat) : State × BitVec 32 :=
  if f = .write ∧ rd = 0 then (s, 0#32) else s.csrRead t c csr

/-- The argument of a CSR instruction. -/
def csrArg (s : State) (t c src : Nat) (imm : Bool) : BitVec 32 := if imm then BitVec.ofNat 32 src else s.x t c src

/-- A CSR instruction that is not illegal: the old value read, the instruction retired, the new value and rd written. -/
theorem csrAccess_legal {s : State} {t c n rd src csr : Nat} {f : CsrOp} {imm : Bool} {word : Nat}
    (h : csrs.contains csr = true) (hw : ¬(csr = 0xF14 ∧ csrWrites f src = true)) :
    s.csrAccess t c n f rd src csr imm word =
      (if csrWrites f src then
        ((s.csrOld t c f rd csr).1.retire t c n).csrWrite t c csr
          (csrNew f (s.csrOld t c f rd csr).2 (s.csrArg t c src imm))
      else (s.csrOld t c f rd csr).1.retire t c n).setX t c rd (s.csrOld t c f rd csr).2 := by
  have hi : ¬((!csrs.contains csr) = true ∨ (csrWrites f src = true ∧ csr = 0xF14)) := by
    rw [h]
    simpa [and_comm] using hw
  unfold csrAccess
  rw [if_neg hi]
  cases f <;> rfl

theorem csrAccess_illegal {s : State} {t c n rd src csr : Nat} {f : CsrOp} {imm : Bool} {word : Nat}
    (h : csrs.contains csr = false ∨ (csr = 0xF14 ∧ csrWrites f src = true)) :
    s.csrAccess t c n f rd src csr imm word = s.illegal t c word := by
  have hi : (!csrs.contains csr) = true ∨ (csrWrites f src = true ∧ csr = 0xF14) := by
    rcases h with h | h
    · exact .inl (by rw [h]; rfl)
    · exact .inr h.symm
  unfold csrAccess
  rw [if_pos hi]

/-- An old value that is not read is wanted by nothing. -/
theorem csrNew_old (f : CsrOp) (old a : BitVec 32) (rd : Nat) :
    csrNew f (if f = .write ∧ rd = 0 then 0#32 else old) a = csrNew f old a := by
  cases f <;> simp [csrNew]

/-- What rd takes: a value for x0 is discarded. -/
theorem setX_if_zero (s : State) (t c rd : Nat) (p : Prop) [Decidable p] (v : BitVec 32) :
    s.setX t c rd (if p ∧ rd = 0 then 0#32 else v) = s.setX t c rd v := by
  by_cases h : rd = 0
  · subst h; rfl
  · simp [h]

theorem csrOld_of_value {s : State} {t c csr : Nat} {old : BitVec 32} (f : CsrOp) (rd : Nat)
    (h : csrValue (s.ctx t c) t c csr = some old) :
    s.csrOld t c f rd csr = (s, if f = .write ∧ rd = 0 then 0#32 else old) := by
  unfold csrOld
  rw [csrRead_of_value h]
  split <;> rfl

/-- A CSR with a value of its own, read and written (R95, R499). -/
theorem csrAccess_value {s : State} {t c n rd src csr : Nat} {f : CsrOp} {imm : Bool} {word : Nat} {old : BitVec 32}
    (h : csrValue (s.ctx t c) t c csr = some old) (hw : ¬(csr = 0xF14 ∧ csrWrites f src = true)) :
    s.csrAccess t c n f rd src csr imm word = (if csrWrites f src then
      (s.retire t c n).csrWrite t c csr (csrNew f old (s.csrArg t c src imm)) else s.retire t c n).setX t c rd old := by
  rw [csrAccess_legal ((mem_csrs csr).2 (.inl (mem_valueCsrs h))) hw, csrOld_of_value f rd h]
  dsimp only
  rw [csrNew_old, setX_if_zero]

theorem csrAccess_gives {s : State} {t c n rd src csr : Nat} {f : CsrOp} {imm : Bool} {word : Nat} {old : BitVec 32}
    (h : csrValue (s.ctx t c) t c csr = some old) (hw : csrWrites f src = false) :
    gives s ((s.takeCore t c).csrAccess t c n f rd src csr imm word) t c n rd old := by
  rw [csrAccess_value (s := s.takeCore t c) h (by simp [hw]), hw]
  exact gives_result s t c n rd old

theorem csrAccess_puts {s : State} {t c n rd src csr : Nat} {f : CsrOp} {imm : Bool} {word : Nat} {old : BitVec 32}
    (h : csrValue (s.ctx t c) t c csr = some old) (hne : csr ≠ 0xF14) (hw : csrWrites f src = true) :
    givesCtx s ((s.takeCore t c).csrAccess t c n f rd src csr imm word) t c rd old
      (csrPut (after (s.ctx t c) n) (csrNew f old (s.csrArg t c src imm)) csr) := by
  rw [csrAccess_value (s := s.takeCore t c) h (fun h => hne h.1), if_pos hw, csrWrite_eq _ _ _ _ (mem_valueCsrs h) hne,
    ctx_retire_self]
  refine givesCtx_setX rd old ⟨fun t' c' hn => ?_, by simp⟩ (current_takeCore s t c) (ctx_setCtx_self _ t c _)
    (x_csrPut _ _ _)
  rw [ctx_setCtx, if_neg hn, (onlyCtx_retire s t c n).1 t' c' hn]

/-! ### mcycle -/

/-- Context `c` of tile `t` has become `y`, but that mcycle may count on by a free value; nothing else has changed. -/
def counted (s u : State) (t c : Nat) (y : Ctx) : Prop :=
  (∃ m, u.ctx t c = { y with mcycle := m }) ∧ (∀ t' c', ¬(t' = t ∧ c' = c) → u.ctx t' c' = s.ctx t' c') ∧
    { u with fresh := s.fresh }.noCtx = s.noCtx

theorem counted_setCtx {s u : State} {t c : Nat} {y z : Ctx} (h : counted s u t c y) (m : BitVec 64) :
    counted s (u.setCtx t c { z with mcycle := m }) t c z := by
  obtain ⟨-, hctx, hrest⟩ := h
  exact ⟨⟨m, ctx_setCtx_self _ _ _ _⟩, fun t' c' hne => by rw [ctx_setCtx, if_neg hne, hctx t' c' hne], hrest⟩

theorem counted_takeCore (s : State) (t c : Nat) : counted s (s.takeCore t c) t c (s.ctx t c) :=
  ⟨⟨(s.ctx t c).mcycle, rfl⟩, fun _ _ _ => rfl, rfl⟩

theorem counted_csrOld (s : State) (t c : Nat) (f : CsrOp) (rd : Nat) {csr : Nat} (h : csr = 0xB00 ∨ csr = 0xB80) :
    counted s ((s.takeCore t c).csrOld t c f rd csr).1 t c (s.ctx t c) := by
  unfold csrOld
  split
  · exact counted_takeCore s t c
  · rcases h with rfl | rfl <;> exact counted_setCtx (y := s.ctx t c) ⟨⟨_, rfl⟩, fun _ _ _ => rfl, rfl⟩ _

theorem counted_retire {s u : State} {t c : Nat} {y : Ctx} (n : Nat) (h : counted s u t c y) :
    counted s (u.retire t c n) t c (after y n) := by
  obtain ⟨⟨m, hm⟩, -⟩ := id h
  have e : u.retire t c n = u.setCtx t c { after y n with mcycle := m } := by unfold retire retireTo; rw [hm]; rfl
  rw [e]
  exact counted_setCtx h m

theorem csrWrite_mcycle (s : State) (t c : Nat) {csr : Nat} (v : BitVec 32) (h : csr = 0xB00 ∨ csr = 0xB80) :
    ∃ m, s.csrWrite t c csr v = s.setCtx t c { s.ctx t c with mcycle := m } := by
  rcases h with rfl | rfl <;> exact ⟨_, rfl⟩

theorem counted_csrWrite {s u : State} {t c csr : Nat} {y : Ctx} (v : BitVec 32) (hc : csr = 0xB00 ∨ csr = 0xB80)
    (h : counted s u t c y) : counted s (u.csrWrite t c csr v) t c y := by
  obtain ⟨⟨m, hm⟩, -⟩ := id h
  obtain ⟨k, hk⟩ := csrWrite_mcycle u t c v hc
  rw [hk, hm]
  exact counted_setCtx (z := y) h k

/-- mcycle and mcycleh: a free value is read, and the half written takes its value (R95, R499). -/
theorem csrAccess_mcycle (s : State) (t c n rd src : Nat) {csr : Nat} (f : CsrOp) (imm : Bool) (word : Nat)
    (h : csr = 0xB00 ∨ csr = 0xB80) : ∃ w v, counted s w t c (after (s.ctx t c) n) ∧
      (s.takeCore t c).csrAccess t c n f rd src csr imm word = w.setX t c rd v := by
  have hold := counted_retire n (counted_csrOld s t c f rd h)
  refine ⟨_, _, ?_, csrAccess_legal ((mem_csrs csr).2 (.inr h)) ?_⟩
  · split
    · exact counted_csrWrite _ h hold
    · exact hold
  · rcases h with rfl | rfl <;> simp

/-- rd written after a change that `counted` describes. -/
theorem setX_of_counted {s w : State} {t c : Nat} {y : Ctx} (h : counted s w t c y) (hx : y.x = (s.ctx t c).x) (rd : Nat)
    (v : BitVec 32) : answer s (w.setX t c rd v) = .next (w.setX t c rd v) ∧
      (∀ r, (w.setX t c rd v).x t c r = if r = rd ∧ r ≠ 0 then v else s.x t c r) ∧
      (∃ m, (w.setX t c rd v).ctx t c = { y with x := ((w.setX t c rd v).ctx t c).x, mcycle := m }) ∧
      (∀ t' c', ¬(t' = t ∧ c' = c) → (w.setX t c rd v).ctx t' c' = s.ctx t' c') ∧
      { w.setX t c rd v with fresh := s.fresh }.noCtx = s.noCtx := by
  obtain ⟨⟨m, hm⟩, hctx, hrest⟩ := h
  have hn := noCtx_setX w t c rd v
  have hfresh : { w.setX t c rd v with fresh := s.fresh }.noCtx = { w with fresh := s.fresh }.noCtx :=
    congrArg (fun u : State => { u with fresh := s.fresh }) hn
  have hp := congrArg State.pending hrest
  have hf := congrArg State.fuses hrest
  refine ⟨answer_of_noCtx hn hp hf, fun r => ?_, ⟨m, ?_⟩, fun t' c' hne => ?_, hfresh.trans hrest⟩
  · rw [x_setX]
    unfold State.x
    rw [hm, hx]
  · rw [ctx_setX, if_pos ⟨rfl, rfl⟩, hm]
  · rw [ctx_setX, if_neg hne, hctx t' c' hne]

end Sys2Proof.Machine.State

namespace Sys2Proof

open Machine Machine.State Claims

/-- Settles O2: each command writes its result by the one rule for results, and a latch is a further change of the context. -/
theorem tileRegisterReads : Obligations.TileRegisterReads := ⟨tileReads, tileLatches⟩

/-- Settles O3: the context retires, halts, traps or gives its core away, by the rule of each. -/
theorem tileControlAndTraps : Obligations.TileControlAndTraps := ⟨tileControl, tileExceptions⟩

/-- Settles O4: the CSRs with a value of their own are read and put as named, mcycle counts by a free value, and the rest is
an illegal instruction. -/
theorem csrAccess : Obligations.CsrAccess := by
  unfold Obligations.CsrAccess
  intro s t c n f rd src csr imm h
  rw [exec_csrAccess h]
  refine ⟨fun old hv hw => ?_, fun hc => ?_, fun hill => ?_⟩
  · cases hwr : csrWrites f src with
    | true =>
      have hwr' := (csrWrites_iff f src).1 hwr
      have hg := csrAccess_puts (s := s) (n := n) (rd := rd) (imm := imm) (word := (s.takeCore t c).wordAt t c) hv
        (fun e => hw ⟨e, hwr'⟩) hwr
      exact ⟨_, next_of_givesCtx hg, fun _ => hg, fun hn => absurd hwr' hn⟩
    | false =>
      have hwr' : ¬(f = .write ∨ src ≠ 0) := fun e => by simp [(csrWrites_iff f src).2 e] at hwr
      have hg := csrAccess_gives (s := s) (n := n) (rd := rd) (imm := imm) (word := (s.takeCore t c).wordAt t c) hv hwr
      exact ⟨_, next_of_givesCtx hg, fun e => absurd e hwr', fun _ => hg⟩
  · obtain ⟨w, v, hcount, hw⟩ := csrAccess_mcycle s t c n rd src f imm ((s.takeCore t c).wordAt t c) hc
    obtain ⟨hnext, hx, ⟨m, hm⟩, hctx, hrest⟩ := setX_of_counted hcount rfl rd v
    exact ⟨_, v, m, by rw [hw, hnext], hx, hm, hctx, hrest⟩
  · rw [csrAccess_illegal]
    · exact answer_illegal h _
    · rcases hill with ⟨hnone, h0, h8⟩ | ⟨he, hwr⟩
      · refine .inl (Bool.eq_false_iff.2 fun hm => ?_)
        rcases (mem_csrs csr).1 hm with hm | hm | hm
        · exact csrValue_ne_none _ t c hm hnone
        · exact h0 hm
        · exact h8 hm
      · exact .inr ⟨he, (csrWrites_iff f src).2 hwr⟩

end Sys2Proof

/-! SUPPORT. CORE_EXECUTE: the fetch, and what each instruction without a row of its own leaves (R95 to R97). -/
namespace Sys2Proof.Machine.State

open Sys2Proof.Claims

theorem onCore_wait {s : State} {t c : Nat} (h : s.onCore t = some c) : (s.ctx t c).wait = .none := by
  unfold onCore at h
  split at h
  · cases h
  · exact runnable_wait (List.find?_some h)

/-- With no error placed, the core does what the instruction that is fetched says. -/
theorem exec_coreExecute {s : State} {t c n : Nat} {i : Insn} (h : runs s t c i n) : ∃ word, ∀ u,
    (s.takeCore t c).coreBase t c n word i = some u → exec (.coreExecute t []) s = answer s u := by
  obtain ⟨ht, -, hi⟩ := h
  obtain ⟨hcore, word, hfetch, -⟩ := insnAt_fetch hi
  refine ⟨word, fun u hu => (answerIf_true (hasTile_of ht)).trans ?_⟩
  unfold coreExecute
  rw [hcore]
  dsimp only
  rw [place_nil, hfetch]
  dsimp only
  rw [hu]
  rfl

/-- An instruction that writes rd and changes its context in no other register. -/
theorem coreExecute_gives {s : State} {t c n rd : Nat} {i : Insn} {v : BitVec 32} {y : Ctx} (h : runs s t c i n)
    (hy : y.x = (s.ctx t c).x)
    (hi : ∀ word, (s.takeCore t c).coreBase t c n word i = some (((s.takeCore t c).setCtx t c y).setX t c rd v)) :
    ∃ u, exec (.coreExecute t []) s = .next u ∧ givesCtx s u t c rd v y := by
  obtain ⟨word, hexec⟩ := exec_coreExecute h
  have hg := givesCtx_setX rd v (onlyCtx_setCtx s t c y) (holdsCore_setCtx s t c y) (ctx_setCtx_self _ t c y) hy
  exact ⟨_, (hexec _ (hi word)).trans (next_of_givesCtx hg), hg⟩

theorem coreExecute_illegal {s : State} {t c n : Nat} (h : runs s t c .illegal n) :
    ∃ u tval, exec (.coreExecute t []) s = .next u ∧ raised s u t c xIllegal tval := by
  obtain ⟨word, hexec⟩ := exec_coreExecute h
  rw [hexec _ rfl]
  exact answer_illegal h word

/-- The program window's bound and the program store's own end stop a fetch (R97). -/
theorem fetchInsn_outside {s : State} {t c : Nat} (h : (s.ctx t c).pc.toNat < 0x200000 ∨ 0x204000 ≤ (s.ctx t c).pc.toNat ∨
    s.rd .TILE_CTX_PS_BOUND t c ≤ (s.ctx t c).pc.toNat - 0x200000) :
    s.fetchInsn t c = (s, .error (s.ctx t c).pc) := by
  have hf : s.fetchHalf t c (s.ctx t c).pc = (s, .error (s.ctx t c).pc) := by
    unfold fetchHalf
    dsimp only
    rw [if_pos h]
  unfold fetchInsn
  dsimp only
  rw [hf]

theorem coreExecute_outside {s : State} {t c : Nat} (ht : t < s.nTiles) (hc : s.onCore t = some c)
    (h : (s.ctx t c).pc.toNat < 0x200000 ∨ 0x204000 ≤ (s.ctx t c).pc.toNat ∨
      s.rd .TILE_CTX_PS_BOUND t c ≤ (s.ctx t c).pc.toNat - 0x200000) :
    ∃ u, exec (.coreExecute t []) s = .next u ∧ raised s u t c xFetch (s.ctx t c).pc := by
  have hr := raised_trap (s := s) (t := t) (c := c) (cause := xFetch) (s.ctx t c).pc (onCore_wait hc) (by decide)
  refine ⟨_, (answerIf_true (hasTile_of ht)).trans ?_, hr⟩
  have he : s.coreExecute t [] = (s.takeCore t c).trap t c xFetch (s.ctx t c).pc := by
    unfold coreExecute
    rw [hc]
    dsimp only
    rw [place_nil, fetchInsn_outside (s := s.takeCore t c) h]
    rfl
  rw [he]
  exact next_of_raised hr

end Sys2Proof.Machine.State

namespace Sys2Proof

open Machine Machine.State Claims

/-- Settles O5: the fetch gives the instruction, whose result goes to rd and whose successor to the pc. -/
theorem coreExecutes : Obligations.CoreExecutes := by
  unfold Obligations.CoreExecutes
  intro s t c n
  refine ⟨fun f rd rs1 imm h => ?_, fun f rd rs1 rs2 h => ?_, fun f rd rs1 rs2 h => ?_, fun rd imm h => ?_,
    fun rd imm h => ?_, fun h => ?_, fun rd off h => ?_, fun rd rs1 off h => ?_, fun f rs1 rs2 off h => ?_,
    coreExecute_illegal, coreExecute_outside⟩
  all_goals exact coreExecute_gives h rfl fun _ => rfl

end Sys2Proof

/-! SUPPORT. Loads and stores of the cores: those that their own tile serves, those that wait for another, and the faults found
at issue (R95, R97, R98, R399, R498). -/
namespace Sys2Proof.Machine

theorem SMap.insert_insert {α : Type} (m : SMap α) (k : Key) (a b : α) :
    SMap.insert (SMap.insert m k a) k b = SMap.insert m k b := by
  induction m with
  | nil => simp [SMap.insert]
  | cons e m ih => simp only [SMap.insert]; split_ifs <;> simp_all [SMap.insert]

theorem SMap.erase_insert {α : Type} (m : SMap α) (k : Key) (a : α) :
    SMap.erase (SMap.insert m k a) k = SMap.erase m k := by
  induction m with
  | nil => simp [SMap.insert, SMap.erase]
  | cons e m ih => simp only [SMap.insert]; split_ifs <;> simp_all [SMap.erase]

/-- Setting a key again replaces what was set, where that is not the default. -/
theorem SMap.set_set {α : Type} [DecidableEq α] (m : SMap α) (k : Key) {d a : α} (b : α) (h : a ≠ d) :
    SMap.set (SMap.set m k d a) k d b = SMap.set m k d b := by
  unfold SMap.set
  rw [if_neg h, SMap.insert_insert, SMap.erase_insert]

namespace State

open Sys2Proof.Claims

/-! ### A context's own tile -/

/-- Who holds a core does not count for where an access lies. -/
theorem corePlace_takeCore (s : State) (t c t' c' a n : Nat) (b : Bool) :
    (s.takeCore t c).corePlace t' c' a n b = s.corePlace t' c' a n b := by
  have ht : ∀ d, (s.takeCore t c).target d = s.target d := fun _ => rfl
  have hs : (s.takeCore t c).scratch t' c' a n = s.scratch t' c' a n := rfl
  have hl : (s.takeCore t c).waterline t' = s.waterline t' := rfl
  unfold corePlace
  rw [hs, hl, rd_takeCore, rd_takeCore, rd_takeCore]
  dsimp only
  rw [ht]

theorem ctxReq_within (t : Nat) {c : Nat} (hc : c < 4) : (ctxReq t c).within t = true := by
  have h : (t * 8 + c) / 8 = t := by omega
  simp [Req.within, ctxReq, h]

theorem not_remote {s : State} {t d o : Nat} (h : s.target d = .tile t o) : s.isRemote t d = false := by
  simp [isRemote, h]

/-- A read of the tile's own memories that `tileReady` describes. -/
theorem readSpan_ready {s : State} {t d n : Nat} {req : Req} (h : tileReady s t d n) (hq : s.reachesTile req t = true) :
    s.readSpan req d n = (s, .ok (s.mem.readN d n)) := by
  obtain ⟨⟨o, ho, hv⟩, -, hb⟩ := h
  exact readSpan_tile ho hv hq hb

theorem writeSpan_ready {s : State} {t d : Nat} {bs : List Byte} {req : Req} (h : tileReady s t d bs.length)
    (hq : s.reachesTile req t = true) (hm : req.mirrorFrom = none) :
    s.writeSpan req d bs = ({ s with mem := s.mem.writeN d bs }, none) := by
  obtain ⟨⟨o, ho, hv⟩, -, hb⟩ := h
  exact writeSpan_tile ho hv hq hb hm

theorem stored_writeN (m : Memory) (d : Nat) (bs : List Byte) : stored m (m.writeN d bs) d bs :=
  ⟨Memory.readN_writeN m d bs, fun a h => Memory.read_writeN_out m d a bs h⟩

/-! ### Loads -/

section

variable {s : State} {t c n a rd size d : Nat} {sg pair : Bool}

theorem coreLoad_misaligned (h : a % size ≠ 0) :
    s.coreLoad t c n a rd size sg pair [] = s.trap t c xLoadAlign (BitVec.ofNat 32 a) := if_pos h

theorem coreLoad_nowhere (h : a % size = 0) (hp : s.corePlace t c a size false = none) :
    s.coreLoad t c n a rd size sg pair [] = s.trap t c xLoad (BitVec.ofNat 32 a) := by
  unfold coreLoad
  rw [if_neg (not_not.2 h), hp]

theorem coreLoad_local (hc : c < 4) (h : a % size = 0) (hp : s.corePlace t c a size false = some (.mem d))
    (hr : tileReady s t d size) : s.coreLoad t c n a rd size sg pair [] =
      (s.retire t c n).loaded t c size rd (leNat (s.mem.readN d size)) sg pair := by
  have hread := readSpan_ready hr (reachesTile_within (ctxReq_within t hc))
  obtain ⟨⟨o, ho, -⟩, hs, -⟩ := hr
  unfold coreLoad
  rw [if_neg (not_not.2 h), hp]
  dsimp only
  rw [not_remote ho, hs, place_nil, hread]
  rfl

theorem coreLoad_remote (h : a % size = 0) (hp : s.corePlace t c a size false = some (.mem d))
    (hr : s.isRemote t d = true) : s.coreLoad t c n a rd size sg pair [] =
      (s.setCtx t c { s.ctx t c with pc := (s.ctx t c).pc + BitVec.ofNat 32 n }).block t c
        (.load d size rd sg pair (s.ctx t c).pc (BitVec.ofNat 32 a)) := by
  unfold coreLoad
  rw [if_neg (not_not.2 h), hp]
  dsimp only
  rw [if_pos hr]

end

/-- A pair of registers loaded (R99). -/
theorem loaded_pair {s : State} {t c n : Nat} (rd v : Nat) (hrd : rd ≠ 0) :
    (∀ r, (((s.takeCore t c).retire t c n).loaded t c 8 rd v false true).x t c r =
      if r = rd then BitVec.ofNat 32 v else if r = rd + 1 then BitVec.ofNat 32 (v / 2 ^ 32) else s.x t c r) ∧
    (((s.takeCore t c).retire t c n).loaded t c 8 rd v false true).ctx t c = { after (s.ctx t c) n with
      x := ((((s.takeCore t c).retire t c n).loaded t c 8 rd v false true).ctx t c).x } ∧
    onlyCtx s (((s.takeCore t c).retire t c n).loaded t c 8 rd v false true) t c := by
  obtain ⟨hx, hctx, ⟨hother, hrest⟩, -⟩ := gives_result s t c n rd (BitVec.ofNat 32 v)
  show (∀ r, (((s.takeCore t c).result t c n rd (BitVec.ofNat 32 v)).setX t c (rd + 1) (BitVec.ofNat 32 (v / 2 ^ 32))).x t c r
    = _) ∧ _
  refine ⟨fun r => ?_, ?_, fun t' c' hne => ?_, ?_⟩
  · rw [x_setX, hx]
    by_cases h1 : r = rd
    · subst h1
      rw [if_neg (by omega), if_pos ⟨rfl, hrd⟩, if_pos rfl]
    · by_cases h2 : r = rd + 1
      · subst h2
        rw [if_pos ⟨rfl, by omega⟩, if_neg h1, if_pos rfl]
      · rw [if_neg (fun h => h2 h.1), if_neg (fun h => h1 h.1), if_neg h1, if_neg h2]
  · show (((s.takeCore t c).result t c n rd (BitVec.ofNat 32 v)).setX t c (rd + 1) _).ctx t c = _
    rw [ctx_setX, if_pos ⟨rfl, rfl⟩, hctx]
    rfl
  · show (((s.takeCore t c).result t c n rd (BitVec.ofNat 32 v)).setX t c (rd + 1) _).ctx t' c' = _
    rw [ctx_setX, if_neg hne, hother t' c' hne]
  · show (((s.takeCore t c).result t c n rd (BitVec.ofNat 32 v)).setX t c (rd + 1) _).noCtx = _
    rw [noCtx_setX, hrest]

theorem localLoads : LocalLoads := by
  intro s t c n
  refine ⟨fun rd rs1 size sg off h => ?_, fun rd rs1 hrd h => ?_⟩
  · rw [exec_coreLoad h]
    refine ⟨fun d ha hp hr => ?_, fun ha => ?_, fun ha hp => ?_⟩
    · have hg := gives_result s t c n rd (extend size (leNat (s.mem.readN d size)) sg)
      rw [coreLoad_local h.2.1 ha ((corePlace_takeCore ..).trans hp) hr]
      exact ⟨_, next_of_givesCtx hg, hg⟩
    · rw [coreLoad_misaligned ha]
      exact answer_trap h _ (by decide)
    · rw [coreLoad_nowhere ha ((corePlace_takeCore ..).trans hp)]
      exact answer_trap h _ (by decide)
  · have hv : BitVec.ofNat 32 (s.x t c rs1).toNat = s.x t c rs1 := by simp
    rw [exec_tileLd h]
    refine ⟨fun d ha hp hr => ?_, fun ha => ?_, fun ha hp => ?_⟩
    · obtain ⟨hx, hctx, honly⟩ := loaded_pair (s := s) (t := t) (c := c) (n := n) rd (leNat (s.mem.readN d 8)) hrd
      rw [coreLoad_local h.2.1 ha ((corePlace_takeCore ..).trans hp) hr]
      exact ⟨_, next_of_noCtx honly.2, hx, hctx, honly⟩
    · rw [coreLoad_misaligned ha, hv]
      exact answer_trap h _ (by decide)
    · rw [coreLoad_nowhere ha ((corePlace_takeCore ..).trans hp), hv]
      exact answer_trap h _ (by decide)

/-! ### Stores -/

section

variable {s : State} {t c n a size v d : Nat}

theorem coreStore_misaligned (h : a % size ≠ 0) :
    s.coreStore t c n a size v [] = s.trap t c xStoreAlign (BitVec.ofNat 32 a) := if_pos h

theorem coreStore_nowhere (h : a % size = 0) (hp : s.corePlace t c a size true = none) :
    s.coreStore t c n a size v [] = s.trap t c xStore (BitVec.ofNat 32 a) := by
  unfold coreStore
  rw [if_neg (not_not.2 h), hp]

theorem coreStore_local (hc : c < 4) (h : a % size = 0) (hp : s.corePlace t c a size true = some (.mem d))
    (hr : tileReady s t d size) : s.coreStore t c n a size v [] =
      { s.retire t c n with mem := s.mem.writeN d (leBytes size v) } := by
  have hr' : tileReady (s.retire t c n) t d (leBytes size v).length := by rw [leBytes_length]; exact hr
  have hwrite := writeSpan_ready hr' (reachesTile_within (ctxReq_within t hc)) rfl
  obtain ⟨-, hs, -⟩ := hr
  unfold coreStore
  rw [if_neg (not_not.2 h), hp]
  dsimp only
  rw [hs, place_nil, hwrite]
  rfl

end

/-- A store to the tile's own memories writes its bytes and retires. -/
theorem answer_stored {s : State} {t c n a size v d : Nat} (hc : c < 4) (h : a % size = 0)
    (hp : s.corePlace t c a size true = some (.mem d)) (hr : tileReady s t d size) :
    ∃ u, answer s ((s.takeCore t c).coreStore t c n a size v []) = .next u ∧ stored s.mem u.mem d (leBytes size v) ∧
      u.ctx t c = after (s.ctx t c) n ∧ onlyCtx { s with mem := u.mem } u t c := by
  rw [coreStore_local hc h ((corePlace_takeCore ..).trans hp) hr]
  exact ⟨_, answer_eq rfl rfl, stored_writeN s.mem d _, ctx_retire_self s t c n, (onlyCtx_retire s t c n).1, rfl⟩

theorem localStores : LocalStores := by
  intro s t c n
  refine ⟨fun rs1 rs2 size off h => ?_, fun rs1 rs2 h => ?_⟩
  · rw [exec_coreStore h]
    refine ⟨fun d ha hp hr => answer_stored h.2.1 ha hp hr, fun ha => ?_, fun ha hp => ?_⟩
    · rw [coreStore_misaligned ha]
      exact answer_trap h _ (by decide)
    · rw [coreStore_nowhere ha ((corePlace_takeCore ..).trans hp)]
      exact answer_trap h _ (by decide)
  · have hv : BitVec.ofNat 32 (s.x t c rs1).toNat = s.x t c rs1 := by simp
    rw [exec_tileSd h]
    refine ⟨fun d ha hp hr => answer_stored h.2.1 ha hp hr, fun ha => ?_, fun ha hp => ?_⟩
    · rw [coreStore_misaligned ha, hv]
      exact answer_trap h _ (by decide)
    · rw [coreStore_nowhere ha ((corePlace_takeCore ..).trans hp), hv]
      exact answer_trap h _ (by decide)

/-! ### Loads from outside the tile -/

theorem onlyCtx_block {s w : State} {t c : Nat} (wt : Wait) (h : onlyCtx s w t c) : onlyCtx s (w.block t c wt) t c :=
  ⟨fun t' c' hne => by unfold block; rw [ctx_setCtx, if_neg hne, h.1 t' c' hne], h.2⟩

theorem ctx_block_self (s : State) (t c : Nat) (w : Wait) : (s.block t c w).ctx t c = { s.ctx t c with wait := w } :=
  ctx_setCtx_self _ _ _ _

/-- A load from another tile or from stack memory leaves its context waiting for the data (R95). -/
theorem coreLoad_blocks {s : State} {t c n rd rs1 size d : Nat} {sg : Bool} {off : BitVec 32}
    (h : runs s t c (.load rd rs1 size sg off) n) (ha : s.effAddr t c rs1 off % size = 0)
    (hp : s.corePlace t c (s.effAddr t c rs1 off) size false = some (.mem d)) (hr : s.isRemote t d = true) :
    ∃ u, exec (.coreLoad t []) s = .next u ∧ onlyCtx s u t c ∧
      u.ctx t c = { s.ctx t c with
        pc := (s.ctx t c).pc + BitVec.ofNat 32 n
        wait := .load d size rd sg false (s.ctx t c).pc (BitVec.ofNat 32 (s.effAddr t c rs1 off)) } := by
  have honly := onlyCtx_block (.load d size rd sg false (s.ctx t c).pc (BitVec.ofNat 32 (s.effAddr t c rs1 off)))
    (onlyCtx_setCtx s t c { s.ctx t c with pc := (s.ctx t c).pc + BitVec.ofNat 32 n })
  rw [exec_coreLoad h, coreLoad_remote ha ((corePlace_takeCore ..).trans hp) hr]
  exact ⟨_, next_of_noCtx honly.2, honly, by rw [ctx_block_self, ctx_setCtx_self]; rfl⟩

theorem ctx_of_noTideRec {s u : State} (h : u.noTideRec = s.noTideRec) (t c : Nat) : u.ctx t c = s.ctx t c := by
  have h := congrArg (fun v : State => v.ctx t c) h
  exact h

theorem exec_loadComplete {s : State} {t c : Nat} (ht : t < s.nTiles) (hc : c < 4) :
    exec (.loadComplete t c []) s = answer s (s.loadComplete t c []) :=
  answerIf_true (decide_eq_true ⟨ht, hc⟩)

/-- The data of a load come back (R498). -/
theorem loadComplete_ok {s v : State} {t c d size rd : Nat} {sg : Bool} {pc core : BitVec 32} {bs : List Byte}
    (ht : t < s.nTiles) (hc : c < 4) (hw : (s.ctx t c).wait = .load d size rd sg false pc core)
    (ho : s.isOpen kTile t = true) (hs : s.stalled d size = false) (hr : s.readSpan (ctxReq t c) d size = (v, .ok bs)) :
    ∃ u, exec (.loadComplete t c []) s = .next u ∧
      (∀ r, u.x t c r = if r = rd ∧ r ≠ 0 then State.extend size (leNat bs) sg else s.x t c r) ∧
      u.ctx t c = { s.ctx t c with x := (u.ctx t c).x, wait := .none, minstret := (s.ctx t c).minstret + 1 } ∧
      (∀ t' c', ¬(t' = t ∧ c' = c) → u.ctx t' c' = s.ctx t' c') ∧ u.noCtx = v.noCtx ∧ bs = s.mem.readN d size := by
  have hkeep : v.noTideRec = s.noTideRec := by
    have h := noTideRec_readSpan s (ctxReq t c) d size
    rwa [hr] at h
  have hctx := ctx_of_noTideRec hkeep
  have hp := congrArg State.pending hkeep
  have hf := congrArg State.fuses hkeep
  have he : s.loadComplete t c [] = ((v.setCtx t c { s.ctx t c with wait := .none, minstret := (s.ctx t c).minstret + 1 }).setX
      t c rd (extend size (leNat bs) sg)) := by
    unfold loadComplete
    rw [hw]
    dsimp only
    rw [ho, hs, place_nil, hr]
    dsimp only
    rw [hctx]
    rfl
  have hrest := (noCtx_setX (v.setCtx t c { s.ctx t c with wait := .none, minstret := (s.ctx t c).minstret + 1 }) t c rd
    (extend size (leNat bs) sg)).trans (noCtx_setCtx _ _ _ _)
  rw [exec_loadComplete ht hc, he]
  refine ⟨_, answer_of_noCtx hrest hp hf, fun r => ?_, ?_, fun t' c' hne => ?_, hrest, readSpan_ok hr⟩
  · rw [x_setX]
    unfold State.x
    rw [ctx_setCtx_self]
  · rw [ctx_setX, if_pos ⟨rfl, rfl⟩, ctx_setCtx_self]
  · rw [ctx_setX, if_neg hne, ctx_setCtx, if_neg hne, hctx]

/-- A context set twice holds what was set last. -/
theorem setCtx_setCtx (s : State) (t c : Nat) {y : Ctx} (z : Ctx) (h : y ≠ Ctx.init) :
    (s.setCtx t c y).setCtx t c z = s.setCtx t c z :=
  congrArg (fun m => ({ s with ctxs := m } : State)) (SMap.set_set s.ctxs ⟨t, c, 0⟩ z h)

/-- The error that the tile of an isolated load reports (R237, R399). -/
def loadIsolated (s : State) (t c d : Nat) : State := s.reportIsolated 0x0C t d 1 (t * 8 + c)

/-- Behind a shutter that is not open a load ends in ERR_ISOLATED and a load access fault (R399, R498). -/
theorem loadComplete_isolated {s : State} {t c d size rd : Nat} {sg : Bool} {pc core : BitVec 32}
    (hw : (s.ctx t c).wait = .load d size rd sg false pc core) (ho : s.isOpen kTile t = false)
    (hm : (s.ctx t c).mtvec ≠ 0) : s.loadComplete t c [] = (s.loadIsolated t c d).setCtx t c { s.ctx t c with
      wait := .none, mepc := pc, mcause := 5, mtval := core, mpie := (s.ctx t c).mie, mie := false
      pc := (s.ctx t c).mtvec &&& 0xFFFFFFFC#32 } := by
  have hctx : (s.loadIsolated t c d).ctx t c = s.ctx t c := ctx_of_noRec (noRec_report s _) t c
  have hload : ({ s.ctx t c with pc := pc } : Ctx) ≠ Ctx.init := fun e => by
    have h := congrArg Ctx.wait e
    rw [show ({ s.ctx t c with pc := pc } : Ctx).wait = .load d size rd sg false pc core from hw] at h
    cases h
  have he : s.loadComplete t c [] =
      ((s.loadIsolated t c d).setCtx t c { (s.loadIsolated t c d).ctx t c with pc := pc }).trap t c xLoad core := by
    unfold loadComplete
    rw [hw]
    dsimp only
    rw [ho]
    rfl
  rw [he, hctx, trap_handled (by rw [ctx_setCtx_self]; exact hm), setCtx_setCtx _ _ _ _ hload, ctx_setCtx_self]
  rfl

/-- A context whose wait has ended takes its result (R95). -/
theorem contextWake_served {s : State} {t c rd v : Nat} (ht : t < s.nTiles) (hc : c < 4)
    (hw : (s.ctx t c).wait = .served rd v) : ∃ u, exec (.contextWake t c) s = .next u ∧
      (∀ r, u.x t c r = if r = rd ∧ r ≠ 0 then BitVec.ofNat 32 v else s.x t c r) ∧
      u.ctx t c = { s.ctx t c with x := (u.ctx t c).x, wait := .none } ∧ onlyCtx s u t c := by
  have hexec : exec (.contextWake t c) s = answer s (s.contextWake t c) := answerIf_true (decide_eq_true ⟨ht, hc⟩)
  have he : s.contextWake t c = (s.block t c .none).setX t c rd (BitVec.ofNat 32 v) := by
    unfold contextWake
    rw [hw]
  have hrest : ((s.block t c .none).setX t c rd (BitVec.ofNat 32 v)).noCtx = s.noCtx := noCtx_setX _ _ _ _ _
  rw [hexec, he]
  refine ⟨_, next_of_noCtx hrest, fun r => ?_, ?_, fun t' c' hne => ?_, hrest⟩
  · rw [x_setX]
    unfold State.x
    rw [ctx_block_self]
  · rw [ctx_setX, if_pos ⟨rfl, rfl⟩, ctx_block_self]
  · rw [ctx_setX, if_neg hne]
    unfold block
    rw [ctx_setCtx, if_neg hne]

end State

end Sys2Proof.Machine

namespace Sys2Proof

open Machine Machine.State Claims

/-- Settles O6: an aligned access of the tile's own memories is served at once, and every other one traps at issue. -/
theorem localAccesses : Obligations.LocalAccesses := ⟨localLoads, localStores⟩

/-- Settles O7: a remote load blocks, its data or its isolation end the wait, and a served context takes its result. -/
theorem remoteLoads : Obligations.RemoteLoads := by
  unfold Obligations.RemoteLoads
  intro s t c n
  refine ⟨fun rd rs1 size sg off d h => coreLoad_blocks h,
    fun d size rd sg pc core v bs ht hc hw ho hs hr => loadComplete_ok ht hc hw ho hs hr,
    fun d size rd sg pc core ht hc hw ho hm => ?_, fun rd v ht hc hw => contextWake_served ht hc hw⟩
  have hkeep : (s.loadIsolated t c d).noRec = s.noRec := noRec_report s _
  have hp := congrArg State.pending hkeep
  have hf := congrArg State.fuses hkeep
  rw [exec_loadComplete ht hc, loadComplete_isolated hw ho hm]
  exact ⟨_, s.loadIsolated t c d, answer_of_noCtx (noCtx_setCtx _ _ _ _) hp hf, ⟨_, rfl, rfl, rfl, rfl, rfl⟩, rfl⟩

end Sys2Proof

/-! SUPPORT. The instructions of the cores that wait for signals and post them, that arrive at barriers, and that issue
descriptors (R99 to R101, R207, R210, R213, R214, R217, R224). -/
namespace Sys2Proof.Machine.State

open Sys2Proof.Claims

/-! ### Counters and their waiters -/

/-- A counter from which an amount has been taken (R207). -/
theorem puts_cntTake (s : State) (t n a : Nat) : puts s (s.cntTake t n a)
    [(.SIG_CNT_VALUE, t, n, s.rd .SIG_CNT_VALUE t n - a), (.SIG_CNT_TAKEN_TAKEN, t, n, s.rd .SIG_CNT_TAKEN_TAKEN t n + a)] := by
  have htaken : (s.wr .SIG_CNT_VALUE t n (s.cntValue t n - a)).cntTaken t n = s.rd .SIG_CNT_TAKEN_TAKEN t n :=
    rd_wr_out s _ _ _ _ _ (by decide) (by decide)
  have h := puts_wr (puts_wr (puts_nil s) (f := .SIG_CNT_VALUE) t n (s.cntValue t n - a) (by decide))
    (f := .SIG_CNT_TAKEN_TAKEN) t n (s.cntTaken t n + a) (by decide)
  refine puts_of_perm h ?_
  simp [cut, cntTaken, cntValue, List.Perm.swap]

theorem cntValue_cntTake_le (s : State) (t n a : Nat) : (s.cntTake t n a).cntValue t n ≤ s.cntValue t n - a := by
  have h := (puts_cntTake s t n a).1 (.SIG_CNT_VALUE, t, n, s.rd .SIG_CNT_VALUE t n - a) (by simp)
  unfold cntValue
  rw [h]
  exact Nat.mod_le _ _

/-- A waiter that is not served keeps those behind it waiting (R210). -/
theorem serveFrom_held {s : State} {t n : Nat} {ws : List Waiter}
    (h : ∀ w, ws.head? = some w → s.cntValue t n < w.amount) : s.serveFrom t n ws = s.setWaiters t n ws := by
  cases ws with
  | nil => rfl
  | cons w ws => exact if_neg (Nat.not_le.2 (h w rfl))

/-- A context that waits on a counter is served. -/
def servedCtx (s : State) (t c rd : Nat) : State := s.setCtx t c { s.ctx t c with wait := .served rd 0 }

/-- The first waiter, a context, takes its amount, and the one behind it is not served (R209, R210). -/
theorem serveFrom_one {s : State} {t n c m k b rd : Nat} {rest : List Waiter} (hm : m ≤ s.cntValue t n) (hc : c < 4)
    (hw : (s.ctx t c).wait = .counter k b rd) (hrest : ∀ z, rest.head? = some z → s.cntValue t n - m < z.amount) :
    s.serveFrom t n (⟨c, m⟩ :: rest) = ((s.cntTake t n m).servedCtx t c rd).setWaiters t n rest := by
  have hend : (s.cntTake t n m).endWait t c 0 = (s.cntTake t n m).servedCtx t c rd := by
    have hw' : ((s.cntTake t n m).ctx t c).wait = .counter k b rd := hw
    unfold endWait
    rw [if_pos hc]
    dsimp only
    rw [hw']
    rfl
  rw [serveFrom, if_pos hm, hend]
  exact serveFrom_held fun z hz => lt_of_le_of_lt (cntValue_cntTake_le s t n m) (hrest z hz)

/-! ### SIG.WAIT and SIG.TRY -/

section

variable {s : State} {t c n rd : Nat} {a b : BitVec 32}

theorem sigWait_zero (h : b.toNat % 65536 = 0) : s.sigWait t c n rd a b = s.result t c n rd 0 := if_pos h

theorem sigWait_waits (h : b.toNat % 65536 ≠ 0) : s.sigWait t c n rd a b =
    ((s.retire t c n).block t c (.counter (a.toNat % 64) (b.toNat % 65536) rd)).beginWait t (a.toNat % 64)
      ⟨c, b.toNat % 65536⟩ := if_neg h

theorem sigTry_zero (h : b.toNat % 65536 = 0) : s.sigTry t c n rd a b = s.result t c n rd 1 := if_pos h

theorem sigTry_takes (h : b.toNat % 65536 ≠ 0) (hw : s.waitersOn t (a.toNat % 64) = [])
    (hv : b.toNat % 65536 ≤ s.cntValue t (a.toNat % 64)) : s.sigTry t c n rd a b =
      (s.cntTake t (a.toNat % 64) (b.toNat % 65536)).result t c n rd 1 := by
  unfold sigTry
  dsimp only
  rw [if_neg h, if_pos ⟨by rw [hw]; rfl, hv⟩]

theorem sigTry_fails (h : b.toNat % 65536 ≠ 0) (hw : s.waitersOn t (a.toNat % 64) ≠ [] ∨
    s.cntValue t (a.toNat % 64) < b.toNat % 65536) : s.sigTry t c n rd a b = s.result t c n rd 0 := by
  unfold sigTry
  dsimp only
  rw [if_neg h, if_neg]
  rintro ⟨he, hv⟩
  exact hw.elim (fun hw => hw (List.isEmpty_iff.1 he)) (Nat.not_lt.2 hv)

end

/-- A context blocked behind the instruction that blocks it. -/
theorem ctx_retire_block (s : State) (t c n : Nat) (w : Wait) :
    (((s.takeCore t c).retire t c n).block t c w).ctx t c = { after (s.ctx t c) n with wait := w } := by
  rw [ctx_block_self, ctx_retire_self]

theorem onlyCtx_retire_block (s : State) (t c n : Nat) (w : Wait) :
    onlyCtx s (((s.takeCore t c).retire t c n).block t c w) t c := onlyCtx_block w (onlyCtx_retire s t c n)

theorem noCtx_withWaiters {s w : State} (h : w.noCtx = s.noCtx) (ws : SMap (List Waiter)) :
    ({ w with waiters := ws } : State).noCtx = ({ s with waiters := ws } : State).noCtx :=
  congrArg (fun v : State => { v with waiters := ws }) h

theorem cntValue_setWaiters (s : State) (t n t' k : Nat) (ws : List Waiter) :
    (s.setWaiters t n ws).cntValue t' k = s.cntValue t' k := rfl

theorem ctx_setWaiters (s : State) (t n : Nat) (ws : List Waiter) (t' c : Nat) : (s.setWaiters t n ws).ctx t' c = s.ctx t' c :=
  rfl

/-- A context that finds its amount and nobody before it is served at once (R210). -/
theorem beginWait_served {w : State} {t c k b rd m : Nat} (hc : c < 4) (hw : w.waitersOn t k = [])
    (hv : m ≤ w.cntValue t k) (hwait : (w.ctx t c).wait = .counter k b rd) : w.beginWait t k ⟨c, m⟩ =
      (((w.setWaiters t k [⟨c, m⟩]).cntTake t k m).servedCtx t c rd).setWaiters t k [] := by
  unfold beginWait serve
  rw [hw, waitersOn_setWaiters, if_pos ⟨rfl, rfl⟩]
  refine serveFrom_one ?_ hc (k := k) (b := b) ?_ (by simp)
  · rw [cntValue_setWaiters]
    exact hv
  · rw [ctx_setWaiters]
    exact hwait

/-- A waiter behind one that is not served, or not served itself, waits (R210). -/
theorem beginWait_held {w : State} {t k : Nat} {x : Waiter}
    (h : ∀ z, (w.waitersOn t k ++ [x]).head? = some z → w.cntValue t k < z.amount) : w.beginWait t k x =
      (w.setWaiters t k (w.waitersOn t k ++ [x])).setWaiters t k (w.waitersOn t k ++ [x]) := by
  unfold beginWait serve
  rw [waitersOn_setWaiters, if_pos ⟨rfl, rfl⟩]
  exact serveFrom_held h

/-- What a context that is served leaves, beside the counter and the other contexts' state. -/
theorem onlyCtx_served {s w : State} {t c k rd m : Nat} {y : Ctx} (ws : List Waiter) (hw : onlyCtx s w t c)
    (hy : w.ctx t c = y) {u : State}
    (hu : u = (((w.setWaiters t k [⟨c, m⟩]).cntTake t k m).servedCtx t c rd).setWaiters t k ws) :
    answer s u = .next u ∧ puts s u [(.SIG_CNT_VALUE, t, k, s.rd .SIG_CNT_VALUE t k - m),
        (.SIG_CNT_TAKEN_TAKEN, t, k, s.rd .SIG_CNT_TAKEN_TAKEN t k + m)] ∧ u.waitersOn t k = ws ∧
      u.ctx t c = { y with wait := .served rd 0 } ∧ onlyCtx { s with regs := u.regs, waiters := u.waiters } u t c := by
  obtain ⟨hctx, hrest⟩ := hw
  have hrd := rd_of_noCtx hrest
  have hp := puts_cntTake (w.setWaiters t k [⟨c, m⟩]) t k m
  simp only [rd_setWaiters, hrd] at hp
  have hnext : u.noCtx = { w with regs := u.regs, waiters := u.waiters }.noCtx := by subst hu; rfl
  have hself : ∀ t' c', u.ctx t' c' = (w.setCtx t c { w.ctx t c with wait := .served rd 0 }).ctx t' c' := by
    subst hu; exact fun _ _ => rfl
  have hpend := congrArg State.pending hrest
  have hfuse := congrArg State.fuses hrest
  refine ⟨answer_of_noCtx hnext hpend hfuse, ?_, ?_, ?_, fun t' c' hne => ?_, ?_⟩
  · refine puts_of_rd (s := s) ⟨hp.1, fun f i x hk => ?_⟩ (fun f i x => by subst hu; rfl)
    rw [hp.2 f i x hk, rd_setWaiters, hrd]
  · subst hu
    rw [waitersOn_setWaiters, if_pos ⟨rfl, rfl⟩]
  · rw [hself, ctx_setCtx_self, hy]
  · rw [hself, ctx_setCtx, if_neg hne, hctx t' c' hne]
    rfl
  · rw [hnext]
    exact congrArg (fun v : State => { v with regs := u.regs, waiters := u.waiters }) hrest

theorem sigWaits {s : State} {t c n rd rs1 rs2 : Nat} (h : runs s t c (.sigWait rd rs1 rs2) n) :
    let k := (s.x t c rs1).toNat % 64
    let m := (s.x t c rs2).toNat % 65536
    let v := s.rd .SIG_CNT_VALUE t k
    (m = 0 → ∃ u, exec (.sigWait t) s = .next u ∧ gives s u t c n rd 0) ∧
    (m ≠ 0 → s.waitersOn t k = [] → m ≤ v →
      ∃ u, exec (.sigWait t) s = .next u ∧ puts s u [(.SIG_CNT_VALUE, t, k, v - m),
          (.SIG_CNT_TAKEN_TAKEN, t, k, s.rd .SIG_CNT_TAKEN_TAKEN t k + m)] ∧ u.waitersOn t k = [] ∧
        u.ctx t c = { after (s.ctx t c) n with wait := .served rd 0 } ∧
        onlyCtx { s with regs := u.regs, waiters := u.waiters } u t c) ∧
    (m ≠ 0 → (∀ w, (s.waitersOn t k ++ [(⟨c, m⟩ : Waiter)]).head? = some w → v < w.amount) →
      ∃ u, exec (.sigWait t) s = .next u ∧ u.waitersOn t k = s.waitersOn t k ++ [⟨c, m⟩] ∧
        (∀ t' k', ¬(t' = t ∧ k' = k) → u.waitersOn t' k' = s.waitersOn t' k') ∧
        u.ctx t c = { after (s.ctx t c) n with wait := .counter k m rd } ∧
        onlyCtx { s with waiters := u.waiters } u t c) := by
  intro k m v
  have honly := onlyCtx_retire_block s t c n (.counter k m rd)
  have hself := ctx_retire_block s t c n (.counter k m rd)
  have hwaiters : ∀ t' k', (((s.takeCore t c).retire t c n).block t c (.counter k m rd)).waitersOn t' k' =
      s.waitersOn t' k' := fun _ _ => rfl
  have hvalue : (((s.takeCore t c).retire t c n).block t c (.counter k m rd)).cntValue t k = v := rd_of_noCtx honly.2 _ _ _
  rw [exec_sigWait h]
  refine ⟨fun hm => ?_, fun hm hw hv => ?_, fun hm hw => ?_⟩
  · have hg := gives_result s t c n rd 0
    rw [sigWait_zero hm]
    exact ⟨_, next_of_givesCtx hg, hg⟩
  · rw [sigWait_waits hm]
    generalize ((s.takeCore t c).retire t c n).block t c (.counter k m rd) = w at honly hself hwaiters hvalue
    rw [beginWait_served h.2.1 (b := m) ((hwaiters t k).trans hw) (hvalue.symm ▸ hv) (rd := rd) (by rw [hself])]
    exact ⟨_, onlyCtx_served [] honly hself rfl⟩
  · rw [sigWait_waits hm]
    generalize ((s.takeCore t c).retire t c n).block t c (.counter k m rd) = w at honly hself hwaiters hvalue
    rw [beginWait_held (by rw [hwaiters, hvalue]; exact hw), hwaiters]
    have hpend := congrArg State.pending honly.2
    have hfuse := congrArg State.fuses honly.2
    refine ⟨_, answer_eq hpend hfuse, ?_, fun t' k' hne => ?_, hself, honly.1, ?_⟩
    · rw [waitersOn_setWaiters, if_pos ⟨rfl, rfl⟩]
    · rw [waitersOn_setWaiters, if_neg hne, waitersOn_setWaiters, if_neg hne, hwaiters]
    · exact noCtx_withWaiters honly.2 _

theorem sigTries {s : State} {t c n rd rs1 rs2 : Nat} (h : runs s t c (.sigTry rd rs1 rs2) n) :
    let k := (s.x t c rs1).toNat % 64
    let m := (s.x t c rs2).toNat % 65536
    let v := s.rd .SIG_CNT_VALUE t k
    (m = 0 → ∃ u, exec (.sigTry t) s = .next u ∧ gives s u t c n rd 1) ∧
    (m ≠ 0 → s.waitersOn t k = [] → m ≤ v →
      ∃ u, exec (.sigTry t) s = .next u ∧ puts s u [(.SIG_CNT_VALUE, t, k, v - m),
          (.SIG_CNT_TAKEN_TAKEN, t, k, s.rd .SIG_CNT_TAKEN_TAKEN t k + m)] ∧
        gives { s with regs := u.regs } u t c n rd 1) ∧
    (m ≠ 0 → s.waitersOn t k ≠ [] ∨ v < m → ∃ u, exec (.sigTry t) s = .next u ∧ gives s u t c n rd 0) := by
  intro k m v
  rw [exec_sigTry h]
  refine ⟨fun hm => ?_, fun hm hw hv => ?_, fun hm hw => ?_⟩
  · have hg := gives_result s t c n rd 1
    rw [sigTry_zero hm]
    exact ⟨_, next_of_givesCtx hg, hg⟩
  · have hg := gives_result (s.cntTake t k m) t c n rd 1
    have hrest := hg.2.2.1.2
    have hregs := congrArg State.regs hrest
    have hpend := congrArg State.pending hrest
    have hfuse := congrArg State.fuses hrest
    rw [sigTry_takes (s := s.takeCore t c) hm hw hv,
      show (s.takeCore t c).cntTake t k m = (s.cntTake t k m).takeCore t c from rfl]
    refine ⟨((s.cntTake t k m).takeCore t c).result t c n rd 1, answer_eq hpend hfuse,
      puts_of_rd (puts_cntTake s t k m) (rd_of_noCtx hrest), ?_⟩
    rw [show (((s.cntTake t k m).takeCore t c).result t c n rd 1).regs = (s.cntTake t k m).regs from hregs]
    exact hg
  · have hg := gives_result s t c n rd 0
    rw [sigTry_fails (s := s.takeCore t c) hm hw]
    exact ⟨_, next_of_givesCtx hg, hg⟩

theorem signalWaits : SignalWaits := by
  intro s t c n rd rs1 rs2
  exact ⟨sigWaits, sigTries⟩

/-! ### SIG.POST -/

/-- What R214 asks of a word of a context. -/
theorem wordRejected_iff (s : State) (w : Nat) : s.wordRejected w true false = true ↔
    ¬(bits w 63 62 < 2 ∧ bits w 15 0 ≠ 0 ∧ bits w 50 34 = 0 ∧ bits w 33 22 < s.nTiles) ∨
      (s.wordRemote w = true ∧ s.flag .SIG_ROUTE_VALID 0 (bits w 60 51) = false) := by
  have h : s.wordRejected w true false = true ↔ (((2 ≤ SigWord.kind w ∨ SigWord.amount w = 0) ∨ bits w 50 34 ≠ 0) ∨
      s.nTiles ≤ SigWord.tile w) ∨ (s.wordRemote w = true ∧ s.flag .SIG_ROUTE_VALID 0 (SigWord.pkn w) = false) := by
    simp [wordRejected]
  rw [h, ← not_lt, ← not_lt (a := SigWord.tile w)]
  show (((¬bits w 63 62 < 2 ∨ bits w 15 0 = 0) ∨ _) ∨ ¬bits w 33 22 < _) ∨ (_ ∧ s.flag .SIG_ROUTE_VALID 0 (bits w 60 51) = _) ↔ _
  tauto

theorem wordRemote_iff (s : State) (w : Nat) :
    s.wordRemote w = true ↔ hasBit w 61 = true ∧ bits w 60 51 ≠ s.rd .SIG_PKN_PKN := by
  unfold wordRemote
  rw [Bool.and_eq_true, decide_eq_true_eq]
  rfl

section

variable {s : State} {t c w : Nat}

theorem post_local (hr : s.wordRejected w true false = false) (hw : s.wordRemote w = false) :
    s.post w none (.ctx t c) =
      s.launch ⟨w, bits w 33 22, bits w 15 0, .ctx t c, false, s.storesOut (.ctx t c)⟩ := by
  unfold post
  simp only [Option.isNone_none, hr, hw]
  rfl

theorem post_remote (hr : s.wordRejected w true false = false) (hw : s.wordRemote w = true) :
    s.post w none (.ctx t c) = s.launch ⟨w, 0, bits w 15 0, .ctx t c, true, s.storesOut (.ctx t c)⟩ := by
  unfold post
  simp only [Option.isNone_none, hr, hw]
  rfl

theorem post_rejected (hr : s.wordRejected w true false = true) : s.post w none (.ctx t c) = s.rejectWord w (.ctx t c) := by
  unfold post
  simp only [Option.isNone_none, hr]
  rfl

end

/-- A word launched behind the instruction that posts it. -/
theorem answer_launched (s : State) (t c n : Nat) (f : Flight) :
    ∃ u, answer s (((s.takeCore t c).retire t c n).launch f) = .next u ∧ u.flights = s.flights ++ [f] ∧
      u.ctx t c = after (s.ctx t c) n ∧ onlyCtx { s with flights := u.flights } u t c :=
  ⟨_, answer_eq rfl rfl, rfl, ctx_retire_self s t c n, (onlyCtx_retire s t c n).1, rfl⟩

theorem signalPosts : SignalPosts := by
  intro s t c n rs1 rs2 h w pkn remote good
  have hrem : ((s.takeCore t c).retire t c n).wordRemote w = true ↔ remote := wordRemote_iff s w
  have hexec : exec (.sigPost t) s = answer s (((s.takeCore t c).retire t c n).post w none (.ctx t c)) := exec_sigPost h
  rw [hexec]
  refine ⟨fun hg hr => ?_, fun hg hr hf => ?_, fun hbad => ?_⟩
  · have hw : ((s.takeCore t c).retire t c n).wordRemote w = false := Bool.eq_false_iff.2 fun e => hr (hrem.1 e)
    rw [post_local (Bool.eq_false_iff.2 fun e => ?_) hw]
    · exact answer_launched s t c n _
    · exact ((wordRejected_iff _ w).1 e).elim (fun hn => hn hg) fun hb => hr (hrem.1 hb.1)
  · rw [post_remote (Bool.eq_false_iff.2 fun e => ?_) (hrem.2 hr)]
    · exact answer_launched s t c n _
    · exact ((wordRejected_iff _ w).1 e).elim (fun hn => hn hg) fun hb => absurd (hf.symm.trans hb.2) (by decide)
  · have hrej : ((s.takeCore t c).retire t c n).wordRejected w true false = true :=
      (wordRejected_iff _ w).2 (hbad.imp id fun h => ⟨hrem.2 h.1, h.2⟩)
    have hkeep : (((s.takeCore t c).retire t c n).rejectWord w (.ctx t c)).noRec = ((s.takeCore t c).retire t c n).noRec :=
      noRec_report _ _
    have hpend := congrArg State.pending hkeep
    have hfuse := congrArg State.fuses hkeep
    rw [post_rejected hrej]
    exact ⟨_, (s.takeCore t c).retire t c n, answer_eq hpend hfuse, ctx_retire_self s t c n, onlyCtx_retire s t c n, _,
      rfl, rfl, rfl, rfl, rfl⟩

end Sys2Proof.Machine.State

namespace Sys2Proof

open Machine Machine.State Claims

/-- Settles O8: a wait is served or held in its order, and a word is launched or rejected. -/
theorem signalInstructions : Obligations.SignalInstructions := ⟨signalWaits, signalPosts⟩

end Sys2Proof

/-! SUPPORT. BAR.ARRIVE and BAR.WAIT, and what the count of an arrival leaves (R99, R217, R224, R227). -/
namespace Sys2Proof.Machine.State

open Sys2Proof.Claims

/-! ### Blocking -/

/-- A context that blocks behind its instruction. -/
theorem answer_blocked (s : State) (t c n : Nat) (w : Wait) :
    ∃ u, answer s (((s.takeCore t c).retire t c n).block t c w) = .next u ∧ onlyCtx s u t c ∧
      u.ctx t c = { after (s.ctx t c) n with wait := w } :=
  have honly := onlyCtx_retire_block s t c n w
  ⟨_, next_of_noCtx honly.2, honly, ctx_retire_block s t c n w⟩

theorem answer_retired (s : State) (t c n : Nat) :
    ∃ u, answer s ((s.takeCore t c).retire t c n) = .next u ∧ gives s u t c n 0 0 :=
  have hg := gives_retire s t c n
  ⟨_, next_of_givesCtx hg, hg⟩

/-- BAR.WAIT ends at once where the tile's sense is the one it names (R224). -/
theorem barWait_eq (s : State) (t c n : Nat) (a b : BitVec 32) : (s.takeCore t c).barWait t c n a b =
    if s.tileSense t (a.toNat % 512) = b.toNat % 2 then (s.takeCore t c).retire t c n
    else ((s.takeCore t c).retire t c n).block t c (.barrier (a.toNat % 512) (b.toNat % 2) false) := by
  have hs : ((s.takeCore t c).retire t c n).tileSense t (a.toNat % 512) = s.tileSense t (a.toNat % 512) := rfl
  unfold barWait
  dsimp only
  rw [hs]

/-! ### The arrival counted -/

/-- What keeps an arrival from being counted is what has not been applied of the context's posts and stores (R216, R217). -/
theorem postsApplied_iff (s : State) (t c : Nat) : s.postsApplied t c = true ↔ ¬Claims.outstanding s t c := by
  simp only [postsApplied, Claims.outstanding, postsOut, Bool.not_eq_true', Bool.or_eq_false_iff, List.any_eq_false,
    decide_eq_true_eq, not_or, not_exists, not_and, Bool.or_eq_true, List.any_eq_true, beq_iff_eq, Bool.not_eq_true]
  tauto

section

variable {s : State} {t c b err rd : Nat}

theorem exec_barArrivalCount (ht : t < s.nTiles) (hc : c < 4) :
    exec (.barArrivalCount t c) s = answer s (s.arrivalCount t c) := answerIf_true (decide_eq_true ⟨ht, hc⟩)

theorem arrivalCount_held (hw : (s.ctx t c).wait = .arrive b err rd) (h : Claims.outstanding s t c) : s.arrivalCount t c = s := by
  have hp : s.postsApplied t c = false := Bool.eq_false_iff.2 fun e => (postsApplied_iff s t c).1 e h
  unfold arrivalCount
  rw [hw]
  simp [hp]

/-- An arrival that may be counted is, and its context is served the sense awaited where the count has not moved it on. -/
theorem arrivalCount_served {u : State} {sense : Nat} (hw : (s.ctx t c).wait = .arrive b err rd) (h : ¬Claims.outstanding s t c)
    (hu : s.countArrival t c b (err == 1) = (sense, u)) (huw : u.ctx t c = s.ctx t c) :
    s.arrivalCount t c = u.setCtx t c { s.ctx t c with wait := .served rd sense } := by
  have hp := (postsApplied_iff s t c).2 h
  unfold arrivalCount
  rw [hw]
  dsimp only
  rw [hp, hu]
  dsimp only
  rw [huw, hw]
  dsimp only [block]
  rw [huw]
  rfl

end

theorem noCtx_of_noRegs {s w : State} (h : w.noRegs = s.noRegs) : w.noCtx = ({ s with regs := w.regs } : State).noCtx := by
  have h := congrArg (fun v : State => ({ v with regs := w.regs } : State).noCtx) h
  exact h

/-- The barrier object after one more arrival, with its error flag where the arrival brings one (R224, R227). -/
def arrivedAt (s : State) (b : Nat) (err : Bool) : State :=
  (if err then s.wr .SIG_BAR_STATE_ERR 0 b 1 else s).wr .SIG_BAR_STATE_ARRIVED 0 b (s.rd .SIG_BAR_STATE_ARRIVED 0 b + 1)

theorem puts_arrivedAt (s : State) (b err : Nat) : puts s (s.arrivedAt b (err == 1))
    ((.SIG_BAR_STATE_ARRIVED, 0, b, (s.rd .SIG_BAR_STATE_ARRIVED 0 b + 1) % 2 ^ Fd.SIG_BAR_STATE_ARRIVED.width) ::
      if err = 1 then [(.SIG_BAR_STATE_ERR, 0, b, 1)] else []) := by
  have herr : puts s (if err == 1 then s.wr .SIG_BAR_STATE_ERR 0 b 1 else s)
      (if err = 1 then [(.SIG_BAR_STATE_ERR, 0, b, 1)] else []) := by
    by_cases h : err = 1
    · rw [if_pos (beq_iff_eq.2 h), if_pos h]
      exact puts_wr (puts_nil s) 0 b 1 (by decide)
    · rw [if_neg (by simpa using h), if_neg h]
      exact puts_nil s
  have hput := puts_wr herr (f := .SIG_BAR_STATE_ARRIVED) 0 b (s.rd .SIG_BAR_STATE_ARRIVED 0 b + 1) (by decide)
  refine puts_of_perm hput ?_
  by_cases h : err = 1 <;> simp [cut, h]

theorem noRegs_arrivedAt (s : State) (b : Nat) (err : Bool) : (s.arrivedAt b err).noRegs = s.noRegs := by
  cases err <;> rfl

section

variable {s : State} {t c b : Nat}

theorem countArrival_invalid (err : Bool) (h : s.barValid b = false) : s.countArrival t c b err =
    (1 - s.rd .SIG_BAR_STATE_SENSE 0 b, s.barErr b 1 (t * 8 + c) (s.barGen b)) := by
  unfold countArrival
  rw [h]
  rfl

/-- An arrival that does not complete its barrier's count is counted, and nothing more (R224). -/
theorem countArrival_counts {err : Nat} (h : s.barValid b = true)
    (hne : (s.rd .SIG_BAR_STATE_ARRIVED 0 b + 1) % 2 ^ Fd.SIG_BAR_STATE_ARRIVED.width ≠ s.rd .SIG_BAR_CFG_EXPECT 0 b) :
    s.countArrival t c b (err == 1) = (1 - s.rd .SIG_BAR_STATE_SENSE 0 b, s.arrivedAt b (err == 1)) := by
  obtain ⟨hin, hout⟩ := puts_arrivedAt s b err
  have harr := hin _ List.mem_cons_self
  have hexp : (s.arrivedAt b (err == 1)).rd .SIG_BAR_CFG_EXPECT 0 b = s.rd .SIG_BAR_CFG_EXPECT 0 b :=
    hout _ _ _ (by split <;> simp)
  have hkeep : (if err == 1 then s.wr .SIG_BAR_STATE_ERR 0 b 1 else s).rd .SIG_BAR_STATE_ARRIVED 0 b =
      s.rd .SIG_BAR_STATE_ARRIVED 0 b := by
    split
    · exact rd_wr_ne s 1 (by decide) (by simp)
    · rfl
  have he : s.countArrival t c b (err == 1) = (1 - s.rd .SIG_BAR_STATE_SENSE 0 b,
      if (s.arrivedAt b (err == 1)).rd .SIG_BAR_STATE_ARRIVED 0 b = (s.arrivedAt b (err == 1)).rd .SIG_BAR_CFG_EXPECT 0 b
      then (s.arrivedAt b (err == 1)).barDo (.part b false) else s.arrivedAt b (err == 1)) := by
    unfold countArrival arrivedAt
    rw [h]
    dsimp only
    rw [hkeep]
    rfl
  rw [he, harr, hexp, Nat.mod_mod, if_neg hne]

end

end Sys2Proof.Machine.State

namespace Sys2Proof

open Machine Machine.State Claims

/-- Settles O9: an arrival waits for what its context has posted, and is then counted or refused; a wait looks at the tile's
sense. -/
theorem barrierArrivals : Obligations.BarrierArrivals := by
  unfold Obligations.BarrierArrivals
  intro s t c n
  refine ⟨fun rd rs1 h => ?_, fun rs1 rs2 h => ⟨fun hs => ?_, fun hs => ?_⟩, fun b err rd ht hc hw => ⟨fun ho => ?_,
    fun ho hv hne => ?_, fun ho hv => ?_⟩⟩
  · rw [exec_barArrive h]
    exact answer_blocked s t c n _
  · rw [exec_barWait h, barWait_eq, if_pos hs]
    exact answer_retired s t c n
  · rw [exec_barWait h, barWait_eq, if_neg hs]
    exact answer_blocked s t c n _
  · rw [exec_barArrivalCount ht hc, arrivalCount_held hw ho, answer_self]
  · have hrest := noRegs_arrivedAt s b (err == 1)
    have hctx : ∀ t' c', (s.arrivedAt b (err == 1)).ctx t' c' = s.ctx t' c' := fun t' c' => by
      have h := congrArg (fun v : State => v.ctx t' c') hrest
      exact h
    have hpend := congrArg State.pending hrest
    have hfuse := congrArg State.fuses hrest
    rw [exec_barArrivalCount ht hc, arrivalCount_served hw ho (countArrival_counts hv hne) (hctx t c)]
    refine ⟨_, answer_eq hpend hfuse, puts_of_rd (puts_arrivedAt s b err) (rd_setCtx _ _ _ _), ctx_setCtx_self _ _ _ _,
      fun t' c' hne => ?_, ?_⟩
    · rw [ctx_setCtx, if_neg hne, hctx]
      rfl
    · rw [noCtx_setCtx]
      exact noCtx_of_noRegs hrest
  · have hrest : (s.barErr b 1 (t * 8 + c) (s.barGen b)).noRec = s.noRec := noRec_report _ _
    have hpend := congrArg State.pending hrest
    have hfuse := congrArg State.fuses hrest
    rw [exec_barArrivalCount ht hc, arrivalCount_served hw ho (countArrival_invalid _ hv) (ctx_of_noRec hrest t c)]
    exact ⟨_, s.barErr b 1 (t * 8 + c) (s.barGen b), answer_eq hpend hfuse, rfl, _, rfl, rfl, rfl, rfl, rfl⟩

end Sys2Proof

/-! SUPPORT. TQ.ISSUE and TQ.FENCE, and what a pass that reaches the head of the array's queue leaves alone (R99 to R101, R137
to R139). -/
namespace Sys2Proof.Machine.State

open Sys2Proof.Claims

/-! ### A pass at the head of the array's queue -/

/-- Without what the head of the array's queue may change: registers, contexts, engines, arrays, waiters, and the count of
free values. -/
def noPass (s : State) : State :=
  { s with regs := [], ctxs := [], engines := [], arrays := [], waiters := [], fresh := 0 }

/-- `u` differs from `s` in what the head of the array's queue may change, and there not in the registers of a context, nor
in a queue or in the tickets issued. -/
structure Heads (s u : State) : Prop where
  rest : u.noPass = s.noPass
  xs : ∀ t c, (u.ctx t c).x = (s.ctx t c).x
  queues : ∀ t e, (u.engine t e).queue = (s.engine t e).queue ∧ (u.engine t e).issued = (s.engine t e).issued

namespace Heads

theorem refl (s : State) : Heads s s := ⟨rfl, fun _ _ => rfl, fun _ _ => ⟨rfl, rfl⟩⟩

theorem trans {s u v : State} (h : Heads s u) (k : Heads u v) : Heads s v :=
  ⟨k.rest.trans h.rest, fun t c => (k.xs t c).trans (h.xs t c),
    fun t e => ⟨(k.queues t e).1.trans (h.queues t e).1, (k.queues t e).2.trans (h.queues t e).2⟩⟩

/-- A change beside contexts and engines. -/
theorem of_same {s u : State} (h : u.noPass = s.noPass) (hc : u.ctxs = s.ctxs) (he : u.engines = s.engines) : Heads s u :=
  ⟨h, fun t c => by unfold State.ctx; rw [hc], fun t e => by unfold State.engine; rw [he]; exact ⟨rfl, rfl⟩⟩

theorem wr (s : State) (f : Fd) (i x v : Nat) : Heads s (s.wr f i x v) := of_same rfl rfl rfl

theorem setArray (s : State) (t : Nat) (m : MatArray) : Heads s (s.setArray t m) := of_same rfl rfl rfl

theorem setWaiters (s : State) (t n : Nat) (ws : List Waiter) : Heads s (s.setWaiters t n ws) := of_same rfl rfl rfl

theorem setWait (s : State) (t c : Nat) (w : Wait) : Heads s (s.setCtx t c { s.ctx t c with wait := w }) := by
  refine ⟨rfl, fun t' c' => ?_, fun _ _ => ⟨rfl, rfl⟩⟩
  rw [ctx_setCtx]
  split
  · rename_i h; rw [h.1, h.2]
  · rfl

theorem endDesc (s : State) (t e code detail addr : Nat) (tiles : List Nat) :
    Heads s (s.endDesc t e code detail addr tiles) := by
  refine ⟨rfl, fun _ _ => rfl, fun t' e' => ?_⟩
  unfold State.endDesc
  rw [engine_setEngine]
  split
  · rename_i h; rw [h.1, h.2]; exact ⟨rfl, rfl⟩
  · exact ⟨rfl, rfl⟩

theorem countCycles (s : State) (f : Fd) (t site : Nat) : Heads s (s.countCycles f t site) := of_same rfl rfl rfl

theorem ite {s u v : State} {p : Prop} [Decidable p] (hu : Heads s u) (hv : Heads s v) : Heads s (if p then u else v) := by
  split
  · exact hu
  · exact hv

theorem countPass (s : State) (t : Nat) : Heads s (s.countPass t) := by
  have hf : ∀ u : State, Heads u (u.countFreeze t) := fun u => of_same rfl rfl rfl
  have hc : ∀ (u : State) (p : Prop) [Decidable p] (f : Fd) (site : Nat),
      Heads u (if p then u.countCycles f t site else u) :=
    fun u p _ f site => ite (countCycles u f t site) (refl u)
  exact (((hc s _ _ _).trans (hc _ _ _ _)).trans (hc _ _ _ _)).trans (ite (hf _) (refl _))

theorem endWait (s : State) (t who result : Nat) : Heads s (s.endWait t who result) := by
  unfold State.endWait
  dsimp only
  split
  · split
    · exact setWait s t who _
    · exact refl s
  · exact (countPass s t).trans (setArray _ t _)

theorem serveFrom (s : State) (t n : Nat) (ws : List Waiter) : Heads s (s.serveFrom t n ws) := by
  induction ws generalizing s with
  | nil => exact setWaiters s t n []
  | cons w ws ih =>
    rw [State.serveFrom]
    split
    · exact (((wr s _ _ _ _).trans (wr _ _ _ _ _)).trans (endWait _ _ _ _)).trans (ih _)
    · exact setWaiters s t n _

theorem beginWait (s : State) (t n : Nat) (w : Waiter) : Heads s (s.beginWait t n w) :=
  (setWaiters s t n _).trans (serveFrom _ t n _)

theorem headPass (s : State) (t : Nat) : Heads s (s.headPass t) := by
  unfold State.headPass
  dsimp only
  split
  · exact refl s
  · refine ite (refl s) (ite (endDesc s _ _ _ _ _ _) ?_)
    split
    · exact endDesc s _ _ _ _ _ _
    · exact ite (refl s) (ite ((setArray s t _).trans (beginWait _ _ _ _)) (setArray s t _))

theorem next {s u w : State} (h : Heads u w) (hp : u.pending = s.pending) (hf : u.fuses = s.fuses) :
    answer s w = .next w := by
  have h1 := congrArg State.pending h.rest
  have h2 := congrArg State.fuses h.rest
  exact answer_eq (h1.trans hp) (h2.trans hf)

theorem mem {s u : State} (h : Heads s u) : u.mem = s.mem := by
  have h := congrArg State.mem h.rest
  exact h

theorem x {s u : State} (h : Heads s u) (t c r : Nat) : u.x t c r = s.x t c r := by unfold State.x; rw [h.xs]

end Heads

/-! ### TQ.ISSUE -/

section

variable {s : State} {t c n e rd d : Nat} {a : BitVec 32}

theorem tqIssue_misaligned (h : a.toNat % 64 ≠ 0) : s.tqIssue t c n e rd a [] = s.trap t c xLoadAlign a := if_pos h

theorem tqIssue_outside (h : a.toNat % 64 = 0) (ho : 0x50000 ≤ a.toNat ∨ s.scratch t c a.toNat 64 = none) :
    s.tqIssue t c n e rd a [] = s.trap t c xLoad a := by
  have hn : (if a.toNat < 0x50000 then s.scratch t c a.toNat 64 else none) = none := by
    split
    · exact ho.resolve_left (by omega)
    · rfl
  unfold tqIssue
  rw [if_neg (not_not.2 h), hn]

theorem tqIssue_issues (hc : c < 4) (h : a.toNat % 64 = 0) (ha : a.toNat < 0x50000)
    (hs : s.scratch t c a.toNat 64 = some d) (hr : tileReady s t d 64) :
    s.tqIssue t c n e rd a [] = (s.retire t c n).issue t c e rd (leNat (s.mem.readN d 64)) := by
  have hread := readSpan_ready hr (reachesTile_within (ctxReq_within t hc))
  obtain ⟨-, hst, -⟩ := hr
  unfold tqIssue
  rw [if_neg (not_not.2 h), if_pos ha, hs]
  dsimp only
  rw [hst, place_nil, hread]
  rfl

/-- The engine with one more descriptor and the next ticket (R100, R101). -/
def issuedTo (x : Engine) (c desc : Nat) : Engine :=
  { x with queue := x.queue ++ [⟨desc, c, (x.issued + 1) % 65536⟩], issued := (x.issued + 1) % 65536 }

theorem issue_room {desc : Nat} (h : (s.engine t e).queue.length < 16) : s.issue t c e rd desc =
    if e = eArray then ((s.setEngine t e (issuedTo (s.engine t e) c desc)).setX t c rd
        (BitVec.ofNat 32 (((s.engine t e).issued + 1) % 65536))).headPass t
    else (s.setEngine t e (issuedTo (s.engine t e) c desc)).setX t c rd
      (BitVec.ofNat 32 (((s.engine t e).issued + 1) % 65536)) := by
  unfold issue
  dsimp only
  rw [if_neg (by omega)]
  rfl

theorem issue_full {desc : Nat} (h : 16 ≤ (s.engine t e).queue.length) : s.issue t c e rd desc =
    (s.setEngine t e { s.engine t e with blocked := (s.engine t e).blocked ++ [c] }).block t c (.queue e rd desc) := if_pos h

end

/-- The result of a TQ.ISSUE that finds room, before the array looks at its queue. -/
def issueResult (s : State) (t c n e rd desc : Nat) : State :=
  (((s.setEngine t e (issuedTo (s.engine t e) c desc)).takeCore t c).result t c n rd
    (BitVec.ofNat 32 (((s.engine t e).issued + 1) % 65536)))

theorem gives_issueResult (s : State) (t c n e rd desc : Nat) :
    gives (s.setEngine t e (issuedTo (s.engine t e) c desc)) (s.issueResult t c n e rd desc) t c n rd
      (BitVec.ofNat 32 (((s.engine t e).issued + 1) % 65536)) := gives_result _ _ _ _ _ _

theorem engines_issueResult (s : State) (t c n e rd desc : Nat) :
    (s.issueResult t c n e rd desc).engines = (s.setEngine t e (issuedTo (s.engine t e) c desc)).engines := by
  have h := congrArg State.engines (gives_issueResult s t c n e rd desc).2.2.1.2
  exact h

theorem engine_of_engines {u v : State} (h : u.engines = v.engines) (t e : Nat) : u.engine t e = v.engine t e := by
  unfold State.engine
  rw [h]

theorem engine_issueResult (s : State) (t c n e rd desc t' e' : Nat) : (s.issueResult t c n e rd desc).engine t' e' =
    if t' = t ∧ e' = e then issuedTo (s.engine t e) c desc else s.engine t' e' := by
  have h : (s.issueResult t c n e rd desc).engine t' e' =
      (s.setEngine t e (issuedTo (s.engine t e) c desc)).engine t' e' :=
    engine_of_engines (engines_issueResult _ _ _ _ _ _ _) t' e'
  rw [h, engine_setEngine]

section

variable {s : State} {t c n e rd desc : Nat}

theorem retire_issue_room (h : (s.engine t e).queue.length < 16) : ((s.takeCore t c).retire t c n).issue t c e rd desc =
    if e = eArray then (s.issueResult t c n e rd desc).headPass t else s.issueResult t c n e rd desc :=
  issue_room (s := (s.takeCore t c).retire t c n) h

/-- A descriptor issued to an engine that has room (R99, R101). -/
theorem answer_issued (h : (s.engine t e).queue.length < 16) (he : e ≠ eArray) :
    ∃ u, answer s (((s.takeCore t c).retire t c n).issue t c e rd desc) = .next u ∧
      gives { s with engines := u.engines } u t c n rd (BitVec.ofNat 32 (((s.engine t e).issued + 1) % 65536)) ∧
      u.engine t e = issuedTo (s.engine t e) c desc ∧
      ∀ t' e', ¬(t' = t ∧ e' = e) → u.engine t' e' = s.engine t' e' := by
  have hg := gives_issueResult s t c n e rd desc
  have hpend := congrArg State.pending hg.2.2.1.2
  have hfuse := congrArg State.fuses hg.2.2.1.2
  rw [retire_issue_room h, if_neg he]
  refine ⟨_, answer_eq hpend hfuse, ?_, ?_, fun t' e' hne => ?_⟩
  · rw [engines_issueResult]
    exact hg
  · rw [engine_issueResult, if_pos ⟨rfl, rfl⟩]
  · rw [engine_issueResult, if_neg hne]

/-- A pass issued to the array (R99, R101, R137). -/
theorem answer_issued_array (h : (s.engine t e).queue.length < 16) (he : e = eArray) :
    ∃ u, answer s (((s.takeCore t c).retire t c n).issue t c e rd desc) = .next u ∧
      (u.engine t e).queue = (issuedTo (s.engine t e) c desc).queue ∧
      (u.engine t e).issued = ((s.engine t e).issued + 1) % 65536 ∧ u.mem = s.mem ∧
      ∀ r, u.x t c r = if r = rd ∧ r ≠ 0 then BitVec.ofNat 32 (((s.engine t e).issued + 1) % 65536) else s.x t c r := by
  obtain ⟨hx, -, ⟨-, hrest⟩, -⟩ := gives_issueResult s t c n e rd desc
  have hpend := congrArg State.pending hrest
  have hfuse := congrArg State.fuses hrest
  have hmem := congrArg State.mem hrest
  have hhead := Heads.headPass (s.issueResult t c n e rd desc) t
  have hengine := engine_issueResult s t c n e rd desc t e
  rw [if_pos ⟨rfl, rfl⟩] at hengine
  obtain ⟨hqueue, hissued⟩ := hhead.queues t e
  rw [hengine] at hqueue hissued
  rw [retire_issue_room h, if_pos he]
  exact ⟨_, hhead.next hpend hfuse, hqueue, hissued, hhead.mem.trans hmem, fun r => by rw [hhead.x, hx]; rfl⟩

/-- The engine with one more context that waits for room. -/
def waitedOn (x : Engine) (c : Nat) : Engine := { x with blocked := x.blocked ++ [c] }

theorem setEngine_retire (y : Engine) : ((s.takeCore t c).retire t c n).setEngine t e y =
    ((s.setEngine t e y).takeCore t c).retire t c n := rfl

theorem retire_issue_full (h : 16 ≤ (s.engine t e).queue.length) : ((s.takeCore t c).retire t c n).issue t c e rd desc =
    (((s.setEngine t e (waitedOn (s.engine t e) c)).takeCore t c).retire t c n).block t c (.queue e rd desc) := by
  rw [← setEngine_retire]
  exact issue_full (s := (s.takeCore t c).retire t c n) h

/-- A full queue blocks the context that would issue to it (R99). -/
theorem answer_issue_full (h : 16 ≤ (s.engine t e).queue.length) :
    ∃ u, answer s (((s.takeCore t c).retire t c n).issue t c e rd desc) = .next u ∧
      u.engine t e = waitedOn (s.engine t e) c ∧
      (∀ t' e', ¬(t' = t ∧ e' = e) → u.engine t' e' = s.engine t' e') ∧
      u.ctx t c = { after (s.ctx t c) n with wait := .queue e rd desc } ∧
      onlyCtx { s with engines := u.engines } u t c := by
  rw [retire_issue_full h]
  obtain ⟨u, hu, honly, hctx⟩ := answer_blocked (s.setEngine t e (waitedOn (s.engine t e) c)) t c n (.queue e rd desc)
  have he : u.engines = (s.setEngine t e (waitedOn (s.engine t e) c)).engines := by
    have h := congrArg State.engines honly.2
    exact h
  have hengine : ∀ t' e', u.engine t' e' = (s.setEngine t e (waitedOn (s.engine t e) c)).engine t' e' :=
    engine_of_engines he
  refine ⟨u, hu, ?_, fun t' e' hne => ?_, hctx, ?_⟩
  · rw [hengine, engine_setEngine, if_pos ⟨rfl, rfl⟩]
  · rw [hengine, engine_setEngine, if_neg hne]
  · rw [he]
    exact honly

end

/-- TQ.FENCE (R100). -/
theorem tqFence_eq (s : State) (t c n e : Nat) (a : BitVec 32) : (s.takeCore t c).tqFence t c n e a =
    if ((s.engine t e).completed + 65536 - a.toNat % 65536) % 65536 < 32768 then (s.takeCore t c).retire t c n
    else ((s.takeCore t c).retire t c n).block t c (.fence e (a.toNat % 65536)) := by
  have hd : ticketDone (((s.takeCore t c).retire t c n).engine t e) (a.toNat % 65536) = true ↔
      ((s.engine t e).completed + 65536 - a.toNat % 65536) % 65536 < 32768 := by
    unfold ticketDone
    rw [decide_eq_true_eq, Nat.mod_mod]
    rfl
  unfold tqFence
  dsimp only
  simp only [hd]

end Sys2Proof.Machine.State

namespace Sys2Proof

open Machine Machine.State Claims

/-- Settles O10: a descriptor is queued under the next ticket, blocks its context or traps at issue; a fence compares
tickets. -/
theorem queueInstructions : Obligations.QueueInstructions := by
  unfold Obligations.QueueInstructions
  intro s t c n
  refine ⟨fun e rd rs1 d h => ?_, fun e rd rs1 h => ?_, fun e rs1 h => ?_⟩
  · intro a x k desc h64 ha hs hr
    rw [exec_tqIssue h, tqIssue_issues (s := s.takeCore t c) h.2.1 h64 ha hs hr]
    exact ⟨answer_issued, answer_issued_array, answer_issue_full⟩
  · rw [exec_tqIssue h]
    refine ⟨fun ha => ?_, fun ha ho => ?_⟩
    · rw [tqIssue_misaligned ha]
      exact answer_trap h _ (by decide)
    · rw [tqIssue_outside (s := s.takeCore t c) ha ho]
      exact answer_trap h _ (by decide)
  · rw [exec_tqFence h, tqFence_eq]
    refine ⟨fun hd => ?_, fun hd => ?_⟩
    · rw [if_pos hd]
      exact answer_retired s t c n
    · rw [if_neg hd]
      exact answer_blocked s t c n _

end Sys2Proof

/-! SUPPORT. A write of TILE_CTX_CTRL: what the bit for HALTED clears, and what RUN starts or stops (R123). -/
namespace Sys2Proof.Machine.State

open Sys2Proof.Claims

section

variable {s : State} {t c v : Nat}

/-- HALTED as a value written to TILE_CTX_CTRL leaves it. -/
def clearHalted (s : State) (t c v : Nat) : State :=
  if fv .TILE_CTX_CTRL_HALTED v = 1 then s.wr .TILE_CTX_CTRL_HALTED t c 0 else s

/-- The field it clears, with its value. -/
def haltedPut (t c v : Nat) : List (Fd × Nat × Nat × Nat) :=
  if fv .TILE_CTX_CTRL_HALTED v = 1 then [(.TILE_CTX_CTRL_HALTED, t, c, 0)] else []

/-- The bit for HALTED, then RUN (R123). -/
theorem exec_ctxRunWrite {src : Source} (h : takes s src ⟨.TILE_CTX_CTRL, t, c⟩ v) : exec (.ctxRunWrite src t c v) s =
    answer s (if fv .TILE_CTX_CTRL_RUN v = 1 then
        (if s.flag .TILE_CTX_CTRL_HALTED t c then s.clearHalted t c v else (s.clearHalted t c v).startCtx t c)
      else if (s.clearHalted t c v).ctxRun t c then ((s.clearHalted t c v).stopCtx t c).judgeIdle
      else s.clearHalted t c v) :=
  answerIf_writeWhole h

theorem onlyPuts_clearHalted : onlyPuts s (s.clearHalted t c v) (haltedPut t c v) := by
  unfold clearHalted haltedPut
  split
  · exact ⟨puts_wr (puts_nil s) _ _ _ (by decide), rfl⟩
  · exact ⟨puts_nil s, rfl⟩

theorem ctx_clearHalted (t' c' : Nat) : (s.clearHalted t c v).ctx t' c' = s.ctx t' c' := by
  unfold clearHalted
  split <;> rfl

theorem noCtx_setCtx_clearHalted (y : Ctx) :
    ((s.clearHalted t c v).setCtx t c y).noCtx = { s with regs := (s.clearHalted t c v).regs }.noCtx := by
  unfold clearHalted
  split <;> rfl

theorem noInt_clearHalted : (s.clearHalted t c v).noInt = s.noInt := by
  unfold clearHalted
  split <;> rfl

/-- The fields that the bit for HALTED leaves alone. -/
theorem rd_clearHalted (f : Fd) (i x : Nat) (hf : f ≠ .TILE_CTX_CTRL_HALTED) :
    (s.clearHalted t c v).rd f i x = s.rd f i x := by
  refine onlyPuts_clearHalted.1.2 f i x fun w hw e => hf ?_
  unfold haltedPut at hw
  split at hw
  · rw [List.mem_singleton.1 hw] at e
    injection e
  · exact absurd hw List.not_mem_nil

theorem flag_clearHalted (h : s.flag .TILE_CTX_CTRL_HALTED t c = false) :
    (s.clearHalted t c v).flag .TILE_CTX_CTRL_HALTED t c = false := by
  unfold clearHalted
  split
  · unfold flag
    rw [rd_wr_self]
    rfl
  · exact h

/-! ### RUN set -/

/-- A context that is not halted and does not run starts at TILE_CTX_PC. -/
theorem startCtx_eq (hh : s.flag .TILE_CTX_CTRL_HALTED t c = false) (hr : s.flag .TILE_CTX_CTRL_RUN t c = false) :
    s.startCtx t c = (s.setCtx t c
      { s.ctx t c with pc := BitVec.ofNat 32 (0x200000 + 2 * s.rd .TILE_CTX_PC_PC t c), wait := .none, ran := true }).wr
        .TILE_CTX_CTRL_RUN t c 1 := by
  have hn : ¬(s.flag .TILE_CTX_CTRL_HALTED t c = true ∨ s.ctxRun t c = true) := by
    unfold ctxRun
    rw [hh, hr]
    decide
  unfold startCtx
  rw [if_neg hn]

theorem startCtx_clearHalted (hh : s.flag .TILE_CTX_CTRL_HALTED t c = false) (hr : s.flag .TILE_CTX_CTRL_RUN t c = false) :
    (s.clearHalted t c v).startCtx t c = ((s.clearHalted t c v).setCtx t c
      { s.ctx t c with pc := BitVec.ofNat 32 (0x200000 + 2 * s.rd .TILE_CTX_PC_PC t c), wait := .none, ran := true }).wr
        .TILE_CTX_CTRL_RUN t c 1 := by
  have hrun : (s.clearHalted t c v).flag .TILE_CTX_CTRL_RUN t c = false := by
    unfold flag at hr ⊢
    rw [rd_clearHalted _ _ _ (by decide), hr]
  rw [startCtx_eq (flag_clearHalted hh) hrun, ctx_clearHalted, rd_clearHalted _ _ _ (by decide)]

theorem puts_started (y : Ctx) : puts s (((s.clearHalted t c v).setCtx t c y).wr .TILE_CTX_CTRL_RUN t c 1)
    ((.TILE_CTX_CTRL_RUN, t, c, 1) :: haltedPut t c v) := by
  have hne : (haltedPut t c v).filter (fun w => decide ((w.1, w.2.1, w.2.2.1) ≠ (Fd.TILE_CTX_CTRL_RUN, t, c))) =
      haltedPut t c v := by
    refine List.filter_eq_self.2 fun w hw => ?_
    unfold haltedPut at hw
    split at hw
    · rw [List.mem_singleton.1 hw]
      exact decide_eq_true fun e => by injection e; contradiction
    · exact absurd hw List.not_mem_nil
  rw [← hne]
  refine puts_wr (puts_of_rd onlyPuts_clearHalted.1 fun f i x => ?_) _ _ _ (by decide)
  rw [rd_setCtx]

theorem onlyCtx_started (y : Ctx) (u : State) (hu : u = ((s.clearHalted t c v).setCtx t c y).wr .TILE_CTX_CTRL_RUN t c 1) :
    u.ctx t c = y ∧ onlyCtx { s with regs := u.regs } u t c := by
  have hn := noCtx_setCtx_clearHalted (s := s) (t := t) (c := c) (v := v) y
  subst hu
  refine ⟨by rw [ctx_wr, ctx_setCtx_self], fun t' c' hne => ?_, ?_⟩
  · rw [ctx_wr, ctx_setCtx, if_neg hne, ctx_clearHalted]
    rfl
  · exact congrArg (fun w : State =>
      { w with regs := (((s.clearHalted t c v).setCtx t c y).wr .TILE_CTX_CTRL_RUN t c 1).regs }) hn

/-- RUN set where the context is neither halted nor running (R123). -/
theorem answer_started (hh : s.flag .TILE_CTX_CTRL_HALTED t c = false) (hr : s.flag .TILE_CTX_CTRL_RUN t c = false) :
    ∃ u, answer s ((s.clearHalted t c v).startCtx t c) = .next u ∧
      puts s u ((.TILE_CTX_CTRL_RUN, t, c, 1) :: haltedPut t c v) ∧
      u.ctx t c = { s.ctx t c with pc := BitVec.ofNat 32 (0x200000 + 2 * s.rd .TILE_CTX_PC_PC t c), wait := .none,
                                   ran := true } ∧
      onlyCtx { s with regs := u.regs } u t c := by
  rw [startCtx_clearHalted hh hr]
  obtain ⟨hctx, honly⟩ := onlyCtx_started _ _ (rfl : _ = ((s.clearHalted t c v).setCtx t c _).wr .TILE_CTX_CTRL_RUN t c 1)
  exact ⟨_, answer_of_noCtx honly.2 rfl rfl, puts_started _, hctx, honly⟩

/-! ### RUN cleared -/

/-- RUN cleared of a context that waits for nothing (R123). -/
theorem answer_stopped (hw : (s.ctx t c).wait = .none) :
    ∃ u, answer s ((s.clearHalted t c v).stopCtx t c).judgeIdle = .next u ∧ u.rd .TILE_CTX_CTRL_RUN t c = 0 ∧
      regsBut s u [.TILE_CTX_CTRL, .HST_STATUS, .HST_PBA] ∧ u.noInt.noCtx = s.noInt.noCtx ∧
      ∀ t' c', u.ctx t' c' = s.ctx t' c' := by
  have hw' : ((s.clearHalted t c v).ctx t c).wait = .none := by rw [ctx_clearHalted, hw]
  have hn : ((s.clearHalted t c v).stopCtx t c).judgeIdle.noInt.noCtx = s.noInt.noCtx := by
    rw [noInt_judgeIdle, stopCtx_idle _ t c hw', ← noInt_clearHalted (s := s) (t := t) (c := c) (v := v)]
    rfl
  refine ⟨_, answer_eq (by have h := congrArg State.pending hn; exact h) (by have h := congrArg State.fuses hn; exact h),
    ?_, fun f i x hf => ?_, hn, fun t' c' => ?_⟩
  · rw [rd_judgeIdle _ _ _ _ (by decide) (by decide), stopCtx_idle _ t c hw', rd_wr_self]
    rfl
  · simp only [List.mem_cons, List.not_mem_nil, or_false, not_or] at hf
    rw [rd_judgeIdle _ _ _ _ hf.2.1 hf.2.2, stopCtx_idle _ t c hw', rd_wr_out _ _ _ _ _ _ hf.1 (by decide), rd_setCtx,
      rd_clearHalted _ _ _ (by rintro rfl; exact hf.1 rfl)]
  · rw [ctx_judgeIdle, stopCtx_idle _ t c hw', ctx_wr, ctx_setCtx, ← hw']
    split
    · rename_i h; rw [h.1, h.2, ctx_clearHalted]
    · exact ctx_clearHalted t' c'

end

end Sys2Proof.Machine.State

namespace Sys2Proof

open Machine Machine.State Claims

/-- Settles O13: the bit for HALTED, then RUN: a start at TILE_CTX_PC, nothing, or a stop. -/
theorem contextRunWrites : Obligations.ContextRunWrites := by
  unfold Obligations.ContextRunWrites
  intro s src t c v h run clear
  refine ⟨fun hrun hh hr => ?_, fun hrun hh => ?_, fun hrun hr hw => ?_⟩
  · rw [exec_ctxRunWrite h, if_pos hrun, hh, if_neg Bool.false_ne_true]
    exact answer_started hh hr
  · rw [exec_ctxRunWrite h, if_pos hrun, if_pos hh]
    exact ⟨_, answer_of_onlyPuts onlyPuts_clearHalted, onlyPuts_clearHalted⟩
  · have hctx : (s.clearHalted t c v).ctxRun t c = true := by
      unfold ctxRun flag at *
      rw [rd_clearHalted _ _ _ (by decide), hr]
    rw [exec_ctxRunWrite h, if_neg hrun, if_pos hctx]
    exact answer_stopped hw

end Sys2Proof

/-! SUPPORT. A region filled with zeros, the waterline that moves, and the order of the tiles' requesters with its copies
(R112, R122). -/
namespace Sys2Proof.Machine

/-- An entry of a map after an insertion is the one inserted, or was there. -/
theorem SMap.mem_insert {α : Type} {m : SMap α} {k : Key} {v : α} {e : Key × α} (h : e ∈ SMap.insert m k v) :
    e.1 = k ∨ e ∈ m := by
  induction m with
  | nil => exact .inl (by rw [List.mem_singleton.1 h])
  | cons d m ih =>
    rw [SMap.insert] at h
    split at h
    · exact (List.mem_cons.1 h).imp (fun h => by rw [h]) (List.mem_cons_of_mem _)
    · split at h
      · rcases List.mem_cons.1 h with rfl | h
        · exact .inr List.mem_cons_self
        · exact (ih h).imp_right (List.mem_cons_of_mem _)
      · exact (List.mem_cons.1 h).imp_left fun h => by rw [h]

/-- An entry of a map after a set is the key set, or was there. -/
theorem SMap.mem_set {α : Type} [DecidableEq α] {m : SMap α} {k : Key} {d v : α} {e : Key × α}
    (h : e ∈ SMap.set m k d v) : e.1 = k ∨ e ∈ m := by
  unfold SMap.set at h
  split at h
  · exact .inr (List.mem_filter.1 h).1
  · exact SMap.mem_insert h

theorem Region.meets_of_holds {lo hi : Nat} {z : Region} {a : Nat} (hr : (Region.span lo hi).holds a = true)
    (hz : z.holds a = true) : (Region.span lo hi).meets z = true := by
  cases z with
  | stack n k =>
    simp only [Region.holds, Region.meets, decide_eq_true_eq, Bool.and_eq_true] at *
    omega
  | span lo' hi' =>
    simp only [Region.holds, Region.meets, decide_eq_true_eq] at *
    omega

namespace Memory

/-- No loss remains inside a span that is filled. -/
theorem lostAt_clear_in (m : Memory) {lo hi a : Nat} (h : (Region.span lo hi).holds a = true) :
    (m.clear (.span lo hi)).lostAt a = none := by
  unfold lostAt zoneOf clear
  dsimp only
  split
  · rw [List.find?_cons_of_pos (p := fun z : Zone => z.region.holds a) h]
    rfl
  · rename_i hany
    cases hf : List.find? (fun z => z.region.holds a) (m.zones.filter fun z => !(Region.span lo hi).covers z.region) with
    | none => rfl
    | some z =>
      have hmeet := Region.meets_of_holds h (List.find?_some (p := fun z : Zone => z.region.holds a) hf)
      by_contra htag
      refine hany (List.any_eq_true.2 ⟨z, List.mem_of_find?_eq_some hf, ?_⟩)
      rw [hmeet, Bool.and_true]
      exact Option.isSome_iff_ne_none.2 htag

/-- A span that is filled reads as zeros. -/
theorem read_clear_in (m : Memory) {lo hi a : Nat} (h : (Region.span lo hi).holds a = true) :
    (m.clear (.span lo hi)).read a = 0 := by
  have hu : (m.clear (.span lo hi)).unlisted a = 0 := by
    unfold unlisted
    rw [lostAt_clear_in m h]
  unfold read
  rw [hu]
  show (lookup (m.cells.filter fun c => !((Region.span lo hi).holds c.1)) a).getD _ = _
  rw [lookup_filter m.cells (fun k => !((Region.span lo hi).holds k)), h]
  rfl

end Memory

namespace State

open Sys2Proof.Claims

/-! ### TILE_WATERLINE -/

section

variable {s : State} {t v new : Nat}

theorem exec_waterlineWrite {src : Source} (h : takes s src ⟨.TILE_WATERLINE, t, 0⟩ v) :
    exec (.waterlineWrite src t v) s = answer s (s.writeWaterline t (fv .TILE_WATERLINE_LEVEL v)) := answerIf_writeWhole h

/-- A tile in use: a descriptor queued, a pass begun, or an access from another tile outstanding. -/
theorem tileBusy_iff : (((List.range 5).any fun e => !(s.engine t e).queue.isEmpty) || (s.array t).started ||
      s.remoteLoads t) = true ↔
    (∃ e < 5, (s.engine t e).queue ≠ []) ∨ (s.array t).started = true ∨ s.remoteLoads t = true := by
  simp [or_assoc]

theorem writeWaterline_same : s.writeWaterline t (s.rd .TILE_WATERLINE_LEVEL t) = s := by
  unfold writeWaterline
  dsimp only
  rw [if_pos rfl]

theorem writeWaterline_busy (hn : new ≠ s.rd .TILE_WATERLINE_LEVEL t)
    (hb : (∃ e < 5, (s.engine t e).queue ≠ []) ∨ (s.array t).started = true ∨ s.remoteLoads t = true) :
    s.writeWaterline t new = s.tileErr t tWaterline 0 false 0 0 0 0 0 0 := by
  unfold writeWaterline
  dsimp only
  rw [if_neg hn, if_pos (tileBusy_iff.2 hb)]

/-- The level moved, with the rows it passes. -/
def levelMoved (s : State) (t new : Nat) : State :=
  { (s.wr .TILE_WATERLINE_LEVEL t 0 new).wr .TILE_WATERLINE_REWRITING t 0 1 with
    mem := s.mem.clear (.span (tileBase t + 0x4000 * min new (s.rd .TILE_WATERLINE_LEVEL t))
      (tileBase t + 0x4000 * max new (s.rd .TILE_WATERLINE_LEVEL t))) }

theorem writeWaterline_moves (hn : new ≠ s.rd .TILE_WATERLINE_LEVEL t)
    (hb : ¬((∃ e < 5, (s.engine t e).queue ≠ []) ∨ (s.array t).started = true ∨ s.remoteLoads t = true)) :
    s.writeWaterline t new = s.levelMoved t new := by
  unfold writeWaterline
  dsimp only
  rw [if_neg hn, if_neg (mt tileBusy_iff.1 hb)]
  rfl

theorem puts_levelMoved : puts s (s.levelMoved t new)
    [(.TILE_WATERLINE_LEVEL, t, 0, new), (.TILE_WATERLINE_REWRITING, t, 0, 1)] := by
  have h := puts_wr (puts_wr (puts_nil s) (f := .TILE_WATERLINE_LEVEL) t 0 new (by decide))
    (f := .TILE_WATERLINE_REWRITING) t 0 1 (by decide)
  refine puts_of_rd (puts_of_perm h (List.Perm.swap _ _ _)) fun f i x => rfl

theorem answer_waterline_busy : ∃ u, answer s (s.tileErr t tWaterline 0 false 0 0 0 0 0 0) = .next u ∧
    u.flag .TILE_ERR_STATUS_WATERLINE t = true ∧ u.rd .TILE_WATERLINE_LEVEL t = s.rd .TILE_WATERLINE_LEVEL t ∧
    u.rd .SIG_STATUS_VOIDED = s.rd .SIG_STATUS_VOIDED ∧ u.noRec = s.noRec := by
  have hn := noRec_tileErr s t tWaterline 0 false 0 0 0 0 0 0
  exact ⟨_, next_of_noHalt (noHalt_of_noRec hn), flag_tileErr s t 0 false 0 0 0 0 0 0 (by decide) rfl rfl,
    rd_tileErr _ _ _ _ _ _ _ _ _ _ _ _ _ _ (by decide), rd_tileErr_voided _ _ _ _ _ _ _ _ _ _ _, hn⟩

theorem answer_levelMoved : answer s (s.levelMoved t new) = .next (s.levelMoved t new) := answer_eq rfl rfl

end

/-! ### GLB_TILE_RANK -/

section

variable {s : State} {v : Nat}

theorem exec_glbTileRankWrite {src : Source} (h : takes s src ⟨.GLB_TILE_RANK, 0, 0⟩ v) :
    exec (.glbTileRankWrite src v) s = answer s (s.wr .GLB_TILE_RANK_ORDER 0 0 (fv .GLB_TILE_RANK_ORDER v)) := by
  refine (answerIf_writeWhole h).trans ?_
  have hp : s.plainWrite ⟨.GLB_TILE_RANK, 0, 0⟩ v = s.wr .GLB_TILE_RANK_ORDER 0 0 (fv .GLB_TILE_RANK_ORDER v) := rfl
  have he : s.effect src ⟨.GLB_TILE_RANK, 0, 0⟩ v =
      if src = .lighthouse then (s.lighthouseWrite ⟨.GLB_TILE_RANK, 0, 0⟩ v).getD (s.plainWrite ⟨.GLB_TILE_RANK, 0, 0⟩ v)
      else s.plainWrite ⟨.GLB_TILE_RANK, 0, 0⟩ v := rfl
  rw [he, ← hp]
  split <;> rfl

theorem fv_mod (f : Fd) (v : Nat) : fv f v % 2 ^ f.width = fv f v := Nat.mod_mod _ _

/-- TILE_ARB_RANK, which nothing writes, reads as GLB_TILE_RANK. -/
theorem rd_tileArbRank (hs : ∀ e ∈ s.regs, e.1.a ≠ Fd.TILE_ARB_RANK_ORDER.ctorIdx) (t : Nat) :
    s.rd .TILE_ARB_RANK_ORDER t = s.rd .GLB_TILE_RANK_ORDER := by
  have hnone : SMap.find s.regs (key .TILE_ARB_RANK_ORDER t 0) = none := by
    cases hf : SMap.find s.regs (key .TILE_ARB_RANK_ORDER t 0) with
    | none => rfl
    | some x => exact absurd rfl (hs _ (SMap.mem_of_find hf))
  have harb : s.fieldReset .TILE_ARB_RANK_ORDER t 0 = SMap.get s.regs (key .GLB_TILE_RANK_ORDER 0 0) 0x1AC688 := by
    unfold fieldReset
    rw [if_neg (fun h => h.2 rfl)]
    rfl
  have hglb : s.fieldReset .GLB_TILE_RANK_ORDER 0 0 = 0x1AC688 := by
    unfold fieldReset
    rw [if_pos (by decide)]
    rfl
  unfold rd
  rw [SMap.get, hnone, Option.getD_none, harb, hglb]

theorem regs_wr_rank (hs : ∀ e ∈ s.regs, e.1.a ≠ Fd.TILE_ARB_RANK_ORDER.ctorIdx) (n : Nat) :
    ∀ e ∈ (s.wr .GLB_TILE_RANK_ORDER 0 0 n).regs, e.1.a ≠ Fd.TILE_ARB_RANK_ORDER.ctorIdx := by
  intro e he
  have hkey : Fd.GLB_TILE_RANK_ORDER.ctorIdx ≠ Fd.TILE_ARB_RANK_ORDER.ctorIdx := by decide
  rcases SMap.mem_set he with he | he
  · rw [he]
    exact hkey
  · exact hs e he

theorem orderOk_names {n v : Nat} (h : orderOk v = true) (hn : n < 7) : ∃ i < 7, bits v (3 * i + 2) (3 * i) = n := by
  obtain ⟨i, hi, he⟩ := List.any_eq_true.1 (List.all_eq_true.1 h n (List.mem_range.2 hn))
  exact ⟨i, List.mem_range.1 hi, eq_of_beq he⟩

end

end State

end Sys2Proof.Machine

namespace Sys2Proof

open Machine Machine.State Claims

theorem waterlineMoves : Claims.WaterlineMoves := by
  unfold Claims.WaterlineMoves
  refine ⟨fun s src t v h => ?_, fun s t ht => ?_⟩
  · intro new old busy moved
    rw [exec_waterlineWrite h]
    refine ⟨fun he => ?_, fun hn hb => ?_, fun hn hb => ?_⟩
    · rw [show fv .TILE_WATERLINE_LEVEL v = s.rd .TILE_WATERLINE_LEVEL t from he, writeWaterline_same]
      exact answer_self s
    · rw [writeWaterline_busy hn hb]
      exact answer_waterline_busy
    · rw [writeWaterline_moves hn hb]
      exact ⟨_, answer_levelMoved, puts_levelMoved, fun a ha => Memory.read_clear_in _ (decide_eq_true ha),
        fun a ha => Memory.read_clear_out _ _ _ (decide_eq_false ha), rfl⟩
  · exact ⟨_, answerIf_true (decide_eq_true ht), puts_wr (puts_nil s) _ _ _ (by decide), rfl⟩

theorem tileRank : Claims.TileRank := by
  unfold Claims.TileRank
  intro s src v h hs
  have hself : (s.wr .GLB_TILE_RANK_ORDER 0 0 (fv .GLB_TILE_RANK_ORDER v)).rd .GLB_TILE_RANK_ORDER =
      fv .GLB_TILE_RANK_ORDER v := by rw [rd_wr_self, fv_mod]
  have hok : orderOk (fv .GLB_TILE_RANK_ORDER v) = true := by
    obtain ⟨-, -, -, -, -, -, -, hres⟩ := h
    exact (Bool.not_eq_false' _).mp hres
  rw [exec_glbTileRankWrite h]
  refine ⟨_, next_of_noRegs rfl, rfl, hself, fun t => ?_, fun f i x hf => ?_, fun n hn => orderOk_names hok hn⟩
  · rw [rd_tileArbRank (regs_wr_rank hs _), hself]
  · simp only [List.mem_cons, List.not_mem_nil, or_false, not_or] at hf
    exact rd_wr_ne _ _ (fun e => absurd e hf.2) fun e => hf.1 (by rw [e.1]; rfl)

/-- Settles O15: the waterline stays, is refused or moves, and the order of the requesters is copied. -/
theorem waterlineAndRank : Obligations.WaterlineAndRank := ⟨waterlineMoves, tileRank⟩

end Sys2Proof

/-! SUPPORT. What a transfer engine reads and writes in the memories of tiles, the runs of a descriptor one after another, and
COPY and MCAST (R101 to R103, R119). -/
namespace Sys2Proof.Machine.State

open Sys2Proof.Claims

/-! ### A tile's memories under other contents -/

/-- Whether a span may be reached does not turn on its bytes. -/
theorem tileReady_mem {s : State} {t d n : Nat} {m : Memory} (h : tileReady s t d n) (hm : m.bad = s.mem.bad) :
    tileReady { s with mem := m } t d n := by
  obtain ⟨ht, hs, hb⟩ := h
  refine ⟨ht, hs, ?_⟩
  unfold firstBad Memory.badIn at hb ⊢
  rw [← hb, ← hm]

theorem engineReq_within {t e : Nat} (he : e < 8) : (engineReq t e).within t = true := by
  have hw : (t * 8 + e) / 8 = t := by omega
  simp [Req.within, engineReq, hw]

theorem engRead_ready {s : State} {t k e d n : Nat} (h : tileReady s k d n) (hr : s.reachesTile (engineReq t e) k = true) :
    s.engRead t e d n = (s, .ok (s.mem.readN d n)) := by
  have hread := readSpan_ready h hr
  obtain ⟨⟨o, ho, -⟩, -, -⟩ := h
  unfold engRead
  rw [ho, hread]

theorem engWrite_ready {s : State} {t k e d : Nat} {bs : List Byte} (h : tileReady s k d bs.length)
    (hr : s.reachesTile (engineReq t e) k = true) :
    s.engWrite t e d bs = ({ s with mem := s.mem.writeN d bs }, none) := by
  have hwrite := writeSpan_ready h hr rfl
  obtain ⟨⟨o, ho, -⟩, -, -⟩ := h
  unfold engWrite
  rw [ho, hwrite]

/-! ### The descriptor at the head of a transfer engine's queue -/

theorem headOp_eq {s : State} {t e op : Nat} {q : QEntry} (hq : s.headReady t e = some q) (he : e ≤ eDrain)
    (ho : Xd.op q.desc = op) (hr : s.headRefused t e q = false) : s.headOp t e op = some q := by
  unfold headOp
  rw [hq, Option.filter_some, ho, hr]
  simp [he]

theorem anyStalled_false {s : State} {l : List (Nat × Nat)} (h : ∀ p ∈ l, s.stalled p.1 p.2 = false) :
    s.anyStalled l = false := by
  unfold anyStalled
  rw [List.any_eq_false]
  exact fun p hp => Bool.eq_false_iff.1 (h p hp)

/-- Runs that change memory alone, and no error in it, are done in their order. -/
theorem eachRun_mem {s : State} {f : State → Nat × Nat → State × Option EngFail} {g : Memory → Nat × Nat → Memory}
    (rs : List (Nat × Nat)) (hf : ∀ m, m.bad = s.mem.bad → ∀ r ∈ rs,
      f { s with mem := m } r = ({ s with mem := g m r }, none) ∧ (g m r).bad = m.bad) (m : Memory) (hm : m.bad = s.mem.bad) :
    ({ s with mem := m } : State).eachRun f rs = ({ s with mem := rs.foldl g m }, none) := by
  induction rs generalizing m with
  | nil => rfl
  | cons r rs ih =>
    obtain ⟨hr, hb⟩ := hf m hm r List.mem_cons_self
    rw [eachRun, hr]
    exact ih (fun m hm r hr => hf m hm r (List.mem_cons_of_mem _ hr)) _ (hb.trans hm)

/-- A descriptor that has changed memory and ends without an error (R101). -/
theorem answer_ended (s : State) (m : Memory) (t e : Nat) (tiles : List Nat) :
    ∃ u, answer s (({ s with mem := m } : State).endDesc t e 0 0 0 tiles) = .next u ∧ ends s u t e tiles ∧ u.mem = m := by
  refine ⟨_, answer_eq rfl rfl, ⟨?_, fun t' e' hne => ?_, rfl⟩, rfl⟩
  · exact (engine_setEngine _ _ _ _ _ _).trans (if_pos ⟨rfl, rfl⟩)
  · exact (engine_setEngine _ _ _ _ _ _).trans (if_neg hne)

/-! ### COPY -/

section

variable {s : State} {t e n : Nat} {r : Nat × Nat}

theorem copyRun_ready (he : e < 8) (hs : tileReady s t r.1 n) (hd : tileReady s t r.2 n) :
    s.copyRun t e n r = ({ s with mem := s.mem.writeN r.2 (s.mem.readN r.1 n) }, none) := by
  have hin := reachesTile_within (s := s) (engineReq_within (t := t) he)
  unfold copyRun
  rw [engRead_ready hs hin]
  exact engWrite_ready (by rw [Memory.readN_length]; exact hd) hin

theorem copy_ready {q : QEntry} (he : e < 3) (hq : s.headReady t e = some q) (hr : s.headRefused t e q = false)
    (ho : Xd.op q.desc = Xd.oCopy)
    (h : ∀ r ∈ runsOf q.desc, tileReady s t r.1 (Xd.inner q.desc) ∧ tileReady s t r.2 (Xd.inner q.desc)) :
    s.copy t e [] = ({ s with mem := (runsOf q.desc).foldl (fun m r => m.writeN r.2 (m.readN r.1 (Xd.inner q.desc)))
                                s.mem } : State).endDesc t e 0 0 0 [] := by
  have hstall : s.anyStalled ((runsOf q.desc).flatMap fun r => [(r.1, Xd.inner q.desc), (r.2, Xd.inner q.desc)]) = false := by
    refine anyStalled_false fun p hp => ?_
    obtain ⟨r, hr, hp⟩ := List.mem_flatMap.1 hp
    obtain ⟨⟨-, h1, -⟩, -, h2, -⟩ := h r hr
    rcases List.mem_pair.1 hp with rfl | rfl
    · exact h1
    · exact h2
  have hruns := eachRun_mem (s := s) (f := fun s r => s.copyRun t e (Xd.inner q.desc) r) (runsOf q.desc)
    (fun m hm r hr => ⟨copyRun_ready (s := { s with mem := m }) (by omega) (tileReady_mem (h r hr).1 hm)
      (tileReady_mem (h r hr).2 hm), Memory.writeN_bad _ _ _⟩) s.mem rfl
  unfold copy
  rw [headOp_eq hq (by unfold eDrain; omega) ho hr]
  dsimp only
  rw [hstall, if_neg Bool.false_ne_true, place_nil, hruns]
  rfl

/-! ### MCAST -/

/-- The write of a multicast in one of its tiles. -/
def mcastInto (v : State) (t e off : Nat) (bs : List Byte) (acc : State × Option EngFail) (k : Nat) : State × Option EngFail :=
  let (w, x) := if v.mcastRefused k off bs.length then (acc.1, some (Fail.tileAddr, tileBase k + off))
    else acc.1.engWrite t e (tileBase k + off) bs
  (w, acc.2 <|> x)

theorem mcastWrite_eq {rect off : Nat} {bs : List Byte} (hb : s.rectBad rect = false) :
    s.mcastWrite t e rect off bs = (s.fuses.rectTiles rect).foldl (s.mcastInto t e off bs) (s, none) := by
  unfold mcastWrite
  rw [hb]
  rfl

/-- A tile takes a multicast write of `n` bytes at an offset. -/
def takesMcast (s : State) (t e k off n : Nat) : Prop :=
  tileReady s k (tileBase k + off) n ∧ s.target (tileBase k + off) = .tile k off ∧ s.waterline k ≤ off ∧
    s.reachesTile (engineReq t e) k = true

theorem takesMcast_mem {k off : Nat} {m : Memory} (h : takesMcast s t e k off n) (hm : m.bad = s.mem.bad) :
    takesMcast { s with mem := m } t e k off n := by
  obtain ⟨hready, hrest⟩ := h
  exact ⟨tileReady_mem hready hm, hrest⟩

theorem mcastRefused_false {k off n : Nat} (hv : tileSpanValid off n = true) (hw : s.waterline k ≤ off) :
    s.mcastRefused k off n = false := by
  unfold mcastRefused
  simp [hv, hw]

theorem mcastInto_ready {k off : Nat} {bs : List Byte} {m : Memory} (h : takesMcast s t e k off bs.length)
    (hm : m.bad = s.mem.bad) : s.mcastInto t e off bs ({ s with mem := m }, none) k =
      ({ s with mem := m.writeN (tileBase k + off) bs }, none) := by
  obtain ⟨hready, htarget, hline, hreach⟩ := h
  have hwrite := engWrite_ready (s := { s with mem := m }) (tileReady_mem hready hm) hreach
  have hvalid : tileSpanValid off bs.length = true := by
    obtain ⟨⟨o, ho, hv⟩, -, -⟩ := hready
    rw [htarget] at ho
    injection ho with _ ho
    rwa [ho]
  have hrefused := mcastRefused_false hvalid hline
  unfold mcastInto
  simp only [hrefused, Bool.false_eq_true, if_false, hwrite]
  rfl

/-- A multicast write into tiles that take it. -/
theorem mcastWrite_ready {rect off : Nat} {bs : List Byte} (hb : s.rectBad rect = false)
    (h : ∀ k ∈ s.fuses.rectTiles rect, takesMcast s t e k off bs.length) : s.mcastWrite t e rect off bs =
      ({ s with mem := (s.fuses.rectTiles rect).foldl (fun m k => m.writeN (tileBase k + off) bs) s.mem }, none) := by
  have hfold : ∀ (l : List Nat) (m : Memory), (∀ k ∈ l, takesMcast s t e k off bs.length) → m.bad = s.mem.bad →
      l.foldl (s.mcastInto t e off bs) ({ s with mem := m }, none) =
        ({ s with mem := l.foldl (fun m k => m.writeN (tileBase k + off) bs) m }, none) := by
    intro l
    induction l with
    | nil => exact fun _ _ _ => rfl
    | cons k l ih =>
      intro m hl hm
      rw [List.foldl_cons, List.foldl_cons, mcastInto_ready (hl k List.mem_cons_self) hm]
      exact ih _ (fun k hk => hl k (List.mem_cons_of_mem _ hk)) ((Memory.writeN_bad _ _ _).trans hm)
  rw [mcastWrite_eq hb]
  exact hfold _ s.mem h rfl

theorem mcastWrites_bad (m : Memory) (l : List Nat) (off : Nat) (bs : List Byte) :
    (l.foldl (fun m k => m.writeN (tileBase k + off) bs) m).bad = m.bad := by
  induction l generalizing m with
  | nil => rfl
  | cons k l ih => rw [List.foldl_cons, ih, Memory.writeN_bad]

theorem mcastRun_ready {rect : Nat} (he : e < 8) (hb : s.rectBad rect = false) (hs : tileReady s t r.1 n)
    (hd : ∀ k ∈ s.fuses.rectTiles rect, takesMcast s t e k r.2 n) : s.mcastRun t e rect n r =
      ({ s with mem := (s.fuses.rectTiles rect).foldl (fun m k => m.writeN (tileBase k + r.2) (s.mem.readN r.1 n)) s.mem },
        none) := by
  unfold mcastRun
  rw [engRead_ready hs (reachesTile_within (engineReq_within he))]
  exact mcastWrite_ready hb (by rwa [Memory.readN_length])

theorem mcast_ready {q : QEntry} (he : e < 3) (hq : s.headReady t e = some q) (hr : s.headRefused t e q = false)
    (ho : Xd.op q.desc = Xd.oMcast) (hb : s.rectBad (Xd.rect q.desc) = false)
    (h : ∀ r ∈ runsOf q.desc, tileReady s t r.1 (Xd.inner q.desc) ∧
      ∀ k ∈ s.fuses.rectTiles (Xd.rect q.desc), takesMcast s t e k r.2 (Xd.inner q.desc)) :
    s.mcast t e [] = ({ s with mem := (runsOf q.desc).foldl (fun m r => (s.fuses.rectTiles (Xd.rect q.desc)).foldl
      (fun m' k => m'.writeN (tileBase k + r.2) (m.readN r.1 (Xd.inner q.desc))) m) s.mem } : State).endDesc t e 0 0 0
        (s.fuses.rectTiles (Xd.rect q.desc)) := by
  have hstall : s.anyStalled ((runsOf q.desc).flatMap fun r =>
      (r.1, Xd.inner q.desc) :: s.mcastSpans (Xd.rect q.desc) r.2 (Xd.inner q.desc)) = false := by
    refine anyStalled_false fun p hp => ?_
    obtain ⟨r, hr, hp⟩ := List.mem_flatMap.1 hp
    obtain ⟨⟨-, hsrc, -⟩, hdst⟩ := h r hr
    rcases List.mem_cons.1 hp with rfl | hp
    · exact hsrc
    · obtain ⟨k, hk, rfl⟩ := List.mem_map.1 hp
      obtain ⟨⟨-, hstall, -⟩, -⟩ := hdst k hk
      exact hstall
  have hruns := eachRun_mem (s := s) (f := fun s r => s.mcastRun t e (Xd.rect q.desc) (Xd.inner q.desc) r) (runsOf q.desc)
    (fun m hm r hr => ⟨mcastRun_ready (s := { s with mem := m }) (by omega) hb (tileReady_mem (h r hr).1 hm)
      fun k hk => takesMcast_mem ((h r hr).2 k hk) hm, mcastWrites_bad _ _ _ _⟩) s.mem rfl
  unfold mcast
  rw [headOp_eq hq (by unfold eDrain; omega) ho hr]
  dsimp only
  rw [hstall, if_neg Bool.false_ne_true, place_nil, hruns]
  rfl

end

end Sys2Proof.Machine.State

namespace Sys2Proof

open Machine Machine.State Claims

/-- Settles O16: the runs are done in their order, each read whole before it is written. -/
theorem copiesAndMulticasts : Obligations.CopiesAndMulticasts := by
  unfold Obligations.CopiesAndMulticasts
  intro s t e q ht he hq hr n rect
  have hengine : s.hasEngine t e = true := decide_eq_true ⟨ht, by omega⟩
  refine ⟨fun ho h => ?_, fun ho hb h => ?_⟩
  · obtain ⟨u, hu, hends, hmem⟩ := answer_ended s ((runsOf q.desc).foldl (fun m r => m.writeN r.2 (m.readN r.1 n)) s.mem)
      t e []
    refine ⟨u, (answerIf_true hengine).trans ?_, hends, hmem⟩
    rw [copy_ready he hq hr ho h]
    exact hu
  · obtain ⟨u, hu, hends, hmem⟩ := answer_ended s ((runsOf q.desc).foldl (fun m r =>
      rect.foldl (fun m' k => m'.writeN (tileBase k + r.2) (m.readN r.1 n)) m) s.mem) t e rect
    refine ⟨u, (answerIf_true hengine).trans ?_, hends, hmem⟩
    rw [mcast_ready he hq hr ho hb h]
    exact hu

end Sys2Proof

/-! SUPPORT. CONVERT between formats that are not MX, and EXPAND_W, EXPAND_ACC and COMPRESS of one block (R103, R165 to R172,
R198, R202). -/
namespace Sys2Proof.Machine.State

open Sys2Proof.Claims

/-! ### CONVERT -/

theorem packBytes_length (f : Fmt) (cs : List Nat) : (packBytes f cs).length = cs.length * f.width / 8 := leBytes_length _ _

theorem elemsOf_length (f : Fmt) (bs : List Byte) : (elemsOf f bs).length = bs.length * 8 / f.width := by simp [elemsOf]

/-- What a run of a conversion reads as in the destination's format; `pos` is the number of elements before it. -/
def converted (s : State) (d : Nat) (src dst : Fmt) (bs : List Byte) (pos : Nat) : List Byte :=
  packBytes dst ((elemsOf src bs).zipIdx.map fun (x : Nat × Nat) =>
    dst.encode (s.rounding (Xd.round d) (Xd.tensor d) (Xd.elemBase d + pos + x.2)) (src.decode false x.1))

theorem converted_length (s : State) (d : Nat) (src dst : Fmt) (bs : List Byte) (pos : Nat) :
    (s.converted d src dst bs pos).length = bs.length * 8 / src.width * dst.width / 8 := by
  unfold converted
  rw [packBytes_length, List.length_map, List.length_zipIdx, elemsOf_length]

section

variable {s : State} {t d : Nat} {src dst : Fmt}

theorem convertRun_ready {r : Nat × Nat × Nat} (hs : tileReady s t r.1 (Xd.inner d))
    (hd : tileReady s t r.2.1 (Xd.inner d * 8 / src.width * dst.width / 8)) : s.convertRun t d src dst r =
      ({ s with mem := s.mem.writeN r.2.1 (s.converted d src dst (s.mem.readN r.1 (Xd.inner d)) r.2.2) }, none) := by
  have hin := reachesTile_within (s := s) (engineReq_within (t := t) (e := eDrain) (by decide))
  have hlen := converted_length s d src dst (s.mem.readN r.1 (Xd.inner d)) r.2.2
  rw [Memory.readN_length] at hlen
  unfold convertRun
  rw [engRead_ready hs hin]
  exact engWrite_ready (by rw [← hlen] at hd; exact hd) hin

/-- Runs that change memory alone, and no error in it, are converted in their order. -/
theorem convertRuns_mem {f : State → Nat × Nat × Nat → State × Option EngFail} {g : Memory → Nat × Nat × Nat → Memory}
    (rs : List (Nat × Nat × Nat)) (hf : ∀ m, m.bad = s.mem.bad → ∀ r ∈ rs,
      f { s with mem := m } r = ({ s with mem := g m r }, none) ∧ (g m r).bad = m.bad) (m : Memory) (hm : m.bad = s.mem.bad) :
    ({ s with mem := m } : State).convertRuns f rs = ({ s with mem := rs.foldl g m }, none) := by
  induction rs generalizing m with
  | nil => rfl
  | cons r rs ih =>
    obtain ⟨hr, hb⟩ := hf m hm r List.mem_cons_self
    rw [convertRuns, hr]
    exact ih (fun m hm r hr => hf m hm r (List.mem_cons_of_mem _ hr)) _ (hb.trans hm)

/-- The spans of a conversion without an MX side are those of its runs. -/
theorem mem_convertSpans (hs : src.isMx = false) (hd : dst.isMx = false) {p : Nat × Nat} (h : p ∈ convertSpans d src dst) :
    ∃ r ∈ runsOf d, p = (r.1, Xd.inner d) ∨ p = (r.2, Xd.inner d * 8 / src.width * dst.width / 8) := by
  unfold convertSpans at h
  simp only [hs, hd, Bool.false_eq_true, if_false, List.mem_append, List.mem_map, List.mem_range] at h
  rcases h with ⟨i, hi, rfl⟩ | ⟨i, hi, rfl⟩
  · exact ⟨_, List.mem_map.2 ⟨i, List.mem_range.2 hi, rfl⟩, .inl rfl⟩
  · exact ⟨_, List.mem_map.2 ⟨i, List.mem_range.2 hi, rfl⟩, .inr rfl⟩

theorem convert_ready {q : QEntry} (hq : s.headReady t eDrain = some q) (hr : s.headRefused t eDrain q = false)
    (ho : Xd.op q.desc = Xd.oConvert) (hsf : Fmt.ofCode (Xd.srcFmt q.desc) = some src)
    (hdf : Fmt.ofCode (Xd.dstFmt q.desc) = some dst) (hs : src.isMx = false) (hd : dst.isMx = false)
    (h : ∀ r ∈ runsOf q.desc, tileReady s t r.1 (Xd.inner q.desc) ∧
      tileReady s t r.2 (Xd.inner q.desc * 8 / src.width * dst.width / 8)) :
    s.convert t [] = ({ s with mem := (runsOf q.desc).zipIdx.foldl (fun m x => m.writeN x.1.2
      (s.converted q.desc src dst (m.readN x.1.1 (Xd.inner q.desc)) (x.2 * (Xd.inner q.desc * 8 / src.width)))) s.mem }
        : State).endDesc t eDrain 0 0 0 [] := by
  have hstall : s.anyStalled (convertSpans q.desc src dst) = false := by
    refine anyStalled_false fun p hp => ?_
    obtain ⟨r, hr, hp⟩ := mem_convertSpans hs hd hp
    obtain ⟨⟨-, h1, -⟩, -, h2, -⟩ := h r hr
    rcases hp with rfl | rfl
    · exact h1
    · exact h2
  have hruns := convertRuns_mem (s := s) (f := fun s r => s.convertRun t q.desc src dst r)
    (g := fun m r => m.writeN r.2.1 (s.converted q.desc src dst (m.readN r.1 (Xd.inner q.desc)) r.2.2))
    ((runsOf q.desc).zipIdx.map fun (x : (Nat × Nat) × Nat) => (x.1.1, x.1.2, x.2 * (Xd.inner q.desc * 8 / src.width)))
    (fun m hm r hr => by
      obtain ⟨x, hx, rfl⟩ := List.mem_map.1 hr
      obtain ⟨hsrc, hdst⟩ := h x.1 (List.fst_mem_of_mem_zipIdx hx)
      exact ⟨convertRun_ready (s := { s with mem := m }) (tileReady_mem hsrc hm) (tileReady_mem hdst hm),
        Memory.writeN_bad _ _ _⟩) s.mem rfl
  rw [List.foldl_map] at hruns
  unfold convert
  rw [headOp_eq hq (Nat.le_refl _) ho hr]
  dsimp only
  rw [hsf, hdf]
  dsimp only
  rw [hs, hd, hstall, place_nil]
  simp only [Bool.false_eq_true, if_false, Bool.or_false, Bool.false_and]
  rw [hruns]
  rfl

/-! ### EXPAND_W, EXPAND_ACC and COMPRESS -/

theorem filter_range_single {p : Nat → Bool} {n m : Nat} (hn : n < m) (h : ∀ k < m, p k = decide (k = n)) :
    (List.range m).filter p = [n] := by
  have hp : (List.range m).filter p = (List.range m).filter (fun k => k == n) :=
    List.filter_congr fun k hk => by rw [h k (List.mem_range.1 hk)]; rfl
  rw [hp, List.filter_beq, List.count_eq_one_of_mem List.nodup_range (List.mem_range.2 hn)]
  rfl

section

variable {v w x : State} {h : List Nat} {n : Nat} {bs : List Byte}

theorem expandOne_done
    (hx : v.expandBlock (v.headCtx h) (Hdr.cbSlot h) 0 (hw h 24 + 16 * MapEntry.offset (Hdr.mapEntry h n))
      (MapEntry.raw (Hdr.mapEntry h n)) (MapEntry.stored (Hdr.mapEntry h n)) (some (MapEntry.stored (Hdr.mapEntry h n)))
      ((v.headCtx h).all fun x => hw h 24 != v.landAddr x.1 x.2 (Hdr.lap h)) = (w, .bytes bs))
    (hm : w.mcastWrite t eFeedB (Xd.rect d) (Xd.dst d + 4096 * n) bs = (x, none)) : v.expandOne t d h n = (x, true) := by
  unfold expandOne
  generalize v.headCtx h = dc at hx ⊢
  cases dc with
  | none =>
    rw [Option.all_none] at hx
    simp only [hx, hm]
  | some dc =>
    rw [Option.all_some] at hx
    simp only [hx, hm]

theorem expandAccOne_done {d : Nat} (hf : Xd.accFirst d = n)
    (hx : v.expandBlock (v.headCtx h) (Hdr.accCbSlot h) 1 (hw h 25 + 4096 * n) (hasBit (hw h 26) n)
      (min 4096 (16 + (Codec.blockHead (v.mem.readN (hw h 25 + 4096 * n) 16)).codedLen)) none
      ((v.headCtx h).all fun x => v.tideResident x.1) = (w, .bytes bs))
    (hm : w.engWrite t eFeedB (Xd.dst d) bs = (x, none)) : v.expandAccOne t d h n = (x, true) := by
  have hdst : Xd.dst d + 4096 * (n - Xd.accFirst d) = Xd.dst d := by rw [hf, Nat.sub_self]; rfl
  unfold expandAccOne
  rw [hdst]
  generalize v.headCtx h = dc at hx ⊢
  cases dc with
  | none =>
    rw [Option.all_none] at hx
    simp only [hx, hm]
  | some dc =>
    rw [Option.all_some] at hx
    simp only [hx, hm]

/-- One block, expanded: the descriptor goes on to its end. -/
theorem expandBlocks_one {one : State → Nat → State × Bool} (ho : one v n = (x, true)) :
    v.expandBlocks one [n] = (x, true) := by
  rw [expandBlocks, ho]
  rfl

end

theorem expandW_done {q : QEntry} {v x : State} {hb : List Byte} {n : Nat} (hq : s.headReady t eFeedB = some q)
    (hr : s.headRefused t eFeedB q = false) (ho : Xd.op q.desc = Xd.oExpandW) (hn : n < 16)
    (hblocks : ∀ k < 16, hasBit (Xd.blocks q.desc) k = decide (k = n)) (hsrc : s.stalled (Xd.src q.desc) 256 = false)
    (hdst : ∀ k ∈ s.fuses.rectTiles (Xd.rect q.desc), s.stalled (tileBase k + (Xd.dst q.desc + 4096 * n)) 4096 = false)
    (hspans : ∀ p ∈ s.weightSpans (bytesWords (s.mem.readN (Xd.src q.desc) 256)) [n], s.stalled p.1 p.2 = false)
    (hread : s.engRead t eFeedB (Xd.src q.desc) 256 = (v, .ok hb))
    (hp : MapEntry.present (Hdr.mapEntry (bytesWords hb) n) = true)
    (hone : v.expandOne t q.desc (bytesWords hb) n = (x, true)) :
    s.expandW t [] = x.endDesc t eFeedB 0 0 0 (x.fuses.rectTiles (Xd.rect q.desc)) := by
  have hns := filter_range_single hn hblocks
  have hstall : s.anyStalled ((Xd.src q.desc, 256) ::
      (s.weightSpans (bytesWords (s.mem.readN (Xd.src q.desc) 256)) [n] ++
        [n].flatMap fun n => s.mcastSpans (Xd.rect q.desc) (Xd.dst q.desc + 4096 * n) 4096)) = false := by
    refine anyStalled_false fun p hp => ?_
    rcases List.mem_cons.1 hp with rfl | hp
    · exact hsrc
    · rcases List.mem_append.1 hp with hp | hp
      · exact hspans p hp
      · rw [List.flatMap_singleton] at hp
        obtain ⟨k, hk, rfl⟩ := List.mem_map.1 hp
        exact hdst k hk
  have hany : ([n].any fun n => !MapEntry.present (Hdr.mapEntry (bytesWords hb) n)) = false := by
    rw [List.any_cons, List.any_nil, hp]
    rfl
  unfold expandW
  rw [headOp_eq hq (by decide) ho hr]
  dsimp only
  rw [hns, hstall, if_neg Bool.false_ne_true, place_nil, hread]
  dsimp only
  rw [hany, if_neg Bool.false_ne_true, expandBlocks_one hone]

theorem expandAcc_done {q : QEntry} {v x : State} {hb : List Byte} {n : Nat} (hq : s.headReady t eFeedB = some q)
    (hr : s.headRefused t eFeedB q = false) (ho : Xd.op q.desc = Xd.oExpandAcc) (hf : Xd.accFirst q.desc = n)
    (hl : Xd.accLast q.desc = n) (hsrc : s.stalled (Xd.src q.desc) 256 = false)
    (hdst : s.stalled (Xd.dst q.desc) 4096 = false)
    (hblock : s.stalled (hw (bytesWords (s.mem.readN (Xd.src q.desc) 256)) 25 + 4096 * n) 4096 = false)
    (hbooks : ∀ p ∈ s.bookSpans (s.headCtx (bytesWords (s.mem.readN (Xd.src q.desc) 256)))
      (Hdr.accCbSlot (bytesWords (s.mem.readN (Xd.src q.desc) 256))) 4, s.stalled p.1 p.2 = false)
    (hread : s.engRead t eFeedB (Xd.src q.desc) 256 = (v, .ok hb)) (hn : n < hw (bytesWords hb) 27)
    (hown : ownSram t (Xd.dst q.desc) 4096 = true) (hone : v.expandAccOne t q.desc (bytesWords hb) n = (x, true)) :
    s.expandAcc t [] = x.endDesc t eFeedB 0 0 0 [] := by
  have hcount : Xd.accLast q.desc + 1 - Xd.accFirst q.desc = 1 := by omega
  have hrange : (List.range 1).map (Xd.accFirst q.desc + ·) = [n] := by rw [hf]; rfl
  have hstall : s.anyStalled ([(Xd.src q.desc, 256),
      (hw (bytesWords (s.mem.readN (Xd.src q.desc) 256)) 25 + 4096 * Xd.accFirst q.desc, 4096 * 1),
      (Xd.dst q.desc, 4096 * 1)] ++ s.bookSpans (s.headCtx (bytesWords (s.mem.readN (Xd.src q.desc) 256)))
        (Hdr.accCbSlot (bytesWords (s.mem.readN (Xd.src q.desc) 256))) 4) = false := by
    rw [hf]
    refine anyStalled_false fun p hp => ?_
    rcases List.mem_append.1 hp with hp | hp
    · simp only [List.mem_cons, List.not_mem_nil, or_false] at hp
      rcases hp with rfl | rfl | rfl
      · exact hsrc
      · exact hblock
      · exact hdst
    · exact hbooks p hp
  have hin : ¬(Xd.accLast q.desc < Xd.accFirst q.desc ∨ hw (bytesWords hb) 27 ≤ Xd.accLast q.desc) := by omega
  unfold expandAcc
  rw [headOp_eq hq (by decide) ho hr]
  dsimp only
  rw [hcount, hstall, if_neg Bool.false_ne_true, place_nil, hread]
  dsimp only
  rw [if_neg hin, Nat.mul_one, hown, if_neg (by decide), hrange, expandBlocks_one hone]

/-- A block compressed raw, at an address that belongs to no slot (R194, R202). -/
theorem compressRun_raw {v x y : State} {d a b : Nat} {dc : Option (Nat × Nat)} {books : List Codec.Book} {bs : List Byte}
    (he : Xd.epoch d = 0) (hread : y.engRead t eDrain a 4096 = (v, .ok bs))
    (hwrite : (v.bump .SHG_CMP_RAW_COUNT (stackOf v.fuses.nStacks b) 0 1).engWrite t eDrain b (padTo 16 bs) = (x, none))
    (hplace : ∀ i c, dc = some (i, c) → x.accPlace i c b = none) : y.compressRun t d dc books (a, b) = (x, none) := by
  have hnone : (dc.bind fun z => (x.accPlace z.1 z.2 b).map fun y => (z, y)) = none := by
    cases dc with
    | none => rfl
    | some z => rw [Option.bind_some, hplace z.1 z.2 rfl, Option.map_none]
  unfold compressRun
  simp only [hread, he, if_true, hwrite, hnone]

/-- A COMPRESS of one run has one source and one destination. -/
theorem compressRuns_one {d : Nat} (h : Xd.runs d = 1) : compressRuns d = [(Xd.src d, Xd.dst d)] := by
  unfold compressRuns
  rw [h]
  simp

theorem compress_done {q : QEntry} {x y : State} (hq : s.headReady t eDrain = some q)
    (hr : s.headRefused t eDrain q = false) (ho : Xd.op q.desc = Xd.oCompress) (hruns : Xd.runs q.desc = 1)
    (he : Xd.epoch q.desc = 0) (hbad : compressBad q.desc = false) (hsrc : s.stalled (Xd.src q.desc) 4096 = false)
    (hdst : s.stalled (Xd.dst q.desc) 4096 = false)
    (hslots : ∀ p ∈ s.compressSlots q.desc (s.tideFind (Xd.strand q.desc) (Xd.dir q.desc)), s.stalled p.1 8 = false)
    (hbooks : ∀ p ∈ s.bookSpans (s.tideFind (Xd.strand q.desc) (Xd.dir q.desc)) (Xd.cbSlot q.desc) 4,
      s.stalled p.1 p.2 = false)
    (hfits : s.compressFits (s.compressSlots q.desc (s.tideFind (Xd.strand q.desc) (Xd.dir q.desc))) = (y, .ok true))
    (htarget : y.target (Xd.dst q.desc) = .stack)
    (hrun : y.compressRun t q.desc (s.tideFind (Xd.strand q.desc) (Xd.dir q.desc)) [] (Xd.src q.desc, Xd.dst q.desc) =
      (x, none)) :
    s.compress t [] = x.endDesc t eDrain 0 0 0 [] := by
  have hone := compressRuns_one hruns
  have hstall : s.anyStalled (([(Xd.src q.desc, Xd.dst q.desc)].flatMap fun r => [(r.1, 4096), (r.2, 4096)]) ++
      ((s.compressSlots q.desc (s.tideFind (Xd.strand q.desc) (Xd.dir q.desc))).map fun x => (x.1, 8)) ++
      s.bookSpans (s.tideFind (Xd.strand q.desc) (Xd.dir q.desc)) (Xd.cbSlot q.desc) 4) = false := by
    refine anyStalled_false fun p hp => ?_
    rcases List.mem_append.1 hp with hp | hp
    · rcases List.mem_append.1 hp with hp | hp
      · rw [List.flatMap_singleton] at hp
        rcases List.mem_pair.1 hp with rfl | rfl
        · exact hsrc
        · exact hdst
      · obtain ⟨z, hz, rfl⟩ := List.mem_map.1 hp
        exact hslots z hz
    · exact hbooks p hp
  have hfree : s.compressBooks (s.tideFind (Xd.strand q.desc) (Xd.dir q.desc)) (Xd.cbSlot q.desc) (Xd.srcFmt q.desc)
      (Xd.epoch q.desc) = (s, .ok (some [])) := by
    unfold compressBooks
    rw [if_pos he]
  unfold compress
  rw [headOp_eq hq (by decide) ho hr]
  dsimp only
  rw [hbad, if_neg Bool.false_ne_true, hone, hstall, if_neg Bool.false_ne_true, place_nil, hfree]
  dsimp only
  rw [hfits]
  simp only [eachRun, htarget, hrun]
  rfl

end

end Sys2Proof.Machine.State

namespace Sys2Proof

open Machine Machine.State Claims

theorem conversions : Claims.Conversions := by
  unfold Claims.Conversions
  intro s t q src dst ht hq hr d n len out ho hsf hdf hs hd h
  obtain ⟨u, hu, hends, hmem⟩ := answer_ended s ((runsOf d).zipIdx.foldl (fun m x => m.writeN x.1.2 (out m x.1 x.2)) s.mem)
    t eDrain []
  refine ⟨u, (answerIf_true (decide_eq_true ht)).trans ?_, hends, hmem⟩
  rw [convert_ready hq hr ho hsf hdf hs hd h]
  exact hu

/-- What an answer keeps of a state in which a descriptor has ended. -/
theorem answer_endDesc (s x : State) (t e : Nat) (tiles : List Nat) :
    ∃ u, answer s (x.endDesc t e 0 0 0 tiles) = .next u ∧ u.mem = x.mem ∧
      u.engine t e = { x.engine t e with done := some ⟨0, 0, 0, tiles⟩ } :=
  ⟨_, rfl, rfl, engine_setEngine_self x t e _⟩

theorem expandsAndCompresses : Claims.ExpandsAndCompresses := by
  unfold Claims.ExpandsAndCompresses
  intro s t q v w x y hb bs n ht d h dc
  have htile : s.hasTile t = true := decide_eq_true ht
  refine ⟨?_, ?_, ?_⟩
  · intro hq hr ho hn hblocks hsrc hdst hspans hread e addr hp hblock hwrite
    have hend := expandW_done hq hr ho hn hblocks hsrc hdst hspans hread hp (expandOne_done hblock hwrite)
    have hexec : exec (.expandW t []) s = answer s (s.expandW t []) := answerIf_true htile
    rw [hexec, hend]
    exact answer_endDesc s x t eFeedB _
  · intro hq hr ho hf hl hsrc hdst peek hadr hbooks hread hn hown hblock hwrite
    have hend := expandAcc_done hq hr ho hf hl hsrc hdst hadr hbooks hread hn hown (expandAccOne_done hf hblock hwrite)
    have hexec : exec (.expandAcc t []) s = answer s (s.expandAcc t []) := answerIf_true htile
    rw [hexec, hend]
    exact answer_endDesc s x t eFeedB []
  · intro hq hr ho hruns he st dc hbad hsrc hdst hslots hbooks hfits htarget hread hwrite hplace
    have hend := compress_done hq hr ho hruns he hbad hsrc hdst hslots hbooks hfits htarget
      (compressRun_raw he hread hwrite hplace)
    have hexec : exec (.compress t []) s = answer s (s.compress t []) := answerIf_true htile
    rw [hexec, hend]
    exact answer_endDesc s x t eDrain []

/-- Settles O17: the runs of a conversion are rounded element by element, and a block goes where its descriptor says. -/
theorem codecAndConversions : Obligations.CodecAndConversions := ⟨conversions, expandsAndCompresses⟩

end Sys2Proof

/-! SUPPORT. A vector operation on operands that are there (R109 to R111). -/
namespace Sys2Proof.Machine.State

open Sys2Proof.Claims

section

variable {s : State} {t : Nat}

theorem readOperands_ready {ins : List (Fmt × Nat × Nat)} (h : ∀ x ∈ ins, tileReady s t (tileBase t + x.2.1) x.2.2) :
    s.readOperands t ins = (s, .ok (ins.map fun x => widen x.1 (s.mem.readN (tileBase t + x.2.1) x.2.2))) := by
  induction ins with
  | nil => rfl
  | cons x ins ih =>
    obtain ⟨f, off, n⟩ := x
    have hhead : tileReady s t (tileBase t + off) n := h _ List.mem_cons_self
    have hread := engRead_ready hhead (reachesTile_within (s := s) (engineReq_within (t := t) (e := eVector) (by decide)))
    have hrest := ih fun y hy => h y (List.mem_cons_of_mem _ hy)
    rw [readOperands, List.map_cons]
    simp only [hread, hrest]

end

/-! ### The bytes of an operand, and of D -/

/-- The operation of a row of 32 lanes gives 32 lanes. -/
theorem Vop.row_length {v : Vop} {d : Nat} {a b c : List Nat} (ha : a.length = 32)
    (hb : 2 ≤ Vd.operands v.code → b.length = 32) (hc : 3 ≤ Vd.operands v.code → c.length = 32) :
    (v.row d a b c).length = 32 := by
  cases v
  case convert => exact ha
  case scale | exp2 | log2 | recip | rsqrt => simp [Vop.row, ha]
  case rowsum | rowmax => simp [Vop.row]
  case add | sub | mul | max | min =>
    have hb := hb (by decide)
    simp [Vop.row, ha, hb]
  case fma | select =>
    have hb := hb (by decide)
    have hc := hc (by decide)
    simp [Vop.row, ha, hb, hc]

theorem Vd.operands_le (v : Vop) : 1 ≤ Vd.operands v.code ∧ Vd.operands v.code ≤ 3 := by cases v <;> decide

theorem operandsOf_length (d : Nat) {v : Vop} (hv : Vd.vop d = v.code) : (operandsOf d).length = Vd.operands v.code := by
  unfold operandsOf
  rw [List.length_take, hv]
  exact Nat.min_eq_left (Vd.operands_le v).2

theorem Fmt.width_pos (f : Fmt) : 0 < f.width := by cases f <;> decide

/-- A widened operand has 32 lanes for each row. -/
theorem widen_length {d : Nat} {x : Fmt × Nat × Nat} (h : x ∈ operandsOf d) (m : Memory) (a : Nat) :
    (widen x.1 (m.readN a x.2.2)).length = 32 * Vd.rows d := by
  have hn : x.2.2 = Vd.rows d * 32 * x.1.width / 8 := by
    have h := List.mem_of_mem_take h
    simp only [List.mem_cons, List.not_mem_nil, or_false] at h
    rcases h with rfl | rfl | rfl <;> rfl
  have hbits : Vd.rows d * 32 * x.1.width / 8 * 8 = Vd.rows d * 32 * x.1.width :=
    Nat.div_mul_cancel (Dvd.dvd.mul_right (Dvd.dvd.mul_left (by decide) _) _)
  unfold widen
  rw [List.length_map, elemsOf_length, Memory.readN_length, hn, hbits, Nat.mul_div_cancel _ (Fmt.width_pos _),
    Nat.mul_comm]

/-- Row `r` of a list that has 32 lanes for each of more rows. -/
theorem row_length {l : List Nat} {n r : Nat} (hl : l.length = 32 * n) (hr : r < n) :
    ((l.drop (32 * r)).take 32).length = 32 := by
  rw [List.length_take, List.length_drop, hl]
  omega

theorem length_getD {xs : List (List Nat)} {n k : Nat} (h : ∀ l ∈ xs, l.length = n) (hk : k < xs.length) :
    (xs.getD k []).length = n := by
  rw [List.getD_eq_getElem _ _ hk]
  exact h _ (List.getElem_mem hk)

section

variable {s : State} {t : Nat} {v : Vop}

/-- The results fill D. -/
theorem vectorOut_length {d : Nat} {xs : List (List Nat)}
    (hlen : xs.length = Vd.operands v.code) (hxs : ∀ l ∈ xs, l.length = 32 * Vd.rows d) :
    (s.vectorOut v d xs).length = (operand (Vd.fmtD d) (Vd.dst d) (Vd.rows d)).2.2 := by
  have hrow : ∀ r < Vd.rows d, (v.row d (((xs.getD 0 []).drop (32 * r)).take 32) (((xs.getD 1 []).drop (32 * r)).take 32)
      (((xs.getD 2 []).drop (32 * r)).take 32)).length = 32 := fun r hr =>
    Vop.row_length (row_length (length_getD hxs (by have h := (Vd.operands_le v).1; omega)) hr)
      (fun h => row_length (length_getD hxs (by omega)) hr) (fun h => row_length (length_getD hxs (by omega)) hr)
  have hsum : ((List.range (Vd.rows d)).flatMap fun r => v.row d (((xs.getD 0 []).drop (32 * r)).take 32)
      (((xs.getD 1 []).drop (32 * r)).take 32) (((xs.getD 2 []).drop (32 * r)).take 32)).length = Vd.rows d * 32 := by
    rw [List.length_flatMap, List.map_congr_left fun r hr => hrow r (List.mem_range.1 hr), List.map_const',
      List.sum_replicate, List.length_range, smul_eq_mul]
  unfold vectorOut
  dsimp only
  rw [packBytes_length, List.length_map, List.length_zipIdx, hsum]
  rfl

theorem exec_vop (v : Vop) (t : Nat) (s : State) : exec (vopInstr v t) s = answerIf (s.hasTile t) s (s.vector t v []) := by
  cases v <;> rfl

/-- A vector operation that waits for no span, whose operands are read and whose results are written. The address of D is a
variable, for which the kernel need not look into how the memories lie. -/
theorem vector_done {q : QEntry} {f : Fmt} {off n a : Nat} {xs : List (List Nat)} {w : State}
    (hq : s.headReady t eVector = some q) (hv : Vd.vop q.desc = v.code) (hr : Vd.refused q.desc = false)
    (hout : operand (Vd.fmtD q.desc) (Vd.dst q.desc) (Vd.rows q.desc) = (f, off, n))
    (hstall : s.anyStalled (((off, n) :: (operandsOf q.desc).map (·.2)).map fun x => (tileBase t + x.1, x.2)) = false)
    (hlocal : ((operandsOf q.desc).map (·.2) ++ [(off, n)]).find? (fun x => !localOk x.1 x.2) = none)
    (hread : s.readOperands t (operandsOf q.desc) = (s, .ok xs)) (ha : tileBase t + off = a)
    (hwrite : s.engWrite t eVector a (s.vectorOut v q.desc xs) = (w, none)) :
    s.vector t v [] = w.endDesc t eVector 0 0 0 [] := by
  have hgo : ¬(Vd.vop q.desc ≠ v.code ∨ Vd.refused q.desc = true) := by
    rw [hr]
    exact fun h => h.elim (fun h => h hv) Bool.false_ne_true
  unfold vector
  split
  · rename_i hnone
    rw [hq] at hnone
    cases hnone
  rename_i q' hsome
  rw [hq] at hsome
  cases hsome
  rw [if_neg hgo]
  split
  rename_i off' n' hd'
  rw [hout] at hd'
  cases hd'
  dsimp only
  rw [hstall, if_neg Bool.false_ne_true, place_nil, ha]
  split
  · rename_i h
    rw [hlocal] at h
    cases h
  generalize s.readOperands t (operandsOf q.desc) = p at hread ⊢
  subst hread
  simp only [hwrite]

theorem vector_ready {q : QEntry} {f : Fmt} {off n : Nat} {xs : List (List Nat)} (hq : s.headReady t eVector = some q)
    (hv : Vd.vop q.desc = v.code) (hr : Vd.refused q.desc = false)
    (hout : operand (Vd.fmtD q.desc) (Vd.dst q.desc) (Vd.rows q.desc) = (f, off, n))
    (hins : ∀ x ∈ operandsOf q.desc, localOk x.2.1 x.2.2 = true ∧ tileReady s t (tileBase t + x.2.1) x.2.2)
    (hok : localOk off n = true) (hd : tileReady s t (tileBase t + off) n)
    (hxs : xs = (operandsOf q.desc).map fun x => widen x.1 (s.mem.readN (tileBase t + x.2.1) x.2.2)) :
    s.vector t v [] = ({ s with mem := s.mem.writeN (tileBase t + off) (s.vectorOut v q.desc xs) }
      : State).endDesc t eVector 0 0 0 [] := by
  have hstall : s.anyStalled (((off, n) :: (operandsOf q.desc).map (·.2)).map fun x => (tileBase t + x.1, x.2)) = false := by
    refine anyStalled_false fun p hp => ?_
    obtain ⟨x, hx, rfl⟩ := List.mem_map.1 hp
    rcases List.mem_cons.1 hx with rfl | hx
    · obtain ⟨-, hs, -⟩ := hd
      exact hs
    · obtain ⟨y, hy, rfl⟩ := List.mem_map.1 hx
      obtain ⟨-, -, hs, -⟩ := hins y hy
      exact hs
  have hlocal : ((operandsOf q.desc).map (·.2) ++ [(off, n)]).find? (fun x => !localOk x.1 x.2) = none := by
    refine List.find?_eq_none.2 fun x hx => ?_
    rcases List.mem_append.1 hx with hx | hx
    · obtain ⟨y, hy, rfl⟩ := List.mem_map.1 hx
      rw [(hins y hy).1]
      decide
    · rw [List.mem_singleton.1 hx, hok]
      decide
  have hread := readOperands_ready fun x hx => (hins x hx).2
  have hlen : (s.vectorOut v q.desc xs).length = n := by
    have h := vectorOut_length (s := s) (xs := xs) (by rw [hxs, List.length_map, operandsOf_length _ hv]) (by
      intro l hl
      rw [hxs] at hl
      obtain ⟨x, hx, rfl⟩ := List.mem_map.1 hl
      exact widen_length hx _ _)
    rwa [hout] at h
  rw [← hxs] at hread
  exact vector_done hq hv hr hout hstall hlocal hread rfl
    (engWrite_ready (by rw [hlen]; exact hd) (reachesTile_within (engineReq_within (by decide))))

end

end Sys2Proof.Machine.State

namespace Sys2Proof

open Machine Machine.State Claims

/-- Settles O19: one argument for the fifteen operations, which differ in what they do to a row. -/
theorem vectorOperations : Obligations.VectorOperations := by
  unfold Obligations.VectorOperations
  intro s t v q ht hq hv hr d ins out hins hok hd
  have htile : s.hasTile t = true := decide_eq_true ht
  have h := vector_ready hq hv hr rfl hins hok hd rfl
  rw [exec_vop, answerIf_true htile, h]
  exact answer_ended s _ t eVector []

end Sys2Proof

/-! SUPPORT. The end of a descriptor: its status record, its signal or its failure, and the ticket that ends its waits (R100, R101,
R104 to R106). -/
namespace Sys2Proof.Machine.State

open Sys2Proof.Claims

/-! ### Words posted -/

theorem noTraffic_report (s : State) (e : Err) : (s.report e).noTraffic = s.noTraffic :=
  noTraffic_of_noSend (noSend_report s e)

theorem noTraffic_of_noRec {s u : State} (h : u.noRec = s.noRec) : u.noTraffic = s.noTraffic :=
  noTraffic_of_noSend (noSend_of_noTideRec (congrArg (fun v : State => { v with tideInfo := [] }) h))

theorem noTraffic_launch (s : State) (f : Flight) : (s.launch f).noTraffic = s.noTraffic := rfl

theorem noTraffic_sendMessage (s : State) (dest : Nat) (ws : List Nat) (owner : TxOwner) :
    (s.sendMessage dest ws owner).noTraffic = s.noTraffic := by
  unfold sendMessage
  split
  · exact noTraffic_of_noSend (Sends.originate _ _ _ _ _ _ _ _ _).rest
  · exact noTraffic_report _ _

theorem noTraffic_post (s : State) (w : Nat) (amount : Option Nat) (src : SigSrc) :
    (s.post w amount src).noTraffic = s.noTraffic := by
  unfold post
  dsimp only
  split
  · exact noTraffic_report _ _
  · split
    · split
      · exact noTraffic_launch _ _
      · exact noTraffic_sendMessage _ _ _ _
    · exact noTraffic_launch _ _

theorem noTraffic_postRect (s : State) (w amount : Nat) (tiles : List Nat) (src : SigSrc) :
    (s.postRect w amount tiles src).noTraffic = s.noTraffic := by
  unfold postRect
  split
  · exact noTraffic_report _ _
  · exact foldl_keeps noTraffic (fun _ _ => noTraffic_launch _ _) _ _

theorem noTraffic_completionSignal (s : State) (t e : Nat) (q : QEntry) (r : Done) :
    (s.completionSignal t e q r).noTraffic = s.noTraffic := by
  unfold completionSignal
  split
  · rfl
  · split
    · exact noTraffic_postRect _ _ _ _ _
    · exact noTraffic_post _ _ _ _

/-- A word that an engine posts to a tile of its package. -/
theorem post_engine {s : State} {t e w n : Nat} (hk : bits w 63 62 < 2) (hz : bits w 50 34 = 0)
    (ht : bits w 33 22 < s.nTiles) (hr : hasBit w 61 = false) :
    s.post w (some n) (.engine t e) = s.launch ⟨w, bits w 33 22, n, .engine t e, false, false⟩ := by
  have hremote : s.wordRemote w = false := by
    rw [← Bool.not_eq_true, wordRemote_iff]
    exact fun h => Bool.false_ne_true (hr.symm.trans h.1)
  have hok : s.wordRejected w false false = false := by
    have hkind : ¬2 ≤ SigWord.kind w := Nat.not_le.2 hk
    have htile : ¬s.nTiles ≤ SigWord.tile w := Nat.not_le.2 ht
    simp [wordRejected, hremote, hkind, htile, hz]
  unfold post
  simp only [Option.isNone_some, hok, hremote, Bool.false_eq_true, if_false]
  rfl

/-! ### The end of a descriptor -/

section

variable {s w : State} {t e : Nat} {q : QEntry} {rest : List QEntry} {r : Done}

/-- What the end of a descriptor does before its ticket is complete. -/
def ending (s : State) (t e : Nat) (q : QEntry) (r : Done) : State :=
  if r.code = 0 then (s.statusRecord t e q r).completionSignal t e q r else (s.statusRecord t e q r).descFailed t e q r

/-- The descriptor leaves the queue, and its ticket is the last completed. -/
def ticketed (w : State) (t e : Nat) (q : QEntry) (rest : List QEntry) : State :=
  w.setEngine t e { w.engine t e with queue := rest, completed := q.ticket, done := none }

theorem completeHead_eq (hq : (s.engine t e).queue = q :: rest) (hr : (s.engine t e).done = some r) :
    s.completeHead t e = (((s.ending t e q r).ticketed t e q rest).wakeFences t e).refill t e := by
  unfold completeHead
  dsimp only
  rw [hq, hr]
  rfl

theorem noCtx_wakeFences : (w.wakeFences t e).noCtx = w.noCtx := by
  unfold wakeFences
  refine noCtx_foldl (fun u c => ?_) _ _
  dsimp only
  split
  · split <;> rfl
  · rfl

theorem refill_of_none (h : (w.engine t e).blocked = []) : w.refill t e = w := by
  unfold refill
  rw [refillN]
  dsimp only
  rw [h]

theorem engine_of_noCtx {u : State} (h : u.noCtx = w.noCtx) (t e : Nat) : u.engine t e = w.engine t e :=
  engine_of_engines (by have h := congrArg State.engines h; exact h) t e

/-- What the end of a descriptor may change before its ticket is complete: memory, reports, and what sends a signal. -/
def noEnding (s : State) : State := { s.noTraffic with mem := Memory.empty }

/-- The state after the end of a descriptor, where no context waits for room in the queue. -/
theorem answer_ticketed (hw : w.noEnding = s.noEnding) (hb : (s.engine t e).blocked = []) :
    ∃ u, answer s (((w.ticketed t e q rest).wakeFences t e).refill t e) = .next u ∧
      u.engine t e = { s.engine t e with queue := rest, completed := q.ticket, done := none } ∧
      u.mem = w.mem ∧ u.flights = w.flights ∧ ∀ f i x, u.rd f i x = w.rd f i x := by
  have hpend : w.pending = s.pending := by have h := congrArg State.pending hw; exact h
  have hfuse : w.fuses = s.fuses := by have h := congrArg State.fuses hw; exact h
  have heng : w.engine t e = s.engine t e :=
    engine_of_engines (by have h := congrArg State.engines hw; exact h) t e
  have hticket : (w.ticketed t e q rest).engine t e =
      { s.engine t e with queue := rest, completed := q.ticket, done := none } := by
    rw [← heng]
    exact engine_setEngine_self w t e _
  have hwake := noCtx_wakeFences (w := w.ticketed t e q rest) (t := t) (e := e)
  have hengine := (engine_of_noCtx hwake t e).trans hticket
  rw [refill_of_none (by rw [hengine]; exact hb)]
  refine ⟨_, answer_of_noCtx hwake hpend hfuse, hengine, ?_, ?_, fun f i x => rd_of_noCtx hwake f i x⟩
  · have h := congrArg State.mem hwake
    exact h
  · have h := congrArg State.flights hwake
    exact h

/-! ### The status record -/

theorem noData_statusRecord : (s.statusRecord t e q r).noData = s.noData := by
  unfold statusRecord
  split
  · rfl
  · split
    · rfl
    · split
      · rfl
      · exact noData_writeSpan _ _ _ _

/-- A status record that is asked for, in a scratchpad that may be reached. -/
theorem statusRecord_written {off a : Nat} (he : e < 8) (hs : descStatus e q.desc = some (off, true))
    (ha : s.scratch t q.ctx (8 * off) 8 = some a) (hr : tileReady s t a 8) :
    s.statusRecord t e q r =
      { s with mem := s.mem.writeN a (leBytes 8 (r.detail * 2 ^ 24 + q.ticket * 2 ^ 8 + r.code)) } := by
  have hwrite := writeSpan_ready (bs := leBytes 8 (r.detail * 2 ^ 24 + q.ticket * 2 ^ 8 + r.code))
    (by rw [leBytes_length]; exact hr) (reachesTile_within (engineReq_within he)) rfl
  unfold statusRecord
  rw [hs]
  dsimp only
  rw [ha]
  dsimp only
  rw [hwrite]
  rfl

theorem statusRecord_none (hc : r.code = 0) (hs : ∀ off, descStatus e q.desc ≠ some (off, true)) :
    s.statusRecord t e q r = s := by
  unfold statusRecord
  split
  · rfl
  · rename_i off en h
    cases en with
    | true => exact absurd h (hs off)
    | false =>
      rw [if_pos ⟨rfl, hc⟩]

theorem flights_statusRecord : (s.statusRecord t e q r).flights = s.flights := by
  have h := congrArg State.flights (noData_statusRecord (s := s) (t := t) (e := e) (q := q) (r := r))
  exact h

theorem nTiles_statusRecord : (s.statusRecord t e q r).nTiles = s.nTiles := by
  have h := congrArg State.nTiles (noData_statusRecord (s := s) (t := t) (e := e) (q := q) (r := r))
  exact h

/-! ### The signal, or the failure -/

theorem noRec_descFailed : (s.descFailed t e q r).noRec = s.noRec := noRec_tileErr _ _ _ _ _ _ _ _ _ _ _

theorem noEnding_ending : (s.ending t e q r).noEnding = s.noEnding := by
  have hstatus : (s.statusRecord t e q r).noEnding = s.noEnding :=
    congrArg (fun v : State => { v.noTraffic with mem := Memory.empty }) noData_statusRecord
  unfold ending
  split
  · rw [← hstatus]
    exact congrArg (fun v : State => { v with mem := Memory.empty }) (noTraffic_completionSignal _ _ _ _ _)
  · rw [← hstatus]
    exact congrArg (fun v : State => { v with mem := Memory.empty }) (noTraffic_of_noRec noRec_descFailed)

theorem mem_ending (hc : r.code = 0) : (s.ending t e q r).mem = (s.statusRecord t e q r).mem := by
  have h := congrArg State.mem (noTraffic_completionSignal (s.statusRecord t e q r) t e q r)
  unfold ending
  rw [if_pos hc]
  exact h

theorem flights_ending {w n : Nat} (hc : r.code = 0) (hs : descSignal e q.desc = some (w, n))
    (hrect : descToRect e q.desc = false) (hk : bits w 63 62 < 2) (hz : bits w 50 34 = 0) (ht : bits w 33 22 < s.nTiles)
    (hr : hasBit w 61 = false) :
    (s.ending t e q r).flights = s.flights ++ [⟨w, bits w 33 22, n, .engine t e, false, false⟩] := by
  unfold ending completionSignal
  rw [if_pos hc, hs]
  dsimp only
  rw [hrect, if_neg Bool.false_ne_true, post_engine hk hz (by rw [nTiles_statusRecord]; exact ht) hr]
  show (s.statusRecord t e q r).flights ++ _ = _
  rw [flights_statusRecord]

theorem flights_ending_none (h : descSignal e q.desc = none ∨ r.code ≠ 0) : (s.ending t e q r).flights = s.flights := by
  unfold ending
  split
  · rename_i hc
    unfold completionSignal
    rw [h.resolve_right (not_not.2 hc)]
    exact flights_statusRecord
  · have h := congrArg State.flights (noRec_descFailed (s := s.statusRecord t e q r) (t := t) (e := e) (q := q) (r := r))
    exact (show _ = (s.statusRecord t e q r).flights from h).trans flights_statusRecord

/-- A failure at an address, and a wrong descriptor, set their bits and void the step (R105). -/
theorem ending_failed {f : Fd} (hc : r.code ≠ 0) (h1 : r.code ≠ 1) (h4 : r.code ≠ 4) (hn : codeIndex r.code < 0x80)
    (hf : errField 0x0C (codeIndex r.code) = some f) (hw : f.width = 1) :
    (s.ending t e q r).flag f t = true ∧ (s.ending t e q r).rd .SIG_STATUS_VOIDED = 1 := by
  unfold ending
  rw [if_neg hc]
  unfold descFailed
  simp only [h1, h4, if_false]
  exact ⟨flag_tileErr _ _ _ _ _ _ _ _ _ _ hn hf hw, rd_tileErr_voided _ _ _ _ _ _ _ _ _ _ _⟩

theorem exec_descriptorComplete (ht : t < s.nTiles) (he : e < 5) (hne : e ≠ eArray)
    (hr : (s.engine t e).done = some r) (hw : s.waitsFrom (.engine t e) = false) :
    exec (.descriptorComplete t e) s = answer s (s.completeHead t e) := by
  have hengine : s.hasEngine t e = true := decide_eq_true ⟨ht, he⟩
  refine (answerIf_true hengine).trans ?_
  unfold descComplete
  dsimp only
  rw [if_neg hne, hr]
  dsimp only
  rw [hw, if_neg Bool.false_ne_true]

end

end Sys2Proof.Machine.State

namespace Sys2Proof

open Machine Machine.State Claims

/-- Settles O18: the record, then the signal or the failure, then the ticket. -/
theorem descriptorCompletes : Obligations.DescriptorCompletes := by
  unfold Obligations.DescriptorCompletes
  intro s t e q rest r ht he
  refine ⟨?_, fun hne hq hr hb hw => ?_⟩
  · have hengine : s.hasEngine t eArray = true := decide_eq_true ⟨ht, by decide⟩
    have htile : s.hasTile t = true := decide_eq_true ht
    exact (answerIf_true hengine).trans (answerIf_true htile).symm
  obtain ⟨u, hu, hengine, hmem, hflights, hrd⟩ := answer_ticketed (q := q) (rest := rest)
    (noEnding_ending (s := s) (t := t) (e := e) (q := q) (r := r)) hb
  rw [exec_descriptorComplete ht he hne hr hw, completeHead_eq hq hr]
  refine ⟨u, hu, hengine, fun hc off a hs ha hready => ?_, fun hc hs => ?_, fun hc w n hs hrect hk hz htile hbit => ?_,
    fun h => hflights.trans (flights_ending_none h), fun hc => ?_, fun hc => ?_⟩
  · rw [hmem, mem_ending hc, statusRecord_written (by omega) hs ha hready, hc, Nat.add_zero]
    exact stored_writeN _ _ _
  · rw [hmem, mem_ending hc, statusRecord_none hc hs]
  · exact hflights.trans (flights_ending hc hs hrect hk hz htile hbit)
  · obtain ⟨hflag, hvoid⟩ := ending_failed (s := s) (t := t) (e := e) (q := q) (r := r) (f := .TILE_ERR_STATUS_ADDR)
      (by omega) (by omega) (by omega) (by rw [hc]; decide) (by rw [hc]; rfl) rfl
    exact ⟨by unfold flag at hflag ⊢; rw [hrd, hflag], (hrd _ _ _).trans hvoid⟩
  · obtain ⟨hflag, hvoid⟩ := ending_failed (s := s) (t := t) (e := e) (q := q) (r := r) (f := .TILE_ERR_STATUS_DESC)
      (by omega) (by omega) (by omega) (by rw [hc]; decide) (by rw [hc]; rfl) rfl
    exact ⟨by unfold flag at hflag ⊢; rw [hrd, hflag], (hrd _ _ _).trans hvoid⟩

end Sys2Proof

/-! SUPPORT. A signal that arrives: what it does to its counter, to those that wait on it, and to the resend slots of its tile (R108,
R207 to R211, R214, R216). -/
namespace Sys2Proof.Machine

/-- The elements of a list but for those of two places. -/
theorem filterMap_range_ne_two {α : Type} (l : List α) {p j : Nat} (h : p < j) :
    ((List.range l.length).filter fun i => !([p, j] : List Nat).contains i).filterMap (fun i => l[i]?) =
      (l.eraseIdx j).eraseIdx p := by
  induction l generalizing p j with
  | nil => rfl
  | cons a l ih =>
    obtain ⟨j, rfl⟩ : ∃ k, j = k + 1 := ⟨j - 1, by omega⟩
    rw [List.length_cons, List.range_succ_eq_map]
    cases p with
    | zero =>
      have hne := filterMap_range_ne l j
      simpa [List.filter_map, List.filterMap_map, Function.comp_def] using hne
    | succ p =>
      have hrec := ih (p := p) (j := j) (by omega)
      simpa [List.filter_map, List.filterMap_map, Function.comp_def] using hrec

namespace State

open Sys2Proof.Claims

/-! ### The signals of a tile cycle -/

section

variable {s : State} {pick : Nat} {f : Flight}

theorem exec_signalApply (s : State) (pick : Nat) (more : List Nat) :
    exec (.signalApply (pick :: more)) s = answer s (s.takeFlight pick more) := rfl

theorem exec_resendSignalApply (s : State) (pick : Nat) :
    exec (.resendSignalApply pick) s = answer s (s.takeResendSignal pick) := rfl

/-- The state in which a signal is on its way no more. -/
def without (s : State) (pick : Nat) : State := { s with flights := s.flights.eraseIdx pick }

theorem takeFlight_remote {t c : Nat} (h : s.mayArrive pick = some f) (hk : SigWord.kind f.word ≠ 2) (hr : f.remote = true)
    (hs : f.src = .ctx t c) (more : List Nat) :
    s.takeFlight pick more = (s.without pick).sendWord f.word f.amount (.post t c) := by
  unfold takeFlight
  rw [h]
  dsimp only
  rw [if_neg hk, if_pos hr, hs]
  rfl

theorem takeFlight_local (h : s.mayArrive pick = some f) (hk : SigWord.kind f.word ≠ 2) (hr : f.remote = false)
    {more js : List Nat} {fs rest : List Flight}
    (hj : (s.cyclePicks f.tile (SigWord.counter f.word) more).filter (fun j => j != pick) = js)
    (ht : s.takeFlights (pick :: js) = (fs, { s with flights := rest })) :
    s.takeFlight pick more = ({ s with flights := rest } : State).cycleSignals f.tile (SigWord.counter f.word) fs := by
  unfold takeFlight
  rw [h]
  dsimp only
  rw [if_neg hk, hr, if_neg Bool.false_ne_true, hj, ht]

theorem takeFlight_alone (h : s.mayArrive pick = some f) (hk : SigWord.kind f.word ≠ 2) (hr : f.remote = false) :
    s.takeFlight pick [] = (s.without pick).cycleSignals f.tile (SigWord.counter f.word) [f] :=
  takeFlight_local h hk hr (by rw [cyclePicks_nil]; rfl) (takeFlights_one (flight_of_mayArrive h))

theorem takeFlights_two {j : Nat} {g : Flight} (hf : s.flights[pick]? = some f) (hg : s.flights[j]? = some g)
    (hne : j ≠ pick) : s.takeFlights [pick, j] =
      ([f, g], { s with flights := (s.flights.eraseIdx (max pick j)).eraseIdx (min pick j) }) := by
  have hrest : ((List.range s.flights.length).filter fun i => !([pick, j] : List Nat).contains i).filterMap
      (fun i => s.flights[i]?) = (s.flights.eraseIdx (max pick j)).eraseIdx (min pick j) := by
    have hlt : min pick j < max pick j := by omega
    rw [← filterMap_range_ne_two s.flights hlt]
    refine congrArg (List.filterMap _) (List.filter_congr fun i _ => ?_)
    rcases Nat.lt_or_gt_of_ne hne with h | h
    · rw [Nat.max_eq_left (Nat.le_of_lt h), Nat.min_eq_right (Nat.le_of_lt h)]
      simp [Bool.and_comm]
    · rw [Nat.max_eq_right (Nat.le_of_lt h), Nat.min_eq_left (Nat.le_of_lt h)]
  unfold takeFlights
  dsimp only
  rw [hrest]
  simp [hf, hg]

theorem takeFlight_two {j : Nat} {g : Flight} (h : s.mayArrive pick = some f) (hk : SigWord.kind f.word ≠ 2)
    (hr : f.remote = false) (hne : j ≠ pick) (hg : s.mayArrive j = some g) (hgr : g.remote = false) (ht : g.tile = f.tile)
    (hn : SigWord.counter g.word = SigWord.counter f.word) : s.takeFlight pick [j] =
      ({ s with flights := (s.flights.eraseIdx (max pick j)).eraseIdx (min pick j) } : State).cycleSignals f.tile
        (SigWord.counter f.word) [f, g] := by
  refine takeFlight_local h hk hr (js := [j]) ?_ (takeFlights_two (flight_of_mayArrive h) (flight_of_mayArrive hg) hne)
  rw [← ht, ← hn, cyclePicks_one hg hgr]
  simp [hne]

theorem takeResendSignal_eq (h : s.mayArrive pick = some f) (hk : SigWord.kind f.word = 2) :
    s.takeResendSignal pick = (s.without pick).cycleSignals f.tile (SigWord.counter f.word) [f] := by
  unfold takeResendSignal
  rw [h]
  dsimp only
  rw [if_neg (not_not.2 hk)]
  rfl

end

section

variable {s : State} {t n : Nat} {f g : Flight}

theorem settleResends_two (hf : SigWord.kind f.word ≠ 2) (hg : SigWord.kind g.word ≠ 2) :
    s.settleResends [f, g] = (s, [f, g]) := by
  simp [settleResends, hf, hg]

theorem cycleSignals_one (h : SigWord.kind f.word ≠ 2) : s.cycleSignals t n [f] = s.applySignals t n [f] := by
  unfold cycleSignals
  rw [settleResends_one h]

theorem applySignals_closed (h : s.isOpen kTile t = false) : s.applySignals t n [f] = s.isolateSignal f := by
  unfold applySignals
  rw [h]
  rfl

/-- A signal that is no subtraction is an add (R108, R209). -/
theorem applySignals_add (h : s.isOpen kTile t = true) (hk : SigWord.kind f.word ≠ 1) :
    s.applySignals t n [f] = (s.cntAdd t n f.amount f.word).serve t n := by
  have hadd : signalSum [f] false = (f.amount, some f.word) := by simp [signalSum, hk]
  have hsub : signalSum [f] true = (0, none) := by simp [signalSum, hk]
  unfold applySignals
  rw [h, hadd, hsub]
  rfl

theorem applySignals_sub (h : s.isOpen kTile t = true) (hk : SigWord.kind f.word = 1) :
    s.applySignals t n [f] = (s.cntSub t n f.amount f.word).serve t n := by
  have hadd : signalSum [f] false = (0, none) := by simp [signalSum, hk]
  have hsub : signalSum [f] true = (f.amount, some f.word) := by simp [signalSum, hk]
  unfold applySignals
  rw [h, hadd, hsub]
  rfl

/-- Two adds count as their sum (R209). -/
theorem applySignals_sum (h : s.isOpen kTile t = true) (hf : SigWord.kind f.word = 0) (hg : SigWord.kind g.word = 0) :
    s.applySignals t n [f, g] = (s.cntAdd t n (f.amount + g.amount) g.word).serve t n := by
  have hadd : signalSum [f, g] false = (f.amount + g.amount, some g.word) := by simp [signalSum, hf, hg]
  have hsub : signalSum [f, g] true = (0, none) := by simp [signalSum, hf, hg]
  unfold applySignals
  rw [h, hadd, hsub]
  rfl

/-- Where no resend arrives, the waiters alone are looked at. -/
theorem applySignals_none (h : s.isOpen kTile t = true) : s.applySignals t n [] = s.serve t n := by
  unfold applySignals
  rw [h]
  rfl

theorem serve_of_none (h : s.waitersOn t n = []) : s.serve t n = s.setWaiters t n [] := by
  unfold serve
  rw [h]
  rfl

end

/-! ### An amount added or taken -/

section

variable {s : State} {t n a w : Nat}

theorem onlyPuts_cntAdd (h : s.cntValue t n + a ≤ s.cntCap t n) : onlyPuts s (s.cntAdd t n a w)
    [(.SIG_CNT_VALUE, t, n, s.rd .SIG_CNT_VALUE t n + a), (.SIG_CNT_ADDED_ADDED, t, n, s.rd .SIG_CNT_ADDED_ADDED t n + a)] := by
  rw [cntAdd_fits w h]
  exact ⟨puts_wr (puts_wr (puts_nil s) _ _ _ (by decide)) _ _ _ (by decide), rfl⟩

/-- The counter at one of its ends, with the bit that says so. -/
def stopped (s : State) (f : Fd) (t n added v : Nat) : State :=
  ((s.wr .SIG_CNT_ADDED_ADDED t n added).wr .SIG_CNT_VALUE t n v).wr f t 0 (setBit (s.rd f t) n)

theorem onlyPuts_stopped {f : Fd} {added v : Nat} (hf : f.spec.reg ∉ [Reg.GLB_TILE_RANK, .SIG_CNT, .SIG_CNT_ADDED]) :
    onlyPuts s (s.stopped f t n added v)
      [(.SIG_CNT_VALUE, t, n, v), (f, t, 0, setBit (s.rd f t) n), (.SIG_CNT_ADDED_ADDED, t, n, added)] := by
  simp only [List.mem_cons, List.not_mem_nil, or_false, not_or] at hf
  obtain ⟨hrank, hcnt, hadd⟩ := hf
  have h1 : Fd.SIG_CNT_VALUE ≠ f := fun e => hcnt (e ▸ rfl)
  have h2 : Fd.SIG_CNT_ADDED_ADDED ≠ f := fun e => hadd (e ▸ rfl)
  have h := puts_wr (puts_wr (puts_wr (puts_nil s) (f := .SIG_CNT_ADDED_ADDED) t n added (by decide)) (f := .SIG_CNT_VALUE)
    t n v (by decide)) (f := f) t 0 (setBit (s.rd f t) n) hrank
  refine ⟨puts_of_perm h ?_, rfl⟩
  simp [h1, h2, List.Perm.swap]

theorem stopped_eq {f : Fd} {added v : Nat} (hf : f.spec.reg ∉ [Reg.GLB_TILE_RANK, .SIG_CNT, .SIG_CNT_ADDED]) :
    ((s.wr .SIG_CNT_ADDED_ADDED t n added).wr .SIG_CNT_VALUE t n v).wr f t 0
      (setBit (((s.wr .SIG_CNT_ADDED_ADDED t n added).wr .SIG_CNT_VALUE t n v).rd f t) n) = s.stopped f t n added v := by
  simp only [List.mem_cons, List.not_mem_nil, or_false, not_or] at hf
  rw [rd_wr_out _ _ _ _ _ _ hf.2.1 (by decide), rd_wr_out _ _ _ _ _ _ hf.2.2 (by decide)]
  rfl

/-- An add beyond the counter's highest value (R208, R211). -/
theorem reports_cntAdd (h : s.cntCap t n < s.cntValue t n + a) :
    reports (s.stopped .SIG_TILE_OVER_OVER t n (s.rd .SIG_CNT_ADDED_ADDED t n + a) (s.cntCap t n)) (s.cntAdd t n a w) 0x0A
      (if s.flag .SIG_CNT_CFG_MODE t n then 2 else 1) t true := by
  have hmode : (s.wr .SIG_CNT_ADDED_ADDED t n (s.cntAdded t n + a)).cntBounded t n = s.flag .SIG_CNT_CFG_MODE t n := by
    unfold cntBounded flag
    rw [rd_wr_out _ _ _ _ _ _ (by decide) (by decide)]
  unfold cntAdd
  dsimp only
  rw [if_neg (Nat.not_le.2 h), hmode]
  unfold cntFault
  dsimp only
  rw [stopped_eq (by decide)]
  exact ⟨_, rfl, rfl, rfl, rfl, rfl⟩

theorem onlyPuts_cntSub (h : a ≤ s.cntValue t n) : onlyPuts s (s.cntSub t n a w)
    [(.SIG_CNT_VALUE, t, n, s.rd .SIG_CNT_VALUE t n - a),
      (.SIG_CNT_ADDED_ADDED, t, n, s.rd .SIG_CNT_ADDED_ADDED t n + (2 ^ 48 - a % 2 ^ 48))] := by
  unfold cntSub
  dsimp only
  rw [if_pos h]
  exact ⟨puts_wr (puts_wr (puts_nil s) _ _ _ (by decide)) _ _ _ (by decide), rfl⟩

/-- A subtraction from a counter that holds less (R208). -/
theorem reports_cntSub (h : s.cntValue t n < a) :
    reports (s.stopped .SIG_TILE_UNDER_UNDER t n (s.rd .SIG_CNT_ADDED_ADDED t n + (2 ^ 48 - a % 2 ^ 48)) 0)
      (s.cntSub t n a w) 0x0A 1 t true := by
  unfold cntSub
  dsimp only
  rw [if_neg (Nat.not_le.2 h)]
  unfold cntFault
  dsimp only
  rw [stopped_eq (by decide)]
  exact ⟨_, rfl, rfl, rfl, rfl, rfl⟩

end

/-! ### Those that wait -/

section

variable {s w y : State} {t n a x c m : Nat}

theorem waitersOn_of_noRegs (h : y.noRegs = w.noRegs) (t n : Nat) : y.waitersOn t n = w.waitersOn t n := by
  have h := congrArg (fun v : State => v.waitersOn t n) h
  exact h

theorem cntValue_cntAdd (h : s.cntValue t n + a ≤ s.cntCap t n) (hv : s.cntValue t n + a < 2 ^ 16) :
    (s.cntAdd t n a x).cntValue t n = s.cntValue t n + a := by
  have hp := (onlyPuts_cntAdd (w := x) h).1.1 (.SIG_CNT_VALUE, t, n, _) List.mem_cons_self
  exact hp.trans (Nat.mod_eq_of_lt hv)

theorem puts_cntAdd_cntTake (h : s.cntValue t n + a ≤ s.cntCap t n) (hv : s.cntValue t n + a < 2 ^ 16) :
    puts s ((s.cntAdd t n a x).cntTake t n m) [(.SIG_CNT_VALUE, t, n, s.rd .SIG_CNT_VALUE t n + a - m),
      (.SIG_CNT_TAKEN_TAKEN, t, n, s.rd .SIG_CNT_TAKEN_TAKEN t n + m),
      (.SIG_CNT_ADDED_ADDED, t, n, s.rd .SIG_CNT_ADDED_ADDED t n + a)] := by
  have hadd := (onlyPuts_cntAdd (w := x) h).1
  have hvalue := cntValue_cntAdd (x := x) h hv
  have htaken : ((s.cntAdd t n a x).wr .SIG_CNT_VALUE t n (s.cntValue t n + a - m)).cntTaken t n =
      s.rd .SIG_CNT_TAKEN_TAKEN t n := by
    unfold cntTaken
    rw [rd_wr_out _ _ _ _ _ _ (by decide) (by decide)]
    exact hadd.2 _ _ _ (by simp)
  have hp := puts_wr (puts_wr hadd (f := .SIG_CNT_VALUE) t n (s.cntValue t n + a - m) (by decide))
    (f := .SIG_CNT_TAKEN_TAKEN) t n (s.rd .SIG_CNT_TAKEN_TAKEN t n + m) (by decide)
  have htake : (s.cntAdd t n a x).cntTake t n m = ((s.cntAdd t n a x).wr .SIG_CNT_VALUE t n (s.cntValue t n + a - m)).wr
      .SIG_CNT_TAKEN_TAKEN t n (s.rd .SIG_CNT_TAKEN_TAKEN t n + m) := by
    unfold cntTake
    rw [hvalue]
    congr 2
    exact (rd_wr_out _ _ _ _ _ _ (by decide) (by decide)).symm.trans htaken
  rw [htake]
  refine puts_of_perm hp ?_
  simp [cut, cntValue, List.Perm.swap]

/-- The first waiter is served from the sum, and the next is not (R209, R210). -/
theorem answer_add_served {rest : List Waiter} {k b rd : Nat} (hp : w.pending = s.pending) (hf : w.fuses = s.fuses)
    (h : w.cntValue t n + a ≤ w.cntCap t n) (hv : w.cntValue t n + a < 2 ^ 16) (hw : w.waitersOn t n = ⟨c, m⟩ :: rest)
    (hrest : ∀ z ∈ rest, w.cntValue t n + a - m < z.amount) (hm : m ≤ w.cntValue t n + a) (hc : c < 4)
    (hwait : (w.ctx t c).wait = .counter k b rd) :
    ∃ u, answer s ((w.cntAdd t n a x).serve t n) = .next u ∧
      puts w u [(.SIG_CNT_VALUE, t, n, w.rd .SIG_CNT_VALUE t n + a - m),
        (.SIG_CNT_TAKEN_TAKEN, t, n, w.rd .SIG_CNT_TAKEN_TAKEN t n + m),
        (.SIG_CNT_ADDED_ADDED, t, n, w.rd .SIG_CNT_ADDED_ADDED t n + a)] ∧
      u.ctx t c = { w.ctx t c with wait := .served rd 0 } ∧ u.waitersOn t n = rest ∧
      onlyCtx { w with regs := u.regs, waiters := u.waiters } u t c := by
  have hnoRegs := noRegs_cntAdd_fits x h
  have hvalue := cntValue_cntAdd (x := x) h hv
  have hctx : ∀ t' c', (w.cntAdd t n a x).ctx t' c' = w.ctx t' c' := fun t' c' => by
    have h := congrArg (fun v : State => v.ctx t' c') hnoRegs
    exact h
  have hserve : (w.cntAdd t n a x).serve t n =
      (((w.cntAdd t n a x).cntTake t n m).servedCtx t c rd).setWaiters t n rest := by
    unfold serve
    rw [waitersOn_of_noRegs hnoRegs, hw]
    refine serveFrom_one (k := k) (b := b) (by rw [hvalue]; exact hm) hc (by rw [hctx]; exact hwait) fun z hz => ?_
    rw [hvalue]
    exact hrest z (List.mem_of_mem_head? hz)
  rw [hserve]
  have hputs := puts_cntAdd_cntTake (m := m) (x := x) h hv
  have htake : ((w.cntAdd t n a x).cntTake t n m).noRegs = w.noRegs := hnoRegs
  generalize (w.cntAdd t n a x).cntTake t n m = y at hputs htake ⊢
  have hctx' : ∀ t' c', y.ctx t' c' = w.ctx t' c' := fun t' c' => by
    have h := congrArg (fun v : State => v.ctx t' c') htake
    exact h
  have hpend : y.pending = s.pending := by have h := congrArg State.pending htake; exact h.trans hp
  have hfuse : y.fuses = s.fuses := by have h := congrArg State.fuses htake; exact h.trans hf
  refine ⟨_, answer_eq hpend hfuse, puts_of_rd hputs fun g i j => ?_, ?_, ?_, fun t' c' hne => ?_, ?_⟩
  · rw [rd_setWaiters, servedCtx, rd_setCtx]
  · rw [ctx_setWaiters, servedCtx, ctx_setCtx_self, hctx']
  · rw [waitersOn_setWaiters, if_pos ⟨rfl, rfl⟩]
  · rw [ctx_setWaiters, servedCtx, ctx_setCtx, if_neg hne]
    exact hctx' t' c'
  · exact congrArg (fun v : State =>
      { v with regs := y.regs, waiters := (y.setWaiters t n rest).waiters, ctxs := [], current := [] }) htake

/-- The first waiter is not served from the sum. -/
theorem answer_add_held {z : Waiter} {rest : List Waiter} (hp : w.pending = s.pending) (hf : w.fuses = s.fuses)
    (h : w.cntValue t n + a ≤ w.cntCap t n) (hv : w.cntValue t n + a < 2 ^ 16) (hw : w.waitersOn t n = z :: rest)
    (hz : w.cntValue t n + a < z.amount) :
    ∃ u, answer s ((w.cntAdd t n a x).serve t n) = .next u ∧
      puts w u [(.SIG_CNT_VALUE, t, n, w.rd .SIG_CNT_VALUE t n + a),
        (.SIG_CNT_ADDED_ADDED, t, n, w.rd .SIG_CNT_ADDED_ADDED t n + a)] ∧
      u.waitersOn t n = z :: rest ∧ u.ctxs = w.ctxs := by
  have hnoRegs := noRegs_cntAdd_fits x h
  have hvalue := cntValue_cntAdd (x := x) h hv
  have hserve : (w.cntAdd t n a x).serve t n = (w.cntAdd t n a x).setWaiters t n (z :: rest) := by
    unfold serve
    rw [waitersOn_of_noRegs hnoRegs, hw]
    refine serveFrom_held fun z' hz' => ?_
    cases hz'
    rw [hvalue]
    exact hz
  rw [hserve]
  have hputs := (onlyPuts_cntAdd (w := x) h).1
  generalize w.cntAdd t n a x = y at hputs hnoRegs ⊢
  have hpend : y.pending = s.pending := by have h := congrArg State.pending hnoRegs; exact h.trans hp
  have hfuse : y.fuses = s.fuses := by have h := congrArg State.fuses hnoRegs; exact h.trans hf
  refine ⟨_, answer_eq hpend hfuse, puts_of_rd hputs fun f i x => rfl, ?_, ?_⟩
  · rw [waitersOn_setWaiters, if_pos ⟨rfl, rfl⟩]
  · have h := congrArg State.ctxs hnoRegs
    exact h

/-- Nobody waits: what the counter comes to is the answer. -/
theorem answer_serve_none (hp : w.pending = s.pending) (hf : w.fuses = s.fuses) (hw : w.waitersOn t n = [])
    (hy : y.noRec = w.noRec) : answer s (y.serve t n) = .next (y.setWaiters t n []) := by
  have hwait : y.waitersOn t n = [] := by
    have h := congrArg (fun v : State => v.waitersOn t n) hy
    exact (show y.waitersOn t n = w.waitersOn t n from h).trans hw
  have hpend : y.pending = s.pending := by have h := congrArg State.pending hy; exact h.trans hp
  have hfuse : y.fuses = s.fuses := by have h := congrArg State.fuses hy; exact h.trans hf
  rw [serve_of_none hwait]
  exact answer_eq hpend hfuse

theorem noRec_of_noRegs (h : y.noRegs = w.noRegs) : y.noRec = w.noRec :=
  noRec_of_noInt (congrArg (fun v : State => { v with irqs := [] }) h)

theorem noRec_of_reports {cls index inst : Nat} {void : Bool} (h : reports w y cls index inst void) : y.noRec = w.noRec := by
  obtain ⟨e, -, -, -, -, rfl⟩ := h
  exact noRec_report w e

end

/-! ### Resend slots -/

section

variable {s : State} {t n i : Nat} {f : Flight}

theorem cycleSignals_dropped (hk : SigWord.kind f.word = 2) (ho : s.isOpen kTile f.tile = true)
    (hm : s.matchSlot f.tile (bits f.word 35 34) (bits f.word 36 36) (bits f.word 61 37) = none) :
    s.cycleSignals t n [f] = (s.bump .TILE_RESEND_DROP_COUNT f.tile 0 1).applySignals t n [] := by
  unfold cycleSignals settleResends
  simp only [List.foldl_cons, List.foldl_nil, hk, ho, hm]
  rfl

theorem cycleSignals_matched (hk : SigWord.kind f.word = 2) (ho : s.isOpen kTile f.tile = true)
    (hm : s.matchSlot f.tile (bits f.word 35 34) (bits f.word 36 36) (bits f.word 61 37) = some i) :
    s.cycleSignals t n [f] = (s.disarmSlot f.tile i).applySignals t n [f] := by
  unfold cycleSignals settleResends
  simp only [List.foldl_cons, List.foldl_nil, hk, ho, hm]
  rfl

theorem puts_disarmSlot : puts s (s.disarmSlot t i) [(.TILE_RESEND_ARM_VALID, t, i, 0), (.TILE_RESEND_ARM_DIR, t, i, 0),
    (.TILE_RESEND_ARM_STRAND, t, i, 0), (.TILE_RESEND_ARM_LAP_POS, t, i, 0)] := by
  have h := puts_wr (puts_wr (puts_wr (puts_wr (puts_nil s) (f := .TILE_RESEND_ARM_VALID) t i 0 (by decide))
    (f := .TILE_RESEND_ARM_DIR) t i 0 (by decide)) (f := .TILE_RESEND_ARM_STRAND) t i 0 (by decide))
    (f := .TILE_RESEND_ARM_LAP_POS) t i 0 (by decide)
  refine puts_of_perm h ?_
  simp only [ne_eq, decide_not, List.filter_nil, List.filter_cons, Prod.mk.injEq, reduceCtorEq, false_and, decide_false,
    Bool.not_false, if_true]
  exact List.reverse_perm (List.map cut [(.TILE_RESEND_ARM_VALID, t, i, 0), (.TILE_RESEND_ARM_DIR, t, i, 0),
    (.TILE_RESEND_ARM_STRAND, t, i, 0), (.TILE_RESEND_ARM_LAP_POS, t, i, 0)])

/-- The fields of a resend slot are no counter's, and no shutter's. -/
theorem disarmSlot_keeps : (s.disarmSlot t i).noRegs = s.noRegs ∧ (∀ k j, (s.disarmSlot t i).isOpen k j = s.isOpen k j) ∧
    ∀ g x y, g.spec.reg ≠ .TILE_RESEND_ARM → (s.disarmSlot t i).rd g x y = s.rd g x y := by
  refine ⟨?_, fun k j => ?_, fun g x y hg => ?_⟩
  · unfold disarmSlot
    rw [noRegs_wr, noRegs_wr, noRegs_wr, noRegs_wr]
  · unfold disarmSlot
    rw [isOpen_wr _ _ _ _ _ _ (by decide), isOpen_wr _ _ _ _ _ _ (by decide), isOpen_wr _ _ _ _ _ _ (by decide),
      isOpen_wr _ _ _ _ _ _ (by decide)]
  · unfold disarmSlot
    rw [rd_wr_out _ _ _ _ _ _ hg (by decide), rd_wr_out _ _ _ _ _ _ hg (by decide), rd_wr_out _ _ _ _ _ _ hg (by decide),
      rd_wr_out _ _ _ _ _ _ hg (by decide)]

theorem onlyPuts_disarm_cntAdd {a x : Nat} (h : s.cntValue t n + a ≤ s.cntCap t n) :
    onlyPuts s ((s.disarmSlot t i).cntAdd t n a x) [(.TILE_RESEND_ARM_VALID, t, i, 0), (.TILE_RESEND_ARM_DIR, t, i, 0),
      (.TILE_RESEND_ARM_STRAND, t, i, 0), (.TILE_RESEND_ARM_LAP_POS, t, i, 0),
      (.SIG_CNT_VALUE, t, n, s.rd .SIG_CNT_VALUE t n + a), (.SIG_CNT_ADDED_ADDED, t, n, s.rd .SIG_CNT_ADDED_ADDED t n + a)] := by
  obtain ⟨hnoRegs, -, hrd⟩ := disarmSlot_keeps (s := s) (t := t) (i := i)
  have hvalue : (s.disarmSlot t i).cntValue t n = s.rd .SIG_CNT_VALUE t n := hrd _ _ _ (by decide)
  have hadded : (s.disarmSlot t i).cntAdded t n = s.rd .SIG_CNT_ADDED_ADDED t n := hrd _ _ _ (by decide)
  have hcap : (s.disarmSlot t i).cntCap t n = s.cntCap t n := by
    unfold cntCap cntBounded flag
    rw [hrd _ _ _ (by decide), hrd _ _ _ (by decide)]
  rw [cntAdd_fits _ (by rw [hvalue, hcap]; exact h), hvalue, hadded]
  have hp := puts_wr (puts_wr (puts_disarmSlot (s := s) (t := t) (i := i)) (f := .SIG_CNT_ADDED_ADDED) t n
    (s.rd .SIG_CNT_ADDED_ADDED t n + a) (by decide)) (f := .SIG_CNT_VALUE) t n (s.rd .SIG_CNT_VALUE t n + a) (by decide)
  refine ⟨puts_of_perm hp ?_, by rw [noRegs_wr, noRegs_wr, hnoRegs]⟩
  simp only [ne_eq, decide_not, List.filter_nil, List.filter_cons, Prod.mk.injEq, reduceCtorEq, false_and, decide_false,
    Bool.not_false, if_true, List.map_cons, List.map_nil]
  exact List.perm_append_comm (l₁ := [_, _])

end

end State

end Sys2Proof.Machine

namespace Sys2Proof.Machine.State

open Sys2Proof.Claims

/-! ### A signal taken from those on their way -/

theorem next_of_sends {s v u : State} (h : Sends v u) (hp : v.pending = s.pending) (hf : v.fuses = s.fuses) :
    answer s u = .next u := by
  have h1 := congrArg State.pending h.rest
  have h2 := congrArg State.fuses h.rest
  exact answer_eq (h1.trans hp) (h2.trans hf)

section

variable {s : State} {pick : Nat} {f : Flight} (h : s.mayArrive pick = some f)

include h

/-- The remote word of a context leaves as its message (R216, R218). -/
theorem exec_signal_remote (hk : SigWord.kind f.word ≠ 2) (more : List Nat) {t c : Nat} (hr : f.remote = true)
    (hs : f.src = .ctx t c) (hv : s.flag .SIG_ROUTE_VALID 0 (SigWord.pkn f.word) = true) :
    exec (.signalApply (pick :: more)) s = .next ((s.without pick).originate (s.rd .SIG_ROUTE_PORT 0 (SigWord.pkn f.word))
      cSignal 1 (some (SigWord.pkn f.word)) [] (s.message 0x10 (SigWord.pkn f.word) 0 (withBits f.word 15 0 f.amount))
      (.post t c)) := by
  have hsend : (s.without pick).sendWord f.word f.amount (.post t c) =
      (s.without pick).originate (s.rd .SIG_ROUTE_PORT 0 (SigWord.pkn f.word)) cSignal 1 (some (SigWord.pkn f.word)) []
        (s.message 0x10 (SigWord.pkn f.word) 0 (withBits f.word 15 0 f.amount)) (.post t c) := if_pos hv
  rw [exec_signalApply, takeFlight_remote h hk hr hs, hsend]
  exact next_of_sends (Sends.originate _ _ _ _ _ _ _ _ _) rfl rfl

/-- A signal behind a shutter that is not open (R214). -/
theorem exec_signal_closed (hk : SigWord.kind f.word ≠ 2) (hr : f.remote = false) (ho : s.isOpen kTile f.tile = false) :
    ∃ u, exec (.signalApply [pick]) s = .next u ∧ reports (s.without pick) u 0x0A 0x84 f.tile s.running := by
  have hreport : reports (s.without pick) ((s.without pick).isolateSignal f) 0x0A 0x84 f.tile s.running :=
    ⟨_, rfl, rfl, rfl, rfl, rfl⟩
  rw [exec_signalApply, takeFlight_alone h hk hr, cycleSignals_one hk, applySignals_closed (s := s.without pick) ho]
  have hrest := noRec_of_reports hreport
  exact ⟨_, answer_eq (by have h := congrArg State.pending hrest; exact h)
    (by have h := congrArg State.fuses hrest; exact h), hreport⟩

theorem exec_signal_add (hk : SigWord.kind f.word = 0) (hr : f.remote = false) (ho : s.isOpen kTile f.tile = true) :
    exec (.signalApply [pick]) s = answer s (((s.without pick).cntAdd f.tile (SigWord.counter f.word) f.amount f.word).serve
      f.tile (SigWord.counter f.word)) := by
  rw [exec_signalApply, takeFlight_alone h (by omega) hr, cycleSignals_one (by omega),
    applySignals_add (s := s.without pick) ho (by omega)]

theorem exec_signal_sub (hk : SigWord.kind f.word = 1) (hr : f.remote = false) (ho : s.isOpen kTile f.tile = true) :
    exec (.signalApply [pick]) s = answer s (((s.without pick).cntSub f.tile (SigWord.counter f.word) f.amount f.word).serve
      f.tile (SigWord.counter f.word)) := by
  rw [exec_signalApply, takeFlight_alone h (by omega) hr, cycleSignals_one (by omega),
    applySignals_sub (s := s.without pick) ho hk]

/-- Two adds of one cycle (R209). -/
theorem exec_signal_sum {j : Nat} {g : Flight} (hr : f.remote = false) (hne : j ≠ pick) (hg : s.mayArrive j = some g)
    (hgr : g.remote = false) (hk : SigWord.kind f.word = 0) (hgk : SigWord.kind g.word = 0) (ht : g.tile = f.tile)
    (hn : SigWord.counter g.word = SigWord.counter f.word) (ho : s.isOpen kTile f.tile = true) :
    exec (.signalApply [pick, j]) s = answer s
      ((({ s with flights := (s.flights.eraseIdx (max pick j)).eraseIdx (min pick j) } : State).cntAdd f.tile
        (SigWord.counter f.word) (f.amount + g.amount) g.word).serve f.tile (SigWord.counter f.word)) := by
  rw [exec_signalApply, takeFlight_two h (by omega) hr hne hg hgr ht hn]
  unfold cycleSignals
  rw [settleResends_two (by omega) (by omega)]
  dsimp only
  rw [applySignals_sum (by exact ho) hk hgk]

/-- A resend signal that no slot of its tile matches is counted, and the waiters are looked at (R108). -/
theorem exec_resend_dropped (hk : SigWord.kind f.word = 2) (ho : s.isOpen kTile f.tile = true)
    (hm : s.matchSlot f.tile (bits f.word 35 34) (bits f.word 36 36) (bits f.word 61 37) = none)
    (hw : ∀ z, (s.waitersOn f.tile (SigWord.counter f.word)).head? = some z →
      s.rd .SIG_CNT_VALUE f.tile (SigWord.counter f.word) < z.amount) :
    ∃ u, exec (.resendSignalApply pick) s = .next (u.setWaiters f.tile (SigWord.counter f.word)
        (s.waitersOn f.tile (SigWord.counter f.word))) ∧
      onlyPuts (s.without pick) u [(.TILE_RESEND_DROP_COUNT, f.tile, 0,
        min (s.rd .TILE_RESEND_DROP_COUNT f.tile + 1) (2 ^ Fd.TILE_RESEND_DROP_COUNT.width - 1))] := by
  have hopen : ((s.without pick).bump .TILE_RESEND_DROP_COUNT f.tile 0 1).isOpen kTile f.tile = true := by
    unfold bump
    rw [isOpen_wr _ _ _ _ _ _ (by decide)]
    exact ho
  have hvalue : ((s.without pick).bump .TILE_RESEND_DROP_COUNT f.tile 0 1).cntValue f.tile (SigWord.counter f.word) =
      s.rd .SIG_CNT_VALUE f.tile (SigWord.counter f.word) := rd_wr_out _ _ _ _ _ _ (by decide) (by decide)
  have hserve : ((s.without pick).bump .TILE_RESEND_DROP_COUNT f.tile 0 1).serve f.tile (SigWord.counter f.word) =
      ((s.without pick).bump .TILE_RESEND_DROP_COUNT f.tile 0 1).setWaiters f.tile (SigWord.counter f.word)
        (s.waitersOn f.tile (SigWord.counter f.word)) :=
    serveFrom_held fun z hz => by rw [hvalue]; exact hw z hz
  rw [exec_resendSignalApply, takeResendSignal_eq h hk, cycleSignals_dropped (s := s.without pick) hk ho hm,
    applySignals_none hopen, hserve]
  exact ⟨_, answer_eq rfl rfl, puts_wr (puts_nil _) _ _ _ (by decide), rfl⟩

/-- A resend signal that a slot matches disarms it and is added (R108). -/
theorem exec_resend_matched {i : Nat} (hk : SigWord.kind f.word = 2) (ho : s.isOpen kTile f.tile = true)
    (hm : s.matchSlot f.tile (bits f.word 35 34) (bits f.word 36 36) (bits f.word 61 37) = some i) :
    exec (.resendSignalApply pick) s = answer s ((((s.without pick).disarmSlot f.tile i).cntAdd f.tile
      (SigWord.counter f.word) f.amount f.word).serve f.tile (SigWord.counter f.word)) := by
  have hopen : ((s.without pick).disarmSlot f.tile i).isOpen kTile f.tile = true :=
    (disarmSlot_keeps.2.1 kTile f.tile).trans ho
  rw [exec_resendSignalApply, takeResendSignal_eq h hk, cycleSignals_matched (s := s.without pick) hk ho hm,
    applySignals_add hopen (by omega)]

end

end Sys2Proof.Machine.State

namespace Sys2Proof

open Machine Machine.State Claims

/-- Settles O25: what has arrived is applied to its counter, then those that wait are served in their order. -/
theorem signalsApplied : Obligations.SignalsApplied := by
  unfold Obligations.SignalsApplied
  intro s pick f h t n v added bounded cap w up down
  have hpend : w.pending = s.pending := rfl
  have hfuse : w.fuses = s.fuses := rfl
  refine ⟨fun hk => ⟨fun more t' c' hr hs hv => exec_signal_remote h hk more hr hs hv, ?_,
    fun hr ho => exec_signal_closed h hk hr ho, fun hr ho hw => ⟨?_, ?_, ?_, ?_⟩, fun hr ho hk hfit hlt => ⟨?_, ?_⟩⟩,
    fun hk ho => ⟨fun hm hw => exec_resend_dropped h hk ho hm hw, fun i hm hw hfit => ?_⟩⟩
  · intro j g hr hne hg hgr hk hgk ht hn ho hw hfit
    rw [exec_signal_sum h hr hne hg hgr hk hgk ht hn ho]
    have hp := onlyPuts_cntAdd (s := { s with flights := (s.flights.eraseIdx (max pick j)).eraseIdx (min pick j) })
      (t := t) (n := n) (a := f.amount + g.amount) (w := g.word) (by rw [← Nat.add_assoc]; exact hfit)
    refine ⟨_, answer_serve_none (w := { s with flights := (s.flights.eraseIdx (max pick j)).eraseIdx (min pick j) }) rfl rfl
      hw (noRec_of_noRegs hp.2), ?_⟩
    rw [Nat.add_assoc v, Nat.add_assoc added]
    exact hp
  · intro hk hfit
    have hp := onlyPuts_cntAdd (s := w) (t := t) (n := n) (a := f.amount) (w := f.word) hfit
    rw [exec_signal_add h hk hr ho]
    exact ⟨_, answer_serve_none hpend hfuse hw (noRec_of_noRegs hp.2), hp⟩
  · intro hk hover
    have hp := onlyPuts_stopped (s := w) (t := t) (n := n) (f := .SIG_TILE_OVER_OVER) (added := added + f.amount) (v := cap)
      (by decide)
    have hreport := reports_cntAdd (s := w) (t := t) (n := n) (a := f.amount) (w := f.word) hover
    rw [exec_signal_add h hk hr ho]
    exact ⟨_, _, answer_serve_none hpend hfuse hw ((noRec_of_reports hreport).trans (noRec_of_noRegs hp.2)), hp, hreport⟩
  · intro hk hfit
    have hp := onlyPuts_cntSub (s := w) (t := t) (n := n) (a := f.amount) (w := f.word) hfit
    rw [exec_signal_sub h hk hr ho]
    exact ⟨_, answer_serve_none hpend hfuse hw (noRec_of_noRegs hp.2), hp⟩
  · intro hk hunder
    have hp := onlyPuts_stopped (s := w) (t := t) (n := n) (f := .SIG_TILE_UNDER_UNDER)
      (added := added + (2 ^ 48 - f.amount % 2 ^ 48)) (v := 0) (by decide)
    have hreport := reports_cntSub (s := w) (t := t) (n := n) (a := f.amount) (w := f.word) hunder
    rw [exec_signal_sub h hk hr ho]
    exact ⟨_, _, answer_serve_none hpend hfuse hw ((noRec_of_reports hreport).trans (noRec_of_noRegs hp.2)), hp, hreport⟩
  · intro c m rest k b rd hw hrest hm hc hwait
    rw [exec_signal_add h hk hr ho]
    exact answer_add_served (w := w) hpend hfuse hfit hlt hw hrest hm hc hwait
  · intro z rest hw hz
    rw [exec_signal_add h hk hr ho]
    exact answer_add_held (w := w) hpend hfuse hfit hlt hw hz
  · have hp := onlyPuts_disarm_cntAdd (s := w) (t := t) (n := n) (i := i) (a := f.amount) (x := f.word) hfit
    rw [exec_resend_matched h hk ho hm]
    exact ⟨_, answer_serve_none hpend hfuse hw (noRec_of_noRegs hp.2), hp⟩

end Sys2Proof

/-! SUPPORT. The grants of a point, the requesters that are refused, and the router's input buffers (R300 to R305). -/
namespace Sys2Proof.Machine

/-! ### Lists without repetitions -/

theorem mem_eraseDups {α : Type} [DecidableEq α] {l : List α} {a : α} : a ∈ l.eraseDups ↔ a ∈ l := by
  induction hn : l.length using Nat.strong_induction_on generalizing l with
  | _ n ih =>
    cases l with
    | nil => simp
    | cons b l =>
      have hlen : (l.filter fun x => !x == b).length < n := by
        rw [← hn]
        exact Nat.lt_succ_of_le (List.length_filter_le _ _)
      rw [List.eraseDups_cons, List.mem_cons, ih _ hlen rfl, List.mem_filter, List.mem_cons]
      by_cases h : a = b <;> simp [h]

theorem nodup_eraseDups {α : Type} [DecidableEq α] (l : List α) : l.eraseDups.Nodup := by
  induction hn : l.length using Nat.strong_induction_on generalizing l with
  | _ n ih =>
    cases l with
    | nil => exact List.nodup_nil
    | cons b l =>
      have hlen : (l.filter fun x => !x == b).length < n := by
        rw [← hn]
        exact Nat.lt_succ_of_le (List.length_filter_le _ _)
      rw [List.eraseDups_cons, List.nodup_cons, mem_eraseDups]
      exact ⟨by simp, ih _ hlen _ rfl⟩

/-! ### Refusals -/

/-- The refusals of others than one requester. -/
def others (bs : List Backoff) (p : Point) (w : Nat) : List Backoff := bs.filter fun b => !(b.point == p && b.who == w)

/-- The count of a requester that is refused once more. -/
def refusals (bs : List Backoff) (p : Point) (w : Nat) : Nat :=
  match bs.find? fun b => b.point == p && b.who == w with
  | none => 1
  | some b => min (b.refusals + 1) 11

/-- A requester that has the grant is forgotten, any other refused. -/
def asked (p : Point) (winner : Option Nat) (bs : List Backoff) (w : Nat) : List Backoff :=
  if winner = some w then others bs p w else others bs p w ++ [⟨p, w, refusals bs p w⟩]

section

variable {bs : List Backoff} {p : Point} {winner : Option Nat} {w : Nat} {b : Backoff}

theorem mem_others : b ∈ others bs p w ↔ b ∈ bs ∧ ¬(b.point = p ∧ b.who = w) := by
  unfold others
  rw [List.mem_filter, Bool.not_eq_true', Bool.and_eq_false_iff, beq_eq_false_iff_ne, beq_eq_false_iff_ne, not_and_or]

theorem refusals_bounds (bs : List Backoff) (p : Point) (w : Nat) : 0 < refusals bs p w ∧ refusals bs p w ≤ 11 := by
  unfold refusals
  split <;> omega

theorem mem_asked (h : b ∈ asked p winner bs w) : b ∈ others bs p w ∨ winner ≠ some w ∧ b.who = w := by
  unfold asked at h
  split at h
  · exact .inl h
  · rename_i hw
    exact (List.mem_append.1 h).imp_right fun h => ⟨hw, by rw [List.mem_singleton.1 h]⟩

theorem mem_asked_of_others (h : b ∈ others bs p w) : b ∈ asked p winner bs w := by
  unfold asked
  split
  · exact h
  · exact List.mem_append_left _ h

theorem mem_asked_self (h : winner ≠ some w) : (⟨p, w, refusals bs p w⟩ : Backoff) ∈ asked p winner bs w := by
  unfold asked
  rw [if_neg h]
  exact List.mem_append_right _ (List.mem_singleton.2 rfl)

/-- What one requester is told leaves the count of another. -/
theorem refusals_asked {v : Nat} (h : v ≠ w) : refusals (asked p winner bs v) p w = refusals bs p w := by
  have hothers : (others bs p v).find? (fun b => b.point == p && b.who == w) =
      bs.find? fun b => b.point == p && b.who == w := by
    unfold others
    rw [List.find?_filter]
    refine congrArg (List.find? · bs) (funext fun b => ?_)
    by_cases hb : b.who = w
    · have hne : (b.who == v) = false := beq_eq_false_iff_ne.2 fun e => h (e.symm.trans hb)
      rw [hne, Bool.and_false, Bool.not_false, Bool.decide_and]
      simp only [decide_true, Bool.true_and, Bool.decide_eq_true]
    · have hne : (b.who == w) = false := beq_eq_false_iff_ne.2 hb
      rw [hne, Bool.and_false]
      simp
  have hself : ([⟨p, v, refusals bs p v⟩] : List Backoff).find? (fun b => b.point == p && b.who == w) = none := by
    have hne : (v == w) = false := beq_eq_false_iff_ne.2 h
    simp [hne]
  have hfind : (asked p winner bs v).find? (fun b => b.point == p && b.who == w) =
      bs.find? fun b => b.point == p && b.who == w := by
    unfold asked
    split
    · exact hothers
    · rw [List.find?_append, hothers, hself, Option.or_none]
  unfold refusals
  rw [hfind]

theorem mem_foldl_asked (l : List Nat) (h : b ∈ bs) (hb : ¬(b.point = p ∧ b.who ∈ l)) : b ∈ l.foldl (asked p winner) bs := by
  induction l generalizing bs with
  | nil => exact h
  | cons v l ih =>
    refine ih (mem_asked_of_others (mem_others.2 ⟨h, fun e => hb ⟨e.1, ?_⟩⟩)) fun e => hb ⟨e.1, List.mem_cons_of_mem _ e.2⟩
    rw [e.2]
    exact List.mem_cons_self

theorem refused_foldl_asked {l : List Nat} (hl : l.Nodup) (hw : w ∈ l) (h : winner ≠ some w) :
    (⟨p, w, refusals bs p w⟩ : Backoff) ∈ l.foldl (asked p winner) bs := by
  induction l generalizing bs with
  | nil => cases hw
  | cons v l ih =>
    obtain ⟨hv, hl⟩ := List.nodup_cons.1 hl
    rw [List.foldl_cons]
    by_cases e : v = w
    · subst e
      exact mem_foldl_asked l (mem_asked_self h) fun e => hv e.2
    · have hw : w ∈ l := (List.mem_cons.1 hw).resolve_left fun h => e h.symm
      rw [← refusals_asked (bs := bs) (winner := winner) e]
      exact ih hl hw

/-- A requester with the grant and no refusal keeps none. -/
theorem absent_foldl_asked (l : List Nat) (h : winner = some w) (hb : ∀ b ∈ bs, ¬(b.point = p ∧ b.who = w)) :
    ∀ b ∈ l.foldl (asked p winner) bs, ¬(b.point = p ∧ b.who = w) := by
  induction l generalizing bs with
  | nil => exact hb
  | cons v l ih =>
    refine ih fun b hm e => ?_
    rcases mem_asked hm with hm | ⟨hv, hm⟩
    · exact hb b (mem_others.1 hm).1 e
    · exact hv (by rw [h, ← e.2, hm])

theorem granted_foldl_asked {l : List Nat} (hw : w ∈ l) (h : winner = some w) :
    ∀ b ∈ l.foldl (asked p winner) bs, ¬(b.point = p ∧ b.who = w) := by
  induction l generalizing bs with
  | nil => cases hw
  | cons v l ih =>
    rw [List.foldl_cons]
    by_cases e : v = w
    · subst e
      refine absent_foldl_asked l h fun b hm => ?_
      unfold asked at hm
      rw [if_pos h] at hm
      exact (mem_others.1 hm).2
    · exact ih ((List.mem_cons.1 hw).resolve_left fun h => e h.symm)

end

namespace State

open Sys2Proof.Claims

/-! ### A point's cycle -/

section

variable {s : State} {p : Point} {who : Nat} {c : ArbCycle}

/-- The requesters of a cycle are told one after another. -/
theorem foldl_asked (winner : Option Nat) (l : List Nat) (t : State) :
    l.foldl (fun t w => if winner = some w then t.relent p w else t.refuse p w) t =
      { t with backoffs := l.foldl (asked p winner) t.backoffs } := by
  induction l generalizing t with
  | nil => rfl
  | cons w l ih =>
    rw [List.foldl_cons, List.foldl_cons, ih]
    unfold asked
    split <;> rfl

/-- A router's cycle changes its input buffers alone. -/
theorem routerCycle_rest (s : State) (p : Point) (c : ArbCycle) :
    ({ s.routerCycle p c with fabric := s.fabric } : State) = s := by
  have hsend : ∀ (u : State) (t h o : Nat),
      ({ u.sendBranch t h o with fabric := s.fabric } : State) = { u with fabric := s.fabric } := fun u t h o => by
    unfold sendBranch
    split <;> rfl
  unfold routerCycle
  split
  · rename_i t o
    dsimp only
    refine (foldl_keeps (fun v : State => ({ v with fabric := s.fabric } : State)) (fun v x => ?_) _ _).trans ?_
    · split <;> rfl
    · split
      · split
        · exact hsend _ _ _ _
        · rfl
      · rfl
  · rfl

theorem masked_routerCycle (q : Point) (w : Nat) : (s.routerCycle p c).masked q w = s.masked q w := by
  have h := congrArg (fun v : State => v.masked q w) (routerCycle_rest s p c)
  exact h

theorem holders_routerCycle : (s.routerCycle p c).holders = s.holders := by
  have h := congrArg State.holders (routerCycle_rest s p c)
  exact h

theorem backoffs_routerCycle : (s.routerCycle p c).backoffs = s.backoffs := by
  have h := congrArg State.backoffs (routerCycle_rest s p c)
  exact h

/-- Whoever asks has presented and is not masked (R305). -/
theorem mem_cycleRequests {w : Nat} (h : w ∈ s.cycleRequests p who c) : (w = who ∨ w ∈ c.present) ∧ s.masked p w = false := by
  unfold cycleRequests at h
  rw [mem_eraseDups] at h
  obtain ⟨hmem, hask⟩ := List.mem_filter.1 h
  rw [Bool.and_eq_true, Bool.not_eq_true', masked_routerCycle] at hask
  exact ⟨List.mem_cons.1 hmem, hask.1⟩

theorem nodup_cycleRequests : (s.cycleRequests p who c).Nodup := nodup_eraseDups _

/-- Who has the grant after a cycle: the holder between its break points, else the highest that asks (R302, R303). -/
def winner (s : State) (p : Point) (who : Nat) (c : ArbCycle) : Option Nat :=
  if s.holderOf p = none ∨ c.brk = true then (s.ranking p).find? (s.cycleRequests p who c).contains else s.holderOf p

theorem arbitrate_eq : s.arbitrate p who c =
    { (s.routerCycle p c).setHolder p (s.winner p who c) with
      backoffs := (s.cycleRequests p who c).foldl (asked p (s.winner p who c)) s.backoffs } := by
  have hwinner : (match s.holderOf p with
      | some h => if c.brk then (s.ranking p).find? (s.cycleRequests p who c).contains else some h
      | none => (s.ranking p).find? (s.cycleRequests p who c).contains) = s.winner p who c := by
    unfold winner
    cases hh : s.holderOf p with
    | none => simp
    | some h => cases c.brk <;> simp
  have hbackoffs : ((s.routerCycle p c).setHolder p (s.winner p who c)).backoffs = s.backoffs := backoffs_routerCycle
  rw [← hbackoffs, ← foldl_asked, ← hwinner]
  rfl

theorem holderOf_setHolder (s : State) (p : Point) (w : Option Nat) : (s.setHolder p w).holderOf p = w := by
  have hnone : (s.holders.filter fun h => h.point != p).find? (fun h => h.point == p) = none := by
    refine List.find?_eq_none.2 fun h hm => ?_
    have hne := (List.mem_filter.1 hm).2
    rw [bne_iff_ne] at hne
    rwa [beq_iff_eq]
  unfold holderOf setHolder
  cases w with
  | none =>
    dsimp only
    rw [hnone]
    rfl
  | some w =>
    dsimp only
    rw [List.find?_append, hnone]
    simp

theorem holderOf_setHolder_ne (s : State) {p q : Point} (w : Option Nat) (h : q ≠ p) :
    (s.setHolder p w).holderOf q = s.holderOf q := by
  have hfilter : (s.holders.filter fun h => h.point != p).find? (fun h => h.point == q) =
      s.holders.find? fun h => h.point == q := by
    rw [List.find?_filter]
    refine congrArg (List.find? · s.holders) (funext fun x => ?_)
    by_cases hx : x.point = q
    · simp [hx, h]
    · simp [hx]
  unfold holderOf setHolder
  cases w with
  | none =>
    dsimp only
    rw [hfilter]
  | some w =>
    have hne : (p == q) = false := beq_eq_false_iff_ne.2 (Ne.symm h)
    dsimp only
    rw [List.find?_append, hfilter]
    simp [hne]

/-- The parts of the state that a cycle leaves are those that its point, its refusals and its router's buffers are not. -/
theorem arbitrate_rest :
    ({ s.arbitrate p who c with backoffs := s.backoffs, holders := s.holders, fabric := s.fabric } : State) = s := by
  rw [arbitrate_eq]
  exact (congrArg (fun v : State => { v with backoffs := s.backoffs, holders := s.holders }) (routerCycle_rest s p c) :)

theorem presentAgain_eq (h : ∀ e, p ≠ .egress e) :
    s.presentAgain p who c = if cycleFits p c then s.arbitrate p who c else s := by
  cases p with
  | egress e => exact absurd rfl (h e)
  | bank _ _ | fabric _ _ | memory _ => rfl

end

/-! ### Egress ports -/

theorem link_setLink (s : State) (p : Nat) (l : Link) (q : Nat) : (s.setLink p l).link q = if q = p then l else s.link q := by
  unfold link setLink
  split
  · rename_i h
    rw [h]
    exact SMap.get_set_self _ _ _ _
  · rename_i h
    exact SMap.get_set_ne _ _ _ _ fun e => h (by injection e)

/-- The classes that present change the refusals of their port alone. -/
theorem refuseClasses_eq (s : State) (p : Nat) : ∃ bs, s.refuseClasses p = { s with backoffs := bs } := by
  have hfold : ∀ (l : List Nat) (bs : List Backoff), ∃ bs', l.foldl (fun (s : State) c =>
      let l := s.link p
      if s.requests p l c ∧ l.holder.isSome ∧ l.holder ≠ some c ∧ !s.backing (.egress p) c then s.refuse (.egress p) c
      else s) { s with backoffs := bs } = { s with backoffs := bs' } := by
    intro l
    induction l with
    | nil => exact fun bs => ⟨bs, rfl⟩
    | cons c l ih =>
      intro bs
      rw [List.foldl_cons]
      dsimp only
      split
      · exact ih _
      · exact ih bs
  exact hfold _ s.backoffs

theorem pump_holder {s : State} {p : Nat} (h : (s.link p).holder.isSome = true) : s.pump p = s.refuseClasses p := by
  unfold pump
  dsimp only
  rw [if_pos h]

theorem pump_grants {s : State} {p g : Nat} (h : (s.link p).holder = none) (hg : s.decideGrant p (s.link p) none = some g) :
    ∃ l bs, s.pump p = { s.setLink p l with backoffs := bs } ∧ l.holder = some g ∧ l.claim = none := by
  have hpump : s.pump p = (s.giveGrant p (some g)).refuseClasses p := by
    unfold pump
    dsimp only
    rw [h, hg]
    rfl
  obtain ⟨bs, hbs⟩ := refuseClasses_eq (s.giveGrant p (some g)) p
  exact ⟨_, bs, by rw [hpump, hbs]; rfl, rfl, rfl⟩

theorem exec_backoffExpiry {s : State} {p : Point} (h : s.hasPoint p = true) (who : Nat) (c : ArbCycle) :
    exec (.backoffExpiry p who c) s = answer s (s.presentAgain p who c) := answerIf_true h

section

variable {s : State} {e c h g : Nat} (y : ArbCycle)

theorem presentAgain_gone (hr : s.requests e (s.link e) c = false) :
    s.presentAgain (.egress e) c y = { s with backoffs := others s.backoffs (.egress e) c } := by
  unfold presentAgain
  dsimp only
  rw [hr]
  rfl

theorem presentAgain_refused (hr : s.requests e (s.link e) c = true) (hh : (s.link e).holder = some h) (hne : h ≠ c) :
    s.presentAgain (.egress e) c y = { s with backoffs := others s.backoffs (.egress e) c ++
      [⟨.egress e, c, refusals s.backoffs (.egress e) c⟩] } := by
  have hkeeps : (s.link e).holder.isSome = true ∧ (s.link e).holder ≠ some c := by
    rw [hh]
    exact ⟨rfl, fun e => hne (by injection e)⟩
  unfold presentAgain
  dsimp only
  rw [hr, if_neg (by decide), if_pos hkeeps]
  rfl

theorem presentAgain_pumps (hr : s.requests e (s.link e) c = true) (hh : (s.link e).holder = none) :
    s.presentAgain (.egress e) c y = s.pump e := by
  unfold presentAgain
  dsimp only
  rw [hr, hh]
  rfl

end

end State

end Sys2Proof.Machine

namespace Sys2Proof

open Machine Machine.State Claims

theorem arbitration : Claims.Arbitration := by
  unfold Claims.Arbitration
  refine ⟨fun s p who c hp he => ⟨fun hfit => ?_, fun hfit => ?_⟩, fun s t o ho => ?_, fun s e c y he => ?_⟩
  · rw [exec_backoffExpiry hp, presentAgain_eq he, hfit]
    exact answer_self s
  · intro asks winner count
    have hrest := arbitrate_rest (s := s) (p := p) (who := who) (c := c)
    have hpend : (s.arbitrate p who c).pending = s.pending := by have h := congrArg State.pending hrest; exact h
    have hfuse : (s.arbitrate p who c).fuses = s.fuses := by have h := congrArg State.fuses hrest; exact h
    rw [exec_backoffExpiry hp, presentAgain_eq he, if_pos hfit]
    refine ⟨fun w hw => mem_cycleRequests hw, _, answer_eq hpend hfuse, ?_, fun q hq => ?_, fun w hw hne => ?_,
      fun w hw heq => ?_, fun b hb hne => ?_, hrest⟩
    · rw [arbitrate_eq]
      exact holderOf_setHolder _ p _
    · rw [arbitrate_eq]
      refine (holderOf_setHolder_ne (s.routerCycle p c) _ hq).trans ?_
      unfold holderOf
      rw [holders_routerCycle]
    · rw [arbitrate_eq]
      exact refused_foldl_asked nodup_cycleRequests hw hne
    · rw [arbitrate_eq]
      exact granted_foldl_asked hw heq
    · rw [arbitrate_eq]
      exact mem_foldl_asked _ hb hne
  · have hcases : ∀ o < 4, ((o + 2) % 4 :: ([0, 1, 2, 3].filter fun i => i != (o + 2) % 4) ++ [4]).getLast? = some 4 := by
      decide
    have hrank : s.ranking (.fabric t o) = (o + 2) % 4 :: ([0, 1, 2, 3].filter fun i => i != (o + 2) % 4) ++ [4] := if_pos ho
    rw [hrank]
    exact ⟨rfl, hcases o ho⟩
  · have hp : s.hasPoint (.egress e) = true := decide_eq_true he
    intro l without
    rw [exec_backoffExpiry hp]
    refine ⟨fun hr => ?_, fun h hr hh hne => ?_, fun g hr hh hg => ?_⟩
    · rw [presentAgain_gone y hr]
      exact answer_eq rfl rfl
    · rw [presentAgain_refused y hr hh hne]
      exact ⟨_, answer_eq rfl rfl, refusals_bounds _ _ _⟩
    · obtain ⟨k, bs, hk, hholder, hclaim⟩ := pump_grants hh hg
      have hlink : ∀ bs : List Backoff, ({ s.setLink e k with backoffs := bs } : State).link e = k := fun bs =>
        (link_setLink s e k e).trans (if_pos rfl)
      rw [presentAgain_pumps y hr hh, hk]
      exact ⟨_, answer_eq rfl rfl, by rw [hlink, hholder], by rw [hlink, hclaim], rfl, rfl⟩

end Sys2Proof

/-! SUPPORT. Starvation, the slots of a port, and the writes of its sluice tables (R279, R306, R309, R311, R314 to R317). -/
namespace Sys2Proof.Machine.State

open Sys2Proof.Claims

/-! ### Starvation -/

theorem rd_bump_self (s : State) (f : Fd) (i x n : Nat) :
    (s.bump f i x n).rd f i x = min (s.rd f i x + n) (2 ^ f.width - 1) := by
  have hpos := Nat.two_pow_pos f.width
  unfold bump
  rw [rd_wr_self]
  exact Nat.mod_eq_of_lt (by unfold satNat; omega)

/-- A point's flag and count of starvation, without the interrupt. -/
def starved (s : State) : Point → State
  | .bank t _ => (s.setErr 0x0C tStarve t).bump .TILE_STARVE_COUNT t 0 1
  | .fabric t o =>
    let s := s.bump .SLU_FAB_STARVE_COUNT 0 0 1
    if s.flag .SLU_FAB_STARVE_FLAG then s
    else ((s.wr .SLU_FAB_STARVE_FLAG 0 0 1).wr .SLU_FAB_STARVE_PORT 0 0 o).wr .SLU_FAB_STARVE_TILE 0 0 t
  | .memory st => s.setErr 0x09 5 st
  | .egress p => (s.setErr 0x0F 2 p).bump .SLU_STARVE_CNT_COUNT p 0 1

theorem starve_eq (s : State) (p : Point) :
    ∃ b : Bool, s.starve p = if b then (s.starved p).raiseVector 56 else s.starved p := ⟨_, rfl⟩

theorem rd_starve (s : State) (p : Point) {f : Fd} (i x : Nat) (h : f.spec.reg ≠ .HST_PBA) :
    (s.starve p).rd f i x = (s.starved p).rd f i x := by
  obtain ⟨b, hb⟩ := starve_eq s p
  rw [hb]
  cases b
  · rfl
  · exact rd_raiseVector _ _ _ _ _ h

theorem noInt_starved (s : State) (p : Point) : (s.starved p).noInt = s.noInt := by
  cases p with
  | bank t k | egress p => exact noInt_setErr _ _ _ _
  | memory st => exact noInt_setErr _ _ _ _
  | fabric t o =>
    unfold starved
    dsimp only
    split <;> rfl

theorem noInt_starve (s : State) (p : Point) : (s.starve p).noInt = s.noInt := by
  obtain ⟨b, hb⟩ := starve_eq s p
  rw [hb]
  cases b
  · exact noInt_starved s p
  · exact (noInt_raiseVector _ _).trans (noInt_starved s p)

theorem exec_arbStarvation {s : State} {p : Point} (h : s.hasPoint p = true) :
    exec (.arbStarvation p) s = .next (s.starve p) :=
  (answerIf_true h).trans (next_of_noHalt (noHalt_of_noRec (noRec_of_noInt (noInt_starve s p))))

theorem errSeq_starve (s : State) (p : Point) : (s.starve p).errSeq = s.errSeq := by
  have h := congrArg State.errSeq (noInt_starve s p)
  exact h

theorem mem_starve (s : State) (p : Point) : (s.starve p).mem = s.mem := by
  have h := congrArg State.mem (noInt_starve s p)
  exact h

section

variable (s : State) (t k o st p : Nat)

theorem flag_starve_bank : (s.starve (.bank t k)).flag .TILE_ERR_STATUS_STARVE t = true := by
  have hf : (s.setErr 0x0C tStarve t).flag .TILE_ERR_STATUS_STARVE t = true := flag_setErr s t rfl rfl
  unfold flag at hf ⊢
  rw [rd_starve _ _ _ _ (by decide), starved, bump, rd_wr_out _ _ _ _ _ _ (by decide) (by decide)]
  exact hf

theorem rd_starve_bank : (s.starve (.bank t k)).rd .TILE_STARVE_COUNT t =
    min (s.rd .TILE_STARVE_COUNT t + 1) (2 ^ Fd.TILE_STARVE_COUNT.width - 1) := by
  rw [rd_starve _ _ _ _ (by decide), starved, rd_bump_self, rd_setErr _ _ _ _ _ _ _ (by decide) (by decide)]

theorem flag_starve_memory : (s.starve (.memory st)).flag .MEM_ERR_STATUS_STARVE st = true := by
  have hf : (s.setErr 0x09 5 st).flag .MEM_ERR_STATUS_STARVE st = true := flag_setErr s st rfl rfl
  unfold flag at hf ⊢
  rw [rd_starve _ _ _ _ (by decide), starved]
  exact hf

theorem flag_starve_egress : (s.starve (.egress p)).flag .SLU_ERR_STATUS_STARVE p = true := by
  have hf : (s.setErr 0x0F 2 p).flag .SLU_ERR_STATUS_STARVE p = true := flag_setErr s p rfl rfl
  unfold flag at hf ⊢
  rw [rd_starve _ _ _ _ (by decide), starved, bump, rd_wr_out _ _ _ _ _ _ (by decide) (by decide)]
  exact hf

theorem rd_starve_egress : (s.starve (.egress p)).rd .SLU_STARVE_CNT_COUNT p =
    min (s.rd .SLU_STARVE_CNT_COUNT p + 1) (2 ^ 32 - 1) := by
  rw [rd_starve _ _ _ _ (by decide), starved, rd_bump_self, rd_setErr _ _ _ _ _ _ _ (by decide) (by decide)]
  rfl

/-- The fabric's flag is up already, and only the count moves. -/
theorem starved_fabric_again (h : s.flag .SLU_FAB_STARVE_FLAG = true) :
    s.starved (.fabric t o) = s.bump .SLU_FAB_STARVE_COUNT 0 0 1 := by
  have hf : (s.bump .SLU_FAB_STARVE_COUNT 0 0 1).flag .SLU_FAB_STARVE_FLAG = true := by
    unfold flag bump at *
    rwa [rd_wr_ne _ _ (by decide) (by decide)]
  exact if_pos hf

/-- The fabric's flag rises, and names the output and the tile. -/
theorem starved_fabric_first (h : s.flag .SLU_FAB_STARVE_FLAG = false) :
    s.starved (.fabric t o) = (((s.bump .SLU_FAB_STARVE_COUNT 0 0 1).wr .SLU_FAB_STARVE_FLAG 0 0 1).wr
      .SLU_FAB_STARVE_PORT 0 0 o).wr .SLU_FAB_STARVE_TILE 0 0 t := by
  have hf : (s.bump .SLU_FAB_STARVE_COUNT 0 0 1).flag .SLU_FAB_STARVE_FLAG = false := by
    unfold flag bump at *
    rwa [rd_wr_ne _ _ (by decide) (by decide)]
  exact if_neg (by rw [hf]; decide)

theorem flag_starve_fabric : (s.starve (.fabric t o)).flag .SLU_FAB_STARVE_FLAG = true := by
  unfold flag
  rw [rd_starve _ _ _ _ (by decide)]
  cases h : s.flag .SLU_FAB_STARVE_FLAG with
  | true =>
    rw [starved_fabric_again s t o h, bump, rd_wr_ne _ _ (by decide) (by decide)]
    exact h
  | false =>
    rw [starved_fabric_first s t o h, rd_wr_ne _ _ (by decide) (by decide), rd_wr_ne _ _ (by decide) (by decide), rd_wr_self]
    rfl

theorem rd_starve_fabric : (s.starve (.fabric t o)).rd .SLU_FAB_STARVE_COUNT =
    min (s.rd .SLU_FAB_STARVE_COUNT + 1) (2 ^ 32 - 1) := by
  rw [rd_starve _ _ _ _ (by decide)]
  cases h : s.flag .SLU_FAB_STARVE_FLAG with
  | true =>
    rw [starved_fabric_again s t o h, rd_bump_self]
    rfl
  | false =>
    rw [starved_fabric_first s t o h, rd_wr_ne _ _ (by decide) (by decide), rd_wr_ne _ _ (by decide) (by decide),
      rd_wr_ne _ _ (by decide) (by decide), rd_bump_self]
    rfl

theorem rd_starve_fabric_place (ho : o < 5) (h : s.flag .SLU_FAB_STARVE_FLAG = false) :
    (s.starve (.fabric t o)).rd .SLU_FAB_STARVE_PORT = o ∧
      (s.starve (.fabric t o)).rd .SLU_FAB_STARVE_TILE = t % 2 ^ Fd.SLU_FAB_STARVE_TILE.width := by
  rw [rd_starve _ _ _ _ (by decide), rd_starve _ _ _ _ (by decide), starved_fabric_first s t o h, rd_wr_self,
    rd_wr_ne _ _ (by decide) (by decide), rd_wr_self]
  exact ⟨Nat.mod_eq_of_lt (show o < 8 by omega), rfl⟩

end

/-! ### Flit times of a port with no holder -/

/-- The idle flit that a port sends (R279). -/
def idleFlit (s : State) (p : Nat) : WireFlit :=
  ⟨p, (plainFlit 2 ((s.link p).expSeq + 1023) []).1, (plainFlit 2 ((s.link p).expSeq + 1023) []).2⟩

section

variable {s : State} {p : Nat}

theorem flitTimes_off (hup : s.portUp p = false) (hd : s.portState p ≠ pDraining) (idle n : Nat) :
    s.flitTimes p idle n = s := by
  have hflit : s.flitTime p = s := by
    have hoff : (s.portUp p || s.portState p == pDraining) = false := by
      rw [hup, beq_eq_false_iff_ne.2 hd]
      rfl
    unfold flitTime
    rw [hoff]
    rfl
  induction n generalizing idle with
  | zero => rfl
  | succ n ih =>
    rw [flitTimes]
    split
    · exact ih _
    · rw [hflit]
      exact ih _

theorem flitTime_idle (hon : (s.portUp p || s.portState p == pDraining) = true) (hh : (s.link p).holder = none) :
    s.flitTime p = { s with wire := s.wire ++ [s.idleFlit p] } := by
  unfold flitTime
  rw [hon, hh]
  rfl

theorem flitTimes_idle (hon : (s.portUp p || s.portState p == pDraining) = true) (hh : (s.link p).holder = none)
    (idle n : Nat) :
    s.flitTimes p idle n = { s with wire := s.wire ++ List.replicate (n - min n idle) (s.idleFlit p) } := by
  induction n generalizing s idle with
  | zero => rw [flitTimes, Nat.zero_sub, List.replicate_zero, List.append_nil]
  | succ n ih =>
    rw [flitTimes, hh]
    by_cases hi : 0 < idle
    · have hcount : n + 1 - min (n + 1) idle = n - min n (idle - 1) := by omega
      rw [if_pos ⟨hi, rfl⟩, ih hon hh, hcount]
    · have hcount : n + 1 - min (n + 1) idle = (n - min n idle) + 1 := by omega
      rw [if_neg fun h => hi h.1, flitTime_idle hon hh,
        ih (s := { s with wire := s.wire ++ [s.idleFlit p] }) hon hh, hcount, List.replicate_succ]
      exact congrArg (fun w => { s with wire := w }) (List.append_assoc _ _ _)

/-! ### Tables exchanged -/

/-- One register of the active table and of the shadow table exchanged. -/
def swapAt (p : Nat) (s : State) (i : Nat) : State :=
  (s.wr .SLU_ACTIVE_SLOTS p i (s.rd .SLU_SHADOW_SLOTS p i)).wr .SLU_SHADOW_SLOTS p i (s.rd .SLU_ACTIVE_SLOTS p i)

theorem swapTables_eq (s : State) (p : Nat) : s.swapTables p = (List.range 8).foldl (swapAt p) s := rfl

theorem noRegs_swapTables (s : State) (p : Nat) : (s.swapTables p).noRegs = s.noRegs := by
  rw [swapTables_eq]
  exact foldl_keeps State.noRegs (fun u i => by rw [swapAt, noRegs_wr, noRegs_wr]) _ s

theorem rd_swapAt_self (i : Nat) : (swapAt p s i).rd .SLU_ACTIVE_SLOTS p i = s.rd .SLU_SHADOW_SLOTS p i % 2 ^ 32 ∧
    (swapAt p s i).rd .SLU_SHADOW_SLOTS p i = s.rd .SLU_ACTIVE_SLOTS p i % 2 ^ 32 := by
  unfold swapAt
  rw [rd_wr_self, rd_wr_out _ _ _ _ _ _ (by decide) (by decide), rd_wr_self]
  exact ⟨rfl, rfl⟩

theorem rd_swapAt_ne {f : Fd} {i j : Nat} (h : j ≠ i) : (swapAt p s i).rd f p j = s.rd f p j := by
  unfold swapAt
  rw [rd_wr_ne _ _ (fun _ => by decide) fun e => h e.2.2, rd_wr_ne _ _ (fun _ => by decide) fun e => h e.2.2]

theorem rd_foldl_swapAt_ne {f : Fd} {j : Nat} (l : List Nat) (s : State) (h : j ∉ l) :
    (l.foldl (swapAt p) s).rd f p j = s.rd f p j := by
  induction l generalizing s with
  | nil => rfl
  | cons i l ih =>
    rw [List.foldl_cons, ih _ fun hm => h (List.mem_cons_of_mem _ hm),
      rd_swapAt_ne fun e : j = i => h (e ▸ List.mem_cons_self)]

theorem rd_foldl_swapAt {j : Nat} {l : List Nat} (s : State) (hl : l.Nodup) (h : j ∈ l) :
    (l.foldl (swapAt p) s).rd .SLU_ACTIVE_SLOTS p j = s.rd .SLU_SHADOW_SLOTS p j % 2 ^ 32 ∧
      (l.foldl (swapAt p) s).rd .SLU_SHADOW_SLOTS p j = s.rd .SLU_ACTIVE_SLOTS p j % 2 ^ 32 := by
  induction l generalizing s with
  | nil => cases h
  | cons i l ih =>
    obtain ⟨hi, hl⟩ := List.nodup_cons.1 hl
    rw [List.foldl_cons]
    by_cases e : j = i
    · rw [e, rd_foldl_swapAt_ne _ _ hi, rd_foldl_swapAt_ne _ _ hi]
      exact rd_swapAt_self i
    · rw [← rd_swapAt_ne (p := p) (s := s) (f := .SLU_SHADOW_SLOTS) e, ← rd_swapAt_ne (p := p) (s := s) (f := .SLU_ACTIVE_SLOTS) e]
      exact ih _ hl ((List.mem_cons.1 h).resolve_left e)

/-- The exchange, once the commit is no longer pending. -/
theorem rd_swapTables (s : State) (p : Nat) {i : Nat} (h : i < 8) :
    ((s.swapTables p).wr .SLU_STATUS_COMMIT_PENDING p 0 0).rd .SLU_ACTIVE_SLOTS p i = s.rd .SLU_SHADOW_SLOTS p i % 2 ^ 32 ∧
      ((s.swapTables p).wr .SLU_STATUS_COMMIT_PENDING p 0 0).rd .SLU_SHADOW_SLOTS p i =
        s.rd .SLU_ACTIVE_SLOTS p i % 2 ^ 32 := by
  rw [rd_wr_out _ _ _ _ _ _ (by decide) (by decide), rd_wr_out _ _ _ _ _ _ (by decide) (by decide), swapTables_eq]
  exact rd_foldl_swapAt s List.nodup_range (List.mem_range.2 h)

theorem flag_wr_zero (s : State) (f : Fd) (i x : Nat) : (s.wr f i x 0).flag f i x = false := by
  unfold flag
  rw [rd_wr_self, Nat.zero_mod]
  rfl

/-! ### Slots -/

/-- The slot pointer moves on; at the wrap the port's MGMT group is due again and a pending commit takes effect. -/
def turnSlot (s : State) (p : Nat) : State :=
  let n := (s.rd .SLU_STATUS_SLOT p + 1) % 64
  let s := s.wr .SLU_STATUS_SLOT p 0 n
  if n = 0 then
    let s := s.wr .SLU_STATUS_MGMT_USED p 0 0
    if s.flag .SLU_STATUS_COMMIT_PENDING p then (s.swapTables p).wr .SLU_STATUS_COMMIT_PENDING p 0 0 else s
  else s

theorem advanceSlot_down (idle : Nat) (h : (s.flitTimes p idle 16).portUp p = false) :
    s.advanceSlot p idle = s.flitTimes p idle 16 := by
  unfold advanceSlot
  dsimp only
  rw [h]
  rfl

theorem advanceSlot_up (idle : Nat) (h : (s.flitTimes p idle 16).portUp p = true) :
    s.advanceSlot p idle = (((s.flitTimes p idle 16).endSlot p).turnSlot p).beginSlot p := by
  unfold advanceSlot
  dsimp only
  rw [h]
  rfl

theorem noRegs_turnSlot (s : State) (p : Nat) : (s.turnSlot p).noRegs = s.noRegs := by
  unfold turnSlot
  dsimp only
  split
  · split
    · rw [noRegs_wr, noRegs_swapTables, noRegs_wr, noRegs_wr]
    · rfl
  · rfl

theorem turnSlot_next (h : (s.rd .SLU_STATUS_SLOT p + 1) % 64 ≠ 0) :
    s.turnSlot p = s.wr .SLU_STATUS_SLOT p 0 ((s.rd .SLU_STATUS_SLOT p + 1) % 64) := if_neg h

/-- The wrap, but for the commit. -/
def wrapSlot (s : State) (p : Nat) : State := (s.wr .SLU_STATUS_SLOT p 0 0).wr .SLU_STATUS_MGMT_USED p 0 0

theorem turnSlot_wrap (h : (s.rd .SLU_STATUS_SLOT p + 1) % 64 = 0) :
    s.turnSlot p = if s.flag .SLU_STATUS_COMMIT_PENDING p then
      ((s.wrapSlot p).swapTables p).wr .SLU_STATUS_COMMIT_PENDING p 0 0 else s.wrapSlot p := by
  have hf : ((s.wr .SLU_STATUS_SLOT p 0 0).wr .SLU_STATUS_MGMT_USED p 0 0).flag .SLU_STATUS_COMMIT_PENDING p =
      s.flag .SLU_STATUS_COMMIT_PENDING p := by
    unfold flag
    rw [rd_wr_ne _ _ (by decide) (fun h => absurd h.1 (by decide)), rd_wr_ne _ _ (by decide) (fun h => absurd h.1 (by decide))]
  unfold turnSlot wrapSlot
  dsimp only
  rw [h, if_pos rfl, hf]

theorem puts_wrapSlot (s : State) (p : Nat) :
    puts s (s.wrapSlot p) [(.SLU_STATUS_SLOT, p, 0, 0), (.SLU_STATUS_MGMT_USED, p, 0, 0)] := by
  have h := puts_wr (puts_wr (puts_nil s) (f := .SLU_STATUS_SLOT) p 0 0 (by decide))
    (f := .SLU_STATUS_MGMT_USED) p 0 0 (by decide)
  exact puts_of_perm h (List.Perm.swap _ _ _)

theorem rd_wrapSlot (s : State) (p : Nat) {f : Fd} (i x : Nat) (h : f.spec.reg ≠ .SLU_STATUS) :
    (s.wrapSlot p).rd f i x = s.rd f i x := by
  unfold wrapSlot
  rw [rd_wr_out _ _ _ _ _ _ h (by decide), rd_wr_out _ _ _ _ _ _ h (by decide)]

/-! ### A slot ends and begins -/

theorem endSlot_free (h : (s.link p).holder = none) : s.endSlot p = s := by
  unfold endSlot
  dsimp only
  rw [h]
  exact if_neg fun hc => absurd hc.2.2.1 (by decide)

theorem requests_empty {l : Link} (h : l.queue = []) (c : Nat) : s.requests p l c = false := by
  have hn : nextUnit l c = none := by
    unfold nextUnit
    rw [h]
    rfl
  unfold requests
  rw [hn]

theorem mayHave_empty {l : Link} (h : l.queue = []) (c : Nat) : s.mayHave p l c = false := by
  unfold mayHave
  rw [requests_empty h]
  rfl

theorem decideGrant_empty {l : Link} (h : l.queue = []) : s.decideGrant p l none = none := by
  have hclaim : (l.claim.filter fun c => s.mayHave p l c) = none := by
    cases l.claim with
    | none => rfl
    | some c => simp [mayHave_empty h]
  have hfind : ((s.rankOrder p).find? fun c => s.requests p l c) = none :=
    List.find?_eq_none.2 fun c _ => by rw [requests_empty h]; decide
  unfold decideGrant
  dsimp only
  rw [hclaim]
  simp only [hfind, mayHave_empty h, Bool.false_eq_true, false_and, and_false, if_false]

theorem refuseClasses_free (h : (s.link p).holder = none) : s.refuseClasses p = s := by
  have hstep : ∀ c, (if s.requests p (s.link p) c ∧ (s.link p).holder.isSome ∧ (s.link p).holder ≠ some c ∧
      !s.backing (.egress p) c then s.refuse (.egress p) c else s) = s := by
    intro c
    rw [h]
    exact if_neg fun hc => absurd hc.2.1 (by decide)
  unfold refuseClasses
  generalize List.range 6 = l
  induction l with
  | nil => rfl
  | cons c l ih =>
    rw [List.foldl_cons]
    dsimp only
    rw [hstep c]
    exact ih

theorem pump_empty (hq : (s.link p).queue = []) (hh : (s.link p).holder = none) : s.pump p = s := by
  unfold pump
  rw [hh, decideGrant_empty hq]
  exact refuseClasses_free hh

theorem beginSlot_empty (hq : (s.link p).queue = []) (hh : (s.link p).holder = none) :
    s.beginSlot p = s.setLink p { s.link p with served := false } := by
  have hl : (s.setLink p { s.link p with served := false }).link p = { s.link p with served := false } := by
    rw [link_setLink, if_pos rfl]
  unfold beginSlot
  dsimp only
  rw [if_neg fun hc => absurd hc.2 (by rw [hh]; decide)]
  exact pump_empty (by rw [hl]; exact hq) (by rw [hl]; exact hh)

/-- A holder keeps the grant, and a claim stays, where a slot begins. -/
theorem link_beginSlot_held (hh : (s.link p).holder.isSome = true) :
    (s.beginSlot p).link p = { s.link p with served := false } := by
  have hl : (s.setLink p { s.link p with served := false }).link p = { s.link p with served := false } := by
    rw [link_setLink, if_pos rfl]
  unfold beginSlot
  dsimp only
  split
  · exact hl
  · obtain ⟨bs, hbs⟩ := refuseClasses_eq (s.setLink p { s.link p with served := false }) p
    rw [pump_holder (by rw [hl]; exact hh), hbs]
    exact hl

theorem exec_slotAdvance (hp : p < 32) (idle : Nat) : exec (.slotAdvance ⟨p, idle⟩) s = answer s (s.advanceSlot p idle) :=
  answerIf_true (decide_eq_true hp)

/-- The state after the idle flits of a slot. -/
def idled (s : State) (p idle : Nat) : State :=
  { s with wire := s.wire ++ List.replicate (16 - min 16 idle) (s.idleFlit p) }

theorem slotAdvance_off (hp : p < 32) (idle : Nat) (hup : s.portUp p = false) (hd : s.portState p ≠ pDraining) :
    exec (.slotAdvance ⟨p, idle⟩) s = .next s := by
  have hflits := flitTimes_off hup hd idle 16
  have hadv : s.advanceSlot p idle = s := by
    rw [advanceSlot_down idle (by rw [hflits]; exact hup), hflits]
  rw [exec_slotAdvance hp, hadv]
  exact answer_self s

theorem slotAdvance_draining (hp : p < 32) (idle : Nat) (hup : s.portUp p = false) (hd : s.portState p = pDraining)
    (hh : (s.link p).holder = none) : exec (.slotAdvance ⟨p, idle⟩) s = .next (s.idled p idle) := by
  have hon : (s.portUp p || s.portState p == pDraining) = true := by
    rw [hd, beq_self_eq_true, Bool.or_true]
  have hflits := flitTimes_idle hon hh idle 16
  have hadv : s.advanceSlot p idle = s.idled p idle := by
    rw [advanceSlot_down idle (by rw [hflits]; exact hup), hflits]
    rfl
  rw [exec_slotAdvance hp, hadv]
  exact answer_eq rfl rfl

/-- What a slot that passes on an UP port with nothing to send comes to: the registers are those of the slot pointer's move. -/
theorem slotAdvance_empty (hp : p < 32) (idle : Nat) (hup : s.portUp p = true) (hq : (s.link p).queue = [])
    (hh : (s.link p).holder = none) :
    ∃ u, exec (.slotAdvance ⟨p, idle⟩) s = .next u ∧
      (∀ f i x, u.rd f i x = ((s.idled p idle).turnSlot p).rd f i x) ∧
      { u with links := s.links, wire := s.wire }.noRegs = s.noRegs ∧ u.wire = (s.idled p idle).wire ∧
      ∀ q, u.link q = if q = p then { s.link p with served := false } else s.link q := by
  have hon : (s.portUp p || s.portState p == pDraining) = true := by
    rw [hup, Bool.true_or]
  have hflits : s.flitTimes p idle 16 = s.idled p idle := flitTimes_idle hon hh idle 16
  have hadv : s.advanceSlot p idle = ((s.idled p idle).turnSlot p).beginSlot p := by
    rw [advanceSlot_up idle (by rw [hflits]; exact hup), hflits, endSlot_free (s := s.idled p idle) hh]
  have hrest := noRegs_turnSlot (s.idled p idle) p
  rw [exec_slotAdvance hp, hadv]
  generalize (s.idled p idle).turnSlot p = v at hrest
  have hlink : ∀ q, v.link q = s.link q := by
    have hlinks := congrArg State.links hrest
    have hlinks : v.links = s.links := hlinks
    intro q
    unfold link
    rw [hlinks]
  have hwire := congrArg State.wire hrest
  have hkeep := congrArg (fun w : State => { w with links := s.links, wire := s.wire }) hrest
  have hpend := congrArg State.pending hrest
  have hfuses := congrArg State.fuses hrest
  rw [beginSlot_empty (by rw [hlink]; exact hq) (by rw [hlink]; exact hh)]
  refine ⟨_, answer_eq hpend hfuses, fun f i x => rfl, hkeep, hwire, fun q => ?_⟩
  rw [link_setLink, hlink, hlink]

/-- The owner of a slot that requests and has not had the grant in it keeps a claim, and the holder the grant (R311). -/
theorem slotAdvance_claims {h : Nat} (hp : p < 32) (idle : Nat) {v : State} (hv : s.flitTimes p idle 16 = v)
    (hup : v.portUp p = true) (hclaim : (v.link p).claim = none) (hserved : (v.link p).served = false)
    (hh : (v.link p).holder = some h) (hne : h ≠ v.slotOwner p (v.rd .SLU_STATUS_SLOT p))
    (hown : v.slotOwner p (v.rd .SLU_STATUS_SLOT p) < 6)
    (hmay : v.mayHave p (v.link p) (v.slotOwner p (v.rd .SLU_STATUS_SLOT p)) = true) :
    ∃ u, exec (.slotAdvance ⟨p, idle⟩) s = .next u ∧
      (u.link p).claim = some (v.slotOwner p (v.rd .SLU_STATUS_SLOT p)) ∧ (u.link p).holder = some h := by
  have hend : v.endSlot p = v.setLink p { v.link p with claim := some (v.slotOwner p (v.rd .SLU_STATUS_SLOT p)) } := by
    unfold endSlot
    refine if_pos ⟨by rw [hclaim]; rfl, by rw [hserved]; rfl, by rw [hh]; rfl, ?_, hown, hmay⟩
    rw [hh]
    exact fun e => hne (by injection e)
  have hadv : s.advanceSlot p idle = ((v.endSlot p).turnSlot p).beginSlot p := by
    rw [advanceSlot_up idle (by rw [hv]; exact hup), hv]
  have hlink : ((v.endSlot p).turnSlot p).link p =
      { v.link p with claim := some (v.slotOwner p (v.rd .SLU_STATUS_SLOT p)) } := by
    have hlinks := congrArg State.links (noRegs_turnSlot (v.endSlot p) p)
    have hlinks : ((v.endSlot p).turnSlot p).links = (v.endSlot p).links := hlinks
    unfold link at *
    rw [hlinks, hend]
    exact (link_setLink v p _ p).trans (if_pos rfl)
  have hbegin := link_beginSlot_held (s := (v.endSlot p).turnSlot p) (p := p) (by rw [hlink, hh]; rfl)
  rw [hlink] at hbegin
  refine ⟨_, exec_slotAdvance hp idle, ?_, ?_⟩
  · rw [hadv]
    exact congrArg Link.claim hbegin
  · rw [hadv]
    exact (congrArg Link.holder hbegin).trans hh

end

/-! ### Writes of the tables -/

section

variable {s : State} {src : Source} {p : Nat}

theorem exec_commit (h : takes s src ⟨.SLU_CTRL, p, 0⟩ (withField s ⟨.SLU_CTRL, p, 0⟩ .SLU_CTRL_COMMIT 1)) :
    exec (.commit src p) s = answer s (s.commitTable p) := by
  have hv : s.heldValue ⟨.SLU_CTRL, p, 0⟩ = 0 := rfl
  have hcommit : fv .SLU_CTRL_COMMIT (withField s ⟨.SLU_CTRL, p, 0⟩ .SLU_CTRL_COMMIT 1) = 1 := by
    unfold withField
    rw [hv]
    decide
  have heff : ∀ v, s.effect src ⟨.SLU_CTRL, p, 0⟩ v = if fv .SLU_CTRL_COMMIT v = 1 then s.commitTable p else s :=
    fun _ => rfl
  refine (answerIf_writeWhole h).trans ?_
  rw [heff, if_pos hcommit]

/-- The value of a slot of a port's shadow table. -/
def shadowSlot (s : State) (p n : Nat) : Nat := bits (s.rd .SLU_SHADOW_SLOTS p (n / 8)) (4 * (n % 8) + 3) (4 * (n % 8))

/-- Does a slot of a port's shadow table hold what R315 refuses? -/
def Refused (s : State) (p n : Nat) : Prop :=
  s.shadowSlot p n = 6 ∨ 8 ≤ s.shadowSlot p n ∨ (s.shadowSlot p n = 5 ∧ ∃ m < n, s.shadowSlot p m = 5)

theorem refused_iff (n : Nat) : Refused s p n ↔
    (s.shadowSlot p n == 6 || decide (8 ≤ s.shadowSlot p n) ||
      (s.shadowSlot p n == 5 && (List.range n).any fun m => s.shadowSlot p m == 5)) = true := by
  simp only [Refused, Bool.or_eq_true, Bool.and_eq_true, beq_iff_eq, decide_eq_true_eq, List.any_eq_true, List.mem_range,
    or_assoc]

theorem badSlot_some {n : Nat} (hn : n < 64) (hbad : Refused s p n) (hfirst : ∀ m < n, ¬Refused s p m) :
    s.badSlot p = some n := by
  refine List.find?_range_eq_some.2 ⟨(refused_iff n).1 hbad, List.mem_range.2 hn, fun m hm => ?_⟩
  exact (Bool.not_eq_true' _).mpr (Bool.eq_false_iff.2 fun h => hfirst m hm ((refused_iff m).2 h))

theorem badSlot_none (h : ∀ n < 64, ¬Refused s p n) : s.badSlot p = none :=
  List.find?_eq_none.2 fun n hn hb => h n (List.mem_range.1 hn) ((refused_iff n).2 hb)

theorem commitTable_refused {n : Nat} (h : s.badSlot p = some n) : s.commitTable p = s.report
    { cls := 0x0F, index := 0, inst := p, void := false, objKind := 8, obj := p, d5 := p, d6 := n } := by
  unfold commitTable
  rw [h]

theorem commitTable_pends (h : s.badSlot p = none) (hup : s.portUp p = true) :
    s.commitTable p = s.wr .SLU_STATUS_COMMIT_PENDING p 0 1 := by
  unfold commitTable
  rw [h, hup]
  rfl

theorem commitTable_swaps (h : s.badSlot p = none) (hup : s.portUp p = false) :
    s.commitTable p = (s.swapTables p).wr .SLU_STATUS_COMMIT_PENDING p 0 0 := by
  unfold commitTable
  rw [h, hup]
  rfl

theorem exec_sluRankWrite {v : Nat} (h : takes s src ⟨.SLU_RANK, p, 0⟩ v) :
    exec (.sluRankWrite src p v) s = answer s (s.wr .SLU_RANK_ORDER p 0 (fv .SLU_RANK_ORDER v)) := by
  refine (answerIf_writeWhole h).trans ?_
  have hp : s.plainWrite ⟨.SLU_RANK, p, 0⟩ v = s.wr .SLU_RANK_ORDER p 0 (fv .SLU_RANK_ORDER v) := rfl
  have he : s.effect src ⟨.SLU_RANK, p, 0⟩ v =
      if src = .lighthouse then (s.lighthouseWrite ⟨.SLU_RANK, p, 0⟩ v).getD (s.plainWrite ⟨.SLU_RANK, p, 0⟩ v)
      else s.plainWrite ⟨.SLU_RANK, p, 0⟩ v := rfl
  rw [he, ← hp]
  split <;> rfl

theorem rankOk_names {v c : Nat} (h : rankOk v = true) (hc : c < 5) : ∃ i < 5, bits v (3 * i + 2) (3 * i) = c := by
  obtain ⟨i, hi, he⟩ := List.any_eq_true.1 (List.all_eq_true.1 h c (List.mem_range.2 hc))
  exact ⟨i, List.mem_range.1 hi, eq_of_beq he⟩

theorem exec_sluShadowWrite {i v : Nat} (h : takes s src ⟨.SLU_SHADOW, p, i⟩ v) :
    exec (.sluShadowWrite src p i v) s = answer s (s.writeShadow p i v) := answerIf_writeWhole h

theorem writeShadow_free {i v : Nat} (h : s.flag .SLU_STATUS_COMMIT_PENDING p = false) :
    s.writeShadow p i v = s.wr .SLU_SHADOW_SLOTS p i v := if_neg (by rw [h]; decide)

theorem writeShadow_pending {i v : Nat} (h : s.flag .SLU_STATUS_COMMIT_PENDING p = true) :
    s.writeShadow p i v = s.setErr 0x0F 1 p := if_pos h

end

end Sys2Proof.Machine.State

namespace Sys2Proof

open Machine Machine.State Claims

theorem tables : Claims.Tables := by
  unfold Claims.Tables
  refine ⟨fun s => ⟨fun t ht k hk => ?_, fun t ht o ho => ?_, fun st hst => ?_, fun p hp => ?_⟩, fun s p idle hp => ?_,
    fun s src p => ⟨fun h => ?_, fun v h => ?_, fun i v h => ?_⟩⟩
  · exact ⟨_, exec_arbStarvation (decide_eq_true ⟨ht, hk⟩), flag_starve_bank s t k, rd_starve_bank s t k, errSeq_starve s _⟩
  · exact ⟨_, exec_arbStarvation (decide_eq_true ⟨ht, ho⟩), flag_starve_fabric s t o, rd_starve_fabric s t o,
      errSeq_starve s _, rd_starve_fabric_place s t o ho⟩
  · exact ⟨_, exec_arbStarvation (decide_eq_true hst), flag_starve_memory s st, errSeq_starve s _, mem_starve s _⟩
  · exact ⟨_, exec_arbStarvation (decide_eq_true hp), flag_starve_egress s p, rd_starve_egress s p, errSeq_starve s _⟩
  · refine ⟨slotAdvance_off hp idle, slotAdvance_draining hp idle, fun hup hq hh => ?_, fun h => ?_⟩
    · intro n rest
      obtain ⟨u, hu, hrd, hrest⟩ := slotAdvance_empty hp idle hup hq hh
      refine ⟨fun hn => ⟨u, hu, puts_of_rd ?_ hrd, hrest⟩, fun hn hc => ⟨u, hu, puts_of_rd ?_ hrd, hrest⟩,
        fun hn hc => ⟨u, hu, ?_, hrest, fun i hi => ?_⟩⟩
      · rw [turnSlot_next (s := s.idled p idle) hn]
        exact puts_wr (puts_nil (s.idled p idle)) (f := .SLU_STATUS_SLOT) p 0 n (by decide)
      · rw [turnSlot_wrap (s := s.idled p idle) hn, if_neg (by rw [Bool.not_eq_true]; exact hc)]
        exact puts_wrapSlot (s.idled p idle) p
      · unfold flag
        rw [hrd, turnSlot_wrap (s := s.idled p idle) hn, if_pos (show (s.idled p idle).flag _ p = true from hc)]
        exact flag_wr_zero _ _ _ _
      · have hswap := rd_swapTables ((s.idled p idle).wrapSlot p) p hi
        rw [rd_wrapSlot _ _ _ _ (by decide), rd_wrapSlot _ _ _ _ (by decide)] at hswap
        rw [hrd, hrd, turnSlot_wrap (s := s.idled p idle) hn, if_pos (show (s.idled p idle).flag _ p = true from hc)]
        exact hswap
    · intro v owner
      exact slotAdvance_claims hp idle rfl
  · intro slot bad
    rw [exec_commit h]
    refine ⟨fun n hn hbad hfirst => ?_, fun hgood hup => ?_, fun hgood hup => ?_⟩
    · rw [commitTable_refused (badSlot_some hn hbad hfirst)]
      exact next_of_noHalt (noHalt_of_noRec (noRec_report _ _))
    · rw [commitTable_pends (badSlot_none hgood) hup]
      exact ⟨_, next_of_noRegs rfl, puts_wr (puts_nil s) _ _ _ (by decide), rfl⟩
    · rw [commitTable_swaps (badSlot_none hgood) hup]
      have hrest : ((s.swapTables p).wr .SLU_STATUS_COMMIT_PENDING p 0 0).noRegs = s.noRegs :=
        (noRegs_wr _ _ _ _ _).trans (noRegs_swapTables s p)
      exact ⟨_, next_of_noRegs hrest, hrest, flag_wr_zero _ _ _ _, fun i hi => rd_swapTables s p hi⟩
  · rw [exec_sluRankWrite h]
    have hok : rankOk (fv .SLU_RANK_ORDER v) = true := by
      obtain ⟨-, -, -, -, -, -, -, hres⟩ := h
      exact (Bool.not_eq_false' _).mp hres
    exact ⟨_, next_of_noRegs rfl, ⟨puts_wr (puts_nil s) _ _ _ (by decide), rfl⟩, fun c hc => rankOk_names hok hc⟩
  · rw [exec_sluShadowWrite h]
    refine ⟨fun hc => ?_, fun hc => ?_⟩
    · rw [writeShadow_free hc]
      exact ⟨_, next_of_noRegs rfl, puts_wr (puts_nil s) _ _ _ (by decide), rfl⟩
    · rw [writeShadow_pending hc]
      have hn := noInt_setErr s 0x0F 1 p
      exact ⟨_, next_of_noHalt (noHalt_of_noRec (noRec_of_noInt hn)), flag_setErr s p rfl rfl,
        rd_setErr s _ _ _ _ _ _ (by decide) (by decide), hn⟩

/-- Settles O33: the grants and refusals of a point, and the starvation, slots and tables of the ports. -/
theorem arbitrationAndTables : Obligations.ArbitrationAndTables := ⟨arbitration, tables⟩

end Sys2Proof

/-! SUPPORT. The waits that end when one waiter leaves a counter, and the head of the array's queue: what they leave alone, and who
waits afterwards (R138, R139, R146, R148, R210). -/
namespace Sys2Proof.Machine.State

open Sys2Proof.Claims

/-- Without what serving the waiters of a counter changes: registers, contexts, arrays, waiters, and the count of free values. -/
def noServe (s : State) : State := { s with regs := [], ctxs := [], arrays := [], waiters := [], fresh := 0 }

namespace Keeps

variable {part : State → State} {fs gs : Fd → Prop} {s u v : State}

theorem mono (h : Keeps part fs s u) (hg : ∀ f, fs f → gs f) : Keeps part gs s u :=
  ⟨h.rest, fun f i x hf => h.rd f i x fun e => hf (hg f e)⟩

theorem ite {p : Prop} [Decidable p] (hu : Keeps part fs s u) (hv : Keeps part fs s v) :
    Keeps part fs s (if p then u else v) := by
  split
  · exact hu
  · exact hv

end Keeps

/-! ### The cycles of the array (R145, R150) -/

/-- The registers that count frozen cycles, and those that count the cycles of passes and waits. -/
def stallRegs : List Reg := [.ARR_STALL_A, .ARR_STALL_B]
def cycleRegs : List Reg := [.ARR_WAITING, .ARR_ACTIVE, .ARR_GATED] ++ stallRegs

theorem keeps_countCycles {fs : Fd → Prop} (s : State) {f : Fd} (t site : Nat) (hf : fs f) (hr : f ≠ .GLB_TILE_RANK_ORDER) :
    Keeps noServe fs s (s.countCycles f t site) := by
  have hdraw : Keeps noServe fs s s.draw.2 := .of_rd rfl fun _ _ _ => rfl
  exact hdraw.trans (Keeps.wr t 0 _ rfl hf hr)

theorem keeps_countFreeze (s : State) (t : Nat) : Keeps noServe (fun f => f.spec.reg ∈ stallRegs) s (s.countFreeze t) := by
  have hdraw : Keeps noServe (fun f => f.spec.reg ∈ stallRegs) s s.draw.2 := .of_rd rfl fun _ _ _ => rfl
  refine hdraw.trans (keeps_countCycles _ t 24 ?_ ?_) <;> split <;> decide

theorem keeps_countPass (s : State) (t : Nat) : Keeps noServe (fun f => f.spec.reg ∈ cycleRegs) s (s.countPass t) := by
  have hc : ∀ (u : State) (p : Prop) [Decidable p] (f : Fd) (site : Nat), f.spec.reg ∈ cycleRegs →
      Keeps noServe (fun f => f.spec.reg ∈ cycleRegs) u (if p then u.countCycles f t site else u) :=
    fun u p _ f site hf => .ite (keeps_countCycles u t site hf fun e => absurd (e ▸ hf) (by decide)) (.refl u)
  exact (((hc s _ _ 22 (by decide)).trans (hc _ _ _ 21 (by decide))).trans (hc _ _ _ 25 (by decide))).trans
    (.ite ((keeps_countFreeze _ t).mono fun _ => List.mem_append_right _) (.refl _))

/-! ### Waiters served (R207, R210) -/

/-- The registers that serving waiters may change: the counter's own, and those that count the array's cycles. -/
def serveRegs : List Reg := [.SIG_CNT, .SIG_CNT_TAKEN] ++ cycleRegs

/-- `u` differs from `s` in what serving waiters changes alone. -/
abbrev Serves : State → State → Prop := Keeps noServe fun f => f.spec.reg ∈ serveRegs

namespace Serves

variable {s u : State}

theorem setArray (s : State) (t : Nat) (m : MatArray) : Serves s (s.setArray t m) := .of_rd rfl (rd_setArray s t m)

theorem setCtx (s : State) (t c : Nat) (y : Ctx) : Serves s (s.setCtx t c y) := .of_rd rfl (rd_setCtx s t c y)

theorem setWaiters (s : State) (t n : Nat) (ws : List Waiter) : Serves s (s.setWaiters t n ws) :=
  .of_rd rfl (rd_setWaiters s t n ws)

theorem countPass (s : State) (t : Nat) : Serves s (s.countPass t) :=
  (keeps_countPass s t).mono fun _ => List.mem_append_right _

theorem endWait (s : State) (t who result : Nat) : Serves s (s.endWait t who result) := by
  unfold State.endWait
  dsimp only
  split
  · split
    · exact setCtx s t who _
    · exact .refl s
  · exact (countPass s t).trans (setArray _ t _)

theorem cntTake (s : State) (t n a : Nat) : Serves s (s.cntTake t n a) :=
  (Keeps.wr t n _ rfl (by decide) (by decide)).trans (Keeps.wr t n _ rfl (by decide) (by decide))

theorem serveFrom (s : State) (t n : Nat) (ws : List Waiter) : Serves s (s.serveFrom t n ws) := by
  induction ws generalizing s with
  | nil => exact setWaiters s t n []
  | cons w ws ih =>
    rw [State.serveFrom]
    exact .ite (((cntTake s t n w.amount).trans (endWait _ t w.who 0)).trans (ih _)) (setWaiters s t n _)

theorem leaveCounter (s : State) (t n who : Nat) : Serves s (s.leaveCounter t n who) :=
  .ite ((setWaiters s t n _).trans (serveFrom _ t n _)) (.refl s)

theorem endArrayWait (s : State) (t : Nat) : Serves s (s.endArrayWait t) :=
  .foldl (fun u n => leaveCounter u t n 4) _ s

theorem beginArrayWait (s : State) (t n amount : Nat) : Serves s (s.beginArrayWait t n amount) :=
  ((setArray s t _).trans (setWaiters _ t n _)).trans (serveFrom _ t n _)

/-! Engines, memory, queue and fuses are as before. -/

theorem engine (h : Serves s u) (t e : Nat) : u.engine t e = s.engine t e :=
  engine_of_engines (by have h := congrArg State.engines h.rest; exact h) t e

theorem mem (h : Serves s u) : u.mem = s.mem := by have h := congrArg State.mem h.rest; exact h

theorem pending (h : Serves s u) : u.pending = s.pending := by have h := congrArg State.pending h.rest; exact h

theorem fuses (h : Serves s u) : u.fuses = s.fuses := by have h := congrArg State.fuses h.rest; exact h

theorem flights (h : Serves s u) : u.flights = s.flights := by have h := congrArg State.flights h.rest; exact h

theorem noPass (h : Serves s u) : u.noPass = s.noPass := congrArg (fun v : State => { v with engines := [] }) h.rest

end Serves

section

variable {s u : State}

theorem next_of_noServe (h : u.noServe = s.noServe) : answer s u = .next u :=
  answer_eq (by have h := congrArg State.pending h; exact h) (by have h := congrArg State.fuses h; exact h)

/-- The frame in the words of the statements. -/
theorem noWait_of_noServe (h : u.noServe = s.noServe) : ({ u with fresh := s.fresh } : State).noWait = s.noWait := by
  have h := congrArg (fun v : State => ({ v with fresh := s.fresh } : State).noWait) h
  exact h

end

theorem waiters_countPass (s : State) (t : Nat) : (s.countPass t).waiters = s.waiters := by
  unfold countPass
  dsimp only
  split_ifs <;> rfl

theorem waiters_endWait (s : State) (t who result : Nat) : (s.endWait t who result).waiters = s.waiters := by
  unfold endWait
  dsimp only
  split
  · split <;> rfl
  · exact waiters_countPass s t

theorem waitersOn_of_waiters {s u : State} (h : u.waiters = s.waiters) (t n : Nat) : u.waitersOn t n = s.waitersOn t n := by
  unfold waitersOn
  rw [h]

/-- Those that still wait are the last of those that waited (R210). -/
theorem waitersOn_serveFrom (s : State) (t n : Nat) (ws : List Waiter) : (s.serveFrom t n ws).waitersOn t n <:+ ws := by
  induction ws generalizing s with
  | nil => rw [serveFrom, waitersOn_setWaiters, if_pos ⟨rfl, rfl⟩]
  | cons w ws ih =>
    rw [serveFrom]
    split
    · exact (ih _).trans (List.suffix_cons w ws)
    · rw [waitersOn_setWaiters, if_pos ⟨rfl, rfl⟩]

theorem waitersOn_serveFrom_ne (s : State) (t n : Nat) (ws : List Waiter) {k : Nat} (h : k ≠ n) :
    (s.serveFrom t n ws).waitersOn t k = s.waitersOn t k := by
  have hset : ∀ (u : State) (vs : List Waiter), (u.setWaiters t n vs).waitersOn t k = u.waitersOn t k := fun u vs => by
    rw [waitersOn_setWaiters, if_neg fun e => h e.2]
  induction ws generalizing s with
  | nil => exact hset s []
  | cons w ws ih =>
    rw [serveFrom]
    split
    · rw [ih]
      exact waitersOn_of_waiters (waiters_endWait _ t w.who 0) t k
    · exact hset s _

/-- `who` does not wait on counter `n` of tile `t`. -/
def waitsNot (s : State) (t n who : Nat) : Prop := ∀ w ∈ s.waitersOn t n, w.who ≠ who

theorem waitsNot_leaveCounter (s : State) (t n who : Nat) : (s.leaveCounter t n who).waitsNot t n who := by
  unfold leaveCounter
  split
  · intro w hw
    have hm := (waitersOn_serveFrom _ t n _).subset hw
    rw [waitersOn_setWaiters, if_pos ⟨rfl, rfl⟩] at hm
    simpa using (List.mem_filter.1 hm).2
  · rename_i h
    intro w hw he
    exact h (List.any_eq_true.2 ⟨w, hw, by simpa using he⟩)

theorem waitsNot_leaveCounter_of {s : State} {t n who : Nat} (m : Nat) (h : s.waitsNot t n who) :
    (s.leaveCounter t m who).waitsNot t n who := by
  by_cases hm : n = m
  · exact hm ▸ waitsNot_leaveCounter s t n who
  · have he : (s.leaveCounter t m who).waitersOn t n = s.waitersOn t n := by
      unfold leaveCounter
      split
      · exact (waitersOn_serveFrom_ne _ t m _ hm).trans (by rw [waitersOn_setWaiters, if_neg fun e => hm e.2])
      · rfl
    unfold waitsNot
    rw [he]
    exact h

/-- Once it has left every counter of a list, it waits on none of them. -/
theorem waitsNot_leaveCounters {t n who : Nat} (l : List Nat) (s : State) (h : n ∈ l ∨ s.waitsNot t n who) :
    (l.foldl (fun u m => u.leaveCounter t m who) s).waitsNot t n who := by
  induction l generalizing s with
  | nil => exact h.resolve_left (by simp)
  | cons m l ih =>
    rw [List.foldl_cons]
    refine ih _ ?_
    rcases h with h | h
    · rcases List.mem_cons.1 h with rfl | h
      · exact .inr (waitsNot_leaveCounter s t n who)
      · exact .inl h
    · exact .inr (waitsNot_leaveCounter_of m h)

theorem waitsNot_endArrayWait (s : State) (t : Nat) {n : Nat} (hn : n < 64) : (s.endArrayWait t).waitsNot t n 4 :=
  waitsNot_leaveCounters _ s (.inl (List.mem_range.2 hn))

/-! ### The head of the array's queue -/

/-- A pass at the head of the queue ends there with an error, or waits, or starts, or nothing happens (R137 to R139). -/
theorem headPass_cases (s : State) (t : Nat) :
    (∃ code detail addr, s.headPass t = s.endDesc t eArray code detail addr []) ∨ Serves s (s.headPass t) := by
  unfold headPass
  dsimp only
  split
  · exact .inr (.refl s)
  · split
    · exact .inr (.refl s)
    · split
      · exact .inl ⟨_, _, _, rfl⟩
      · split
        · exact .inl ⟨_, _, _, rfl⟩
        · exact .inr (.ite (.refl s) (.ite (Serves.beginArrayWait s t _ _) (Serves.setArray s t _)))

theorem rd_headPass (s : State) (t : Nat) {f : Fd} (i x : Nat) (hf : f.spec.reg ∉ serveRegs) :
    (s.headPass t).rd f i x = s.rd f i x := by
  rcases headPass_cases s t with ⟨code, detail, addr, h⟩ | h
  · rw [h]
    exact rd_setEngine s t eArray _ f i x
  · exact h.rd f i x hf

/-- Of the engine it changes whether its head has ended. -/
theorem engine_headPass (s : State) (t : Nat) : ∃ done, (s.headPass t).engine t eArray = { s.engine t eArray with done := done } := by
  rcases headPass_cases s t with ⟨code, detail, addr, h⟩ | h
  · exact ⟨_, (congrArg (fun u : State => u.engine t eArray) h).trans (engine_setEngine_self s t eArray _)⟩
  · exact ⟨_, h.engine t eArray⟩

theorem completed_headPass (s : State) (t : Nat) :
    ((s.headPass t).engine t eArray).completed = (s.engine t eArray).completed := by
  obtain ⟨done, h⟩ := engine_headPass s t
  rw [h]

theorem headPass_empty {s : State} {t : Nat} (h : (s.engine t eArray).queue = []) : s.headPass t = s := by
  have hr : s.headReady t eArray = none := by
    unfold headReady
    dsimp only
    rw [h]
    split <;> rfl
  unfold headPass
  dsimp only
  rw [hr]

end Sys2Proof.Machine.State

/-! SUPPORT. ARR_CTRL: what a write of STOP or ABORT comes to, and what either leaves alone (R146, R148). -/
namespace Sys2Proof.Machine.State

open Sys2Proof.Claims

/-! ### ARR_CTRL -/

section

variable {s : State} {src : Source} {t v : Nat}

/-- STOP is the one bit that ARR_CTRL holds. -/
theorem heldValue_arrCtrl (h : t < s.nTiles) : s.heldValue ⟨.ARR_CTRL, t, 0⟩ = s.rd .ARR_CTRL_STOP t % 2 := by
  have hi : s.hasInst .ARR t = true := decide_eq_true h
  have hview : s.view .ARR_CTRL_STOP t 0 = s.rd .ARR_CTRL_STOP t := by
    show (if (!s.hasInst .ARR t) = true ∨ Access.rw = .wo then 0 else s.rd .ARR_CTRL_STOP t) = _
    rw [hi]
    rfl
  have hv : s.heldValue ⟨.ARR_CTRL, t, 0⟩ = 0 + s.view .ARR_CTRL_STOP t 0 % 2 ^ 1 * 2 ^ 0 := rfl
  rw [hv, hview]
  omega

theorem tile_of_takes {i x : Nat} (h : takes s src ⟨.ARR_CTRL, i, x⟩ v) : i < s.nTiles := of_decide_eq_true h.2.2.2.1

theorem withField_stop (h : t < s.nTiles) (on : Bool) : withField s ⟨.ARR_CTRL, t, 0⟩ .ARR_CTRL_STOP (b2n on) = b2n on := by
  show withBits (s.heldValue ⟨.ARR_CTRL, t, 0⟩) 0 0 (b2n on) = _
  rw [heldValue_arrCtrl h]
  unfold withBits
  cases on <;> simp [b2n]

theorem withField_abort (h : t < s.nTiles) :
    withField s ⟨.ARR_CTRL, t, 0⟩ .ARR_CTRL_ABORT 1 = s.rd .ARR_CTRL_STOP t % 2 + 2 := by
  show withBits (s.heldValue ⟨.ARR_CTRL, t, 0⟩) 1 1 1 = _
  rw [heldValue_arrCtrl h]
  unfold withBits
  omega

/-- A write of STOP that leaves ABORT out. -/
theorem writeArrCtrl_stop (on : Bool) : s.writeArrCtrl t (b2n on) =
    if on = s.flag .ARR_CTRL_STOP t then s else if on then s.stopArray t else s.unstopArray t := by
  have hstop : (fv .ARR_CTRL_STOP (b2n on) == 1) = on := by cases on <;> rfl
  have habort : ¬fv .ARR_CTRL_ABORT (b2n on) = 1 := by cases on <;> decide
  unfold writeArrCtrl
  rw [hstop]
  dsimp only
  rw [if_neg habort]

/-- A write of ABORT with STOP as it is. -/
theorem writeArrCtrl_abort (h : s.rd .ARR_CTRL_STOP t ≤ 1) :
    s.writeArrCtrl t (s.rd .ARR_CTRL_STOP t % 2 + 2) = s.abortArray t := by
  have hstop : (fv .ARR_CTRL_STOP (s.rd .ARR_CTRL_STOP t % 2 + 2) == 1) = s.flag .ARR_CTRL_STOP t := by
    unfold flag
    generalize s.rd .ARR_CTRL_STOP t = r at h
    obtain rfl | rfl : r = 0 ∨ r = 1 := by omega
    all_goals rfl
  have habort : fv .ARR_CTRL_ABORT (s.rd .ARR_CTRL_STOP t % 2 + 2) = 1 := by
    show (s.rd .ARR_CTRL_STOP t % 2 + 2) / 2 % 2 = 1
    omega
  unfold writeArrCtrl
  rw [hstop]
  dsimp only
  rw [if_pos rfl, if_pos habort]

theorem exec_arrStop {on : Bool} (h : takes s src ⟨.ARR_CTRL, t, 0⟩ (withField s ⟨.ARR_CTRL, t, 0⟩ .ARR_CTRL_STOP (b2n on))) :
    exec (.arrStop src t on) s =
      answer s (if on = s.flag .ARR_CTRL_STOP t then s else if on then s.stopArray t else s.unstopArray t) := by
  have ht := tile_of_takes h
  rw [← writeArrCtrl_stop, ← withField_stop ht on]
  exact (answerIf_writeWhole h).trans rfl

theorem exec_abort (h : takes s src ⟨.ARR_CTRL, t, 0⟩ (withField s ⟨.ARR_CTRL, t, 0⟩ .ARR_CTRL_ABORT 1))
    (hs : s.rd .ARR_CTRL_STOP t ≤ 1) : exec (.abort src t) s = answer s (s.abortArray t) := by
  rw [← writeArrCtrl_abort hs, ← withField_abort (tile_of_takes h)]
  exact (answerIf_writeWhole h).trans rfl

end

/-! ### STOP -/

/-- The array when its wait ends by STOP: those behind it are served. -/
def waitStopped (s : State) (t : Nat) : State :=
  if (s.array t).waiting then ((s.wr .ARR_CTRL_STOP t 0 1).countPass t).endArrayWait t else s.wr .ARR_CTRL_STOP t 0 1

theorem stopArray_eq (s : State) (t : Nat) :
    s.stopArray t = (s.waitStopped t).setArray t { s.array t with waiting := false, prefetch := false } := rfl

theorem serves_waitStopped (s : State) (t : Nat) : Serves (s.wr .ARR_CTRL_STOP t 0 1) (s.waitStopped t) :=
  Keeps.ite ((Serves.countPass _ t).trans (Serves.endArrayWait _ t)) (.refl _)

theorem serves_stopArray (s : State) (t : Nat) : Serves (s.wr .ARR_CTRL_STOP t 0 1) (s.stopArray t) :=
  (serves_waitStopped s t).trans (Serves.setArray _ t _)

theorem flag_stopArray (s : State) (t : Nat) : (s.stopArray t).flag .ARR_CTRL_STOP t = true := by
  unfold flag
  rw [(serves_stopArray s t).rd _ _ _ (by decide), rd_wr_self]
  rfl

theorem waitStopped_idle {s : State} {t : Nat} (h : (s.array t).waiting = false) :
    s.waitStopped t = s.wr .ARR_CTRL_STOP t 0 1 := if_neg (by rw [h]; decide)

theorem puts_stopArray {s : State} {t : Nat} (h : (s.array t).waiting = false) :
    puts s (s.stopArray t) [(.ARR_CTRL_STOP, t, 0, 1)] := by
  rw [stopArray_eq, waitStopped_idle h]
  exact puts_of_rd (puts_wr (puts_nil s) t 0 1 (by decide)) (rd_setArray _ t _)

theorem noWait_stopArray {s : State} {t : Nat} (h : (s.array t).waiting = false) : (s.stopArray t).noWait = s.noWait := by
  have hset : ∀ (u : State) (m : MatArray), (u.setArray t m).noWait = u.noWait := fun _ _ => rfl
  rw [stopArray_eq, waitStopped_idle h, hset]
  rfl

theorem waitsNot_stopArray {s : State} {t n : Nat} (h : (s.array t).waiting = true) (hn : n < 64) :
    (s.stopArray t).waitsNot t n 4 := by
  have hkeep : ∀ (u : State) (m : MatArray), (u.setArray t m).waitsNot t n 4 ↔ u.waitsNot t n 4 := fun _ _ => Iff.rfl
  rw [stopArray_eq, hkeep, waitStopped, if_pos h]
  exact waitsNot_endArrayWait _ t hn

/-! ### STOP cleared -/

theorem flag_unstopArray (s : State) (t : Nat) : (s.unstopArray t).flag .ARR_CTRL_STOP t = false := by
  unfold flag unstopArray
  rw [rd_headPass _ t _ _ (by decide), rd_wr_self]
  rfl

theorem unstopArray_empty {s : State} {t : Nat} (h : (s.engine t eArray).queue = []) :
    s.unstopArray t = s.wr .ARR_CTRL_STOP t 0 0 := headPass_empty h

/-! ### ABORT -/

/-- `u` differs from `s` in what serving waiters changes, and in engines, alone. -/
abbrev Discards : State → State → Prop := Keeps noPass fun f => f.spec.reg ∈ serveRegs

theorem Serves.discards {s u : State} (h : Serves s u) : Discards s u := ⟨h.noPass, h.rd⟩

theorem Discards.setEngine (s : State) (t e : Nat) (y : Engine) : Discards s (s.setEngine t e y) :=
  .of_rd rfl (rd_setEngine s t e y)

theorem serves_wakeFences (s : State) (t e : Nat) : Serves s (s.wakeFences t e) := by
  refine .foldl (fun u c => ?_) _ s
  dsimp only
  split
  · exact Keeps.ite (Serves.setCtx u t c _) (.refl u)
  · exact .refl u

/-- Contexts that issue to a queue with room change engines and contexts, and complete no ticket. -/
theorem refillN_keeps (s : State) (t e n : Nat) :
    Discards s (s.refillN t e n) ∧ ((s.refillN t e n).engine t e).completed = (s.engine t e).completed := by
  induction n generalizing s with
  | zero => exact ⟨.refl s, rfl⟩
  | succ n ih =>
    rw [refillN]
    dsimp only
    split
    · exact ⟨.refl s, rfl⟩
    · rename_i c cs hb
      split
      · exact ⟨.refl s, rfl⟩
      · have hleave := Discards.setEngine s t e { s.engine t e with blocked := cs }
        have hdone : ((s.setEngine t e { s.engine t e with blocked := cs }).engine t e).completed =
            (s.engine t e).completed := by rw [engine_setEngine_self]
        generalize s.setEngine t e { s.engine t e with blocked := cs } = u at hleave hdone
        have hskip : Discards s (u.refillN t e n) ∧ ((u.refillN t e n).engine t e).completed = (s.engine t e).completed :=
          ⟨hleave.trans (ih u).1, (ih u).2.trans hdone⟩
        split
        · split
          · rename_i hq
            refine ⟨(hleave.trans ?_).trans (ih _).1, (ih _).2.trans ?_⟩
            · exact (Discards.setEngine u t e _).trans (Serves.setCtx _ t c _).discards
            · subst hq
              exact (congrArg Engine.completed (engine_setEngine_self u t _ _)).trans hdone
          · exact hskip
        · exact hskip

/-- An engine whose queue has been discarded (R148). -/
def unqueued (x : Engine) : Engine := { x with queue := [], completed := x.issued, done := none }

theorem discardQueue_eq (s : State) (t e : Nat) :
    s.discardQueue t e = ((s.setEngine t e (unqueued (s.engine t e))).wakeFences t e).refill t e := rfl

theorem discardQueue_keeps (s : State) (t e : Nat) :
    Discards s (s.discardQueue t e) ∧ ((s.discardQueue t e).engine t e).completed = (s.engine t e).issued := by
  have hwake := serves_wakeFences (s.setEngine t e (unqueued (s.engine t e))) t e
  obtain ⟨hrefill, hcompleted⟩ := refillN_keeps ((s.setEngine t e (unqueued (s.engine t e))).wakeFences t e) t e 4
  refine ⟨((Discards.setEngine s t e _).trans hwake.discards).trans hrefill, hcompleted.trans ?_⟩
  rw [hwake.engine, engine_setEngine_self]
  rfl

/-- Where no context waits for room, the queue stays empty. -/
theorem discardQueue_unblocked {s : State} {t e : Nat} (h : (s.engine t e).blocked = []) :
    s.discardQueue t e = (s.setEngine t e (unqueued (s.engine t e))).wakeFences t e := by
  refine refill_of_none ?_
  rw [(serves_wakeFences _ t e).engine, engine_setEngine_self]
  exact h

theorem array_setEngine (s : State) (t e : Nat) (y : Engine) (t' : Nat) : (s.setEngine t e y).array t' = s.array t' := rfl
theorem waitersOn_setEngine (s : State) (t e : Nat) (y : Engine) (t' n : Nat) :
    (s.setEngine t e y).waitersOn t' n = s.waitersOn t' n := rfl
theorem waitersOn_setArray (s : State) (t : Nat) (m : MatArray) (t' n : Nat) :
    (s.setArray t m).waitersOn t' n = s.waitersOn t' n := rfl

theorem array_of_noCtx {s u : State} (h : u.noCtx = s.noCtx) (t : Nat) : u.array t = s.array t := by
  have h := congrArg (fun v : State => v.array t) h
  exact h

theorem waitersOn_of_noCtx {s u : State} (h : u.noCtx = s.noCtx) (t n : Nat) : u.waitersOn t n = s.waitersOn t n := by
  have h := congrArg (fun v : State => v.waitersOn t n) h
  exact h

/-- The array has left its counter and holds no pass. -/
def arrayCleared (s : State) (t : Nat) : State := ((s.countPass t).endArrayWait t).setArray t MatArray.init

theorem serves_arrayCleared (s : State) (t : Nat) : Serves s (s.arrayCleared t) :=
  ((Serves.countPass s t).trans (Serves.endArrayWait _ t)).trans (Serves.setArray _ t _)

/-- Both accumulator buffers are lost, and the registers say so. -/
def buffersLost (s : State) (t last : Nat) : State :=
  let (k, s) := s.draw
  let s := { s with mem := s.mem.lose (.span (tileBase t + 0x60000) (tileBase t + 0x70000)) k }
  (s.wr .ARR_STATUS_ABORTED t 0 1).wr .ARR_CUR_TICKET t 0 last

section

variable (s : State) (t last : Nat)

theorem noPass_buffersLost : ({ s.buffersLost t last with mem := s.mem } : State).noPass = s.noPass := rfl
theorem engine_buffersLost (t' e : Nat) : (s.buffersLost t last).engine t' e = s.engine t' e := rfl
theorem array_buffersLost (t' : Nat) : (s.buffersLost t last).array t' = s.array t' := rfl
theorem waitersOn_buffersLost (t' n : Nat) : (s.buffersLost t last).waitersOn t' n = s.waitersOn t' n := rfl

theorem rd_buffersLost_aborted : (s.buffersLost t last).rd .ARR_STATUS_ABORTED t = 1 :=
  (rd_wr_out _ _ _ _ _ _ (by decide) (by decide)).trans (rd_wr_self _ _ _ _ _)

theorem mem_buffersLost : (s.buffersLost t last).mem =
    s.mem.lose (.span (tileBase t + 0x60000) (tileBase t + 0x70000)) s.fresh := rfl

theorem read_buffersLost {a : Nat} (h : a < tileBase t + 0x60000 ∨ tileBase t + 0x70000 ≤ a) :
    (s.buffersLost t last).mem.read a = s.mem.read a := by
  rw [mem_buffersLost]
  exact Memory.read_lose_out _ _ _ _ (decide_eq_false fun hin => by omega)

end

section

variable {s : State} {t : Nat}

/-- The array's queue, its pass and its wait are gone. -/
def arrayDiscarded (s : State) (t : Nat) : State := (s.arrayCleared t).discardQueue t eArray

theorem discards_arrayDiscarded : Discards s (s.arrayDiscarded t) :=
  (serves_arrayCleared s t).discards.trans (discardQueue_keeps (s.arrayCleared t) t eArray).1

theorem completed_arrayDiscarded : ((s.arrayDiscarded t).engine t eArray).completed = (s.engine t eArray).issued := by
  rw [← (serves_arrayCleared s t).engine t eArray]
  exact (discardQueue_keeps (s.arrayCleared t) t eArray).2

theorem Heads.flights {u w : State} (h : Heads u w) : w.flights = u.flights := by
  have h := congrArg State.flights h.rest
  exact h

theorem mem_of_noPass {u : State} (h : u.noPass = s.noPass) : u.mem = s.mem := by
  have h := congrArg State.mem h
  exact h

/-- What neither memory nor the head of the array's queue holds is as before. -/
theorem of_noPass_mem {u : State} (h : ({ u with mem := s.mem } : State).noPass = s.noPass) :
    u.pending = s.pending ∧ u.fuses = s.fuses ∧ u.flights = s.flights := by
  have hp := congrArg State.pending h
  have hf := congrArg State.fuses h
  have hl := congrArg State.flights h
  exact ⟨hp, hf, hl⟩

/-- The state in which the array has no pass, no wait and no queue, before the next pass is judged. -/
def aborted (s : State) (t : Nat) : State := (s.arrayDiscarded t).buffersLost t (s.engine t eArray).issued

theorem abortArray_eq : s.abortArray t = (s.aborted t).headPass t := by
  have hserve : Serves s ((s.countPass t).endArrayWait t) := (Serves.countPass s t).trans (Serves.endArrayWait _ t)
  have hi := congrArg Engine.issued (hserve.engine t eArray)
  unfold abortArray aborted arrayDiscarded arrayCleared
  rw [← hi]
  rfl

theorem noPass_aborted : ({ s.aborted t with mem := s.mem } : State).noPass = s.noPass := by
  have hd := (discards_arrayDiscarded (s := s) (t := t)).rest
  have hb := noPass_buffersLost (s.arrayDiscarded t) t (s.engine t eArray).issued
  rw [mem_of_noPass hd] at hb
  exact hb.trans hd

theorem flag_aborted : ((s.aborted t).headPass t).flag .ARR_STATUS_ABORTED t = true := by
  unfold flag
  rw [rd_headPass _ t _ _ (by decide), aborted, rd_buffersLost_aborted]
  rfl

theorem read_aborted {a : Nat} (h : a < tileBase t + 0x60000 ∨ tileBase t + 0x70000 ≤ a) :
    (s.aborted t).mem.read a = s.mem.read a := by
  rw [aborted, read_buffersLost _ _ _ h, mem_of_noPass discards_arrayDiscarded.rest]

theorem completed_aborted : ((s.aborted t).engine t eArray).completed = (s.engine t eArray).issued := by
  rw [aborted, engine_buffersLost, completed_arrayDiscarded]

theorem answer_aborted : answer s ((s.aborted t).headPass t) = .next ((s.aborted t).headPass t) := by
  obtain ⟨hp, hf, -⟩ := of_noPass_mem (noPass_aborted (s := s) (t := t))
  exact (Heads.headPass _ t).next hp hf

/-- Where no context waits for room, the array has nothing left to do (R148). -/
theorem aborted_unblocked (h : (s.engine t eArray).blocked = []) :
    (s.aborted t).headPass t = s.aborted t ∧ (s.aborted t).array t = MatArray.init ∧
      (s.aborted t).engine t eArray = unqueued (s.engine t eArray) ∧ ∀ n < 64, (s.aborted t).waitsNot t n 4 := by
  have hengine := (serves_arrayCleared s t).engine t eArray
  have hd : s.arrayDiscarded t = ((s.arrayCleared t).setEngine t eArray (unqueued (s.engine t eArray))).wakeFences t eArray := by
    rw [arrayDiscarded, discardQueue_unblocked (by rw [hengine]; exact h), hengine]
  have hwake : (s.arrayDiscarded t).noCtx = ((s.arrayCleared t).setEngine t eArray (unqueued (s.engine t eArray))).noCtx := by
    rw [hd]
    exact noCtx_wakeFences
  have heng : (s.aborted t).engine t eArray = unqueued (s.engine t eArray) := by
    rw [aborted, engine_buffersLost, engine_of_noCtx hwake, engine_setEngine_self]
  refine ⟨headPass_empty (by rw [heng]; rfl), ?_, heng, fun n hn w hw => ?_⟩
  · rw [aborted, array_buffersLost, array_of_noCtx hwake, array_setEngine, arrayCleared, array_setArray_self]
  · rw [aborted, waitersOn_buffersLost, waitersOn_of_noCtx hwake, waitersOn_setEngine, arrayCleared, waitersOn_setArray] at hw
    exact waitsNot_endArrayWait _ t hn w hw

end

end Sys2Proof.Machine.State

namespace Sys2Proof

open Machine Machine.State Claims

theorem arrayStops : Claims.ArrayStops := by
  unfold Claims.ArrayStops
  intro s src t
  refine ⟨fun h hs => ?_, fun h hs => ?_, fun on h hs => ?_⟩
  · have hflag : ¬true = s.flag .ARR_CTRL_STOP t := by unfold flag; rw [hs]; decide
    have hserve := serves_stopArray s t
    rw [exec_arrStop (on := true) h, if_neg hflag, if_pos rfl]
    have hrest : (s.stopArray t).noServe = s.noServe := hserve.rest
    refine ⟨_, next_of_noServe hrest, flag_stopArray s t, array_setArray_self _ t _,
      fun hw => ⟨puts_stopArray hw, noWait_stopArray hw⟩, fun hw => ⟨fun n hn => waitsNot_stopArray hw hn, ?_⟩⟩
    exact noWait_of_noServe hrest
  · have hflag : ¬false = s.flag .ARR_CTRL_STOP t := by unfold flag; rw [hs]; decide
    rw [exec_arrStop (on := false) h, if_neg hflag, if_neg Bool.false_ne_true]
    refine ⟨_, (Heads.headPass _ t).next rfl rfl, flag_unstopArray s t, fun hq => ?_⟩
    show onlyPuts s (s.unstopArray t) _
    rw [unstopArray_empty hq]
    exact ⟨puts_wr (puts_nil s) t 0 0 (by decide), rfl⟩
  · have hflag : on = s.flag .ARR_CTRL_STOP t := by unfold flag; rw [hs]; cases on <;> rfl
    rw [exec_arrStop h, if_pos hflag]
    exact answer_eq rfl rfl

theorem arrayAborts : Claims.ArrayAborts := by
  unfold Claims.ArrayAborts
  intro s src t h hs x
  have hhead := Heads.headPass (s.aborted t) t
  rw [exec_abort h hs, abortArray_eq]
  refine ⟨_, answer_aborted, flag_aborted, hhead.flights.trans (of_noPass_mem noPass_aborted).2.2, fun a ha => ?_, ?_, fun hb => ?_⟩
  · rw [hhead.mem, read_aborted ha]
  · rw [completed_headPass, completed_aborted]
  · obtain ⟨hempty, harray, hengine, hwaits⟩ := aborted_unblocked hb
    rw [hempty]
    exact ⟨harray, hengine, hwaits⟩

/-- Settles O14: the write comes to a stop, its end or an abort of the array, and what each leaves is said part by part. -/
theorem arrayControl : Obligations.ArrayControl := ⟨arrayStops, arrayAborts⟩

end Sys2Proof

/-! SUPPORT. A pass of the array from the head of its queue to its rows: the wait for its amount, the start, and what running its
blocks leaves alone (R126, R133, R137 to R139, R147). -/
namespace Sys2Proof.Machine.State

open Sys2Proof.Claims

/-! ### What a running pass may change -/

/-- Without what running a pass changes: reports, memory, the engines' results, and the count of free values. -/
def noRun (s : State) : State := { s.noRec with mem := Memory.empty, engines := [], fresh := 0 }

/-- The registers that a running pass may change: ARR_CUR, and those of an error of its tile. -/
def runRegs : List Reg :=
  [.ARR_CUR, .TILE_ERR_STATUS, .TILE_ERR_INFO, .SIG_ERR_HEAD, .SIG_ERR_DROPPED, .SIG_STATUS, .HST_PBA]

/-- `u` differs from `s` in what running a pass changes alone. -/
abbrev Runs : State → State → Prop := Keeps noRun fun f => f.spec.reg ∈ runRegs

namespace Runs

variable {s u : State}

theorem mem (s : State) (m : Memory) : Runs s { s with mem := m } := .of_rd rfl fun _ _ _ => rfl

theorem draw (s : State) : Runs s s.draw.2 := .of_rd rfl fun _ _ _ => rfl

theorem endDesc (s : State) (t e code detail addr : Nat) (tiles : List Nat) :
    Runs s (s.endDesc t e code detail addr tiles) := .of_rd rfl (rd_setEngine s t e _)

theorem tileErr (s : State) (t n addr : Nat) (void : Bool) (ok o d5 d6 wk w : Nat) :
    Runs s (s.tileErr t n addr void ok o d5 d6 wk w) :=
  ⟨congrArg (fun v : State => { v with mem := Memory.empty, engines := [], fresh := 0 })
    (noRec_tileErr s t n addr void ok o d5 d6 wk w),
   fun f i x hf => rd_tileErr s t n addr void ok o d5 d6 wk w f i x fun h => hf (List.mem_cons_of_mem _ h)⟩

theorem array (h : Runs s u) (t : Nat) : u.array t = s.array t := by
  have h := congrArg (fun v : State => v.array t) h.rest
  exact h

theorem waitersOn (h : Runs s u) (t n : Nat) : u.waitersOn t n = s.waitersOn t n := by
  have h := congrArg (fun v : State => v.waitersOn t n) h.rest
  exact h

theorem next (h : Runs s u) (w : State) (hp : s.pending = w.pending) (hf : s.fuses = w.fuses) : answer w u = .next u := by
  have h1 := congrArg State.pending h.rest
  have h2 := congrArg State.fuses h.rest
  exact answer_eq (h1.trans hp) (h2.trans hf)

end Runs

/-! ### The blocks of a pass -/

section

variable {s : State} {t : Nat} {q : QEntry} {b a : Fmt} {p : Pd.Pair}

/-- ARR_CUR.BLOCK shows some block of the pass (assumption 25). -/
def blockShown (s : State) (t d : Nat) : State := s.draw.2.wr .ARR_CUR_BLOCK t 0 (Config.unstated 26 s.fresh % Pd.blocks d)

theorem runs_blockShown (d : Nat) : Runs s (s.blockShown t d) :=
  (Runs.draw s).trans (Keeps.wr t 0 _ rfl (by decide) (by decide))

/-- The device address of the first row that a pass writes. -/
def rowsAt (t d : Nat) : Nat := tileBase t + accOff (Pd.accBuf d) (Pd.accRow d) 0

/-- The state of a pass whose blocks have run. -/
def rowsWritten (s : State) (t d : Nat) (rows : List Byte) : State :=
  ({ s.blockShown t d with mem := (s.mem.heal (rowsAt t d) rows.length).writeN (rowsAt t d) rows } : State).endDesc t eArray
    0 0 0 []

/-- The state of a pass that an uncorrectable error at `l` has stopped (R147). -/
def rowsLost (s : State) (t d l : Nat) : State :=
  (({ (s.blockShown t d).draw.2 with
      mem := s.mem.lose (.span (rowsAt t d) (rowsAt t d + 128 * Pd.tokens d)) (s.blockShown t d).fresh } : State).tileErr
    t tUe l true 6 0 l 0 2 (t * 8 + eArray)).endDesc t eArray 0x02 (bits l 45 6) l []

theorem runPass_good (hf : Pd.forms q.desc = some (b, a, p)) (hb : s.passBad t q.desc b a p = none) :
    s.runPass t q = s.rowsWritten t q.desc (s.passRows t q.desc b a p) := by
  have hb' : (s.blockShown t q.desc).passBad t q.desc b a p = none := hb
  unfold blockShown at hb'
  unfold runPass
  rw [hf]
  dsimp only
  rw [show s.draw = (s.fresh, s.draw.2) from rfl]
  dsimp only
  rw [hb']
  rfl

theorem runPass_bad {l : Nat} (hf : Pd.forms q.desc = some (b, a, p)) (hb : s.passBad t q.desc b a p = some l) :
    s.runPass t q = s.rowsLost t q.desc l := by
  have hb' : (s.blockShown t q.desc).passBad t q.desc b a p = some l := hb
  unfold blockShown at hb'
  unfold runPass
  rw [hf]
  dsimp only
  rw [show s.draw = (s.fresh, s.draw.2) from rfl]
  dsimp only
  rw [hb']
  rfl

theorem runs_rowsWritten (d : Nat) (rows : List Byte) : Runs s (s.rowsWritten t d rows) :=
  ((runs_blockShown d).trans (Runs.mem _ _)).trans (Runs.endDesc _ t _ _ _ _ _)

theorem runs_rowsLost (d l : Nat) : Runs s (s.rowsLost t d l) :=
  ((((runs_blockShown d).trans (Runs.draw _)).trans (Runs.mem _ _)).trans (Runs.tileErr _ _ _ _ _ _ _ _ _ _ _)).trans
    (Runs.endDesc _ t _ _ _ _ _)

theorem runs_runPass (s : State) (t : Nat) (q : QEntry) : Runs s (s.runPass t q) := by
  cases hf : Pd.forms q.desc with
  | none =>
    have hn : s.runPass t q = s := by
      unfold runPass
      rw [hf]
    rw [hn]
    exact .refl s
  | some x =>
    obtain ⟨b, a, p⟩ := x
    cases hb : s.passBad t q.desc b a p with
    | none => exact runPass_good hf hb ▸ runs_rowsWritten _ _
    | some l => exact runPass_bad hf hb ▸ runs_rowsLost _ _

end

/-! ### GEMM -/

section

variable {s : State} {t : Nat} {q : QEntry} {frozen : Bool}

theorem exec_gemm (ht : t < s.nTiles) : exec (.gemm t [] frozen) s = answer s (s.startPass t [] frozen) :=
  answerIf_true (hasTile_of ht)

theorem startPass_idle (h : (s.headPass t).runningPass t = none) : s.startPass t [] frozen = s.headPass t := by
  unfold startPass
  dsimp only
  rw [h]

/-- The array while its pass runs: what it fills ahead, and whether it freezes on the way. -/
theorem startPass_runs (h : (s.headPass t).runningPass t = some q) : ∃ next, s.startPass t [] frozen =
    ((s.headPass t).setArray t { (s.headPass t).array t with prefetch := next, frozen := frozen }).runPass t q := by
  unfold startPass
  dsimp only
  rw [h]
  exact ⟨_, rfl⟩

theorem runningPass_not_started (h : (s.array t).started = false) : s.runningPass t = none := by
  unfold runningPass
  dsimp only
  rw [h]
  rfl

/-- Once a pass has reached the head of the queue, GEMM changes what running a pass changes. -/
theorem startPass_cases (s : State) (t : Nat) (frozen : Bool) : s.startPass t [] frozen = s.headPass t ∨
    ∃ next, Runs ((s.headPass t).setArray t { (s.headPass t).array t with prefetch := next, frozen := frozen })
      (s.startPass t [] frozen) := by
  cases h : (s.headPass t).runningPass t with
  | none => exact .inl (startPass_idle h)
  | some q =>
    obtain ⟨next, hn⟩ := startPass_runs (frozen := frozen) h
    exact .inr ⟨next, hn ▸ runs_runPass _ t q⟩

end

end Sys2Proof.Machine.State

/-! SUPPORT. A pass at the head of the queue that has an amount to wait for (R138, R139, R210). -/
namespace Sys2Proof.Machine.State

open Sys2Proof.Claims

/-- The array waits for `m` of counter `n`. -/
def arrayWaits (s : State) (t n m : Nat) : State :=
  (s.setArray t { s.array t with waiting := true, reported := false }).setWaiters t n [⟨4, m⟩]

/-- The array has taken its amount, and its pass starts. -/
def arrayServed (s : State) (t n m : Nat) : State :=
  ((((s.arrayWaits t n m).cntTake t n m).countPass t).beginPass t).setWaiters t n []

section

variable {s : State} {t n m : Nat}

theorem serves_arrayWaits : Serves s (s.arrayWaits t n m) := (Serves.setArray s t _).trans (Serves.setWaiters _ t n _)

theorem array_arrayWaits : (s.arrayWaits t n m).array t = { s.array t with waiting := true, reported := false } :=
  array_setArray_self s t _

theorem waitersOn_arrayWaits : (s.arrayWaits t n m).waitersOn t n = [⟨4, m⟩] := by
  unfold arrayWaits
  rw [waitersOn_setWaiters, if_pos ⟨rfl, rfl⟩]

theorem rd_arrayWaits (f : Fd) (i x : Nat) : (s.arrayWaits t n m).rd f i x = s.rd f i x := rfl

theorem noWait_setArray (w : State) (y : MatArray) : (w.setArray t y).noWait = w.noWait := rfl

theorem noWait_setWaiters (w : State) (ws : List Waiter) : (w.setWaiters t n ws).noWait = w.noWait := rfl

theorem noWait_arrayWaits : (s.arrayWaits t n m).noWait = s.noWait :=
  (noWait_setWaiters _ _).trans (noWait_setArray s _)

theorem array_beginPass (w : State) : ((w.beginPass t).array t).started = true ∧ ((w.beginPass t).array t).waiting = false := by
  unfold beginPass
  rw [array_setArray_self]
  exact ⟨rfl, rfl⟩

theorem array_arrayServed :
    ((s.arrayServed t n m).array t).started = true ∧ ((s.arrayServed t n m).array t).waiting = false := array_beginPass _

theorem waitersOn_arrayServed : (s.arrayServed t n m).waitersOn t n = [] := by
  unfold arrayServed
  rw [waitersOn_setWaiters, if_pos ⟨rfl, rfl⟩]

theorem serves_arrayServed : Serves s (s.arrayServed t n m) :=
  (((serves_arrayWaits.trans (Serves.cntTake _ t n m)).trans (Serves.countPass _ t)).trans (Serves.setArray _ t _)).trans
    (Serves.setWaiters _ t n _)

/-- The counter holds what is left, cut to its 16 bits. -/
theorem value_arrayServed : (s.arrayServed t n m).rd .SIG_CNT_VALUE t n = (s.rd .SIG_CNT_VALUE t n - m) % 2 ^ 16 := by
  have hpass : (((s.arrayWaits t n m).cntTake t n m).countPass t).rd .SIG_CNT_VALUE t n =
      ((s.arrayWaits t n m).cntTake t n m).rd .SIG_CNT_VALUE t n :=
    (keeps_countPass _ t).rd .SIG_CNT_VALUE t n (by decide)
  have htake : ((s.arrayWaits t n m).cntTake t n m).rd .SIG_CNT_VALUE t n = (s.rd .SIG_CNT_VALUE t n - m) % 2 ^ 16 :=
    (puts_cntTake (s.arrayWaits t n m) t n m).1 _ (List.mem_cons_self ..)
  unfold arrayServed beginPass
  rw [rd_setWaiters, rd_setArray, hpass, htake]

theorem beginArrayWait_held (hw : s.waitersOn t n = []) (hv : s.rd .SIG_CNT_VALUE t n < m) :
    s.beginArrayWait t n m = (s.arrayWaits t n m).setWaiters t n [⟨4, m⟩] := by
  have hw' : (s.setArray t { s.array t with waiting := true, reported := false }).waitersOn t n = [] := hw
  unfold beginArrayWait
  rw [beginWait_held (w := s.setArray t _) (x := ⟨4, m⟩) fun z hz => ?_, hw']
  · rfl
  · rw [hw'] at hz
    cases hz
    exact hv

theorem beginArrayWait_served (hw : s.waitersOn t n = []) (hv : m ≤ s.rd .SIG_CNT_VALUE t n) :
    s.beginArrayWait t n m = s.arrayServed t n m := by
  have hw' : (s.setArray t { s.array t with waiting := true, reported := false }).waitersOn t n = [] := hw
  unfold beginArrayWait beginWait serve
  rw [hw', waitersOn_setWaiters, if_pos ⟨rfl, rfl⟩]
  exact if_pos hv

end

/-! ### The pass at the head -/

/-- `q` is at the head of the array's queue, passes every check of R137, and has an amount to wait for. -/
structure AsksAmount (s : State) (t : Nat) (q : QEntry) : Prop where
  tile : t < s.nTiles
  head : s.headReady t eArray = some q
  notStarted : (s.array t).started = false
  notWaiting : (s.array t).waiting = false
  notStopped : s.flag .ARR_CTRL_STOP t = false
  sound : Pd.refused q.desc = false
  inside : s.statusOutside t eArray q = false
  placed : Pd.misplaced q.desc (s.waterline t) = none
  asks : Pd.waitEn q.desc = true

namespace AsksAmount

variable {s : State} {t : Nat} {q : QEntry}

theorem headPass (h : AsksAmount s t q) : s.headPass t = s.beginArrayWait t (Pd.waitCtr q.desc) (Pd.waitAmt q.desc) := by
  unfold State.headPass
  dsimp only
  rw [h.head]
  dsimp only
  rw [if_neg (by simp [h.notStarted, h.notWaiting]), if_neg (by simp [h.sound, h.inside]), h.placed]
  dsimp only
  rw [if_neg (by simp [h.notStopped]), if_pos h.asks]

/-- An amount that the counter does not cover is waited for (R138). -/
theorem waits (h : AsksAmount s t q) (hw : s.waitersOn t (Pd.waitCtr q.desc) = [])
    (hv : s.rd .SIG_CNT_VALUE t (Pd.waitCtr q.desc) < Pd.waitAmt q.desc) :
    ∃ u, exec (.gemm t [] false) s = .next u ∧ (u.array t).waiting = true ∧ (u.array t).started = false ∧
      u.waitersOn t (Pd.waitCtr q.desc) = [⟨4, Pd.waitAmt q.desc⟩] ∧ u.noWait = s.noWait ∧
      ∀ f i x, u.rd f i x = s.rd f i x := by
  have hhead := h.headPass.trans (beginArrayWait_held hw hv)
  generalize Pd.waitCtr q.desc = n at hhead
  generalize Pd.waitAmt q.desc = m at hhead
  have harr : (((s.arrayWaits t n m).setWaiters t n [⟨4, m⟩]).array t) =
      { s.array t with waiting := true, reported := false } := array_arrayWaits (n := n) (m := m)
  have hidle : (s.headPass t).runningPass t = none := runningPass_not_started (by rw [hhead, harr]; exact h.notStarted)
  rw [exec_gemm h.tile, startPass_idle hidle, hhead]
  refine ⟨_, next_of_noServe (serves_arrayWaits.trans (Serves.setWaiters _ t n _)).rest, congrArg MatArray.waiting harr,
    (congrArg MatArray.started harr).trans h.notStarted, ?_, (noWait_setWaiters _ _).trans noWait_arrayWaits, fun f i x => rd_setWaiters _ t n _ f i x⟩
  rw [waitersOn_setWaiters, if_pos ⟨rfl, rfl⟩]

/-- An amount that the counter covers is taken, and the pass starts (R139). -/
theorem starts (h : AsksAmount s t q) (hw : s.waitersOn t (Pd.waitCtr q.desc) = [])
    (hv : Pd.waitAmt q.desc ≤ s.rd .SIG_CNT_VALUE t (Pd.waitCtr q.desc)) :
    ∃ u, exec (.gemm t [] false) s = .next u ∧ (u.array t).started = true ∧ (u.array t).waiting = false ∧
      u.waitersOn t (Pd.waitCtr q.desc) = [] ∧
      u.rd .SIG_CNT_VALUE t (Pd.waitCtr q.desc) = (s.rd .SIG_CNT_VALUE t (Pd.waitCtr q.desc) - Pd.waitAmt q.desc) % 2 ^ 16 := by
  have hhead := h.headPass.trans (beginArrayWait_served hw hv)
  generalize Pd.waitCtr q.desc = n at hhead
  generalize Pd.waitAmt q.desc = m at hhead
  obtain ⟨hstarted, hwaiting⟩ := array_arrayServed (s := s) (t := t) (n := n) (m := m)
  have hserves := serves_arrayServed (s := s) (t := t) (n := n) (m := m)
  rw [exec_gemm h.tile]
  rcases startPass_cases s t false with he | ⟨next, hr⟩
  · rw [he, hhead]
    exact ⟨_, next_of_noServe hserves.rest, hstarted, hwaiting, waitersOn_arrayServed, value_arrayServed⟩
  · rw [hhead] at hr
    have hset := hserves.trans (Serves.setArray _ t { (s.arrayServed t n m).array t with prefetch := next, frozen := false })
    refine ⟨_, Runs.next hr s (Serves.pending hset) (Serves.fuses hset), ?_, ?_, ?_, ?_⟩
    · rw [hr.array, array_setArray_self]
      exact hstarted
    · rw [hr.array, array_setArray_self]
      exact hwaiting
    · rw [hr.waitersOn]
      exact waitersOn_arrayServed
    · rw [hr.rd .SIG_CNT_VALUE t n (by decide), rd_setArray]
      exact value_arrayServed

end AsksAmount

/-- PassesStart for every counter that holds what its field can hold. -/
theorem passesStart_of_value_lt {s : State} {t : Nat} {q : QEntry} (h : AsksAmount s t q)
    (hv : s.rd .SIG_CNT_VALUE t (Pd.waitCtr q.desc) < 2 ^ 16) :
    let n := Pd.waitCtr q.desc
    let m := Pd.waitAmt q.desc
    (s.waitersOn t n = [] → s.rd .SIG_CNT_VALUE t n < m →
      ∃ u, exec (.gemm t [] false) s = .next u ∧ (u.array t).waiting = true ∧ (u.array t).started = false ∧
        u.waitersOn t n = [⟨4, m⟩] ∧ u.noWait = s.noWait ∧ ∀ f i x, u.rd f i x = s.rd f i x) ∧
    (s.waitersOn t n = [] → m ≤ s.rd .SIG_CNT_VALUE t n →
      ∃ u, exec (.gemm t [] false) s = .next u ∧ (u.array t).started = true ∧ (u.array t).waiting = false ∧
        u.waitersOn t n = [] ∧ u.rd .SIG_CNT_VALUE t n = s.rd .SIG_CNT_VALUE t n - m) := by
  refine ⟨h.waits, fun hw hm => ?_⟩
  obtain ⟨u, hu, hstarted, hwaiting, hwaiters, hvalue⟩ := h.starts hw hm
  exact ⟨u, hu, hstarted, hwaiting, hwaiters, hvalue.trans (Nat.mod_eq_of_lt ((Nat.sub_le _ _).trans_lt hv))⟩

end Sys2Proof.Machine.State

/-! SUPPORT. The rows that a pass writes, element by element, and what a pass that an uncorrectable error stops leaves behind
(R126, R133, R147). -/
namespace Sys2Proof.Machine

theorem length_flatMap_range {α : Type} {f : Nat → List α} {l : Nat} (hl : ∀ j, (f j).length = l) (n : Nat) :
    ((List.range n).flatMap f).length = l * n := by
  simp [List.length_flatMap, hl, Nat.mul_comm]

/-- A piece of a list of pieces of one length. -/
theorem flatMap_range_split {α : Type} {f : Nat → List α} {l n i : Nat} (hl : ∀ j, (f j).length = l) (hi : i < n) :
    ∃ pre post, (List.range n).flatMap f = pre ++ f i ++ post ∧ pre.length = l * i := by
  induction n with
  | zero => exact absurd hi (Nat.not_lt_zero i)
  | succ n ih =>
    rw [List.range_succ, List.flatMap_append, List.flatMap_singleton]
    rcases Nat.lt_succ_iff_lt_or_eq.1 hi with h | rfl
    · obtain ⟨pre, post, he, hp⟩ := ih h
      exact ⟨pre, post ++ f n, by rw [he, List.append_assoc], hp⟩
    · exact ⟨(List.range i).flatMap f, [], (List.append_nil _).symm, length_flatMap_range hl i⟩

namespace Memory

theorem readN_writeN_out (m : Memory) {a b n : Nat} {vs : List Byte} (h : b + n ≤ a ∨ a + vs.length ≤ b) :
    (m.writeN a vs).readN b n = m.readN b n := by
  induction n generalizing b with
  | zero => rfl
  | succ n ih =>
    rw [readN, readN, ih (by omega), read_writeN_out m a b vs (by omega)]

/-- Bytes written among others read as they are. -/
theorem readN_writeN_part (m : Memory) (a : Nat) (pre vs post : List Byte) :
    (m.writeN a (pre ++ vs ++ post)).readN (a + pre.length) vs.length = vs := by
  rw [writeN_append, readN_writeN_out _ (by simp; omega), writeN_append, readN_writeN]

end Memory

namespace State

open Sys2Proof.Claims

section

variable {s : State} {t d : Nat} {b a : Fmt} {p : Pd.Pair}

theorem rowBytes_length (m : Nat) : ((List.range 32).flatMap fun n => leBytes 4 (s.accElem t d b a p m n)).length = 128 :=
  length_flatMap_range (fun _ => leBytes_length 4 _) 32

theorem passRows_length : (s.passRows t d b a p).length = 128 * Pd.tokens d :=
  length_flatMap_range rowBytes_length _

/-- The four bytes of an element among those of the rows. -/
theorem passRows_split {m n : Nat} (hm : m < Pd.tokens d) (hn : n < 32) : ∃ pre post,
    s.passRows t d b a p = pre ++ leBytes 4 (s.accElem t d b a p m n) ++ post ∧ pre.length = 128 * m + 4 * n := by
  obtain ⟨pre, post, hrows, hpre⟩ :=
    flatMap_range_split (rowBytes_length (s := s) (t := t) (d := d) (b := b) (a := a) (p := p)) hm
  obtain ⟨pre', post', hrow, hpre'⟩ :=
    flatMap_range_split (f := fun n => leBytes 4 (s.accElem t d b a p m n)) (fun _ => leBytes_length 4 _) hn
  refine ⟨pre ++ pre', post' ++ post, ?_, by rw [List.length_append, hpre, hpre']⟩
  rw [passRows, hrows, hrow]
  simp only [List.append_assoc]

/-- An element, read back from the rows written. -/
theorem leNat_passRows (w : Memory) {m n : Nat} (hm : m < Pd.tokens d) (hn : n < 32) :
    leNat ((w.writeN (rowsAt t d) (s.passRows t d b a p)).readN
      (tileBase t + accOff (Pd.accBuf d) (Pd.accRow d + m) n) 4) = s.accElem t d b a p m n % 2 ^ 32 := by
  obtain ⟨pre, post, hrows, hpre⟩ := passRows_split (s := s) (t := t) (b := b) (a := a) (p := p) hm hn
  have hat : tileBase t + accOff (Pd.accBuf d) (Pd.accRow d + m) n = rowsAt t d + pre.length := by
    rw [hpre]
    unfold rowsAt accOff
    omega
  have hread := Memory.readN_writeN_part w (rowsAt t d) pre (leBytes 4 (s.accElem t d b a p m n)) post
  rw [leBytes_length] at hread
  rw [hat, hrows, hread, leNat_leBytes, show (256 ^ 4 : Nat) = 2 ^ 32 from rfl]

/-! ### A pass that has written its rows -/

theorem mem_rowsWritten (rows : List Byte) :
    (s.rowsWritten t d rows).mem = (s.mem.heal (rowsAt t d) rows.length).writeN (rowsAt t d) rows := rfl

theorem puts_blockShown :
    puts s (s.blockShown t d) [(.ARR_CUR_BLOCK, t, 0, Config.unstated 26 s.fresh % Pd.blocks d)] :=
  puts_wr (puts_of_rd (puts_nil s) fun _ _ _ => rfl) (f := .ARR_CUR_BLOCK) t 0 _ (by decide)

theorem puts_rowsWritten (rows : List Byte) :
    puts s (s.rowsWritten t d rows) [(.ARR_CUR_BLOCK, t, 0, Config.unstated 26 s.fresh % Pd.blocks d)] :=
  puts_of_rd puts_blockShown (rd_setEngine _ t eArray _)

theorem done_endDesc (w : State) (code detail addr : Nat) (tiles : List Nat) :
    ((w.endDesc t eArray code detail addr tiles).engine t eArray).done = some ⟨code, detail, addr, tiles⟩ :=
  congrArg Engine.done (engine_setEngine_self w t eArray _)

/-! ### A pass that an uncorrectable error has stopped -/

/-- A pass has lost its rows, and reports. -/
def rowsLostReported (s : State) (t d l : Nat) : State :=
  ({ (s.blockShown t d).draw.2 with
      mem := s.mem.lose (.span (rowsAt t d) (rowsAt t d + 128 * Pd.tokens d)) (s.blockShown t d).fresh } : State).tileErr
    t tUe l true 6 0 l 0 2 (t * 8 + eArray)

theorem rowsLost_eq (l : Nat) :
    s.rowsLost t d l = (s.rowsLostReported t d l).endDesc t eArray 0x02 (bits l 45 6) l [] := rfl

theorem rd_rowsLost (l : Nat) (f : Fd) (i x : Nat) : (s.rowsLost t d l).rd f i x = (s.rowsLostReported t d l).rd f i x :=
  rd_setEngine _ t eArray _ f i x

theorem flag_rowsLost (l : Nat) : (s.rowsLost t d l).flag .TILE_ERR_STATUS_UE t = true :=
  flag_tileErr _ t l true 6 0 l 0 2 (t * 8 + eArray) (n := tUe) (by decide) rfl rfl

theorem voided_rowsLost (l : Nat) : (s.rowsLost t d l).rd .SIG_STATUS_VOIDED = 1 :=
  (rd_rowsLost l _ _ _).trans (rd_tileErr_voided _ t tUe l true 6 0 l 0 2 (t * 8 + eArray))

theorem mem_rowsLost (l : Nat) : (s.rowsLost t d l).mem =
    s.mem.lose (.span (rowsAt t d) (rowsAt t d + 128 * Pd.tokens d)) (s.blockShown t d).fresh := by
  have h := congrArg State.mem (noRec_tileErr { (s.blockShown t d).draw.2 with
    mem := s.mem.lose (.span (rowsAt t d) (rowsAt t d + 128 * Pd.tokens d)) (s.blockShown t d).fresh }
    t tUe l true 6 0 l 0 2 (t * 8 + eArray))
  exact h

theorem read_rowsLost {l k : Nat} (hk : ¬(rowsAt t d ≤ k ∧ k < rowsAt t d + 128 * Pd.tokens d)) :
    (s.rowsLost t d l).mem.read k = s.mem.read k := by
  rw [mem_rowsLost]
  exact Memory.read_lose_out _ _ _ _ (by simpa [Region.holds] using hk)

end

/-! ### A pass that runs -/

/-- Without the arrays. -/
def noArr (s : State) : State := { s with arrays := [] }

section

variable {s w : State}

/-- What does not look at the arrays is as before. -/
theorem eq_of_noArr {α : Type} (f : State → α) (hf : ∀ v : State, f v.noArr = f v) (h : w.noArr = s.noArr) : f w = f s :=
  (hf w).symm.trans ((congrArg f h).trans (hf s))

theorem passBad_of_noArr (h : w.noArr = s.noArr) (t d : Nat) (b a : Fmt) (p : Pd.Pair) :
    w.passBad t d b a p = s.passBad t d b a p := eq_of_noArr (fun v => v.passBad t d b a p) (fun _ => rfl) h

theorem passRows_of_noArr (h : w.noArr = s.noArr) (t d : Nat) (b a : Fmt) (p : Pd.Pair) :
    w.passRows t d b a p = s.passRows t d b a p := eq_of_noArr (fun v => v.passRows t d b a p) (fun _ => rfl) h

theorem mem_of_noArr (h : w.noArr = s.noArr) : w.mem = s.mem := eq_of_noArr State.mem (fun _ => rfl) h

theorem rd_of_noArr (h : w.noArr = s.noArr) (f : Fd) (i x : Nat) : w.rd f i x = s.rd f i x :=
  eq_of_noArr (fun v => v.rd f i x) (fun _ => rfl) h

end

/-- `q` is the array's pass, and it runs at the next GEMM: it has started, or it starts with nothing to wait for. -/
structure PassRuns (s : State) (t : Nat) (q : QEntry) : Prop where
  tile : t < s.nTiles
  up : s.tileUp t = true
  head : (s.engine t eArray).queue.head? = some q
  notDone : (s.engine t eArray).done = none
  begins : (s.array t).started = true ∨
    (s.pausing = false ∧ (s.array t).waiting = false ∧ s.flag .ARR_CTRL_STOP t = false ∧ Pd.refused q.desc = false ∧
      s.statusOutside t eArray q = false ∧ Pd.misplaced q.desc (s.waterline t) = none ∧ Pd.waitEn q.desc = false)
  ungated : s.gateDepth t < 64
  settled : s.flag .TILE_WATERLINE_REWRITING t = false

namespace PassRuns

variable {s : State} {t : Nat} {q : QEntry}

theorem headPass (h : PassRuns s t q) :
    (s.headPass t).noArr = s.noArr ∧ ((s.headPass t).array t).started = true := by
  rcases Bool.eq_false_or_eq_true (s.array t).started with hs | hs
  · have hkeep : s.headPass t = s := by
      unfold State.headPass
      dsimp only
      split
      · rfl
      · rw [if_pos (.inl hs)]
    rw [hkeep]
    exact ⟨rfl, hs⟩
  · obtain ⟨hpause, hwait, hstop, hsound, hinside, hplaced, hfree⟩ := h.begins.resolve_left (by simp [hs])
    have hready : s.headReady t eArray = some q := by
      unfold headReady
      dsimp only
      rw [h.up, hpause, h.notDone]
      exact h.head
    have hbegin : s.headPass t = s.beginPass t := by
      unfold State.headPass
      dsimp only
      rw [hready]
      dsimp only
      rw [if_neg (by simp [hs, hwait]), if_neg (by simp [hsound, hinside]), hplaced]
      dsimp only
      rw [if_neg (by simp [hstop]), if_neg (by simp [hfree])]
    rw [hbegin]
    exact ⟨rfl, (array_beginPass s).1⟩

/-- GEMM runs the pass on a state that differs in the arrays alone. -/
theorem startPass (h : PassRuns s t q) (frozen : Bool) : ∃ w : State, s.startPass t [] frozen = w.runPass t q ∧ w.noArr = s.noArr ∧
    (w.array t).started = true ∧ (w.array t).frozen = frozen := by
  obtain ⟨hkeep, hstarted⟩ := h.headPass
  have hup := (eq_of_noArr (fun v => v.tileUp t) (fun _ => rfl) hkeep).trans h.up
  have heng := eq_of_noArr (fun v => v.engine t eArray) (fun _ => rfl) hkeep
  have hset := (eq_of_noArr (fun v => v.flag .TILE_WATERLINE_REWRITING t) (fun _ => rfl) hkeep).trans h.settled
  have hgate := eq_of_noArr (fun v => v.gateDepth t) (fun _ => rfl) hkeep
  have hrun : (s.headPass t).runningPass t = some q := by
    unfold runningPass
    dsimp only
    rw [hstarted, hup, heng, h.notDone, hset, hgate, decide_eq_false (Nat.not_le.2 h.ungated)]
    exact h.head
  obtain ⟨next, hnext⟩ := startPass_runs (frozen := frozen) hrun
  refine ⟨_, hnext, hkeep, ?_, ?_⟩
  · rw [array_setArray_self]
    exact hstarted
  · rw [array_setArray_self]

end PassRuns

theorem puts_of_noArr {s w u : State} {l : List (Fd × Nat × Nat × Nat)} (h : w.noArr = s.noArr) (hp : puts w u l) :
    puts s u l := ⟨hp.1, fun f i x hk => (hp.2 f i x hk).trans (rd_of_noArr h f i x)⟩

theorem next_of_runs {s w u : State} (h : w.noArr = s.noArr) (hr : Runs w u) : answer s u = .next u :=
  Runs.next hr s (eq_of_noArr State.pending (fun _ => rfl) h) (eq_of_noArr State.fuses (fun _ => rfl) h)

end State

end Sys2Proof.Machine

namespace Sys2Proof

open Machine Machine.State Claims

/-- The first part of O20: a pass without an uncorrectable error writes each element of its rows, and one with an error
writes its rows at most. -/
theorem matrixPasses : MatrixPasses := by
  unfold MatrixPasses
  intro s t frozen q b a p ht hup hhead hdone hbegins hgate hset hforms
  obtain ⟨w, hstart, hw, hstarted, hfrozen⟩ := PassRuns.startPass ⟨ht, hup, hhead, hdone, hbegins, hgate, hset⟩ frozen
  have hmem : w.mem = s.mem := mem_of_noArr hw
  have hexec : exec (.gemm t [] frozen) s = answer s (w.runPass t q) := hstart ▸ exec_gemm ht
  refine ⟨fun hb => ?_, fun l hb => ?_⟩
  · have hrun := runPass_good hforms ((passBad_of_noArr hw t q.desc b a p).trans hb)
    rw [passRows_of_noArr hw] at hrun
    have hruns : Runs w (w.rowsWritten t q.desc (s.passRows t q.desc b a p)) := runs_rowsWritten _ _
    rw [hexec, hrun]
    refine ⟨_, _, Nat.mod_lt _ (Nat.succ_pos _), next_of_runs hw hruns, puts_of_noArr hw (puts_rowsWritten _), ?_, ?_,
      done_endDesc _ _ _ _ _, fun m n hm hn => ?_, fun k hk => ?_⟩
    · rw [hruns.array, hstarted]
    · rw [hruns.array, hfrozen]
    · rw [mem_rowsWritten]
      exact leNat_passRows _ hm hn
    · rw [mem_rowsWritten, Memory.read_writeN_out, Memory.read_heal, hmem]
      rw [passRows_length]
      unfold rowsAt
      omega
  · have hrun := runPass_bad hforms ((passBad_of_noArr hw t q.desc b a p).trans hb)
    rw [hexec, hrun]
    exact ⟨_, next_of_runs hw (runs_rowsLost _ _), flag_rowsLost l, voided_rowsLost l, ⟨_, done_endDesc _ _ _ _ _, rfl, rfl⟩,
      fun k hk => (read_rowsLost hk).trans (congrArg (fun m => m.read k) hmem)⟩

end Sys2Proof

/-! SUPPORT. The end of a pass: what its record, its signal or its failure leaves alone, and the array's registers after it (R101,
R104 to R106, R139, R150). -/
namespace Sys2Proof.Machine.State

open Sys2Proof.Claims

/-! ### What the end of a descriptor may change in the registers -/

theorem target_ne_hole {s : State} {a : Nat} (h : 0x200000000000 ≤ a) : s.target a ≠ .hole := by
  unfold target
  rw [if_neg (by omega), if_neg (by omega)]
  dsimp only
  split_ifs <;> exact Target.noConfusion

/-- The registers that the record, the signal or the failure of an array's descriptor may change. -/
def endRegs : List Reg := .TILE_ERR_INFO :: trafficRegs

/-- `u` differs from `s` in what the end of a descriptor changes before its ticket alone. -/
abbrev Ends : State → State → Prop := Keeps noEnding fun f => f.spec.reg ∈ endRegs

namespace Ends

theorem of_sends {s u : State} (h : Sends s u) : Ends s u :=
  ⟨congrArg (fun v : State => { v with mem := Memory.empty }) (noTraffic_of_noSend h.rest),
   fun f i x hf => h.rd f i x fun hr => hf (List.mem_cons_of_mem _ hr)⟩

theorem mem (s : State) (m : Memory) : Ends s { s with mem := m } := .of_rd rfl fun _ _ _ => rfl

theorem launch (s : State) (f : Flight) : Ends s (s.launch f) := .of_rd rfl fun _ _ _ => rfl

theorem tileErr (s : State) (t n addr : Nat) (void : Bool) (ok o d5 d6 wk w : Nat) :
    Ends s (s.tileErr t n addr void ok o d5 d6 wk w) :=
  ⟨congrArg (fun v : State => { v with mem := Memory.empty })
    (noTraffic_of_noRec (noRec_tileErr s t n addr void ok o d5 d6 wk w)),
   fun f i x hf => rd_tileErr s t n addr void ok o d5 d6 wk w f i x fun h => hf ((by decide : _ ⊆ endRegs) h)⟩

/-! #### The status record -/

theorem writeRow (s : State) (req : Req) (t a : Nat) (bs : List Byte) : Ends s (s.writeRow req t a bs).1 := by
  unfold State.writeRow
  split
  · split
    · exact mem s _
    · exact (mem s (s.mem.writeGood a bs)).trans (tileErr _ t 1 _ true 6 0 _ 0 _ _)
  · exact mem s _

theorem writeRows (s : State) (req : Req) (t a : Nat) (bs : List Byte) : Ends s (s.writeRows req t a bs).1 := by
  unfold State.writeRows
  generalize spanLines a bs.length = ls
  generalize true = ok
  induction ls generalizing s ok with
  | nil => exact .refl s
  | cons l ls ih =>
    rw [List.foldl_cons]
    exact (writeRow s req t _ _).trans (ih _ _)

/-- A write to tile memories, or to what is no memory. -/
theorem writeSpan (s : State) (req : Req) {a : Nat} (bs : List Byte) (h : 0x200000000000 ≤ a) :
    Ends s (s.writeSpan req a bs).1 := by
  unfold State.writeSpan
  split
  case h_1 hs => exact absurd hs (target_ne_stack h)
  case h_2 hs => exact absurd hs (target_ne_hole h)
  case h_3 t off _ =>
    split
    · exact .refl s
    · split
      · exact .refl s
      · split
        · exact .refl s
        · exact writeRows s req t a bs
  all_goals exact .refl s

theorem statusRecord (s : State) (t e : Nat) (q : QEntry) (r : Done) : Ends s (s.statusRecord t e q r) := by
  unfold State.statusRecord
  split
  · exact .refl s
  · split
    · exact .refl s
    · split
      · exact .refl s
      · rename_i a ha
        refine writeSpan s _ _ ?_
        unfold State.scratch at ha
        dsimp only at ha
        split at ha
        · cases ha
          unfold tileBase
          omega
        · cases ha

/-! #### The signal -/

theorem sendMessage (s : State) (dest : Nat) (ws : List Nat) (owner : TxOwner) : Ends s (s.sendMessage dest ws owner) := by
  unfold State.sendMessage
  split
  · exact of_sends (Sends.originate _ _ _ _ _ _ _ _ _)
  · exact of_sends (Sends.report _ _)

theorem post (s : State) (w : Nat) (amount : Option Nat) (src : SigSrc) : Ends s (s.post w amount src) := by
  unfold State.post
  dsimp only
  split
  · exact of_sends (Sends.report _ _)
  · split
    · split
      · exact launch _ _
      · exact sendMessage _ _ _ _
    · exact launch _ _

theorem postRect (s : State) (w amount : Nat) (tiles : List Nat) (src : SigSrc) : Ends s (s.postRect w amount tiles src) := by
  unfold State.postRect
  split
  · exact of_sends (Sends.report _ _)
  · exact .foldl (fun _ _ => launch _ _) _ _

theorem completionSignal (s : State) (t e : Nat) (q : QEntry) (r : Done) : Ends s (s.completionSignal t e q r) := by
  unfold State.completionSignal
  split
  · exact .refl s
  · exact .ite (postRect _ _ _ _ _) (post _ _ _ _)

theorem ending (s : State) (t e : Nat) (q : QEntry) (r : Done) : Ends s (s.ending t e q r) :=
  .ite ((statusRecord s t e q r).trans (completionSignal _ t e q r))
    ((statusRecord s t e q r).trans (tileErr _ _ _ _ _ _ _ _ _ _ _))

end Ends

/-! ### The head descriptor complete -/

section

variable {s : State} {t e : Nat} {q : QEntry} {rest : List QEntry} {r : Done}

theorem completeHead_unblocked (hq : (s.engine t e).queue = q :: rest) (hr : (s.engine t e).done = some r)
    (hb : (s.engine t e).blocked = []) :
    (s.completeHead t e).engine t e = { s.engine t e with queue := rest, completed := q.ticket, done := none } ∧
      (s.completeHead t e).arrays = s.arrays ∧ (s.completeHead t e).pending = s.pending ∧
      (s.completeHead t e).fuses = s.fuses ∧
      ∀ f i x, f.spec.reg ∉ endRegs → (s.completeHead t e).rd f i x = s.rd f i x := by
  have hends := Ends.ending s t e q r
  have heng : (s.ending t e q r).engine t e = s.engine t e :=
    engine_of_engines (by have h := congrArg State.engines hends.rest; exact h) t e
  have hticket : ((s.ending t e q r).ticketed t e q rest).engine t e =
      { s.engine t e with queue := rest, completed := q.ticket, done := none } := by
    rw [← heng]
    exact engine_setEngine_self _ t e _
  have hwake := noCtx_wakeFences (w := (s.ending t e q r).ticketed t e q rest) (t := t) (e := e)
  have hengine := (engine_of_noCtx hwake t e).trans hticket
  rw [completeHead_eq hq hr, refill_of_none (by rw [hengine]; exact hb)]
  refine ⟨hengine, ?_, ?_, ?_, fun f i x hf => (rd_of_noCtx hwake f i x).trans (hends.rd f i x hf)⟩
  · have h1 := congrArg State.arrays hwake
    have h2 := congrArg State.arrays hends.rest
    exact h1.trans h2
  · have h1 := congrArg State.pending hwake
    have h2 := congrArg State.pending hends.rest
    exact h1.trans h2
  · have h1 := congrArg State.fuses hwake
    have h2 := congrArg State.fuses hends.rest
    exact h1.trans h2

end

end Sys2Proof.Machine.State

/-! SUPPORT. ARRAY_RESUME and PASS_COMPLETE (R101, R139, R144, R150). -/
namespace Sys2Proof.Machine.State

open Sys2Proof.Claims

section

variable {s : State} {t : Nat} {q : QEntry} {rest : List QEntry} {r : Done}

/-! ### A frozen array goes on -/

theorem exec_arrayResume (ht : t < s.nTiles) : exec (.arrayResume t) s = answer s (s.resumeArray t) :=
  answerIf_true (hasTile_of ht)

theorem resumeArray_running (h : (s.array t).frozen = false) : s.resumeArray t = s := by
  unfold resumeArray
  rw [h]
  rfl

theorem resumeArray_frozen (h : (s.array t).frozen = true) :
    s.resumeArray t = (s.countFreeze t).setArray t { s.array t with frozen := false } := by
  unfold resumeArray
  rw [h]
  rfl

/-! ### A pass completes -/

theorem exec_passComplete (ht : t < s.nTiles) : exec (.passComplete t) s = answer s (s.completePass t) :=
  answerIf_true (hasTile_of ht)

theorem completePass_frozen (hs : (s.array t).started = true) (h : (s.array t).frozen = true) : s.completePass t = s := by
  unfold completePass
  dsimp only
  rw [if_pos ⟨hs, .inl h⟩]

/-- The cycles of a pass are counted, and the array holds no pass. -/
def passEnded (s : State) (t : Nat) (q : QEntry) (r : Done) : State :=
  (if (s.array t).started = true ∧ r.code = 0 then (s.countPass t).wr .ARR_CUR_BLOCK t 0 (Pd.blocks q.desc - 1)
    else s.countPass t).setArray t MatArray.init

/-- The pass is counted, and ARR_CUR names its ticket. -/
def passCounted (w : State) (t : Nat) (q : QEntry) : State :=
  (w.bump .ARR_PASSES_COUNT t 0 1).wr .ARR_CUR_TICKET t 0 q.ticket

theorem completePass_ends (hfrozen : (s.array t).frozen = false) (hgate : s.gateDepth t < 64)
    (hq : (s.engine t eArray).queue = q :: rest) (hr : (s.engine t eArray).done = some r) :
    s.completePass t = (((s.passEnded t q r).completeHead t eArray).passCounted t q).headPass t := by
  unfold completePass
  dsimp only
  rw [if_neg (by rintro ⟨-, h | h⟩; exacts [Bool.false_ne_true (hfrozen.symm.trans h), Nat.not_le.2 hgate h]), hq, hr]
  rfl

/-- Of the registers, what a pass changes as it ends: its cycles, and ARR_CUR. -/
theorem keeps_passEnded : Keeps noServe (fun f => f.spec.reg ∈ .ARR_CUR :: cycleRegs) s (s.passEnded t q r) := by
  have hcount : Keeps noServe (fun f => f.spec.reg ∈ Reg.ARR_CUR :: cycleRegs) s (s.countPass t) :=
    (keeps_countPass s t).mono fun _ => List.mem_cons_of_mem _
  have hcur : Keeps noServe (fun f => f.spec.reg ∈ Reg.ARR_CUR :: cycleRegs) s
      ((s.countPass t).wr .ARR_CUR_BLOCK t 0 (Pd.blocks q.desc - 1)) :=
    hcount.trans (Keeps.wr t 0 _ rfl (List.mem_cons_self ..) (by decide))
  exact (Keeps.ite hcur hcount).trans (.of_rd rfl (rd_setArray _ t _))

theorem blocks_lt (d : Nat) : Pd.blocks d - 1 < 2 ^ 12 := by
  have h : bits (dw d 3) 47 36 < 2 ^ 12 := Nat.mod_lt _ (by decide)
  exact h

/-- ARR_CUR.BLOCK shows the last block of a pass without an error. -/
theorem block_passEnded (hs : (s.array t).started = true) (hc : r.code = 0) :
    (s.passEnded t q r).rd .ARR_CUR_BLOCK t = Pd.blocks q.desc - 1 := by
  unfold passEnded
  rw [if_pos ⟨hs, hc⟩, rd_setArray, rd_wr_self]
  exact Nat.mod_eq_of_lt (blocks_lt q.desc)

section

variable (w : State)

theorem ticket_passCounted : (w.passCounted t q).rd .ARR_CUR_TICKET t = q.ticket % 65536 := rd_wr_self _ _ _ _ _

theorem count_passCounted : (w.passCounted t q).rd .ARR_PASSES_COUNT t =
    min (w.rd .ARR_PASSES_COUNT t + 1) (2 ^ Fd.ARR_PASSES_COUNT.width - 1) :=
  (rd_wr_out _ _ _ _ _ _ (by decide) (by decide)).trans (rd_bump_self w _ _ _ _)

theorem block_passCounted : (w.passCounted t q).rd .ARR_CUR_BLOCK t = w.rd .ARR_CUR_BLOCK t :=
  (rd_wr_ne _ _ (fun h => absurd h (by decide)) (by simp)).trans (rd_wr_out _ _ _ _ _ _ (by decide) (by decide))

end

end

/-! ### The two commands -/

theorem array_of_arrays {u v : State} (h : u.arrays = v.arrays) (t : Nat) : u.array t = v.array t := by
  unfold array
  rw [h]

theorem arrayResumes {s : State} {t : Nat} (ht : t < s.nTiles) (h : (s.array t).frozen = true) :
    ∃ u, exec (.arrayResume t) s = .next u ∧ u.array t = { s.array t with frozen := false } ∧
      regsBut s u [.ARR_STALL_A, .ARR_STALL_B] ∧ u.mem = s.mem ∧ u.engine t eArray = s.engine t eArray := by
  have hfreeze := keeps_countFreeze s t
  have hset := (hfreeze.mono fun _ hf => List.mem_append_right _ (List.mem_append_right _ hf) : Serves s (s.countFreeze t)).trans
    (Serves.setArray _ t { s.array t with frozen := false })
  rw [exec_arrayResume ht, resumeArray_frozen h]
  exact ⟨_, next_of_noServe hset.rest, array_setArray_self _ t _,
    fun f i x hf => (rd_setArray _ t _ f i x).trans (hfreeze.rd f i x hf), Serves.mem hset, Serves.engine hset t eArray⟩

theorem passCompletes {s : State} {t : Nat} {q : QEntry} {rest : List QEntry} {r : Done} (ht : t < s.nTiles)
    (hs : (s.array t).started = true) (hfrozen : (s.array t).frozen = false) (hgate : s.gateDepth t < 64)
    (hq : (s.engine t eArray).queue = q :: rest) (hr : (s.engine t eArray).done = some r)
    (hb : (s.engine t eArray).blocked = []) :
    ∃ u, exec (.passComplete t) s = .next u ∧ (u.engine t eArray).queue = rest ∧
      (u.engine t eArray).completed = q.ticket ∧ (rest = [] → (u.array t).started = false) ∧
      u.rd .ARR_CUR_TICKET t = q.ticket % 65536 ∧ (r.code = 0 → u.rd .ARR_CUR_BLOCK t = Pd.blocks q.desc - 1) ∧
      u.rd .ARR_PASSES_COUNT t = min (s.rd .ARR_PASSES_COUNT t + 1) (2 ^ Fd.ARR_PASSES_COUNT.width - 1) := by
  have hended : Keeps noServe _ s (s.passEnded t q r) := keeps_passEnded
  have hpend : (s.passEnded t q r).pending = s.pending := by have h := congrArg State.pending hended.rest; exact h
  have hfuse : (s.passEnded t q r).fuses = s.fuses := by have h := congrArg State.fuses hended.rest; exact h
  have heng : (s.passEnded t q r).engine t eArray = s.engine t eArray :=
    engine_of_engines (by have h := congrArg State.engines hended.rest; exact h) t eArray
  have hfree : (s.passEnded t q r).array t = MatArray.init := array_setArray_self _ t _
  obtain ⟨hengine, harrays, hpend', hfuse', hrd⟩ := completeHead_unblocked (s := s.passEnded t q r) (by rw [heng, hq])
    (by rw [heng, hr]) (by rw [heng, hb])
  rw [exec_passComplete ht, completePass_ends hfrozen hgate hq hr]
  generalize (s.passEnded t q r).completeHead t eArray = w at *
  have hcounted : (w.passCounted t q).engine t eArray = { (s.passEnded t q r).engine t eArray with
    queue := rest, completed := q.ticket, done := none } := hengine
  refine ⟨_, (Heads.headPass _ t).next (hpend'.trans hpend) (hfuse'.trans hfuse), ?_, ?_, fun hempty => ?_, ?_,
    fun hc => ?_, ?_⟩
  · rw [((Heads.headPass _ t).queues t eArray).1, hcounted]
  · rw [completed_headPass, hcounted]
  · rw [headPass_empty (by rw [hcounted]; exact hempty)]
    have harray : (w.passCounted t q).array t = (s.passEnded t q r).array t := array_of_arrays harrays t
    rw [harray, hfree]
    rfl
  · rw [rd_headPass _ t t 0 (by decide), ticket_passCounted]
  · rw [rd_headPass _ t t 0 (by decide), block_passCounted, hrd _ _ _ (by decide), block_passEnded hs hc]
  · rw [rd_headPass _ t t 0 (by decide), count_passCounted, hrd _ _ _ (by decide), hended.rd _ _ _ (by decide)]

end Sys2Proof.Machine.State

namespace Sys2Proof

open Machine Machine.State Claims

/-- The last part of O20. -/
theorem passesComplete : PassesComplete := by
  unfold PassesComplete
  intro s t ht
  refine ⟨fun h => ?_, arrayResumes ht, fun hs h => ?_, fun q rest r hs hf hg hq hr hb => passCompletes ht hs hf hg hq hr hb⟩
  · rw [exec_arrayResume ht, resumeArray_running h, answer_self]
  · rw [exec_passComplete ht, completePass_frozen hs h, answer_self]

end Sys2Proof

/-! SUPPORT. A counter that holds more than its field has bits: a write cuts to the field's width, so that none makes such a
value, but PassesStart does not exclude it. -/
namespace Sys2Proof.Machine.State

open Sys2Proof.Claims

/-- A pass of one block of BF16 by BF16 and one token, which waits for 2 of counter 5. -/
def waitingDesc : Nat := 1 + 2 ^ 6 + 2 ^ 10 + 2 ^ 14 + 2 ^ 20 + 5 * 2 ^ 21 + 2 * 2 ^ 27 + (0x1000 + 0x10000 * 2 ^ 40) * 2 ^ 64

/-- Tile 0 with this pass at the head of its array's queue, and 2^16 + 2 in the 16 bits of counter 5's VALUE. -/
def overfull : State :=
  { State.reset with
    boot := { Boot.init with pwrok := true, fuseDone := true, order := 7, romDone := true, retry := false }
    shutters := [(⟨kTile, 0, 0⟩, 0)]
    engines := [(⟨0, eArray, 0⟩, { Engine.init with queue := [⟨waitingDesc, 0, 1⟩], issued := 1 })]
    regs := [(key .TILE_WATERLINE_LEVEL 0 0, 4), (key .SIG_CNT_VALUE 0 5, 2 ^ 16 + 2)] }

theorem overfull_asks : AsksAmount overfull 0 ⟨waitingDesc, 0, 1⟩ :=
  ⟨by decide +kernel, by decide +kernel, by decide +kernel, by decide +kernel, by decide +kernel, by decide +kernel,
   by decide +kernel, by decide +kernel, by decide +kernel⟩

theorem overfull_counter : Pd.waitCtr waitingDesc = 5 ∧ Pd.waitAmt waitingDesc = 2 ∧ overfull.waitersOn 0 5 = [] ∧
    overfull.rd .SIG_CNT_VALUE 0 5 = 2 ^ 16 + 2 := by decide +kernel

end Sys2Proof.Machine.State

namespace Sys2Proof

open Machine Machine.State Claims

/-- Refutes O20: of its three parts `matrixPasses` and `passesComplete` hold; PassesStart leaves open how much the counter holds,
and a pass that takes 2 of a VALUE of 2^16 + 2 leaves 0 there, not 2^16, since a write cuts to the field's 16 bits. With a VALUE
below 2^16 PassesStart holds too (`passesStart_of_value_lt`). -/
theorem not_matrixArray : ¬ Obligations.MatrixArray := by
  unfold Obligations.MatrixArray
  rintro ⟨-, hstart, -⟩
  obtain ⟨hn, hm, hw, hv⟩ := overfull_counter
  have h := overfull_asks
  have hclaim := (hstart overfull 0 ⟨waitingDesc, 0, 1⟩ h.tile h.head h.notStarted h.notWaiting h.notStopped h.sound h.inside
    h.placed h.asks).2
  dsimp only at hclaim
  rw [hn, hm] at hclaim
  obtain ⟨u, hu, -, -, -, hleft⟩ := hclaim hw (by rw [hv]; decide)
  have hmodel := h.starts (by rw [hn]; exact hw) (by rw [hn, hm, hv]; decide)
  rw [hn, hm] at hmodel
  obtain ⟨v, hv', -, -, -, hvalue⟩ := hmodel
  cases hu.symm.trans hv'
  rw [hv] at hleft hvalue
  exact absurd (hleft.symm.trans hvalue) (by decide)

end Sys2Proof

/-! SUPPORT. The shingle units of a stack: what their accesses to memory, their errors and the fields they write leave alone
(R187, R190, R203 to R205, R237, R248). -/
namespace Sys2Proof.Machine.State

open Sys2Proof.Claims

/-! ### What the work of a shingle unit changes -/

/-- The registers that the work of a shingle unit may change beside its own: those of error reports, what a controller or a
tile keeps of an error, and what counts bytes and blocks. -/
def codecRegs : List Reg := errRegs ++ recordRegs ++ [.MEM_ERR_INFO, .MEM_ERR_SYND, .MEM_UE_COUNT, .MEM_RD_BYTES,
  .MEM_WR_BYTES, .TILE_ERR_INFO, .SHG_ERR_INFO, .SHG_ERR_LEN, .SHG_COMPRESSED, .SHG_CMP_RAW]

/-- `u` differs from `s` in memory, in reports, and in the registers that the work of a shingle unit changes alone. -/
abbrev Codes : State → State → Prop := Keeps noData fun f => f.spec.reg ∈ codecRegs

namespace Codes

variable {s u : State}

theorem shingle (h : Codes s u) (st : Nat) : u.shingle st = s.shingle st := by
  have h := congrArg (fun v : State => v.shingle st) h.rest; exact h

theorem pending (h : Codes s u) : u.pending = s.pending := by have h := congrArg State.pending h.rest; exact h

theorem fuses (h : Codes s u) : u.fuses = s.fuses := by have h := congrArg State.fuses h.rest; exact h

theorem answers (h : Codes s u) : answer s u = .next u := answer_eq h.pending h.fuses

theorem flag (h : Codes s u) {f : Fd} (i x : Nat) (hf : f.spec.reg ∉ codecRegs) : u.flag f i x = s.flag f i x := by
  unfold State.flag
  rw [h.rd f i x hf]

theorem report (s : State) (e : Err) : Codes s (s.report e) :=
  ⟨noData_of_noTideRec (noTideRec_report s e), fun f i x hf =>
    rd_report s e f i x (fun h => hf (List.mem_append_left _ (List.mem_append_left _ (errReg_mem h))))
      fun h => hf (List.mem_append_left _ (List.mem_append_right _ h))⟩

theorem wr (s : State) {f : Fd} (i x n : Nat) (hf : f.spec.reg ∈ codecRegs) : Codes s (s.wr f i x n) :=
  Keeps.wr i x n rfl hf (by rintro rfl; exact absurd hf (by decide))

theorem mem (s : State) (m : Memory) : Codes s { s with mem := m } := .of_rd rfl fun _ _ _ => rfl

/-- A loop that carries a state with other results, each step of which is such a change. -/
theorem foldl_codes {α β : Type} {f : State × β → α → State × β} (hf : ∀ x a, Codes x.1 (f x a).1) (l : List α)
    (x : State × β) : Codes x.1 (l.foldl f x).1 := by
  induction l generalizing x with
  | nil => exact .refl _
  | cons a l ih => exact (hf x a).trans (ih _)

/-! #### Errors of the controllers and the tiles -/

theorem memErr (s : State) (st n : Nat) (req : Req) (a synd : Nat) (void : Bool) :
    Codes s (s.memErr st n req a synd void) := by
  unfold State.memErr
  exact (Keeps.ite ((((wr s _ _ _ (by decide)).trans (wr _ _ _ _ (by decide))).trans (wr _ _ _ _ (by decide))).trans
    (wr _ _ _ _ (by decide))) (.refl s)).trans (report _ _)

theorem memUncorrectable (s : State) (req : Req) (a synd : Nat) : Codes s (s.memUncorrectable req a synd) :=
  (wr s _ _ _ (by decide)).trans (memErr _ _ _ _ _ _ _)

theorem rangeError (s : State) (req : Req) (a : Nat) : Codes s (s.rangeError req a) := by
  unfold State.rangeError
  exact (Keeps.ite ((((wr s _ _ _ (by decide)).trans (wr _ _ _ _ (by decide))).trans (wr _ _ _ _ (by decide))).trans
    (wr _ _ _ _ (by decide))) (.refl s)).trans (report _ _)

theorem tileErr (s : State) (t n addr : Nat) (void : Bool) (ok o d5 d6 wk w : Nat) :
    Codes s (s.tileErr t n addr void ok o d5 d6 wk w) := by
  unfold State.tileErr
  exact (Keeps.ite (wr s _ _ _ (by decide)) (.refl s)).trans (report _ _)

/-! #### Reads and writes -/

theorem readSpan (s : State) (req : Req) (a n : Nat) : Codes s (s.readSpan req a n).1 := by
  unfold State.readSpan
  split
  · split
    · split
      · exact rangeError s _ _
      · exact .refl s
    · split
      · exact .refl s
      · split
        · exact memUncorrectable s _ _ _
        · exact .foldl (fun s _ => wr s _ _ _ (by decide)) _ s
  · exact rangeError s _ _
  · split
    · exact .refl s
    · split
      · exact .refl s
      · split
        · dsimp only
          exact tileErr s _ _ _ _ _ _ _ _ _ _
        · exact .refl s
  all_goals exact .refl s

theorem writeLine (s : State) (req : Req) (a : Nat) (bs : List Byte) : Codes s (s.writeLine req a bs).1 := by
  unfold State.writeLine
  split
  · split
    · exact mem s _
    · exact memUncorrectable s _ _ _
  · exact Keeps.ite (mem s _) ((mem s _).trans (wr _ _ _ _ (by decide)))

theorem stackLine (s : State) (req : Req) (fs : List (Fail × Nat)) (a : Nat) (bs : List Byte) :
    Codes s (s.stackLine req fs a bs).1 := by
  unfold State.stackLine
  extract_lets st add
  split
  · split
    · exact .refl s
    · dsimp only
      split
      · exact .refl s
      · exact rangeError s _ _
  · split
    · dsimp only
      split
      · exact .refl s
      · exact memErr s _ _ _ _ _ _
    · split
      · exact .refl s
      · dsimp only
        split
        · exact (writeLine s req a bs).trans (wr _ _ _ _ (by decide))
        · exact writeLine s req a bs

theorem stackLines (s : State) (req : Req) (a : Nat) (bs : List Byte) : Codes s (s.stackLines req a bs).1 := by
  have h (ls : List Nat) : ∀ x : State × List (Fail × Nat), Codes x.1 (ls.foldl (fun acc l =>
      acc.1.stackLine req acc.2 (max a (64 * l)) ((bs.drop (max a (64 * l) - a)).take (lineBytes a bs.length l))) x).1 := by
    induction ls with
    | nil => exact fun x => .refl x.1
    | cons l ls ih =>
      intro x
      rw [List.foldl_cons]
      exact (stackLine x.1 req x.2 _ _).trans (ih _)
  exact h _ (s, [])

theorem writeRow (s : State) (req : Req) (t a : Nat) (bs : List Byte) : Codes s (s.writeRow req t a bs).1 := by
  unfold State.writeRow
  split
  · split
    · exact mem s _
    · exact (mem s (s.mem.writeGood a bs)).trans (tileErr _ t 1 _ true 6 0 _ 0 _ _)
  · exact mem s _

theorem writeRows (s : State) (req : Req) (t a : Nat) (bs : List Byte) : Codes s (s.writeRows req t a bs).1 := by
  unfold State.writeRows
  refine foldl_codes (fun acc l => ?_) _ (s, true)
  exact writeRow acc.1 req t _ _

/-- A write of a shingle unit, which is none of the mirror's. -/
theorem writeSpan (s : State) (a : Nat) (bs : List Byte) : Codes s (s.writeSpan shingleReq a bs).1 := by
  unfold State.writeSpan
  split
  · exact stackLines s _ a bs
  · exact rangeError s _ _
  · split
    · exact .refl s
    · split
      · exact .refl s
      · split
        · exact .refl s
        · exact writeRows s _ _ a bs
  all_goals exact .refl s

theorem shingleIsolated (s : State) (st : Nat) (f : Option Fail) (a : Nat) : Codes s (s.shingleIsolated st f a) :=
  Keeps.ite (report _ _) (.refl s)

theorem shgWrite (s : State) (st a : Nat) (bs : List Byte) : Codes s (s.shgWrite st a bs).1 :=
  (writeSpan s a bs).trans (shingleIsolated _ _ _ _)

/-! #### Errors of the unit, and blocks coded -/

theorem shgErr (s : State) (st index : Nat) (void : Bool) (addr subcode declExp prodExp declCoded : Nat) :
    Codes s (s.shgErr st index void addr subcode declExp prodExp declCoded) := by
  unfold State.shgErr
  exact (Keeps.ite (((((wr s _ _ _ (by decide)).trans (wr _ _ _ _ (by decide))).trans (wr _ _ _ _ (by decide))).trans
    (wr _ _ _ _ (by decide))).trans (wr _ _ _ _ (by decide))) (.refl s)).trans (report _ _)

theorem compressBlock (s : State) (st fmt epoch : Nat) (books : List Codec.Book) (bs : List Byte) :
    Codes s (s.compressBlock st fmt epoch books bs).1 := by
  unfold State.compressBlock
  split
  · exact wr s _ _ _ (by decide)
  · exact wr s _ _ _ (by decide)

theorem recodeBlocks (s : State) (st base epoch fmt : Nat) (books : List Codec.Book) (map : List Nat) :
    Codes s (s.recodeBlocks st base epoch fmt books map).1 := by
  unfold State.recodeBlocks
  refine foldl_codes (fun acc e => ?_) map (s, [], 0)
  dsimp only
  split
  · exact .refl _
  · exact (compressBlock _ _ _ _ _ _).trans (shgWrite _ _ _ _)

end Codes

/-! ### Reads of a shingle unit -/

/-- What a read changes: registers and reports, no byte. -/
structure Reads (s u : State) : Prop where
  codes : Codes s u
  rest : u.noTideRec = s.noTideRec

namespace Reads

variable {s u v : State}

theorem refl (s : State) : Reads s s := ⟨.refl s, rfl⟩

theorem trans (h : Reads s u) (k : Reads u v) : Reads s v := ⟨h.codes.trans k.codes, k.rest.trans h.rest⟩

theorem mem (h : Reads s u) : u.mem = s.mem := by have h := congrArg State.mem h.rest; exact h

theorem flights (h : Reads s u) : u.flights = s.flights := by have h := congrArg State.flights h.rest; exact h

theorem readSpan (s : State) (req : Req) (a n : Nat) : Reads s (s.readSpan req a n).1 :=
  ⟨.readSpan s req a n, noTideRec_readSpan s req a n⟩

theorem shingleIsolated (s : State) (st : Nat) (f : Option Fail) (a : Nat) : Reads s (s.shingleIsolated st f a) := by
  refine ⟨.shingleIsolated s st f a, ?_⟩
  unfold State.shingleIsolated reportIsolated
  split
  · exact noTideRec_report _ _
  · rfl

theorem shgErr (s : State) (st index : Nat) (void : Bool) (addr subcode declExp prodExp declCoded : Nat) :
    Reads s (s.shgErr st index void addr subcode declExp prodExp declCoded) := by
  refine ⟨.shgErr s st index void addr subcode declExp prodExp declCoded, ?_⟩
  unfold State.shgErr
  dsimp only
  rw [noTideRec_report]
  split <;> rfl

theorem shgRead (s : State) (st a n : Nat) : Reads s (s.shgRead st a n).1 := by
  have hread := readSpan s shingleReq a n
  unfold State.shgRead
  split
  · rename_i e; rw [e] at hread; exact hread
  · rename_i e; rw [e] at hread; exact hread.trans (shingleIsolated _ _ _ _)

theorem bookRead (s : State) (req : Req) (a : Nat) : Reads s (s.bookRead req a).1 := by
  have hhead := readSpan s req a 64
  unfold State.bookRead
  split
  · rename_i e; rw [e] at hhead; exact hhead
  · rename_i t hb e
    rw [e] at hhead
    have hbody := hhead.trans (readSpan t req (a + 64) (4 * min (Codec.head hb).size 4096))
    split
    · rename_i e'; rw [e'] at hbody; exact hbody
    · rename_i e'; rw [e'] at hbody; exact hbody

theorem recodeBook (s : State) (st j : Nat) : Reads s (s.recodeBook st j).1 := by
  have hbook := bookRead s shingleReq (s.recodeBookAt st j)
  unfold State.recodeBook
  split
  · rename_i e; rw [e] at hbook; exact hbook.trans (shingleIsolated _ _ _ _)
  · rename_i e; rw [e] at hbook; exact hbook

theorem recodeBooksOf (s : State) (st : Nat) (js : List Nat) : Reads s (s.recodeBooksOf st js).1 := by
  induction js generalizing s with
  | nil => exact refl s
  | cons j js ih =>
    have hbook := recodeBook s st j
    unfold State.recodeBooksOf
    split
    · rename_i e; rw [e] at hbook; exact hbook
    · rename_i t b e
      rw [e] at hbook
      have hbooks := hbook.trans (ih t)
      split
      · rename_i e'; rw [e'] at hbooks; exact hbooks
      · rename_i e'; rw [e'] at hbooks; exact hbooks

theorem recodeBooks (s : State) (st : Nat) : Reads s (s.recodeBooks st).1 := by
  have hbook := recodeBook s st 0
  unfold State.recodeBooks
  split
  · rename_i e; rw [e] at hbook; exact hbook
  · rename_i t b0 e
    rw [e] at hbook
    have hbooks := hbook.trans (recodeBooksOf t st ((List.range (Codec.planes (Codec.head b0).format)).drop 1))
    split
    · rename_i e'; rw [e'] at hbooks; exact hbooks
    · rename_i e'; rw [e'] at hbooks; exact hbooks

/-- The state that a read answers with. -/
theorem of_readSpan {req : Req} {a n : Nat} {r : Except Fail (List Byte)} (h : s.readSpan req a n = (u, r)) : Reads s u := by
  have hr := readSpan s req a n
  rw [h] at hr
  exact hr

theorem of_recodeBooks {st : Nat} {r : Except Fail (List (List Byte))} (h : s.recodeBooks st = (u, r)) : Reads s u := by
  have hr := recodeBooks s st
  rw [h] at hr
  exact hr

end Reads

theorem shgRead_ok {s w : State} {st a n : Nat} {bs : List Byte} (h : s.readSpan shingleReq a n = (w, .ok bs)) :
    s.shgRead st a n = (w, .ok bs) := by
  unfold shgRead
  rw [h]

theorem shgWrite_done {s w : State} {st a : Nat} {bs : List Byte} (h : s.writeSpan shingleReq a bs = (w, none)) :
    s.shgWrite st a bs = (w, true) := by
  unfold shgWrite
  rw [h]
  rfl

theorem mem_shgWrite (s : State) (st a : Nat) (bs : List Byte) :
    (s.shgWrite st a bs).1.mem = (s.writeSpan shingleReq a bs).1.mem :=
  (Reads.shingleIsolated _ _ _ _).mem

/-! ### Errors of a shingle unit -/

section

variable {s : State} {st addr : Nat} {void : Bool}

/-- An error is one report, before which SHG_ERR_INFO and SHG_ERR_LEN alone may have changed. -/
theorem reports_shgErr (s : State) (st index : Nat) (void : Bool) (addr subcode declExp prodExp declCoded : Nat) :
    ∃ w, reports w (s.shgErr st index void addr subcode declExp prodExp declCoded) 0x0D index st void ∧
      w.noRegs = s.noRegs ∧ regsBut s w [.SHG_ERR_INFO, .SHG_ERR_LEN] := by
  refine ⟨_, ⟨_, rfl, rfl, rfl, rfl, rfl⟩, ?_, fun f i x hf => ?_⟩
  · split <;> rfl
  · simp only [List.mem_cons, List.not_mem_nil, or_false, not_or] at hf
    obtain ⟨hinfo, hlen⟩ := hf
    split
    · rw [rd_wr_out _ _ _ _ _ _ hlen (by decide), rd_wr_out _ _ _ _ _ _ hlen (by decide),
        rd_wr_out _ _ _ _ _ _ hlen (by decide), rd_wr_out _ _ _ _ _ _ hinfo (by decide),
        rd_wr_out _ _ _ _ _ _ hinfo (by decide)]
    · rfl

theorem voided_shgErr (s : State) (st index addr subcode declExp prodExp declCoded : Nat) :
    (s.shgErr st index true addr subcode declExp prodExp declCoded).rd .SIG_STATUS_VOIDED = 1 :=
  rd_report_voided _ _

theorem flag_surveyErr : (s.surveyErr st addr void).flag .SHG_ERR_STATUS_SURVEY st = true :=
  flag_report _ _ (Nat.lt_of_sub_eq_succ rfl) rfl rfl

theorem flag_recodeErr : (s.recodeErr st addr void).flag .SHG_ERR_STATUS_RECODE st = true :=
  flag_report _ _ (Nat.lt_of_sub_eq_succ rfl) rfl rfl

end

end Sys2Proof.Machine.State

/-! SUPPORT. The survey of a stack: the writes that open it, feed it and finish it, the feeds processed, and the books written
(R186 to R190, R205). -/
namespace Sys2Proof.Machine.State

open Sys2Proof.Claims

/-! ### The units of a stack and the fields written for them -/

/-- Fields of a stack written one after another. -/
def writes (s : State) (st : Nat) (l : List (Fd × Nat)) : State := l.foldl (fun s w => s.wr w.1 st 0 w.2) s

/-- Fields without repetition, none of which is copied into other registers. -/
abbrev Apart (fs : List Fd) : Prop := fs.Nodup ∧ ∀ f ∈ fs, f ≠ .GLB_TILE_RANK_ORDER

section

variable {s u : State} {st : Nat} {l : List (Fd × Nat)}

theorem noRegs_writes (s : State) (st : Nat) (l : List (Fd × Nat)) : (s.writes st l).noRegs = s.noRegs := by
  unfold writes
  exact foldl_keeps noRegs (fun s _ => noRegs_wr s _ _ _ _) l s

theorem rd_writes_out {f : Fd} {i x : Nat} (hl : Apart (l.map Prod.fst)) (h : ¬(f ∈ l.map Prod.fst ∧ i = st ∧ x = 0)) :
    (s.writes st l).rd f i x = s.rd f i x := by
  induction l generalizing s with
  | nil => rfl
  | cons w l ih =>
    have hw : (s.wr w.1 st 0 w.2).rd f i x = s.rd f i x :=
      rd_wr_ne s _ (fun _ => hl.2 _ List.mem_cons_self) fun e => h ⟨e.1 ▸ List.mem_cons_self, e.2⟩
    exact (ih ⟨(List.nodup_cons.1 hl.1).2, fun g hg => hl.2 g (List.mem_cons_of_mem _ hg)⟩
      fun e => h ⟨List.mem_cons_of_mem _ e.1, e.2⟩).trans hw

theorem rd_writes_mem {w : Fd × Nat} (hl : Apart (l.map Prod.fst)) (hw : w ∈ l) :
    (s.writes st l).rd w.1 st = w.2 % 2 ^ w.1.width := by
  induction l generalizing s with
  | nil => cases hw
  | cons v l ih =>
    obtain ⟨hv, hnodup⟩ := List.nodup_cons.1 hl.1
    have hl' : Apart (l.map Prod.fst) := ⟨hnodup, fun g hg => hl.2 g (List.mem_cons_of_mem _ hg)⟩
    rcases List.mem_cons.1 hw with rfl | hw
    · exact (rd_writes_out hl' fun e => hv e.1).trans (rd_wr_self _ _ _ _ _)
    · exact ih hl' hw

theorem puts_writes (s : State) (st : Nat) (hl : Apart (l.map Prod.fst)) :
    puts s (s.writes st l) (l.map fun w => (w.1, st, 0, w.2)) := by
  refine ⟨fun w hw => ?_, fun f i x h => rd_writes_out hl fun ⟨hm, hi, hx⟩ => ?_⟩
  · obtain ⟨v, hv, rfl⟩ := List.mem_map.1 hw
    exact rd_writes_mem hl hv
  · obtain ⟨v, hv, rfl⟩ := List.mem_map.1 hm
    exact h _ (List.mem_map.2 ⟨v, hv, rfl⟩) (by rw [hi, hx])

/-- What the unit of a stack holds does not bear on the registers. -/
theorem puts_setShingle {m : List (Fd × Nat × Nat × Nat)} (h : puts s u m) (y : Shingle) : puts s (u.setShingle st y) m :=
  puts_of_rd h fun _ _ _ => rfl

@[simp] theorem shingle_setShingle_self (s : State) (st : Nat) (y : Shingle) : (s.setShingle st y).shingle st = y :=
  SMap.get_set_self _ _ _ _

theorem shingle_writes (s : State) (st : Nat) (l : List (Fd × Nat)) (st' : Nat) : (s.writes st l).shingle st' = s.shingle st' := by
  have h := congrArg (fun v : State => v.shingle st') (noRegs_writes s st l)
  exact h

theorem mem_writes (s : State) (st : Nat) (l : List (Fd × Nat)) : (s.writes st l).mem = s.mem := by
  have h := congrArg State.mem (noRegs_writes s st l)
  exact h

theorem pending_writes (s : State) (st : Nat) (l : List (Fd × Nat)) : (s.writes st l).pending = s.pending := by
  have h := congrArg State.pending (noRegs_writes s st l)
  exact h

theorem fuses_writes (s : State) (st : Nat) (l : List (Fd × Nat)) : (s.writes st l).fuses = s.fuses := by
  have h := congrArg State.fuses (noRegs_writes s st l)
  exact h

@[simp] theorem mem_setShingle (s : State) (st : Nat) (y : Shingle) : (s.setShingle st y).mem = s.mem := rfl
@[simp] theorem pending_setShingle (s : State) (st : Nat) (y : Shingle) : (s.setShingle st y).pending = s.pending := rfl
@[simp] theorem fuses_setShingle (s : State) (st : Nat) (y : Shingle) : (s.setShingle st y).fuses = s.fuses := rfl
@[simp] theorem rd_setShingle (s : State) (st : Nat) (y : Shingle) (f : Fd) (i x : Nat) :
    (s.setShingle st y).rd f i x = s.rd f i x := rfl

theorem writes_append (s : State) (st : Nat) (l m : List (Fd × Nat)) : s.writes st (l ++ m) = (s.writes st l).writes st m :=
  List.foldl_append

theorem writes_setShingle (s : State) (st : Nat) (y : Shingle) (l : List (Fd × Nat)) :
    (s.setShingle st y).writes st l = (s.writes st l).setShingle st y := by
  induction l generalizing s with
  | nil => rfl
  | cons w l ih => exact ih (s.wr w.1 st 0 w.2)

/-- Fields written and the unit changed, over a state that has kept the queue and the fuses. -/
theorem answer_writes_of {w : State} (hp : w.pending = s.pending) (hf : w.fuses = s.fuses) (st : Nat) (y : Shingle)
    (l : List (Fd × Nat)) : answer s ((w.writes st l).setShingle st y) = .next ((w.writes st l).setShingle st y) :=
  answer_eq (by rw [pending_setShingle, pending_writes, hp]) (by rw [fuses_setShingle, fuses_writes, hf])

theorem answer_writes (s : State) (st : Nat) (y : Shingle) (l : List (Fd × Nat)) :
    answer s ((s.writes st l).setShingle st y) = .next ((s.writes st l).setShingle st y) := answer_writes_of rfl rfl st y l

end

/-- QUEUED and BUSY as the feeds stand. -/
def surveyLoad (y : Shingle) : List (Fd × Nat) :=
  [(.SHG_SV_STATUS_QUEUED, y.feeds.length), (.SHG_SV_STATUS_BUSY, b2n (y.feeds.length != 0 || y.svFinish))]

theorem surveyCounts_eq (s : State) (st : Nat) : s.surveyCounts st = s.writes st (surveyLoad (s.shingle st)) := rfl

theorem surveyCounts_writes (s : State) (st : Nat) (y : Shingle) (l : List (Fd × Nat)) :
    ((s.setShingle st y).writes st l).surveyCounts st = (s.writes st (l ++ surveyLoad y)).setShingle st y := by
  rw [surveyCounts_eq, shingle_writes, shingle_setShingle_self, ← writes_append, writes_setShingle]

/-! ### SHG_SV_CTRL -/

theorem fv_eq_bits (f : Fd) (v : Nat) (h : f.width = f.spec.hi + 1 - f.spec.lo) : fv f v = bits v f.spec.hi f.spec.lo := by
  unfold fv bits
  rw [h]

theorem fv_withField_self (s : State) (r : RegRef) (f : Fd) (x : Nat) (h : f.width = f.spec.hi + 1 - f.spec.lo) :
    fv f (withField s r f x) = x % 2 ^ f.width := by
  rw [fv_eq_bits f _ h, h]
  exact bits_withBits_self _ _ _ _

theorem fv_open_setBit (v : Nat) : fv .SHG_SV_CTRL_OPEN (setBit v 0) = 1 := by
  rw [fv_eq_bits _ _ rfl]
  exact bits_withBits_self v 0 0 1

/-- The lowest bit that a narrow write leaves as it is, where it is a bit written to set or to clear. -/
theorem heldValue_even (s : State) (r : RegRef)
    (h : ∀ f ∈ r.reg.spec.fields, f.spec.acc = .w1c ∨ f.spec.acc = .w1s ∨ 1 ≤ f.spec.lo) : s.heldValue r % 2 ^ 1 = 0 := by
  unfold heldValue
  suffices hfold : ∀ (l : List Fd) (v : Nat), (∀ f ∈ l, f.spec.acc = .w1c ∨ f.spec.acc = .w1s ∨ 1 ≤ f.spec.lo) →
      (l.foldl (fun v f => if f.spec.acc = .w1c ∨ f.spec.acc = .w1s then v
        else v + s.view f r.inst r.idx % 2 ^ f.width * 2 ^ f.spec.lo) v) % 2 ^ 1 = v % 2 ^ 1 from hfold _ 0 h
  intro l
  induction l with
  | nil => exact fun _ _ => rfl
  | cons f l ih =>
    intro v hl
    rw [List.foldl_cons, ih _ fun g hg => hl g (List.mem_cons_of_mem _ hg)]
    split
    · rfl
    · rename_i hacc
      have hlo : 1 ≤ f.spec.lo := (or_assoc.2 (hl f List.mem_cons_self)).resolve_left hacc
      obtain ⟨k, hk⟩ := Nat.exists_eq_add_of_le hlo
      rw [hk, Nat.pow_add, Nat.mul_left_comm, Nat.add_mul_mod_self_left]

section

variable {s u w : State} {src : Source} {st v a n : Nat} {bs : List Byte} {rest : List (Nat × Nat)}

/-- OPEN, the lowest bit of SHG_SV_CTRL, is written with 0 where FINISH alone is written. -/
theorem fv_open_finish : fv .SHG_SV_CTRL_OPEN (withField s ⟨.SHG_SV_CTRL, st, 0⟩ .SHG_SV_CTRL_FINISH 1) = 0 := by
  have heven := heldValue_even s ⟨.SHG_SV_CTRL, st, 0⟩ (by decide : ∀ f ∈ Reg.SHG_SV_CTRL.spec.fields, _)
  have hkeep := (withBits_mod (s.heldValue ⟨.SHG_SV_CTRL, st, 0⟩) 1 1 1).trans heven
  rw [fv_eq_bits _ _ rfl]
  show bits (withBits (s.heldValue ⟨.SHG_SV_CTRL, st, 0⟩) 1 1 1) 0 0 = 0
  unfold bits
  rw [Nat.pow_zero, Nat.div_one]
  exact hkeep

theorem exec_surveyOpen (h : takes s src ⟨.SHG_SV_CTRL, st, 0⟩ (setBit v 0)) :
    exec (.surveyOpen src st v) s = answer s (s.writeSurveyCtrl ⟨.SHG_SV_CTRL, st, 0⟩ (setBit v 0)) := answerIf_writeWhole h

theorem exec_surveyFeed (h : takes s src ⟨.SHG_SV_FEED, st, 0⟩ v) :
    exec (.surveyFeed src st v) s = answer s (s.feedSurvey src st v) := answerIf_writeWhole h

theorem exec_surveyFinish
    (h : takes s src ⟨.SHG_SV_CTRL, st, 0⟩ (withField s ⟨.SHG_SV_CTRL, st, 0⟩ .SHG_SV_CTRL_FINISH 1)) :
    exec (.surveyFinish src st) s = answer s (s.finishSurvey st) := by
  refine (answerIf_writeWhole h).trans ?_
  show answer s (s.writeSurveyCtrl _ _) = _
  have hfinish := fv_withField_self s ⟨.SHG_SV_CTRL, st, 0⟩ .SHG_SV_CTRL_FINISH 1 rfl
  simp only [writeSurveyCtrl, fv_open_finish, or_true, if_true]
  exact congrArg (answer s) (if_pos hfinish)

/-- The fields of SHG_SV_CTRL that a survey keeps as its parameters (R186). -/
def surveyParams : List Fd := [.SHG_SV_CTRL_TENSOR, .SHG_SV_CTRL_HOME, .SHG_SV_CTRL_EPOCH, .SHG_SV_CTRL_GRAD,
  .SHG_SV_CTRL_FORMAT, .SHG_SV_CTRL_MAXW]

/-- An opened survey: its parameters, its counts and its flags. -/
def surveyOpened (v : Nat) : List (Fd × Nat) :=
  surveyParams.map (fun f => (f, fv f v)) ++ [(.SHG_SV_STATUS_OPEN, 1), (.SHG_SV_STATUS_FED, 0), (.SHG_STATUS_SV_OPEN, 1),
    (.SHG_SV_CTRL_FINISH, 0), (.SHG_SV_STATUS_QUEUED, 0), (.SHG_SV_STATUS_BUSY, 0)]

theorem surveyOpened_apart (v : Nat) : Apart ((surveyOpened v).map Prod.fst) := by
  show Apart (surveyParams ++ [.SHG_SV_STATUS_OPEN, .SHG_SV_STATUS_FED, .SHG_STATUS_SV_OPEN, .SHG_SV_CTRL_FINISH,
    .SHG_SV_STATUS_QUEUED, .SHG_SV_STATUS_BUSY])
  decide

theorem writeSurveyCtrl_again (ho : s.surveyOpen st = true) (hf : fv .SHG_SV_CTRL_FINISH v = 0) :
    s.writeSurveyCtrl ⟨.SHG_SV_CTRL, st, 0⟩ v = s := by
  simp [writeSurveyCtrl, ho, hf]

/-- A unit whose survey has neither feeds nor tables. -/
def unsurveyed (y : Shingle) : Shingle :=
  { y with feeds := [], waitFeeds := [], table := [], fed := [0, 0, 0, 0], svFinish := false }

theorem openSurvey_eq (u : State) (st : Nat) : u.openSurvey st = (u.writes st [(.SHG_SV_STATUS_OPEN, 1), (.SHG_SV_STATUS_FED, 0),
    (.SHG_STATUS_SV_OPEN, 1), (.SHG_SV_CTRL_FINISH, 0), (.SHG_SV_STATUS_QUEUED, 0), (.SHG_SV_STATUS_BUSY, 0)]).setShingle st
      (unsurveyed (u.shingle st)) :=
  surveyCounts_writes u st (unsurveyed (u.shingle st)) [(.SHG_SV_STATUS_OPEN, 1), (.SHG_SV_STATUS_FED, 0),
    (.SHG_STATUS_SV_OPEN, 1), (.SHG_SV_CTRL_FINISH, 0)]

theorem writeSurveyCtrl_opens (hc : s.surveyOpen st = false) (ho : fv .SHG_SV_CTRL_OPEN v = 1)
    (hf : fv .SHG_SV_CTRL_FINISH v = 0) : s.writeSurveyCtrl ⟨.SHG_SV_CTRL, st, 0⟩ v =
      (s.writes st (surveyOpened v)).setShingle st (unsurveyed (s.shingle st)) := by
  have hparams : s.writeSurveyCtrl ⟨.SHG_SV_CTRL, st, 0⟩ v =
      (s.writes st (surveyParams.map fun f => (f, fv f v))).openSurvey st := by
    simp [writeSurveyCtrl, hc, ho, hf, writes, surveyParams]
  rw [hparams, openSurvey_eq, shingle_writes, ← writes_append]
  rfl

/-! ### SHG_SV_FEED and FINISH -/

theorem feedSurvey_closed (hc : s.surveyOpen st = false) : s.feedSurvey src st v = s.surveyErr st (bits v 47 6 * 64) false := by
  simp [feedSurvey, hc]

theorem feedSurvey_full (ho : s.surveyOpen st = true) (hl : 64 ≤ (s.shingle st).feeds.length) : s.feedSurvey src st v =
    s.setShingle st { s.shingle st with waitFeeds := (s.shingle st).waitFeeds ++ [(src, v)] } := by
  simp [feedSurvey, ho, hl]

theorem feedSurvey_unfit (ho : s.surveyOpen st = true) (hl : (s.shingle st).feeds.length < 64)
    (hf : s.feedable (bits v 47 6 * 64) (4096 * (bits v 59 48 + 1)) = false) :
    s.feedSurvey src st v = s.surveyErr st (bits v 47 6 * 64) true := by
  simp [feedSurvey, ho, hl, hf]

/-- A feed queued: a block's address and the number of blocks. -/
def fedTo (x : Shingle) (v : Nat) : Shingle := { x with feeds := x.feeds ++ [(bits v 47 6 * 64, bits v 59 48 + 1)] }

theorem feedSurvey_queues (ho : s.surveyOpen st = true) (hl : (s.shingle st).feeds.length < 64)
    (hf : s.feedable (bits v 47 6 * 64) (4096 * (bits v 59 48 + 1)) = true) : s.feedSurvey src st v =
      (s.writes st [(.SHG_SV_STATUS_QUEUED, (s.shingle st).feeds.length + 1), (.SHG_SV_STATUS_BUSY, 1)]).setShingle st
        (fedTo (s.shingle st) v) := by
  have hqueue : s.feedSurvey src st v = (s.setShingle st (fedTo (s.shingle st) v)).surveyCounts st := by
    simp [feedSurvey, ho, hl, hf, fedTo]
  have hcounts := surveyCounts_writes s st (fedTo (s.shingle st) v) []
  rw [hqueue]
  simpa [fedTo, writes, b2n, surveyLoad] using hcounts

theorem finishSurvey_closed (hc : s.surveyOpen st = false) : s.finishSurvey st = s.surveyErr st 0 false := by
  simp [finishSurvey, hc]

theorem finishSurvey_empty (ho : s.surveyOpen st = true) (hf : (s.shingle st).feeds = []) (hn : at0 (s.shingle st).fed 0 = 0) :
    s.finishSurvey st = s.surveyErr st 0 true := by
  simp [finishSurvey, ho, hf, noVectors, hn]

theorem finishSurvey_asks (ho : s.surveyOpen st = true) (hn : (s.shingle st).feeds ≠ [] ∨ at0 (s.shingle st).fed 0 ≠ 0) :
    s.finishSurvey st = (s.writes st [(.SHG_SV_CTRL_FINISH, 1), (.SHG_SV_STATUS_QUEUED, (s.shingle st).feeds.length),
      (.SHG_SV_STATUS_BUSY, 1)]).setShingle st { s.shingle st with svFinish := true } := by
  have hsome : ((s.shingle st).feeds.isEmpty && s.noVectors st) = false := by
    rcases hn with h | h <;> simp [noVectors, h]
  have hasked : s.finishSurvey st = ((s.setShingle st { s.shingle st with svFinish := true }).writes st
      [(.SHG_SV_CTRL_FINISH, 1)]).surveyCounts st := by
    simp [finishSurvey, ho, hsome, writes]
  rw [hasked, surveyCounts_writes]
  simp [surveyLoad, b2n]

/-! ### Feeds processed -/

theorem exec_surveyFeedDone (h : s.hasStack st = true) : exec (.surveyFeedDone st) s = answer s (s.feedDone st) := answerIf_true h

theorem exec_surveyBooksWritten (h : s.hasStack st = true) :
    exec (.surveyBooksWritten st) s = answer s (s.writeBooks st) := answerIf_true h

theorem exec_surveyProgressTimeout (h : s.hasStack st = true) :
    exec (.surveyProgressTimeout st) s = answer s (s.surveyStall st) := answerIf_true h

theorem feedDone_stalled (hx : (s.shingle st).feeds = (a, n) :: rest) (hs : s.stalled a (4096 * n) = true) :
    s.feedDone st = s := by
  simp [feedDone, hx, hs]

theorem feedDone_none (hx : (s.shingle st).feeds = []) : s.feedDone st = s := by
  simp [feedDone, hx]

theorem takeFeeds_none (h : (s.shingle st).waitFeeds = []) : s.takeFeeds st = s := by
  simp [takeFeeds, h, takeFeedsN]

/-- Taking vectors leaves the feeds that wait. -/
theorem waitFeeds_surveyTake (fmt : Nat) (x : Shingle) (n : Nat) (bs : List Byte) :
    (surveyTake fmt x n bs).waitFeeds = x.waitFeeds := by
  induction n generalizing x bs with
  | zero => rfl
  | succ n ih =>
    unfold surveyTake
    dsimp only
    rw [ih]
    refine foldl_keeps Shingle.waitFeeds (fun _ _ => ?_) _ x
    rfl

/-- A unit whose first feed has been taken. -/
def surveyTaken (s : State) (st n : Nat) (bs : List Byte) (rest : List (Nat × Nat)) : Shingle :=
  surveyTake (s.rd .SHG_SV_CTRL_FORMAT st) { s.shingle st with feeds := rest } n bs

theorem feedDone_takes (hx : (s.shingle st).feeds = (a, n) :: rest) (hw : (s.shingle st).waitFeeds = [])
    (hs : s.stalled a (4096 * n) = false) (hr : s.readSpan shingleReq a (4096 * n) = (w, .ok bs)) :
    s.feedDone st = (w.writes st ((.SHG_SV_STATUS_FED, s.rd .SHG_SV_STATUS_FED st + 1) ::
      surveyLoad (s.surveyTaken st n bs rest))).setShingle st (s.surveyTaken st n bs rest) := by
  have hread := Reads.of_readSpan hr
  have hfmt : w.rd .SHG_SV_CTRL_FORMAT st = s.rd .SHG_SV_CTRL_FORMAT st := hread.codes.rd _ _ _ (by decide)
  have hfed : w.rd .SHG_SV_STATUS_FED st = s.rd .SHG_SV_STATUS_FED st := hread.codes.rd _ _ _ (by decide)
  unfold surveyTaken
  rw [← hfmt, ← hfed, ← hread.codes.shingle st]
  unfold feedDone
  rw [hx]
  dsimp only
  rw [hs, shgRead_ok hr]
  dsimp only
  rw [if_neg Bool.false_ne_true, takeFeeds_none]
  · exact surveyCounts_writes w st _ [(.SHG_SV_STATUS_FED, w.rd .SHG_SV_STATUS_FED st + 1)]
  · show ((w.setShingle st _).shingle st).waitFeeds = []
    rw [shingle_setShingle_self, waitFeeds_surveyTake, hread.codes.shingle st]
    exact hw

theorem surveyStall_none (hx : (s.shingle st).feeds = []) : s.surveyStall st = s := by
  simp [surveyStall, hx]

theorem surveyStall_reports (hx : (s.shingle st).feeds ≠ []) : ∃ addr, s.surveyStall st = s.surveyErr st addr true := by
  obtain ⟨x, xs, hx⟩ := List.exists_cons_of_ne_nil hx
  exact ⟨x.1, by simp [surveyStall, hx]⟩

/-- An error of the survey, as a command's answer. -/
theorem answer_surveyErr (s : State) (st addr : Nat) (void : Bool) : ∃ u, answer s (s.surveyErr st addr void) = .next u ∧
    ∃ w, reports w u 0x0D 1 st void ∧ w.noRegs = s.noRegs ∧ regsBut s w [.SHG_ERR_INFO, .SHG_ERR_LEN] :=
  ⟨_, (Codes.shgErr _ _ _ _ _ _ _ _ _).answers, reports_shgErr _ _ _ _ _ _ _ _ _⟩

/-! ### The books written -/

/-- The book of one plane chosen and written; the sizes so far, a plane's size in its 13 bits (R188). -/
def bookWritten (x : Shingle) (st : Nat) (acc : State × Nat) (j : Nat) : State × Nat :=
  let vs := Codec.select (acc.1.rd .SHG_SV_CTRL_MAXW st) (at0 x.fed j) (Codec.ranked x.table j)
  ((acc.1.shgWrite st (acc.1.bookOut st j) (Codec.bookBytes (acc.1.surveyHead st j vs.length) vs)).1,
    acc.2 + vs.length * 2 ^ (13 * j))

/-- The books of the planes of a survey. -/
def booksWritten (s : State) (st : Nat) : State × Nat :=
  (List.range (Codec.planes (s.rd .SHG_SV_CTRL_FORMAT st))).foldl (bookWritten (s.shingle st) st) (s, 0)

theorem codes_booksWritten (s : State) (st : Nat) : Codes s (s.booksWritten st).1 := by
  unfold booksWritten
  refine Codes.foldl_codes (fun acc j => ?_) _ (s, 0)
  exact Codes.shgWrite acc.1 _ _ _

/-- The fields of a closed survey, its result and DONE first. -/
def surveyDone (sizes : Nat) : List (Fd × Nat) := [(.SHG_SV_RESULT_SIZE, sizes), (.SHG_SV_STATUS_DONE, 1),
  (.SHG_SV_STATUS_OPEN, 0), (.SHG_STATUS_SV_OPEN, 0), (.SHG_SV_CTRL_FINISH, 0), (.SHG_SV_STATUS_QUEUED, 0), (.SHG_SV_STATUS_BUSY, 0)]

theorem surveyDone_apart (sizes : Nat) : Apart ((surveyDone sizes).map Prod.fst) := by
  show Apart [.SHG_SV_RESULT_SIZE, .SHG_SV_STATUS_DONE, .SHG_SV_STATUS_OPEN, .SHG_STATUS_SV_OPEN, .SHG_SV_CTRL_FINISH,
    .SHG_SV_STATUS_QUEUED, .SHG_SV_STATUS_BUSY]
  decide

/-- The survey closed after its books, but for the signal. -/
def surveyClosed (s : State) (st : Nat) : State :=
  ((s.booksWritten st).1.writes st (surveyDone (s.booksWritten st).2)).setShingle st
    { s.shingle st with feeds := [], waitFeeds := [], svFinish := false }

theorem rd_surveyClosed {f : Fd} {k : Nat} (h : (f, k) ∈ surveyDone (s.booksWritten st).2) :
    (s.surveyClosed st).rd f st = k % 2 ^ f.width := by
  unfold surveyClosed
  rw [rd_setShingle]
  exact rd_writes_mem (surveyDone_apart _) h

theorem surveyOpen_surveyClosed : (s.surveyClosed st).surveyOpen st = false := by
  unfold surveyOpen flag
  rw [rd_surveyClosed (k := 0) (by simp [surveyDone])]
  rfl

theorem done_surveyClosed : (s.surveyClosed st).rd .SHG_SV_STATUS_DONE st = 1 := by
  rw [rd_surveyClosed (k := 1) (by simp [surveyDone])]
  rfl

theorem finish_surveyClosed : (s.surveyClosed st).rd .SHG_SV_CTRL_FINISH st = 0 := by
  rw [rd_surveyClosed (k := 0) (by simp [surveyDone])]
  rfl

theorem size_surveyClosed : (s.surveyClosed st).rd .SHG_SV_RESULT_SIZE st = (s.booksWritten st).2 % 2 ^ 52 := by
  rw [rd_surveyClosed (k := (s.booksWritten st).2) (by simp [surveyDone])]
  rfl

theorem svFinish_surveyClosed : ((s.surveyClosed st).shingle st).svFinish = false := by
  unfold surveyClosed
  rw [shingle_setShingle_self]

theorem mem_surveyClosed : (s.surveyClosed st).mem = (s.booksWritten st).1.mem := by
  unfold surveyClosed
  rw [mem_setShingle, mem_writes]

theorem pending_surveyClosed : (s.surveyClosed st).pending = s.pending := by
  unfold surveyClosed
  rw [pending_setShingle, pending_writes, (codes_booksWritten s st).pending]

theorem fuses_surveyClosed : (s.surveyClosed st).fuses = s.fuses := by
  unfold surveyClosed
  rw [fuses_setShingle, fuses_writes, (codes_booksWritten s st).fuses]

theorem writeBooks_waits (h : (s.shingle st).svFinish = false ∨ (s.shingle st).feeds ≠ []) : s.writeBooks st = s := by
  rcases h with h | h <;> simp [writeBooks, h]

theorem writeBooks_empty (hf : (s.shingle st).svFinish = true) (hx : (s.shingle st).feeds = [])
    (hw : (s.shingle st).waitFeeds = []) (hn : at0 (s.shingle st).fed 0 = 0) : s.writeBooks st =
      ((s.setShingle st { s.shingle st with svFinish := false }).wr .SHG_SV_CTRL_FINISH st 0 0).surveyErr st 0 true := by
  simp [writeBooks, hf, hx, hw, noVectors, hn]

theorem writeBooks_writes (hf : (s.shingle st).svFinish = true) (hx : (s.shingle st).feeds = [])
    (hw : (s.shingle st).waitFeeds = []) (hn : at0 (s.shingle st).fed 0 ≠ 0)
    (hs : ∀ j < Codec.planes (s.rd .SHG_SV_CTRL_FORMAT st), s.stalled (s.bookOut st j) 0x8000 = false) :
    s.writeBooks st = (s.surveyClosed st).post ((s.surveyClosed st).rd .SHG_SV_SIG_SIG st) none (.codec st) := by
  have hclose (u : State) (hu : (u.shingle st).waitFeeds = []) : u.closeSurvey st = ((u.setShingle st
      { u.shingle st with feeds := [], waitFeeds := [], svFinish := false }).writes st [(.SHG_SV_STATUS_OPEN, 0),
      (.SHG_STATUS_SV_OPEN, 0), (.SHG_SV_CTRL_FINISH, 0)]).surveyCounts st := by
    unfold closeSurvey
    rw [hu]
    rfl
  have hshingle := (codes_booksWritten s st).shingle st
  have hclosed : (((s.booksWritten st).1.wr .SHG_SV_RESULT_SIZE st 0 (s.booksWritten st).2).wr .SHG_SV_STATUS_DONE st 0 1).closeSurvey
      st = s.surveyClosed st := by
    show ((s.booksWritten st).1.writes st [(.SHG_SV_RESULT_SIZE, (s.booksWritten st).2), (.SHG_SV_STATUS_DONE, 1)]).closeSurvey
      st = _
    rw [hclose _ (by rw [shingle_writes, hshingle, hw]), shingle_writes, surveyCounts_writes, hshingle, ← writes_append]
    rfl
  have hbooks : s.writeBooks st =
      (let u := (((s.booksWritten st).1.wr .SHG_SV_RESULT_SIZE st 0 (s.booksWritten st).2).wr .SHG_SV_STATUS_DONE st 0 1).closeSurvey
        st
      u.post (u.rd .SHG_SV_SIG_SIG st) none (.codec st)) := by
    have hany : ((List.range (Codec.planes (s.rd .SHG_SV_CTRL_FORMAT st))).any fun j => s.stalled (s.bookOut st j) 0x8000) = false := by
      simpa using hs
    unfold writeBooks
    dsimp only
    rw [if_neg (by simp [hf, hx, hw]), if_neg (by simp [noVectors, hn]), if_neg (by rw [hany]; exact Bool.false_ne_true)]
    rfl
  rw [hbooks, hclosed]

end

/-! ### The survey's commands -/

section

variable {s w : State} {src : Source} {st v a n : Nat} {bs : List Byte} {rest : List (Nat × Nat)}

theorem answer_post {u : State} (hp : u.pending = s.pending) (hf : u.fuses = s.fuses) (k : Nat) (src : SigSrc) :
    answer s (u.post k none src) = .next (u.post k none src) := by
  have hpost := noTraffic_post u k none src
  have hpend := congrArg State.pending hpost
  have hfuse := congrArg State.fuses hpost
  exact answer_eq (hpend.trans hp) (hfuse.trans hf)

theorem surveyOpens (h : takes s src ⟨.SHG_SV_CTRL, st, 0⟩ (setBit v 0)) (hf : fv .SHG_SV_CTRL_FINISH (setBit v 0) = 0)
    (hc : s.surveyOpen st = false) : ∃ u, exec (.surveyOpen src st v) s = .next u ∧
      u.shingle st = unsurveyed (s.shingle st) ∧
      puts s u ((surveyParams.map fun f => (f, st, 0, fv f (setBit v 0))) ++ [(.SHG_SV_STATUS_OPEN, st, 0, 1),
        (.SHG_SV_STATUS_FED, st, 0, 0), (.SHG_SV_STATUS_QUEUED, st, 0, 0), (.SHG_SV_STATUS_BUSY, st, 0, 0),
        (.SHG_STATUS_SV_OPEN, st, 0, 1), (.SHG_SV_CTRL_FINISH, st, 0, 0)]) ∧
      { u with shingles := s.shingles }.noRegs = s.noRegs := by
  have hputs := puts_setShingle (st := st) (puts_writes s st (surveyOpened_apart (setBit v 0))) (unsurveyed (s.shingle st))
  rw [exec_surveyOpen h, writeSurveyCtrl_opens hc (fv_open_setBit v) hf]
  refine ⟨_, answer_writes _ _ _ _, shingle_setShingle_self _ _ _, puts_of_perm hputs (.map cut ?_), ?_⟩
  · unfold surveyOpened
    rw [List.map_append, List.map_map]
    refine .append_left _ (.cons _ (.cons _ ?_))
    exact List.perm_append_comm (l₁ := [_, _]) (l₂ := [_, _])
  · exact congrArg (fun u : State => { u with shingles := s.shingles }) (noRegs_writes s st (surveyOpened (setBit v 0)))

theorem surveyFeeds (h : takes s src ⟨.SHG_SV_FEED, st, 0⟩ v) (ho : s.surveyOpen st = true)
    (hf : s.feedable (bits v 47 6 * 64) (4096 * (bits v 59 48 + 1)) = true) (hl : (s.shingle st).feeds.length < 64) :
    ∃ u, exec (.surveyFeed src st v) s = .next u ∧ u.shingle st = fedTo (s.shingle st) v ∧
      puts s u [(.SHG_SV_STATUS_QUEUED, st, 0, (s.shingle st).feeds.length + 1), (.SHG_SV_STATUS_BUSY, st, 0, 1)] := by
  have hputs := puts_writes s st (l := [(.SHG_SV_STATUS_QUEUED, (s.shingle st).feeds.length + 1), (.SHG_SV_STATUS_BUSY, 1)])
    (show Apart [.SHG_SV_STATUS_QUEUED, .SHG_SV_STATUS_BUSY] by decide)
  rw [exec_surveyFeed h, feedSurvey_queues ho hl hf]
  exact ⟨_, answer_writes _ _ _ _, shingle_setShingle_self _ _ _, puts_setShingle hputs _⟩

theorem surveyFinishes (h : takes s src ⟨.SHG_SV_CTRL, st, 0⟩ (withField s ⟨.SHG_SV_CTRL, st, 0⟩ .SHG_SV_CTRL_FINISH 1))
    (ho : s.surveyOpen st = true) (hn : (s.shingle st).feeds ≠ [] ∨ at0 (s.shingle st).fed 0 ≠ 0) :
    ∃ u, exec (.surveyFinish src st) s = .next u ∧ u.shingle st = { s.shingle st with svFinish := true } ∧
      puts s u [(.SHG_SV_CTRL_FINISH, st, 0, 1), (.SHG_SV_STATUS_BUSY, st, 0, 1),
        (.SHG_SV_STATUS_QUEUED, st, 0, (s.shingle st).feeds.length)] := by
  have hputs := puts_writes s st (l := [(.SHG_SV_CTRL_FINISH, 1), (.SHG_SV_STATUS_QUEUED, (s.shingle st).feeds.length),
    (.SHG_SV_STATUS_BUSY, 1)]) (show Apart [.SHG_SV_CTRL_FINISH, .SHG_SV_STATUS_QUEUED, .SHG_SV_STATUS_BUSY] by decide)
  rw [exec_surveyFinish h, finishSurvey_asks ho hn]
  exact ⟨_, answer_writes _ _ _ _, shingle_setShingle_self _ _ _,
    puts_of_perm (puts_setShingle hputs _) (.map cut (.cons _ (.swap _ _ _)))⟩

theorem surveyTakes (ht : s.hasStack st = true) (hx : (s.shingle st).feeds = (a, n) :: rest)
    (hw : (s.shingle st).waitFeeds = []) (hs : s.stalled a (4096 * n) = false)
    (hr : s.readSpan shingleReq a (4096 * n) = (w, .ok bs)) :
    ∃ u, exec (.surveyFeedDone st) s = .next u ∧ u.mem = s.mem ∧ u.shingle st = s.surveyTaken st n bs rest ∧
      u.rd .SHG_SV_STATUS_FED st = (s.rd .SHG_SV_STATUS_FED st + 1) % 2 ^ 22 := by
  have hread := Reads.of_readSpan hr
  have hfed := rd_writes_mem (s := w) (st := st) (w := (.SHG_SV_STATUS_FED, s.rd .SHG_SV_STATUS_FED st + 1))
    (l := (.SHG_SV_STATUS_FED, s.rd .SHG_SV_STATUS_FED st + 1) :: surveyLoad (s.surveyTaken st n bs rest))
    (show Apart [.SHG_SV_STATUS_FED, .SHG_SV_STATUS_QUEUED, .SHG_SV_STATUS_BUSY] by decide) List.mem_cons_self
  rw [exec_surveyFeedDone ht, feedDone_takes hx hw hs hr]
  exact ⟨_, answer_writes_of hread.codes.pending hread.codes.fuses _ _ _,
    by rw [mem_setShingle, mem_writes, hread.mem], shingle_setShingle_self _ _ _, hfed⟩

/-- A finished survey without a vector reports it, and stays open. -/
theorem surveyEmpty (ht : s.hasStack st = true) (hf : (s.shingle st).svFinish = true) (hx : (s.shingle st).feeds = [])
    (hw : (s.shingle st).waitFeeds = []) (hn : at0 (s.shingle st).fed 0 = 0) :
    ∃ u, exec (.surveyBooksWritten st) s = .next u ∧ u.flag .SHG_ERR_STATUS_SURVEY st = true ∧ u.rd .SIG_STATUS_VOIDED = 1 ∧
      u.surveyOpen st = s.surveyOpen st ∧ u.mem = s.mem ∧ u.flights = s.flights := by
  rw [exec_surveyBooksWritten ht, writeBooks_empty hf hx hw hn]
  generalize hv : (s.setShingle st { s.shingle st with svFinish := false }).wr .SHG_SV_CTRL_FINISH st 0 0 = v
  have hopen : v.surveyOpen st = s.surveyOpen st := by
    subst hv
    unfold surveyOpen flag
    rw [rd_wr_ne _ _ (by decide) (by simp)]
    rfl
  have herr : Reads v (v.surveyErr st 0 true) := .shgErr _ _ _ _ _ _ _ _ _
  have hrest : v.mem = s.mem ∧ v.flights = s.flights ∧ v.pending = s.pending ∧ v.fuses = s.fuses := by
    subst hv
    exact ⟨rfl, rfl, rfl, rfl⟩
  obtain ⟨hmem, hflights, hpend, hfuse⟩ := hrest
  exact ⟨_, answer_eq (herr.codes.pending.trans hpend) (herr.codes.fuses.trans hfuse), flag_surveyErr,
    voided_shgErr _ _ _ _ _ _ _ _, (herr.codes.flag st 0 (by decide)).trans hopen, herr.mem.trans hmem,
    herr.flights.trans hflights⟩

/-- What the books of one plane leave in memory, and their size. -/
theorem booksWritten_one (hp : Codec.planes (s.rd .SHG_SV_CTRL_FORMAT st) = 1) :
    let vs := Codec.select (s.rd .SHG_SV_CTRL_MAXW st) (at0 (s.shingle st).fed 0) (Codec.ranked (s.shingle st).table 0)
    (s.booksWritten st).1.mem = (s.writeSpan shingleReq (s.rd .SHG_SV_BOOK_BASE st * 2 ^ 15)
      (Codec.bookBytes (s.surveyHead st 0 vs.length) vs)).1.mem ∧ (s.booksWritten st).2 = vs.length := by
  have hone : s.booksWritten st = bookWritten (s.shingle st) st (s, 0) 0 := by
    unfold booksWritten
    rw [hp]
    rfl
  have hout : s.bookOut st 0 = s.rd .SHG_SV_BOOK_BASE st * 2 ^ 15 := Nat.add_zero _
  rw [hone, ← hout]
  refine ⟨mem_shgWrite s st _ _, ?_⟩
  simp [bookWritten]

theorem surveyBooks (ht : s.hasStack st = true) (hf : (s.shingle st).svFinish = true) (hx : (s.shingle st).feeds = [])
    (hw : (s.shingle st).waitFeeds = []) (hn : at0 (s.shingle st).fed 0 ≠ 0)
    (hs : ∀ j < Codec.planes (s.rd .SHG_SV_CTRL_FORMAT st), s.stalled (s.bookOut st j) 0x8000 = false) :
    exec (.surveyBooksWritten st) s =
      .next ((s.surveyClosed st).post ((s.surveyClosed st).rd .SHG_SV_SIG_SIG st) none (.codec st)) := by
  rw [exec_surveyBooksWritten ht, writeBooks_writes hf hx hw hn hs]
  exact answer_post pending_surveyClosed fuses_surveyClosed _ _

end

theorem surveys : Claims.Surveys := by
  intro s src st v x failed
  refine ⟨fun h hf => ⟨fun ho => ?_, fun hc => surveyOpens h hf hc⟩, fun h => ⟨fun hc => ?_, fun ho hl hu => ?_,
    fun ho hf hl => surveyFeeds h ho hf hl, fun ho hl => ?_⟩, fun h => ⟨fun hc => ?_, fun ho hx hn => ?_,
    fun ho hn => surveyFinishes h ho hn⟩, fun ht => ⟨fun a n rest hx hs => ?_,
    fun a n rest w bs hx hw hs hr => surveyTakes ht hx hw hs hr, fun hx => ⟨?_, ?_⟩, fun hx => ?_, fun hx => ?_,
    fun hf hx hw hn => surveyEmpty ht hf hx hw hn, fun hf hx hw hn hs => ?_⟩⟩
  · rw [exec_surveyOpen h, writeSurveyCtrl_again ho hf, answer_self]
  · rw [exec_surveyFeed h, feedSurvey_closed hc]
    exact answer_surveyErr _ _ _ _
  · rw [exec_surveyFeed h, feedSurvey_unfit ho hl hu]
    exact answer_surveyErr _ _ _ _
  · rw [exec_surveyFeed h, feedSurvey_full ho hl]
    exact answer_eq rfl rfl
  · rw [exec_surveyFinish h, finishSurvey_closed hc]
    exact answer_surveyErr _ _ _ _
  · rw [exec_surveyFinish h, finishSurvey_empty ho hx hn]
    exact answer_surveyErr _ _ _ _
  · rw [exec_surveyFeedDone ht, feedDone_stalled hx hs, answer_self]
  · rw [exec_surveyFeedDone ht, feedDone_none hx, answer_self]
  · rw [exec_surveyProgressTimeout ht, surveyStall_none hx, answer_self]
  · obtain ⟨addr, haddr⟩ := surveyStall_reports hx
    rw [exec_surveyProgressTimeout ht, haddr]
    exact answer_surveyErr _ _ _ _
  · rw [exec_surveyBooksWritten ht, writeBooks_waits hx, answer_self]
  · refine ⟨_, surveyBooks ht hf hx hw hn hs, surveyOpen_surveyClosed, done_surveyClosed, finish_surveyClosed,
      svFinish_surveyClosed, fun hp => ?_⟩
    obtain ⟨hbook, hlen⟩ := booksWritten_one hp
    exact ⟨mem_surveyClosed.trans hbook, by rw [size_surveyClosed, hlen]⟩

end Sys2Proof.Machine.State

/-! SUPPORT. The recode of a stack: its books checked, its segments fed and recoded, and its end (R203 to R205, R258). -/
namespace Sys2Proof.Machine.State

open Sys2Proof.Claims

section

variable {s u w : State} {src : Source} {st v i : Nat}

/-- QUEUED and BUSY as the segments stand. -/
def recodeLoad (y : Shingle) : List (Fd × Nat) :=
  [(.SHG_RC_STATUS_QUEUED, y.recodes.length), (.SHG_RC_STATUS_BUSY, b2n (y.recodes.length != 0))]

theorem recodeCounts_eq (s : State) (st : Nat) : s.recodeCounts st = s.writes st (recodeLoad (s.shingle st)) := rfl

theorem recodeCounts_writes (s : State) (st : Nat) (y : Shingle) (l : List (Fd × Nat)) :
    ((s.setShingle st y).writes st l).recodeCounts st = (s.writes st (l ++ recodeLoad y)).setShingle st y := by
  rw [recodeCounts_eq, shingle_writes, shingle_setShingle_self, ← writes_append, writes_setShingle]

/-! ### SHG_RC_CTRL -/

theorem heldValue_recodeCtrl : s.heldValue ⟨.SHG_RC_CTRL, st, 0⟩ = 0 := rfl

theorem exec_recodeOpen (h : takes s src ⟨.SHG_RC_CTRL, st, 0⟩ (withField s ⟨.SHG_RC_CTRL, st, 0⟩ .SHG_RC_CTRL_OPEN 1)) :
    exec (.recodeOpen src st) s = answer s (if s.recodeOpen st = true then s else s.openRecode st) := by
  have hv : withField s ⟨.SHG_RC_CTRL, st, 0⟩ .SHG_RC_CTRL_OPEN 1 = 1 := by
    unfold withField
    rw [heldValue_recodeCtrl]
    decide
  have heff : s.effect src ⟨.SHG_RC_CTRL, st, 0⟩ 1 = s.writeRecodeCtrl st 1 := rfl
  have hopen : fv .SHG_RC_CTRL_OPEN 1 = 1 := by decide
  have hfinish : fv .SHG_RC_CTRL_FINISH 1 = 0 := by decide
  refine (answerIf_writeWhole h).trans ?_
  rw [hv, heff]
  cases ho : s.recodeOpen st <;> simp [writeRecodeCtrl, ho, hopen, hfinish]

theorem exec_recodeFinish
    (h : takes s src ⟨.SHG_RC_CTRL, st, 0⟩ (withField s ⟨.SHG_RC_CTRL, st, 0⟩ .SHG_RC_CTRL_FINISH 1)) :
    exec (.recodeFinish src st) s = answer s (s.finishRecode st) := by
  have hv : withField s ⟨.SHG_RC_CTRL, st, 0⟩ .SHG_RC_CTRL_FINISH 1 = 2 := by
    unfold withField
    rw [heldValue_recodeCtrl]
    decide
  have heff : s.effect src ⟨.SHG_RC_CTRL, st, 0⟩ 2 = s.writeRecodeCtrl st 2 := rfl
  have hopen : fv .SHG_RC_CTRL_OPEN 2 = 0 := by decide
  have hfinish : fv .SHG_RC_CTRL_FINISH 2 = 1 := by decide
  refine (answerIf_writeWhole h).trans ?_
  rw [hv, heff]
  simp [writeRecodeCtrl, hopen, hfinish]

/-! ### A recode opened -/

/-- A unit that no longer waits for its books. -/
def unwaiting (x : Shingle) : Shingle := { x with rcOpening := false }

/-- An opened recode. -/
def recodeOpened : List (Fd × Nat) := [(.SHG_RC_STATUS_OPEN, 1), (.SHG_RC_STATUS_RECODED, 0), (.SHG_STATUS_RC_OPEN, 1),
  (.SHG_RC_STATUS_QUEUED, 0), (.SHG_RC_STATUS_BUSY, 0)]

theorem openRecode_stalled (hs : s.recodeBooksStalled st = true) :
    s.openRecode st = s.setShingle st { s.shingle st with rcOpening := true } := by
  simp [openRecode, hs]

/-- What the check of the books read comes to. -/
def recodeChecked (w : State) (st : Nat) : Except Fail (List (List Byte)) → State
  | .error _ => w
  | .ok books => if recodeBooksOk books then
      (w.writes st recodeOpened).setShingle st { w.shingle st with recodes := [], rcFinish := false }
    else w.recodeErr st (w.recodeBookAt st 0) true

theorem openRecode_checks {r : Except Fail (List (List Byte))} (hs : s.recodeBooksStalled st = false)
    (hr : (s.setShingle st (unwaiting (s.shingle st))).recodeBooks st = (w, r)) : s.openRecode st = w.recodeChecked st r := by
  have hcounts := recodeCounts_writes w st { w.shingle st with recodes := [], rcFinish := false }
    [(.SHG_RC_STATUS_OPEN, 1), (.SHG_RC_STATUS_RECODED, 0), (.SHG_STATUS_RC_OPEN, 1)]
  unfold openRecode checkRecode
  dsimp only
  rw [hs, if_neg Bool.false_ne_true, show ({ s.shingle st with rcOpening := false } : Shingle) = unwaiting (s.shingle st) from rfl,
    hr]
  cases r with
  | error f => rfl
  | ok books =>
    unfold recodeChecked
    dsimp only
    cases hb : recodeBooksOk books
    · rfl
    · exact hcounts

/-! ### Segments fed -/

theorem exec_recodeFeed (h : takes s src ⟨.SHG_RC_FEED, st, 0⟩ v) :
    exec (.recodeFeed src st v) s = answer s (s.feedRecode src st (fv .SHG_RC_FEED_INDEX v)) := answerIf_writeWhole h

theorem feedRecode_closed (hc : s.recodeOpen st = false) : s.feedRecode src st i = s.recodeErr st 0 false := by
  simp [feedRecode, hc]

theorem feedRecode_full (ho : s.recodeOpen st = true) (hl : 64 ≤ (s.shingle st).recodes.length) : s.feedRecode src st i =
    s.setShingle st { s.shingle st with waitRecodes := (s.shingle st).waitRecodes ++ [(src, i)] } := by
  simp [feedRecode, ho, hl]

theorem feedRecode_queues (ho : s.recodeOpen st = true) (hl : (s.shingle st).recodes.length < 64) : s.feedRecode src st i =
    (s.writes st [(.SHG_RC_STATUS_QUEUED, (s.shingle st).recodes.length + 1), (.SHG_RC_STATUS_BUSY, 1)]).setShingle st
      { s.shingle st with recodes := (s.shingle st).recodes ++ [i] } := by
  have hcounts := recodeCounts_writes s st { s.shingle st with recodes := (s.shingle st).recodes ++ [i] } []
  unfold feedRecode
  rw [ho, if_neg (by decide), if_neg (Nat.not_le.2 hl)]
  simpa [writes, b2n, recodeLoad] using hcounts

/-! ### FINISH -/

/-- The fields of a closed recode, DONE first. -/
def recodeDoneFields : List (Fd × Nat) := [(.SHG_RC_STATUS_DONE, 1), (.SHG_RC_STATUS_OPEN, 0), (.SHG_STATUS_RC_OPEN, 0),
  (.SHG_RC_CTRL_FINISH, 0), (.SHG_RC_STATUS_QUEUED, 0), (.SHG_RC_STATUS_BUSY, 0)]

theorem recodeDoneFields_apart : Apart (recodeDoneFields.map Prod.fst) := by decide

/-- The recode closed, but for the writes of SHG_RC_FEED that wait and the signal. -/
def recodeEnded (s : State) (st : Nat) : State :=
  (s.writes st recodeDoneFields).setShingle st
    { s.shingle st with recodes := [], waitRecodes := [], rcFinish := false, rcOpening := false }

/-- Each write of SHG_RC_FEED that still waits meets no open recode. -/
def recodeClosed (s : State) (st : Nat) : State :=
  (s.shingle st).waitRecodes.foldl (fun u _ => u.recodeErr st 0 false) (s.recodeEnded st)

theorem codes_recodeClosed (s : State) (st : Nat) : Codes (s.recodeEnded st) (s.recodeClosed st) :=
  .foldl (fun u _ => Codes.shgErr u _ _ _ _ _ _ _ _) _ _

theorem finishRecode_asks (ho : s.recodeOpen st = true) (hx : (s.shingle st).recodes ≠ []) : s.finishRecode st =
    (s.writes st [(.SHG_RC_CTRL_FINISH, 1)]).setShingle st { s.shingle st with rcFinish := true } := by
  simp [finishRecode, ho, hx]
  rfl

theorem finishRecode_ends (ho : s.recodeOpen st = true) (hx : (s.shingle st).recodes = []) : s.finishRecode st =
    (s.recodeClosed st).post ((s.recodeClosed st).rd .SHG_RC_SIG_SIG st) none (.codec st) := by
  have hclosed : (s.wr .SHG_RC_STATUS_DONE st 0 1).closeRecode st = s.recodeClosed st := by
    have hcounts := recodeCounts_writes (s.writes st [(.SHG_RC_STATUS_DONE, 1)]) st
      { s.shingle st with recodes := [], waitRecodes := [], rcFinish := false, rcOpening := false }
      [(.SHG_RC_STATUS_OPEN, 0), (.SHG_STATUS_RC_OPEN, 0), (.SHG_RC_CTRL_FINISH, 0)]
    rw [← writes_append] at hcounts
    exact congrArg (List.foldl (fun u _ => u.recodeErr st 0 false) · (s.shingle st).waitRecodes) hcounts
  have hends : s.finishRecode st = s.recodeFinished st := by simp [finishRecode, ho, hx]
  rw [hends, ← hclosed]
  rfl

/-! ### Segments recoded -/

theorem exec_recodeSegmentDone (h : s.hasStack st = true) :
    exec (.recodeSegmentDone st) s = answer s (s.recodeDone st) := answerIf_true h

theorem recodeDone_none (hx : (s.shingle st).recodes = []) : s.recodeDone st = s := by
  simp [recodeDone, hx]

theorem recodeDone_stalled {rest : List Nat} (hx : (s.shingle st).recodes = i :: rest) (hs : s.recodeStalled st i = true) :
    s.recodeDone st = s := by
  simp [recodeDone, hx, hs]

theorem reads_recodeErr (s : State) (st addr : Nat) (void : Bool) : Reads s (s.recodeErr st addr void) :=
  .shgErr _ _ _ _ _ _ _ _ _

theorem codes_recodeSegment (s : State) (st i : Nat) : Codes s (s.recodeSegment st i).1 := by
  have hentry := (Reads.shgRead s st (s.rd .SHG_RC_DIR_BASE st * 4096 + 16 * i) 16).codes
  unfold recodeSegment
  dsimp only
  split
  · exact hentry
  · rename_i db _
    split
    · dsimp only
      exact hentry.trans (reads_recodeErr _ _ _ _).codes
    · have hhead := hentry.trans (Reads.shgRead _ st (DirEntry.addr (leNat db)) 256).codes
      split
      · exact hhead
      · split
        · dsimp only
          exact hhead.trans (reads_recodeErr _ _ _ _).codes
        · have hblocks := hhead.trans (Reads.shgRead _ st (DirEntry.addr (leNat db) + 256)
            (256 * (DirEntry.length (leNat db) + 1))).codes
          split
          · exact hblocks
          · have hbooks := hblocks.trans (Reads.recodeBooks _ st).codes
            split
            · exact hbooks
            · exact hbooks.trans ((((Codes.recodeBlocks _ _ _ _ _ _ _).trans (Codes.shgWrite _ _ _ _)).trans
                (Codes.shgWrite _ _ _ _)).trans (Codes.shgWrite _ _ _ _))

/-- The address of the directory entry of a fed segment (R203). -/
def recodeEntryAt (s : State) (st i : Nat) : Nat := s.rd .SHG_RC_DIR_BASE st * 4096 + 16 * i

section

variable {v1 v2 v3 v4 w1 w2 w3 : State} {db hb pb : List Byte} {bl : List (List Byte)}

/-- A directory entry that is not valid. -/
theorem recodeSegment_invalid (hr : s.readSpan shingleReq (s.recodeEntryAt st i) 16 = (v1, .ok db))
    (hv : DirEntry.valid (leNat db) = false) : s.recodeSegment st i = (v1.recodeErr st (s.recodeEntryAt st i) true, false) := by
  unfold recodeSegment
  dsimp only
  rw [show s.rd .SHG_RC_DIR_BASE st * 4096 + 16 * i = s.recodeEntryAt st i from rfl, shgRead_ok hr]
  dsimp only
  rw [hv]
  rfl

/-- The block map of a segment's header. -/
def blockMap (hb : List Byte) : List Nat := ((bytesWords hb).drop 8).take 16

/-- Does a segment hold a block that is not raw and whole (R203)? -/
def hasCoded (hb : List Byte) : Bool :=
  (blockMap hb).any fun e => MapEntry.present e && !(MapEntry.raw e && MapEntry.stored e == 4096)

theorem recodeSegment_coded (hr : s.readSpan shingleReq (s.recodeEntryAt st i) 16 = (v1, .ok db))
    (hv : DirEntry.valid (leNat db) = true) (hh : v1.readSpan shingleReq (DirEntry.addr (leNat db)) 256 = (v2, .ok hb))
    (hm : hasCoded hb = true) : s.recodeSegment st i = (v2.recodeErr st (s.recodeEntryAt st i) true, false) := by
  unfold recodeSegment
  dsimp only
  rw [show s.rd .SHG_RC_DIR_BASE st * 4096 + 16 * i = s.recodeEntryAt st i from rfl, shgRead_ok hr]
  dsimp only
  rw [hv, if_neg (by decide), shgRead_ok hh]
  exact if_pos hm

/-- A segment recoded: its blocks, the zeros behind them, its block map and its directory entry. -/
theorem recodeSegment_recodes {es : List Nat} {used flits : Nat} (hr : s.readSpan shingleReq (s.recodeEntryAt st i) 16 = (v1, .ok db))
    (hv : DirEntry.valid (leNat db) = true) (hh : v1.readSpan shingleReq (DirEntry.addr (leNat db)) 256 = (v2, .ok hb))
    (hm : hasCoded hb = false)
    (hp : v2.readSpan shingleReq (DirEntry.addr (leNat db) + 256) (256 * (DirEntry.length (leNat db) + 1)) = (v3, .ok pb))
    (hbl : v3.recodeBooks st = (v4, .ok bl))
    (hes : v4.recodeBlocks st (DirEntry.addr (leNat db) + 256) (Codec.head (bl.headD [])).epoch (Codec.head (bl.headD [])).format
      (bl.map Codec.book) (blockMap hb) = (w, es, used)) (hn : flits = max 1 ((used + 255) / 256))
    (h1 : w.writeSpan shingleReq (DirEntry.addr (leNat db) + 256 + used) (zeroBytes (256 * flits - used)) = (w1, none))
    (h2 : w1.writeSpan shingleReq (DirEntry.addr (leNat db) + 64) (wordBytes es) = (w2, none))
    (h3 : w2.writeSpan shingleReq (s.recodeEntryAt st i)
      (leBytes 16 (withBits (withBits (leNat db) 49 42 (Codec.head (bl.headD [])).epoch) 41 34 (flits - 1))) = (w3, none)) :
    s.recodeSegment st i = (w3, true) := by
  subst hn
  unfold recodeSegment
  dsimp only
  rw [show s.rd .SHG_RC_DIR_BASE st * 4096 + 16 * i = s.recodeEntryAt st i from rfl, shgRead_ok hr]
  dsimp only
  rw [hv, if_neg (by decide), shgRead_ok hh]
  dsimp only
  rw [if_neg (by rw [← Bool.not_eq_true] at hm; exact hm), shgRead_ok hp]
  dsimp only
  rw [hbl]
  dsimp only
  rw [show ((bytesWords hb).drop 8).take 16 = blockMap hb from rfl, hes]
  dsimp only
  rw [shgWrite_done h1]
  dsimp only
  rw [shgWrite_done h2]
  dsimp only
  rw [shgWrite_done h3]

end

/-- RECODED counts a segment that has been recoded, and no other. -/
def recodedCount (ok : Bool) (n : Nat) : List (Fd × Nat) := if ok then [(.SHG_RC_STATUS_RECODED, n + 1)] else []

/-- A unit whose first segment is done. -/
def recodeTaken (x : Shingle) (rest : List Nat) : Shingle := { x with recodes := rest }

/-- The recoder done with its first segment, while more follow or FINISH is not written: `w`, and `ok`, are what recoding it
has come to. -/
theorem recodeDone_goes {rest : List Nat} {ok : Bool} (hx : (s.shingle st).recodes = i :: rest)
    (hq : (s.shingle st).waitRecodes = []) (hs : s.recodeStalled st i = false) (hf : rest ≠ [] ∨ (s.shingle st).rcFinish = false)
    (hseg : s.recodeSegment st i = (w, ok)) : s.recodeDone st =
      (w.writes st (recodedCount ok (w.rd .SHG_RC_STATUS_RECODED st) ++ recodeLoad (recodeTaken (s.shingle st) rest))).setShingle st
        (recodeTaken (s.shingle st) rest) := by
  have hw := codes_recodeSegment s st i
  have hlast : (rest.isEmpty && (s.shingle st).rcFinish) = false := by
    rcases hf with h | h <;> simp [h]
  have hunit : ({ s.shingle st with
        recodes := rest ++ ((s.shingle st).waitRecodes.take 1).map (·.2)
        waitRecodes := (s.shingle st).waitRecodes.drop 1 } : Shingle) = recodeTaken (s.shingle st) rest := by
    simp [recodeTaken, hq]
  have hcount : (if ok = true then (w.setShingle st (recodeTaken (s.shingle st) rest)).count .SHG_RC_STATUS_RECODED st 0 1
      else w.setShingle st (recodeTaken (s.shingle st) rest)) =
        (w.setShingle st (recodeTaken (s.shingle st) rest)).writes st (recodedCount ok (w.rd .SHG_RC_STATUS_RECODED st)) := by
    cases ok <;> rfl
  unfold recodeDone
  rw [hx]
  dsimp only
  rw [hseg] at hw
  rw [hs, if_neg Bool.false_ne_true, hseg]
  dsimp only
  rw [hw.shingle st, hunit, hcount, recodeCounts_writes, shingle_setShingle_self]
  exact if_neg (by rw [show (recodeTaken (s.shingle st) rest).recodes = rest from rfl, hlast]; exact Bool.false_ne_true)

end

end Sys2Proof.Machine.State

/-! SUPPORT. The recode's commands (R203 to R205), and a RECODED that holds more than its field has bits: a write cuts to the
field's width, so that none makes such a value, but Recodes does not exclude it. -/
namespace Sys2Proof.Machine.State

open Sys2Proof.Claims

section

variable {s w : State} {src : Source} {st v i : Nat} {books : List (List Byte)}

/-- An error of the recode, as a command's answer. -/
theorem answer_recodeErr (s : State) (st addr : Nat) (void : Bool) : ∃ u, answer s (s.recodeErr st addr void) = .next u ∧
    ∃ w, reports w u 0x0D 2 st void ∧ w.noRegs = s.noRegs ∧ regsBut s w [.SHG_ERR_INFO, .SHG_ERR_LEN] :=
  ⟨_, (Codes.shgErr _ _ _ _ _ _ _ _ _).answers, reports_shgErr _ _ _ _ _ _ _ _ _⟩

/-! ### OPEN -/

/-- The reads of the books change what reads change, but that the unit waits no more. -/
theorem answer_recodeBooks {r : Except Fail (List (List Byte))} {u : State}
    (hr : (s.setShingle st (unwaiting (s.shingle st))).recodeBooks st = (w, r)) (hp : u.pending = w.pending)
    (hf : u.fuses = w.fuses) : answer s u = .next u :=
  have hcodes := (Reads.of_recodeBooks hr).codes
  answer_eq (hp.trans hcodes.pending) (hf.trans hcodes.fuses)

theorem recodeOpen_again (h : takes s src ⟨.SHG_RC_CTRL, st, 0⟩ (withField s ⟨.SHG_RC_CTRL, st, 0⟩ .SHG_RC_CTRL_OPEN 1))
    (ho : s.recodeOpen st = true) : exec (.recodeOpen src st) s = .next s := by
  rw [exec_recodeOpen h, if_pos ho, answer_self]

theorem recodeOpen_stalled (h : takes s src ⟨.SHG_RC_CTRL, st, 0⟩ (withField s ⟨.SHG_RC_CTRL, st, 0⟩ .SHG_RC_CTRL_OPEN 1))
    (hc : s.recodeOpen st = false) (hs : s.recodeBooksStalled st = true) :
    exec (.recodeOpen src st) s = .next (s.setShingle st { s.shingle st with rcOpening := true }) := by
  rw [exec_recodeOpen h, hc, if_neg Bool.false_ne_true, openRecode_stalled hs]
  exact answer_eq rfl rfl

theorem recodeOpen_unread (h : takes s src ⟨.SHG_RC_CTRL, st, 0⟩ (withField s ⟨.SHG_RC_CTRL, st, 0⟩ .SHG_RC_CTRL_OPEN 1))
    (hc : s.recodeOpen st = false) (hs : s.recodeBooksStalled st = false) {f : Fail}
    (hr : (s.setShingle st (unwaiting (s.shingle st))).recodeBooks st = (w, .error f)) :
    exec (.recodeOpen src st) s = .next w := by
  rw [exec_recodeOpen h, hc, if_neg Bool.false_ne_true, openRecode_checks hs hr]
  exact answer_recodeBooks hr rfl rfl

theorem recodeOpen_unfit (h : takes s src ⟨.SHG_RC_CTRL, st, 0⟩ (withField s ⟨.SHG_RC_CTRL, st, 0⟩ .SHG_RC_CTRL_OPEN 1))
    (hc : s.recodeOpen st = false) (hs : s.recodeBooksStalled st = false)
    (hr : (s.setShingle st (unwaiting (s.shingle st))).recodeBooks st = (w, .ok books)) (hb : recodeBooksOk books = false) :
    ∃ u, exec (.recodeOpen src st) s = .next u ∧ u.recodeOpen st = false ∧ u.flag .SHG_ERR_STATUS_RECODE st = true ∧
      u.rd .SIG_STATUS_VOIDED = 1 ∧ u.mem = s.mem := by
  have hread := Reads.of_recodeBooks hr
  have herr := reads_recodeErr w st (w.recodeBookAt st 0) true
  have hchecked : w.recodeChecked st (.ok books) = w.recodeErr st (w.recodeBookAt st 0) true := if_neg (by rw [hb]; decide)
  rw [exec_recodeOpen h, hc, if_neg Bool.false_ne_true, openRecode_checks hs hr, hchecked]
  refine ⟨_, answer_recodeBooks hr herr.codes.pending herr.codes.fuses, ?_, flag_recodeErr, voided_shgErr _ _ _ _ _ _ _ _, ?_⟩
  · exact ((hread.trans herr).codes.flag st 0 (by decide)).trans hc
  · exact (hread.trans herr).mem

theorem recodeOpen_opens (h : takes s src ⟨.SHG_RC_CTRL, st, 0⟩ (withField s ⟨.SHG_RC_CTRL, st, 0⟩ .SHG_RC_CTRL_OPEN 1))
    (hc : s.recodeOpen st = false) (hs : s.recodeBooksStalled st = false)
    (hr : (s.setShingle st (unwaiting (s.shingle st))).recodeBooks st = (w, .ok books)) (hb : recodeBooksOk books = true) :
    ∃ u, exec (.recodeOpen src st) s = .next u ∧
      u.shingle st = { unwaiting (s.shingle st) with recodes := [], rcFinish := false } ∧
      puts w u [(.SHG_RC_STATUS_OPEN, st, 0, 1), (.SHG_RC_STATUS_RECODED, st, 0, 0), (.SHG_STATUS_RC_OPEN, st, 0, 1),
        (.SHG_RC_STATUS_QUEUED, st, 0, 0), (.SHG_RC_STATUS_BUSY, st, 0, 0)] := by
  have hw : w.shingle st = unwaiting (s.shingle st) :=
    ((Reads.of_recodeBooks hr).codes.shingle st).trans (shingle_setShingle_self _ _ _)
  have hopened : w.recodeChecked st (.ok books) =
      (w.writes st recodeOpened).setShingle st { w.shingle st with recodes := [], rcFinish := false } := if_pos hb
  rw [exec_recodeOpen h, hc, if_neg Bool.false_ne_true, openRecode_checks hs hr, hopened, hw]
  exact ⟨_, answer_recodeBooks hr ((pending_setShingle _ _ _).trans (pending_writes _ _ _))
    ((fuses_setShingle _ _ _).trans (fuses_writes _ _ _)), shingle_setShingle_self _ _ _,
    puts_setShingle (puts_writes w st (by decide)) _⟩

/-! ### FEED -/

theorem recodeFeed_closed (h : takes s src ⟨.SHG_RC_FEED, st, 0⟩ v) (hc : s.recodeOpen st = false) :
    ∃ u, exec (.recodeFeed src st v) s = .next u ∧
      ∃ w, reports w u 0x0D 2 st false ∧ w.noRegs = s.noRegs ∧ regsBut s w [.SHG_ERR_INFO, .SHG_ERR_LEN] := by
  rw [exec_recodeFeed h, feedRecode_closed hc]
  exact answer_recodeErr _ _ _ _

theorem recodeFeed_queues (h : takes s src ⟨.SHG_RC_FEED, st, 0⟩ v) (ho : s.recodeOpen st = true)
    (hl : (s.shingle st).recodes.length < 64) : ∃ u, exec (.recodeFeed src st v) s = .next u ∧
      u.shingle st = { s.shingle st with recodes := (s.shingle st).recodes ++ [fv .SHG_RC_FEED_INDEX v] } ∧
      puts s u [(.SHG_RC_STATUS_QUEUED, st, 0, (s.shingle st).recodes.length + 1), (.SHG_RC_STATUS_BUSY, st, 0, 1)] := by
  rw [exec_recodeFeed h, feedRecode_queues ho hl]
  exact ⟨_, answer_writes _ _ _ _, shingle_setShingle_self _ _ _,
    puts_setShingle (puts_writes (l := [(.SHG_RC_STATUS_QUEUED, _), (.SHG_RC_STATUS_BUSY, 1)]) s st
      (show Apart [.SHG_RC_STATUS_QUEUED, .SHG_RC_STATUS_BUSY] by decide)) _⟩

theorem recodeFeed_full (h : takes s src ⟨.SHG_RC_FEED, st, 0⟩ v) (ho : s.recodeOpen st = true)
    (hl : 64 ≤ (s.shingle st).recodes.length) : exec (.recodeFeed src st v) s = .next (s.setShingle st
      { s.shingle st with waitRecodes := (s.shingle st).waitRecodes ++ [(src, fv .SHG_RC_FEED_INDEX v)] }) := by
  rw [exec_recodeFeed h, feedRecode_full ho hl]
  exact answer_eq rfl rfl

/-! ### FINISH -/

theorem recodeFinish_asks
    (h : takes s src ⟨.SHG_RC_CTRL, st, 0⟩ (withField s ⟨.SHG_RC_CTRL, st, 0⟩ .SHG_RC_CTRL_FINISH 1))
    (ho : s.recodeOpen st = true) (hx : (s.shingle st).recodes ≠ []) : ∃ u, exec (.recodeFinish src st) s = .next u ∧
      u.shingle st = { s.shingle st with rcFinish := true } ∧ puts s u [(.SHG_RC_CTRL_FINISH, st, 0, 1)] := by
  rw [exec_recodeFinish h, finishRecode_asks ho hx]
  exact ⟨_, answer_writes _ _ _ _, shingle_setShingle_self _ _ _, puts_setShingle (puts_writes s st (by decide)) _⟩

theorem rd_recodeClosed {f : Fd} (h : f.spec.reg ∉ codecRegs) :
    (s.recodeClosed st).rd f st = (s.writes st recodeDoneFields).rd f st :=
  ((codes_recodeClosed s st).rd f st 0 h).trans (rd_setShingle _ _ _ _ _ _)

theorem pending_recodeClosed : (s.recodeClosed st).pending = s.pending :=
  (codes_recodeClosed s st).pending.trans ((pending_setShingle _ _ _).trans (pending_writes _ _ _))

theorem fuses_recodeClosed : (s.recodeClosed st).fuses = s.fuses :=
  (codes_recodeClosed s st).fuses.trans ((fuses_setShingle _ _ _).trans (fuses_writes _ _ _))

theorem recodeFinish_ends
    (h : takes s src ⟨.SHG_RC_CTRL, st, 0⟩ (withField s ⟨.SHG_RC_CTRL, st, 0⟩ .SHG_RC_CTRL_FINISH 1))
    (ho : s.recodeOpen st = true) (hx : (s.shingle st).recodes = []) :
    ∃ u : State, exec (.recodeFinish src st) s = .next (u.post (u.rd .SHG_RC_SIG_SIG st) none (.codec st)) ∧
      u.recodeOpen st = false ∧ u.rd .SHG_RC_STATUS_DONE st = 1 ∧ u.rd .SHG_RC_SIG_SIG st = s.rd .SHG_RC_SIG_SIG st := by
  rw [exec_recodeFinish h, finishRecode_ends ho hx]
  refine ⟨s.recodeClosed st, answer_post pending_recodeClosed fuses_recodeClosed _ _, ?_, ?_, ?_⟩
  · unfold recodeOpen flag
    rw [rd_recodeClosed (by decide), rd_writes_mem (w := (.SHG_RC_STATUS_OPEN, 0)) recodeDoneFields_apart (by decide)]
    rfl
  · rw [rd_recodeClosed (by decide), rd_writes_mem (w := (.SHG_RC_STATUS_DONE, 1)) recodeDoneFields_apart (by decide)]
    rfl
  · rw [rd_recodeClosed (by decide), rd_writes_out recodeDoneFields_apart (fun hm => absurd hm.1 (by decide))]

/-! ### Segments -/

theorem recodeSegmentDone_none (ht : s.hasStack st = true) (hx : (s.shingle st).recodes = []) :
    exec (.recodeSegmentDone st) s = .next s := by
  rw [exec_recodeSegmentDone ht, recodeDone_none hx, answer_self]

theorem recodeSegmentDone_stalled (ht : s.hasStack st = true) {rest : List Nat} (hx : (s.shingle st).recodes = i :: rest)
    (hs : s.recodeStalled st i = true) : exec (.recodeSegmentDone st) s = .next s := by
  rw [exec_recodeSegmentDone ht, recodeDone_stalled hx hs, answer_self]

/-- Stack `st` recodes a segment that nothing stalls, where more follow or FINISH is not written. -/
structure RecodesNext (s : State) (st i : Nat) (rest : List Nat) : Prop where
  stack : s.hasStack st = true
  head : (s.shingle st).recodes = i :: rest
  noneWait : (s.shingle st).waitRecodes = []
  free : s.recodeStalled st i = false
  goesOn : rest ≠ [] ∨ (s.shingle st).rcFinish = false

namespace RecodesNext

variable {rest : List Nat} {v1 v2 : State} {db hb : List Byte}

/-- What a segment comes to: the next one's turn, and RECODED counts it where it has been recoded. -/
theorem goes (h : RecodesNext s st i rest) {ok : Bool} (hseg : s.recodeSegment st i = (w, ok)) :
    ∃ u, exec (.recodeSegmentDone st) s = .next u ∧ (u.shingle st).recodes = rest ∧ u.mem = w.mem ∧
      (∀ f x n, f.spec.reg ≠ .SHG_RC_STATUS → u.rd f x n = w.rd f x n) ∧
      u.rd .SHG_RC_STATUS_RECODED st =
        if ok then (s.rd .SHG_RC_STATUS_RECODED st + 1) % 2 ^ 22 else s.rd .SHG_RC_STATUS_RECODED st := by
  have hw := codes_recodeSegment s st i
  rw [hseg] at hw
  have hcount := hw.rd .SHG_RC_STATUS_RECODED st 0 (by decide)
  have hapart : Apart ((recodedCount ok (w.rd .SHG_RC_STATUS_RECODED st) ++
      recodeLoad (recodeTaken (s.shingle st) rest)).map Prod.fst) := by
    cases ok
    · show Apart [.SHG_RC_STATUS_QUEUED, .SHG_RC_STATUS_BUSY]
      decide
    · show Apart [.SHG_RC_STATUS_RECODED, .SHG_RC_STATUS_QUEUED, .SHG_RC_STATUS_BUSY]
      decide
  rw [exec_recodeSegmentDone h.stack, recodeDone_goes h.head h.noneWait h.free h.goesOn hseg]
  refine ⟨_, answer_writes_of hw.pending hw.fuses _ _ _, ?_, mem_writes _ _ _, fun f x n hf => ?_, ?_⟩
  · rw [shingle_setShingle_self]
    rfl
  · rw [rd_setShingle, rd_writes_out hapart]
    rintro ⟨hm, -, -⟩
    cases ok <;> simp [recodedCount, recodeLoad] at hm <;> rcases hm with rfl | rfl | rfl <;> exact hf rfl
  · rw [rd_setShingle]
    cases ok with
    | false => exact (rd_writes_out hapart fun hm => absurd hm.1 (by simp [recodedCount, recodeLoad])).trans hcount
    | true =>
      refine (rd_writes_mem (w := (.SHG_RC_STATUS_RECODED, w.rd .SHG_RC_STATUS_RECODED st + 1)) hapart
        (by simp [recodedCount])).trans ?_
      rw [hcount]
      rfl

/-- A segment recoded is counted; `recodeSegment_recodes` says which one is, and what it leaves in memory. -/
theorem recoded (h : RecodesNext s st i rest) (hseg : s.recodeSegment st i = (w, true)) :
    ∃ u, exec (.recodeSegmentDone st) s = .next u ∧ (u.shingle st).recodes = rest ∧
      u.rd .SHG_RC_STATUS_RECODED st = (s.rd .SHG_RC_STATUS_RECODED st + 1) % 2 ^ 22 ∧ u.mem = w.mem := by
  obtain ⟨u, hu, hrest, hmem, -, hcount⟩ := h.goes hseg
  exact ⟨u, hu, hrest, hcount, hmem⟩

/-- A segment refused: it is left as it is, with ERR_SHG_RECODE, and not counted. -/
theorem refused (h : RecodesNext s st i rest) {a : Nat} (hr : Reads s w)
    (hseg : s.recodeSegment st i = (w.recodeErr st a true, false)) :
    ∃ u, exec (.recodeSegmentDone st) s = .next u ∧ (u.shingle st).recodes = rest ∧
      u.rd .SHG_RC_STATUS_RECODED st = s.rd .SHG_RC_STATUS_RECODED st ∧ u.mem = s.mem ∧
      u.flag .SHG_ERR_STATUS_RECODE st = true ∧ u.rd .SIG_STATUS_VOIDED = 1 := by
  have herr : Reads s (w.recodeErr st a true) := hr.trans (reads_recodeErr _ _ _ _)
  obtain ⟨u, hu, hrest, hmem, hrd, hcount⟩ := h.goes hseg
  refine ⟨u, hu, hrest, hcount, hmem.trans herr.mem, ?_, ?_⟩
  · unfold flag
    rw [hrd _ _ _ (by decide)]
    exact flag_recodeErr
  · rw [hrd _ _ _ (by decide)]
    exact voided_shgErr _ _ _ _ _ _ _ _

/-- A directory entry that is not valid. -/
theorem invalid (h : RecodesNext s st i rest) (hr : s.readSpan shingleReq (s.recodeEntryAt st i) 16 = (v1, .ok db))
    (hv : DirEntry.valid (leNat db) = false) :
    ∃ u, exec (.recodeSegmentDone st) s = .next u ∧ (u.shingle st).recodes = rest ∧
      u.rd .SHG_RC_STATUS_RECODED st = s.rd .SHG_RC_STATUS_RECODED st ∧ u.mem = s.mem ∧
      u.flag .SHG_ERR_STATUS_RECODE st = true ∧ u.rd .SIG_STATUS_VOIDED = 1 :=
  h.refused (.of_readSpan hr) (recodeSegment_invalid hr hv)

/-- A segment with a block that is not raw and whole. -/
theorem coded (h : RecodesNext s st i rest) (hr : s.readSpan shingleReq (s.recodeEntryAt st i) 16 = (v1, .ok db))
    (hv : DirEntry.valid (leNat db) = true) (hh : v1.readSpan shingleReq (DirEntry.addr (leNat db)) 256 = (v2, .ok hb))
    (hm : hasCoded hb = true) :
    ∃ u, exec (.recodeSegmentDone st) s = .next u ∧ (u.shingle st).recodes = rest ∧
      u.rd .SHG_RC_STATUS_RECODED st = s.rd .SHG_RC_STATUS_RECODED st ∧ u.mem = s.mem ∧
      u.flag .SHG_ERR_STATUS_RECODE st = true ∧ u.rd .SIG_STATUS_VOIDED = 1 :=
  h.refused ((Reads.of_readSpan hr).trans (.of_readSpan hh)) (recodeSegment_coded hr hv hh hm)

end RecodesNext

end

/-! ### RECODED beyond its 22 bits -/

/-- Stack 0 with segment 0 fed to its recoder, whose directory entry is all zeros, and 2^22 in the 22 bits of RECODED. -/
def overcounted : State :=
  { State.reset with
    boot := { Boot.init with pwrok := true, fuseDone := true, order := 7, romDone := true, retry := false }
    shutters := [(⟨kMemc, 0, 0⟩, 0)]
    mem := Memory.empty
    shingles := [(⟨0, 0, 0⟩, { Shingle.init with recodes := [0] })]
    regs := [(key .SHG_RC_STATUS_RECODED 0 0, 2 ^ 22)] }

theorem overcounted_recodes : RecodesNext overcounted 0 0 [] :=
  ⟨by decide +kernel, by decide +kernel, by decide +kernel, by decide +kernel, .inr (by decide +kernel)⟩

/-- The directory entry reads as zeros. -/
theorem overcounted_entry : ∃ v1 db, overcounted.readSpan shingleReq (overcounted.recodeEntryAt 0 0) 16 = (v1, .ok db) ∧
    DirEntry.valid (leNat db) = false := by
  have hok : (overcounted.readSpan shingleReq (overcounted.recodeEntryAt 0 0) 16).2.toOption.map (DirEntry.valid ∘ leNat) =
      some false := by decide +kernel
  cases h : overcounted.readSpan shingleReq (overcounted.recodeEntryAt 0 0) 16 with
  | mk v r =>
    rw [h] at hok
    cases r with
    | error f => exact absurd hok (by simp [Except.toOption])
    | ok db => exact ⟨v, db, rfl, by simpa [Except.toOption] using hok⟩

theorem overcounted_recoded : overcounted.rd .SHG_RC_STATUS_RECODED 0 = 2 ^ 22 := by decide +kernel

end Sys2Proof.Machine.State

namespace Sys2Proof

open Machine Machine.State Claims

/-- Refutes O43: of its two parts `surveys` holds. Recodes asks that a refused segment leave in RECODED its value modulo 2^22,
and leaves open what that value is; the recoder leaves RECODED alone, so that a value of 2^22, which no write makes since a write
cuts to the field's 22 bits, stays. With a value below 2^22 the clauses of a refused segment are `RecodesNext.invalid` and
`RecodesNext.coded`; that of a recoded one is `RecodesNext.recoded` of `recodeSegment_recodes`, and those of OPEN, FEED and
FINISH are the `recodeOpen_`, `recodeFeed_` and `recodeFinish_` lemmas. -/
theorem not_surveysAndRecodes : ¬ Obligations.SurveysAndRecodes := by
  unfold Obligations.SurveysAndRecodes
  rintro ⟨-, hrecodes⟩
  have h := overcounted_recodes
  obtain ⟨v1, db, hread, hvalid⟩ := overcounted_entry
  obtain ⟨-, -, -, hsegments⟩ := hrecodes overcounted .host 0 0
  obtain ⟨-, -, hsegment⟩ := hsegments h.stack
  obtain ⟨hrefused, -⟩ := hsegment 0 [] h.head h.noneWait h.free h.goesOn
  obtain ⟨u, hu, ⟨-, hclaim⟩, -⟩ := hrefused v1 db hread hvalid
  obtain ⟨v, hv, -, hmodel, -⟩ := h.invalid hread hvalid
  cases hu.symm.trans hv
  rw [overcounted_recoded] at hclaim hmodel
  exact absurd (hclaim.symm.trans hmodel) (by decide)

end Sys2Proof

/-! SUPPORT. An error report in its three stages: the status bit, the record in the ring or held, and the void (R226, R236, R237,
R239, R467). -/
namespace Sys2Proof.Machine.State

open Sys2Proof.Claims

/-! ### The status bit -/

theorem errRegs_width : ∀ r ∈ errRegs, ∀ f ∈ r.spec.fields, f.width = 1 := by decide

theorem errField_width {cls n : Nat} {f : Fd} (h : errField cls n = some f) : f.width = 1 := by
  obtain ⟨r, hr, hf⟩ := errField_reg h
  exact errRegs_width r (errReg_mem hr) f hf

/-- The state in which a report's record is written: the report's bit is set where it has one (R237). -/
def withBit (s : State) (e : Err) : State := if e.index < 0x80 then s.setErr e.cls e.index e.inst else s

theorem noInt_withBit (s : State) (e : Err) : (s.withBit e).noInt = s.noInt := by
  unfold withBit
  split
  · exact noInt_setErr s _ _ _
  · rfl

theorem rd_withBit (s : State) (e : Err) {g : Fd} (i x : Nat) (h : g.spec.reg ∉ Reg.HST_PBA :: errRegs) :
    (s.withBit e).rd g i x = s.rd g i x := by
  obtain ⟨hpba, herr⟩ := not_or.1 (List.mem_cons.not.1 h)
  unfold withBit
  split
  · exact rd_setErr s _ _ _ _ _ _ (fun hr => herr (errReg_mem hr)) hpba
  · rfl

/-- The bit is no part of the record. -/
theorem recordWords_withBit (s : State) (e : Err) : (s.withBit e).recordWords e = s.recordWords e := by
  have hint := noInt_withBit s e
  have htime : (s.withBit e).time = s.time := by have h := congrArg State.time hint; exact h
  have hseq : (s.withBit e).errSeq = s.errSeq := by have h := congrArg State.errSeq hint; exact h
  have htm : (s.withBit e).tidemark = s.tidemark := rd_withBit s e _ _ (by decide)
  have hatt : (s.withBit e).attempt = s.attempt := rd_withBit s e _ _ (by decide)
  unfold recordWords
  rw [htime, hseq, htm, hatt]

theorem ringAside_withBit (s : State) (e : Err) : (s.withBit e).ringAside = s.ringAside :=
  congrArg (hasBit · 2) (rd_withBit s e 0 0 (by decide))

/-! ### The ring -/

/-- Is the ring full (R239)? -/
def ringFull (s : State) : Prop := (s.rd .SIG_ERR_HEAD_HEAD + 1) % 256 = s.rd .SIG_ERR_TAIL_TAIL

/-- The ring and its two counts after a record. -/
def ringPlus (s : State) (words : List Nat) : State :=
  if ((s.rd .SIG_ERR_HEAD_HEAD + 1) % 256 == s.rd .SIG_ERR_TAIL_TAIL) = true then s.bump .SIG_ERR_DROPPED_COUNT 0 0 1
  else { s with errRing := SMap.set s.errRing ⟨s.rd .SIG_ERR_HEAD_HEAD, 0, 0⟩ [] words }.wr .SIG_ERR_HEAD_HEAD 0 0
    (s.rd .SIG_ERR_HEAD_HEAD + 1)

/-- A record's place in the ring is followed by SIG_STATUS.RECORD and, where it is enabled, the interrupt. -/
theorem placeRecord_eq (s : State) (words : List Nat) : s.placeRecord words =
    if s.flag .SIG_INT_EN_RECORD then ((s.ringPlus words).wr .SIG_STATUS_RECORD 0 0 1).raiseVector 1
    else (s.ringPlus words).wr .SIG_STATUS_RECORD 0 0 1 := rfl

theorem ringPlus_full {s : State} (words : List Nat) (h : s.ringFull) :
    s.ringPlus words = s.bump .SIG_ERR_DROPPED_COUNT 0 0 1 := if_pos (beq_iff_eq.2 h)

theorem ringPlus_room {s : State} (words : List Nat) (h : ¬s.ringFull) : s.ringPlus words =
    { s with errRing := SMap.set s.errRing ⟨s.rd .SIG_ERR_HEAD_HEAD, 0, 0⟩ [] words }.wr .SIG_ERR_HEAD_HEAD 0 0
      (s.rd .SIG_ERR_HEAD_HEAD + 1) := if_neg fun e => h (beq_iff_eq.1 e)

theorem noInt_placeRecord (s : State) (words : List Nat) : (s.placeRecord words).noInt = (s.ringPlus words).noInt := by
  rw [placeRecord_eq]
  split
  · rw [noInt_raiseVector, noInt_wr]
  · rw [noInt_wr]

theorem rd_placeRecord_ne (s : State) (words : List Nat) {g : Fd} (i x : Nat) (hp : g.spec.reg ≠ .HST_PBA)
    (hg : g ≠ .SIG_STATUS_RECORD) : (s.placeRecord words).rd g i x = (s.ringPlus words).rd g i x := by
  have hw : ((s.ringPlus words).wr .SIG_STATUS_RECORD 0 0 1).rd g i x = (s.ringPlus words).rd g i x :=
    rd_wr_ne _ _ (fun _ => by decide) fun e => hg e.1
  rw [placeRecord_eq]
  split
  · rw [rd_raiseVector _ _ _ _ _ hp, hw]
  · exact hw

theorem rd_placeRecord_record (s : State) (words : List Nat) : (s.placeRecord words).rd .SIG_STATUS_RECORD = 1 := by
  rw [placeRecord_eq]
  split
  · rw [rd_raiseVector _ _ _ _ _ (by decide), rd_wr_self]
    rfl
  · rw [rd_wr_self]
    rfl

/-- The interrupt of a record that is enabled and not masked goes out (R239, R343). -/
theorem irqs_placeRecord {s : State} (words : List Nat) (hen : s.flag .SIG_INT_EN_RECORD = true)
    (hmask : s.flag .HST_MSIX_MASK 0 1 = false) : 1 ∈ (s.placeRecord words).irqs := by
  have hring : (s.ringPlus words).rd .HST_MSIX_MASK 0 1 = s.rd .HST_MSIX_MASK 0 1 := by
    unfold ringPlus
    split
    · exact rd_wr_out s _ _ _ _ _ (by decide) (by decide)
    · exact rd_wr_out _ _ _ _ _ _ (by decide) (by decide)
  have hkeep : ((s.ringPlus words).wr .SIG_STATUS_RECORD 0 0 1).flag .HST_MSIX_MASK 0 1 = false := by
    unfold flag at hmask ⊢
    rwa [rd_wr_out _ _ _ _ _ _ (by decide) (by decide), hring]
  rw [placeRecord_eq, if_pos hen]
  unfold raiseVector
  rw [hkeep]
  exact List.mem_append_right _ List.mem_cons_self

/-! ### The record written or held -/

/-- While the ring is aside the writer holds the record (R467). -/
theorem writeRecord_aside {s : State} (e : Err) (h : s.ringAside = true) :
    s.writeRecord e = { s with errSeq := (s.errSeq + 1) % 2 ^ 32, errHeld := s.errHeld ++ [s.recordWords e] } := if_pos h

theorem writeRecord_placed {s : State} (e : Err) (h : ¬s.ringAside = true) :
    s.writeRecord e = ({ s with errSeq := (s.errSeq + 1) % 2 ^ 32 } : State).placeRecord (s.recordWords e) := if_neg h

/-! ### The void -/

theorem report_eq (s : State) (e : Err) : s.report e =
    if e.void then ((s.withBit e).writeRecord e).voidStep e.cls e.index else (s.withBit e).writeRecord e := rfl

/-- The void changes the cause and registers. -/
theorem ring_voidStep (s : State) (cls index : Nat) : (s.voidStep cls index).errRing = s.errRing ∧
    (s.voidStep cls index).errHeld = s.errHeld ∧ (s.voidStep cls index).irqs = s.irqs := by
  unfold voidStep
  dsimp only
  split <;> exact ⟨rfl, rfl, rfl⟩

theorem rd_voidStep_ne (s : State) (cls index : Nat) {g : Fd} (i x : Nat) (h : g ≠ .SIG_STATUS_VOIDED) :
    (s.voidStep cls index).rd g i x = s.rd g i x := by
  unfold voidStep
  dsimp only
  split <;> exact rd_wr_ne _ _ (fun _ => by decide) fun e => h e.1

/-- What the record has left in the ring and beside it, the void keeps. -/
theorem ring_report (s : State) (e : Err) : (s.report e).errRing = ((s.withBit e).writeRecord e).errRing ∧
    (s.report e).errHeld = ((s.withBit e).writeRecord e).errHeld ∧
    (s.report e).irqs = ((s.withBit e).writeRecord e).irqs := by
  rw [report_eq]
  split
  · exact ring_voidStep _ _ _
  · exact ⟨rfl, rfl, rfl⟩

theorem rd_report_record (s : State) (e : Err) {g : Fd} (i x : Nat) (h : g ≠ .SIG_STATUS_VOIDED) :
    (s.report e).rd g i x = ((s.withBit e).writeRecord e).rd g i x := by
  rw [report_eq]
  split
  · exact rd_voidStep_ne _ _ _ i x h
  · rfl

/-! ### Reports with the ring aside, with room in it, and with the ring full -/

section

variable {s : State} (e : Err)

theorem report_aside (h : s.ringAside = true) : (s.report e).errHeld = s.errHeld ++ [s.recordWords e] ∧
    (s.report e).errRing = s.errRing ∧
    ∀ {g : Fd}, g ≠ .SIG_STATUS_VOIDED → g.spec.reg ∉ Reg.HST_PBA :: errRegs → (s.report e).rd g = s.rd g := by
  have hint := noInt_withBit s e
  have hheld : (s.withBit e).errHeld = s.errHeld := by have h := congrArg State.errHeld hint; exact h
  have hring : (s.withBit e).errRing = s.errRing := by have h := congrArg State.errRing hint; exact h
  have hw := writeRecord_aside (s := s.withBit e) e ((ringAside_withBit s e).trans h)
  obtain ⟨hr1, hr2, -⟩ := ring_report s e
  refine ⟨?_, ?_, fun {g} hv hg => ?_⟩
  · rw [hr2, hw, ← hheld, ← recordWords_withBit s e]
  · rw [hr1, hw]
    exact hring
  · rw [rd_report_record s e _ _ hv, hw]
    exact rd_withBit s e _ _ hg

/-- The state whose ring a report's record goes to: the report's bit and its SEQ are taken. -/
def recordDue (s : State) (e : Err) : State :=
  { s.withBit e with errSeq := ((s.withBit e).errSeq + 1) % 2 ^ 32 }

theorem rd_recordDue (s : State) (e : Err) {g : Fd} (i x : Nat) (h : g.spec.reg ∉ Reg.HST_PBA :: errRegs) :
    (s.recordDue e).rd g i x = s.rd g i x := rd_withBit s e i x h

theorem ringFull_recordDue (s : State) : (s.recordDue e).ringFull ↔ s.ringFull := by
  unfold ringFull
  rw [rd_recordDue s e 0 0 (by decide), rd_recordDue s e 0 0 (by decide)]

theorem ring_recordDue (s : State) : (s.recordDue e).errRing = s.errRing ∧ (s.recordDue e).errHeld = s.errHeld := by
  have hint := noInt_withBit s e
  have hring := congrArg State.errRing hint
  have hheld := congrArg State.errHeld hint
  exact ⟨hring, hheld⟩

/-- With the ring there, the record is placed (R239). -/
theorem writeRecord_recordDue (h : ¬s.ringAside = true) :
    (s.withBit e).writeRecord e = (s.recordDue e).placeRecord (s.recordWords e) := by
  rw [writeRecord_placed e (ringAside_withBit s e ▸ h), recordWords_withBit]
  rfl

theorem report_placed (h : ¬s.ringAside = true) : (s.report e).rd .SIG_STATUS_RECORD = 1 ∧ (s.report e).errHeld = s.errHeld := by
  obtain ⟨-, hheld, -⟩ := ring_report s e
  refine ⟨?_, ?_⟩
  · rw [rd_report_record s e _ _ (by decide), writeRecord_recordDue e h]
    exact rd_placeRecord_record _ _
  · have hplace : ((s.recordDue e).placeRecord (s.recordWords e)).errHeld = ((s.recordDue e).ringPlus (s.recordWords e)).errHeld := by
      have h := congrArg State.errHeld (noInt_placeRecord (s.recordDue e) (s.recordWords e))
      exact h
    have hplus : ((s.recordDue e).ringPlus (s.recordWords e)).errHeld = (s.recordDue e).errHeld := by
      unfold ringPlus
      split <;> rfl
    rw [hheld, writeRecord_recordDue e h, hplace, hplus, (ring_recordDue e s).2]

/-- The ring and its counts after a report are those after its record. -/
theorem ring_report_placed (h : ¬s.ringAside = true) :
    (s.report e).errRing = ((s.recordDue e).ringPlus (s.recordWords e)).errRing ∧
    ∀ {g : Fd}, g ∉ [Fd.SIG_STATUS_VOIDED, .SIG_STATUS_RECORD] → g.spec.reg ≠ .HST_PBA →
      (s.report e).rd g = ((s.recordDue e).ringPlus (s.recordWords e)).rd g := by
  obtain ⟨hring, -, -⟩ := ring_report s e
  refine ⟨?_, fun {g} hg hp => ?_⟩
  · have hplace := congrArg State.errRing (noInt_placeRecord (s.recordDue e) (s.recordWords e))
    rw [hring, writeRecord_recordDue e h]
    exact hplace
  · simp only [List.mem_cons, List.not_mem_nil, or_false, not_or] at hg
    rw [rd_report_record s e _ _ hg.1, writeRecord_recordDue e h]
    exact rd_placeRecord_ne _ _ _ _ hp hg.2

theorem report_room (h : ¬s.ringAside = true) (hr : ¬s.ringFull) :
    (s.report e).rd .SIG_ERR_HEAD_HEAD = (s.rd .SIG_ERR_HEAD_HEAD + 1) % 256 ∧
    (s.report e).rd .SIG_ERR_DROPPED_COUNT = s.rd .SIG_ERR_DROPPED_COUNT ∧
    (s.report e).errRing = SMap.set s.errRing ⟨s.rd .SIG_ERR_HEAD_HEAD, 0, 0⟩ [] (s.recordWords e) := by
  obtain ⟨hring, hrd⟩ := ring_report_placed e h
  have hhead : (s.recordDue e).rd .SIG_ERR_HEAD_HEAD = s.rd .SIG_ERR_HEAD_HEAD := rd_recordDue s e 0 0 (by decide)
  have hplus := ringPlus_room (s.recordWords e) ((ringFull_recordDue e s).not.2 hr)
  rw [hhead, (ring_recordDue e s).1] at hplus
  refine ⟨?_, ?_, ?_⟩
  · rw [hrd (by decide) (by decide), hplus]
    exact rd_wr_self _ _ _ _ _
  · rw [hrd (by decide) (by decide), hplus, rd_wr_out _ _ _ _ _ _ (by decide) (by decide)]
    exact rd_recordDue s e 0 0 (by decide)
  · rw [hring, hplus]
    rfl

theorem report_full (h : ¬s.ringAside = true) (hf : s.ringFull) :
    (s.report e).rd .SIG_ERR_HEAD_HEAD = s.rd .SIG_ERR_HEAD_HEAD ∧ (s.report e).errRing = s.errRing ∧
    (s.report e).rd .SIG_ERR_DROPPED_COUNT =
      satNat Fd.SIG_ERR_DROPPED_COUNT.width (s.rd .SIG_ERR_DROPPED_COUNT + 1) := by
  obtain ⟨hring, hrd⟩ := ring_report_placed e h
  have hplus := ringPlus_full (s.recordWords e) ((ringFull_recordDue e s).2 hf)
  have hcount : (s.recordDue e).rd .SIG_ERR_DROPPED_COUNT = s.rd .SIG_ERR_DROPPED_COUNT := rd_recordDue s e 0 0 (by decide)
  refine ⟨?_, ?_, ?_⟩
  · rw [hrd (by decide) (by decide), hplus]
    exact (rd_wr_out _ _ _ _ _ _ (by decide) (by decide)).trans (rd_recordDue s e 0 0 (by decide))
  · rw [hring, hplus]
    exact (ring_recordDue e s).1
  · rw [hrd (by decide) (by decide), hplus]
    unfold bump
    rw [rd_wr_self, hcount]
    refine Nat.mod_eq_of_lt (lt_of_le_of_lt (min_le_right _ _) ?_)
    exact Nat.sub_lt (Nat.two_pow_pos _) Nat.one_pos

theorem irqs_report (h : ¬s.ringAside = true) (hen : s.flag .SIG_INT_EN_RECORD = true)
    (hmask : s.flag .HST_MSIX_MASK 0 1 = false) : 1 ∈ (s.report e).irqs := by
  obtain ⟨-, -, hirqs⟩ := ring_report s e
  have hflag : ∀ {g : Fd} (i x : Nat), g.spec.reg ∉ Reg.HST_PBA :: errRegs → (s.recordDue e).flag g i x = s.flag g i x :=
    fun i x hg => congrArg (· != 0) (rd_recordDue s e i x hg)
  rw [hirqs, writeRecord_recordDue e h]
  exact irqs_placeRecord _ ((hflag 0 0 (by decide)).trans hen) ((hflag 0 1 (by decide)).trans hmask)

end

end Sys2Proof.Machine.State

namespace Sys2Proof

open Machine Machine.State Claims

/-- Settles O57: a report is its bit, then its record in the ring or beside it, then the void, and each stage keeps what the
others change. -/
theorem errorReports : Obligations.ErrorReports := by
  unfold Obligations.ErrorReports
  intro s e
  refine ⟨errSeq_report s e, fun h => ?_, fun h => report_placed e h, fun h hr => ?_, fun h hf => report_full e h hf,
    fun hv => ?_, fun hv => ⟨?_, cause_report s e hv⟩, fun f hn hf => flag_report s e hn hf (errField_width hf),
    fun h hen hmask => irqs_report e h hen hmask, fun r hr g i x hg => ?_, noRec_report s e⟩
  · obtain ⟨hheld, hring, hrd⟩ := report_aside e h
    exact ⟨hheld, hring, hrd (by decide) (by decide), hrd (by decide) (by decide), hrd (by decide) (by decide)⟩
  · obtain ⟨hhead, hcount, hring⟩ := report_room e h hr
    refine ⟨hhead, hcount, ?_, fun i hi => ?_⟩
    · rw [hring]
      exact SMap.get_set_self _ _ _ _
    · rw [hring]
      exact SMap.get_set_ne _ _ _ _ fun hk => hi (congrArg Key.a hk)
  · rw [rd_report_voided, if_pos hv]
  · rw [rd_report_voided, if_neg (by simp [hv])]
  · simp only [List.mem_cons, not_or] at hg
    refine rd_report s e g i x (fun h => hg.1 ?_) ?_
    · exact Option.some_inj.1 (h.symm.trans hr)
    · simpa [recordRegs] using hg.2

end Sys2Proof

/-! SUPPORT. The limit of a barrier (R228), and the limit of a wait on a counter with the array's wait behind it (R207, R210, R233,
R234). -/
namespace Sys2Proof.Machine.State

open Sys2Proof.Claims

/-! ### The limit of a barrier -/

/-- The record of a barrier whose limit has expired, once a phase (R228). -/
def barLate (s : State) (b who more : Nat) : State :=
  (s.setBar b { s.bar b with reported := true }).report
    { cls := 0x0A, index := 0, inst := 0xFFFF, void := false, objKind := 2, obj := b, waiterKind := 3, waiter := who,
      waiters := more, d5 := s.rd .SIG_BAR_LIMIT_LIMIT_US 0 b, d6 := s.barGen b }

theorem exec_barrierTimeout {s : State} {b : Nat} (h : b < 512) : exec (.barrierTimeout b) s = answer s (s.barTimeout b) :=
  answerIf_true (decide_eq_true h)

theorem answer_barLate (s : State) (b who more : Nat) : answer s (s.barLate b who more) = .next (s.barLate b who more) := by
  have hrest : (s.barLate b who more).noRec = (s.setBar b { s.bar b with reported := true }).noRec := noRec_report _ _
  have hpend := congrArg State.pending hrest
  have hfuse := congrArg State.fuses hrest
  exact answer_eq hpend hfuse

section

variable {s : State} {b : Nat}

theorem barTimeout_root {m : Nat} {more : List Nat} (hv : s.barValid b = true) (hr : (s.bar b).reported = false)
    (hp : s.pkn = s.barRoot b) (hm : (s.bar b).mask ≠ 0)
    (hmiss : ((List.range (s.barPkgs b)).filter fun i => !hasBit (s.bar b).mask i) = m :: more) :
    s.barTimeout b = s.barLate b (s.barRoot b + m) more.length := by
  unfold barTimeout barLate
  simp [hv, hr, hp, hm, hmiss]

theorem barTimeout_member (hv : s.barValid b = true) (hr : (s.bar b).reported = false) (hp : s.pkn ≠ s.barRoot b)
    (hd : (s.bar b).done = true) : s.barTimeout b = s.barLate b s.pkn 0 := by
  unfold barTimeout barLate
  simp [hv, hr, hp, hd]

end

/-! ### The limit of a wait -/

theorem exec_waitTimeout {s : State} {t who : Nat} (ht : t < s.nTiles) (hw : who < 5) :
    exec (.waitTimeout t who) s = answer s (s.waitTimeout t who) := answerIf_true (decide_eq_true ⟨ht, hw⟩)

/-- A context that is not served keeps its place. -/
theorem ctx_serveFrom {t n c : Nat} (ws : List Waiter) (s : State) (h : ∀ w ∈ ws, w.who ≠ c) :
    (s.serveFrom t n ws).ctx t c = s.ctx t c := by
  induction ws generalizing s with
  | nil => rfl
  | cons w ws ih =>
    obtain ⟨hw, hws⟩ := List.forall_mem_cons.1 h
    have hend : ((s.cntTake t n w.amount).endWait t w.who 0).ctx t c = s.ctx t c := by
      unfold endWait
      dsimp only
      split
      · split
        · exact (ctx_setCtx _ _ _ _ _ _).trans (if_neg fun e => hw e.2.symm)
        · rfl
      · have hctxs : ((s.cntTake t n w.amount).countPass t).ctxs = (s.cntTake t n w.amount).ctxs := by
          unfold countPass
          dsimp only
          split_ifs <;> rfl
        exact congrArg (SMap.get · ⟨t, c, 0⟩ Ctx.init) hctxs
    rw [serveFrom]
    split
    · rw [ih _ hws, hend]
    · rfl

theorem ctx_leaveCounter (s : State) (t n c : Nat) : (s.leaveCounter t n c).ctx t c = s.ctx t c := by
  unfold leaveCounter
  split
  · refine ctx_serveFrom _ _ fun w hw => ?_
    rw [waitersOn_setWaiters, if_pos ⟨rfl, rfl⟩] at hw
    simpa using (List.mem_filter.1 hw).2
  · rfl

section

variable {s : State} {t c : Nat}

theorem waitTimeout_pausing (who : Nat) (hp : s.pausing = true) : s.waitTimeout t who = s := if_pos hp

theorem waitTimeout_counter {k m rd : Nat} (hc : c < 4) (hp : s.pausing = false) (hw : (s.ctx t c).wait = .counter k m rd) :
    s.waitTimeout t c = ((s.counterTimeout t k m c).leaveCounter t k c).block t c (.served rd 1) := by
  unfold waitTimeout
  rw [if_neg (by simp [hp]), if_neg (Nat.ne_of_lt hc), hw]

theorem waitTimeout_barrier {b sense : Nat} (hc : c < 4) (hp : s.pausing = false)
    (hw : (s.ctx t c).wait = .barrier b sense false) :
    s.waitTimeout t c = (s.barrierWaitTimeout t c b).block t c (.barrier b sense true) := by
  unfold waitTimeout
  rw [if_neg (by simp [hp]), if_neg (Nat.ne_of_lt hc), hw]

theorem waitTimeout_array {q : QEntry} (hp : s.pausing = false) (hq : (s.engine t eArray).queue.head? = some q)
    (hw : (s.array t).waiting = true) (hr : (s.array t).reported = false) : s.waitTimeout t 4 =
      (s.counterTimeout t (Pd.waitCtr q.desc) (Pd.waitAmt q.desc) 4).setArray t { s.array t with reported := true } := by
  unfold waitTimeout
  simp [hp, hq, hw, hr]

/-- The limit of a wait on a counter ends it with 1 in rd; the frame leaves out the free values that those served behind it
draw (R234). -/
theorem counterLimit {k m rd : Nat} (ht : t < s.nTiles) (hc : c < 4) (hp : s.pausing = false)
    (hw : (s.ctx t c).wait = .counter k m rd) :
    ∃ u, exec (.waitTimeout t c) s = .next u ∧ u.ctx t c = { s.ctx t c with wait := .served rd 1 } ∧
      (∀ w ∈ u.waitersOn t k, w.who ≠ c) ∧ u.errSeq = (s.errSeq + 1) % 2 ^ 32 ∧
      u.rd .SIG_STATUS_VOIDED = s.rd .SIG_STATUS_VOIDED ∧ ({ u with fresh := s.fresh } : State).noWait = s.noWait := by
  have hreport : (s.counterTimeout t k m c).noRec = s.noRec := noRec_report _ _
  have hserves := Serves.leaveCounter (s.counterTimeout t k m c) t k c
  have hpend := congrArg State.pending hreport
  have hfuse := congrArg State.fuses hreport
  rw [exec_waitTimeout ht (by omega), waitTimeout_counter hc hp hw]
  refine ⟨_, answer_eq (hserves.pending.trans hpend) (hserves.fuses.trans hfuse), ?_, ?_, ?_, ?_, ?_⟩
  · unfold block
    rw [ctx_setCtx_self, ctx_leaveCounter, ctx_of_noRec hreport]
  · exact waitsNot_leaveCounter _ t k c
  · have hseq := congrArg State.errSeq hserves.rest
    exact hseq.trans (errSeq_report _ _)
  · exact (hserves.rd _ _ _ (by decide)).trans (rd_report_voided _ _)
  · have hleave := congrArg (fun v : State => ({ v with fresh := s.fresh } : State).noWait) hserves.rest
    have hrecord := congrArg (fun v : State => ({ v with fresh := s.fresh } : State).noWait) hreport
    exact hleave.trans hrecord

/-- The limit of a wait on a barrier is reported once, and the wait goes on (R234). -/
theorem barrierWaitLimit {b sense : Nat} (ht : t < s.nTiles) (hc : c < 4) (hp : s.pausing = false)
    (hw : (s.ctx t c).wait = .barrier b sense false) :
    ∃ u v, exec (.waitTimeout t c) s = .next u ∧ reports s v 0x0A 0 t false ∧
      u = v.setCtx t c { s.ctx t c with wait := .barrier b sense true } := by
  have hreport : (s.barrierWaitTimeout t c b).noRec = s.noRec := noRec_report _ _
  have hpend := congrArg State.pending hreport
  have hfuse := congrArg State.fuses hreport
  rw [exec_waitTimeout ht (by omega), waitTimeout_barrier hc hp hw]
  refine ⟨_, s.barrierWaitTimeout t c b, answer_eq hpend hfuse, ⟨_, rfl, rfl, rfl, rfl, rfl⟩, ?_⟩
  unfold block
  rw [ctx_of_noRec hreport]

/-- So is that of the array's wait. -/
theorem arrayWaitLimit {q : QEntry} (ht : t < s.nTiles) (hp : s.pausing = false)
    (hq : (s.engine t eArray).queue.head? = some q) (hw : (s.array t).waiting = true) (hr : (s.array t).reported = false) :
    ∃ u v, exec (.waitTimeout t 4) s = .next u ∧ reports s v 0x0A 0 t false ∧
      u = v.setArray t { s.array t with reported := true } := by
  have hreport : (s.counterTimeout t (Pd.waitCtr q.desc) (Pd.waitAmt q.desc) 4).noRec = s.noRec := noRec_report _ _
  have hpend := congrArg State.pending hreport
  have hfuse := congrArg State.fuses hreport
  rw [exec_waitTimeout ht (by decide), waitTimeout_array hp hq hw hr]
  exact ⟨_, _, answer_eq hpend hfuse, ⟨_, rfl, rfl, rfl, rfl, rfl⟩, rfl⟩

/-- While a pause holds the tile no limit runs (R235). -/
theorem limitHeld {who : Nat} (ht : t < s.nTiles) (hw : who < 5) (hp : s.pausing = true) :
    exec (.waitTimeout t who) s = .next s := by
  rw [exec_waitTimeout ht hw, waitTimeout_pausing who hp, answer_self]

end

/-! ### A context's wait that ends with the array behind it -/

/-- Context 0 of tile 0 waits for 3 of counter 5, which holds 2, and the array behind it for 2. -/
def arrayBehind : State :=
  { State.reset with
    boot := { Boot.init with pwrok := true, fuseDone := true, order := 7, romDone := true, retry := false }
    shutters := [(⟨kTile, 0, 0⟩, 0)]
    ctxs := [(⟨0, 0, 0⟩, { Ctx.init with wait := .counter 5 3 1 })]
    engines := [(⟨0, eArray, 0⟩, { Engine.init with queue := [⟨waitingDesc, 0, 1⟩], issued := 1 })]
    arrays := [(⟨0, 0, 0⟩, { MatArray.init with waiting := true })]
    waiters := [(⟨0, 5, 0⟩, [⟨0, 3⟩, ⟨4, 2⟩])]
    regs := [(key .TILE_WATERLINE_LEVEL 0 0, 4), (key .SIG_CNT_VALUE 0 5, 2)] }

theorem arrayBehind_waits : 0 < arrayBehind.nTiles ∧ arrayBehind.pausing = false ∧
    (arrayBehind.ctx 0 0).wait = .counter 5 3 1 := by decide +kernel

/-- The limit of the context's wait lets the array have its amount, and the cycles that it has waited are a free value. -/
theorem arrayBehind_draws : (arrayBehind.waitTimeout 0 0).fresh = arrayBehind.fresh + 1 := by decide +kernel

end Sys2Proof.Machine.State

namespace Sys2Proof

open Machine Machine.State Claims

theorem barrierLimits : Claims.BarrierLimits := by
  intro s b hb hv hr
  refine ⟨fun m more hp hm hmiss => ?_, fun hp hd => ?_⟩
  · rw [exec_barrierTimeout hb, barTimeout_root hv hr hp hm hmiss]
    exact answer_barLate s b _ _
  · rw [exec_barrierTimeout hb, barTimeout_member hv hr hp hd]
    exact answer_barLate s b _ _

/-- Refutes O28: of its two parts `barrierLimits` holds. WaitLimits asks that the limit of a context's wait on a counter change
nothing outside `noWait`, which keeps the count of free values; but where the array waits behind that context and has its amount
when the context leaves, it starts its pass, and the cycles it has waited are one more free value. But for that count the clause
holds (`counterLimit`), and the other clauses are `limitHeld`, `barrierWaitLimit` and `arrayWaitLimit`. -/
theorem not_waitAndBarrierLimits : ¬ Obligations.WaitAndBarrierLimits := by
  unfold Obligations.WaitAndBarrierLimits
  rintro ⟨hwaits, -⟩
  obtain ⟨ht, hp, hw⟩ := arrayBehind_waits
  obtain ⟨-, hcounter, -⟩ := hwaits arrayBehind 0 0 ht (by decide)
  obtain ⟨u, hu, -, -, -, -, hrest⟩ := hcounter 5 3 1 hp hw
  cases hu.symm.trans (exec_waitTimeout ht (by decide))
  have hsame := congrArg State.fresh hrest
  exact Nat.succ_ne_self _ (arrayBehind_draws.symm.trans hsame)

end Sys2Proof

/-! SUPPORT. Guarded transfers at their receiver: the entry that a tag's first packet opens, a packet that does not fit it, the
packets counted, and the signal word applied (R219 to R221). -/
namespace Sys2Proof.Machine

/-- A packet as it arrives: nothing of it has been written or verified. -/
def Packet.arriving (k : Packet) : Packet := { k with stored := false, verified := false, waits := false, failed := false }

theorem Packet.arriving_self {k : Packet} (h1 : k.stored = false) (h2 : k.verified = false) (h3 : k.waits = false)
    (h4 : k.failed = false) : k.arriving = k := by
  cases k
  cases h1
  cases h2
  cases h3
  cases h4
  rfl

/-- The entry that a tag's first packet leaves: nothing counted, its signal word deposited where it is the last (R220). -/
def Packet.entry (k : Packet) (die : Nat) : Guard := ⟨die, k.tag, k.count, 0, if k.last then some k.sig else none⟩

namespace State

/-! ### Entries -/

theorem guardOf_eq_none {s : State} {die tag : Nat} :
    s.guardOf die tag = none ↔ ∀ g ∈ s.guards, ¬(g.die = die ∧ g.tag = tag) := by
  simp [guardOf]

theorem guardOf_append {s : State} {die tag : Nat} (h : s.guardOf die tag = none) {g : Guard} (hd : g.die = die)
    (ht : g.tag = tag) : ({ s with guards := s.guards ++ [g] } : State).guardOf die tag = some g := by
  unfold guardOf at h ⊢
  dsimp only
  rw [List.find?_append, h]
  simp [hd, ht]

/-- Deposited in the entry that was opened last, an entry takes its place. -/
theorem map_deposit {s : State} {die tag : Nat} (h : s.guardOf die tag = none) {g : Guard} (g' : Guard) (hd : g.die = die)
    (ht : g.tag = tag) :
    (s.guards ++ [g]).map (fun x => if x.die = die ∧ x.tag = tag then g' else x) = s.guards ++ [g'] := by
  have hkeep : s.guards.map (fun x => if x.die = die ∧ x.tag = tag then g' else x) = s.guards := by
    refine (List.map_congr_left fun x hx => ?_).trans (List.map_id _)
    exact if_neg (guardOf_eq_none.1 h x hx)
  rw [List.map_append, hkeep]
  simp [hd, ht]

/-- No entry of the tag is left, and nothing but entries and packets has changed. -/
theorem guardOf_closeGuard (s : State) (die tag : Nat) : (s.closeGuard die tag).guardOf die tag = none := by
  rw [guardOf_eq_none]
  intro g hg
  simpa only [Bool.not_eq_true', Bool.and_eq_false_iff, beq_eq_false_iff_ne, not_and_or] using (List.mem_filter.1 hg).2

/-! ### Entries that fail -/

/-- An entry that fails is freed without its signal, with ERR_SIG_GUARD, and the step is voided (R221, R238). -/
theorem guardErr_closeGuard (s : State) (die tag : Nat) (g : Guard) (count : Nat) :
    let u := (s.closeGuard die tag).guardErr g count
    u.guardOf die tag = none ∧ u.flights = s.flights ∧ u.rd .SIG_STATUS_VOIDED = 1 ∧
      u.flag .SIG_ERR_STATUS_GUARD = true ∧ u.mem = s.mem ∧ answer s u = .next u := by
  intro u
  have hrest : u.noRec = (s.closeGuard die tag).noRec := noRec_report _ _
  have hguards : u.guards = (s.closeGuard die tag).guards := by have h := congrArg State.guards hrest; exact h
  have hflights := congrArg State.flights hrest
  have hmem := congrArg State.mem hrest
  have hpend := congrArg State.pending hrest
  have hfuse := congrArg State.fuses hrest
  refine ⟨?_, hflights, rd_report_voided _ _, flag_report _ _ (show 4 < 0x80 by decide) (f := .SIG_ERR_STATUS_GUARD) rfl rfl, hmem,
    answer_eq hpend hfuse⟩
  unfold guardOf
  rw [hguards]
  exact guardOf_closeGuard s die tag

/-! ### Packets that arrive -/

section

variable {s : State} {k : Packet}

theorem exec_guardPacketArrive (h : k.port < 32) : exec (.guardPacketArrive k) s = answer s (s.takePacket k.arriving) :=
  answerIf_true (decide_eq_true h)

/-- A packet of a tag that has an entry is counted in it. -/
theorem takePacket_known {g : Guard} (h : s.guardOf (s.portDie k.port) k.tag = some g) : s.takePacket k = s.addPacket k := by
  unfold takePacket
  simp [h]

theorem takePacket_held (h : s.guardOf (s.portDie k.port) k.tag = none)
    (hf : 256 ≤ (s.guards.filter fun g => g.die == s.portDie k.port).length) :
    s.takePacket k = { s with heldPackets := s.heldPackets ++ [k] } := by
  unfold takePacket
  simp [h, hf]

theorem takePacket_opens (h : s.guardOf (s.portDie k.port) k.tag = none)
    (hr : (s.guards.filter fun g => g.die == s.portDie k.port).length < 256) : s.takePacket k =
      ({ s with guards := s.guards ++ [⟨s.portDie k.port, k.tag, k.count, 0, none⟩] } : State).addPacket k := by
  unfold takePacket
  simp [h, Nat.not_le.2 hr]

/-- A COUNT that is not the entry's fails the entry (R221). -/
theorem addPacket_misfit {g : Guard} (h : s.guardOf (s.portDie k.port) k.tag = some g) (hc : k.count ≠ g.count) :
    s.addPacket k = (s.closeGuard (s.portDie k.port) k.tag).guardErr g k.count := by
  unfold addPacket
  simp [h, hc]

/-- The entries with a packet's signal word deposited in its own. -/
def deposit (s : State) (k : Packet) (g : Guard) : State :=
  { s with guards := s.guards.map fun x => if x.die = s.portDie k.port ∧ x.tag = k.tag then
      (if k.last then { g with sig := some k.sig } else g) else x }

/-- A packet that fits its entry is written, and waits to be verified (R220). -/
theorem addPacket_fits {g : Guard} {v : State} {k' : Packet} (h : s.guardOf (s.portDie k.port) k.tag = some g)
    (hc : k.count = g.count)
    (hr : g.written + (s.packets.filter fun x => s.portDie x.port == s.portDie k.port && x.tag == k.tag).length < g.count)
    (hs : (s.deposit k g).storePacket k = (v, k')) (hm : mirrorFailed k' = false) :
    s.addPacket k = { v with packets := v.packets ++ [k'] } := by
  have hno : ¬(k.count ≠ g.count ∨
      g.count < g.written + (s.packets.filter fun x => s.portDie x.port == s.portDie k.port && x.tag == k.tag).length + 1) := by
    omega
  unfold deposit at hs
  unfold addPacket
  dsimp only
  rw [h]
  dsimp only
  rw [if_neg hno, hs]
  dsimp only
  rw [hm]
  rfl

/-- A packet whose data can be written now is written (R220). -/
theorem storePacket_writes {v : State} (hs : s.stalled k.addr k.data.length = false) (hc : k.cls ≠ cMirror)
    (hw : s.writeSpan { num := 0, waiterKind := 3, waiter := bits k.tag 31 22 } k.addr k.data = (v, none)) :
    s.storePacket k = (v, { k with stored := true, waits := false, failed := false }) := by
  unfold storePacket
  simp [hs, hc, hw]

/-- The state in which the data of a tag's first packet are written: its entry is open. -/
def withEntry (s : State) (k : Packet) : State := { s with guards := s.guards ++ [k.entry (s.portDie k.port)] }

/-- The first packet of a tag leaves its entry and its data, and waits to be verified (R220). -/
theorem takePacket_first {v : State} (h : s.guardOf (s.portDie k.port) k.tag = none)
    (hr : (s.guards.filter fun g => g.die == s.portDie k.port).length < 256) (hpos : 0 < k.count)
    (hp : ∀ x ∈ s.packets, ¬(s.portDie x.port = s.portDie k.port ∧ x.tag = k.tag)) (hc : k.cls ≠ cMirror)
    (hs : s.stalled k.addr k.data.length = false)
    (hw : (s.withEntry k).writeSpan { num := 0, waiterKind := 3, waiter := bits k.tag 31 22 } k.addr k.data = (v, none)) :
    s.takePacket k = { v with packets := v.packets ++ [{ k with stored := true, waits := false, failed := false }] } := by
  have hopen := guardOf_append h (g := ⟨s.portDie k.port, k.tag, k.count, 0, none⟩) rfl rfl
  have hnone : (s.packets.filter fun x => s.portDie x.port == s.portDie k.port && x.tag == k.tag) = [] := by
    rw [List.filter_eq_nil_iff]
    intro x hx
    simpa using hp x hx
  have hdeposit : ({ s with guards := s.guards ++ [⟨s.portDie k.port, k.tag, k.count, 0, none⟩] } : State).deposit k
      ⟨s.portDie k.port, k.tag, k.count, 0, none⟩ = s.withEntry k := by
    have hentry : (if k.last = true then { (⟨s.portDie k.port, k.tag, k.count, 0, none⟩ : Guard) with sig := some k.sig }
        else ⟨s.portDie k.port, k.tag, k.count, 0, none⟩) = k.entry (s.portDie k.port) := by
      unfold Packet.entry
      split <;> rfl
    have hmap := map_deposit h (k.entry (s.portDie k.port)) (g := ⟨s.portDie k.port, k.tag, k.count, 0, none⟩) rfl rfl
    unfold deposit withEntry
    rw [hentry, ← hmap]
    rfl
  have hstore := storePacket_writes (s := s.withEntry k) hs hc hw
  rw [takePacket_opens h hr]
  refine addPacket_fits hopen rfl ?_ (hdeposit ▸ hstore) ?_
  · show 0 + (s.packets.filter fun x => s.portDie x.port == s.portDie k.port && x.tag == k.tag).length < k.count
    rw [hnone]
    exact hpos
  · rfl

end

/-! ### Held packets -/

theorem takeHeld_none {s : State} (h : ∀ k ∈ s.heldPackets, s.packetFits k = false) : s.takeHeld = s := by
  have hf : s.heldPackets.find? s.packetFits = none := List.find?_eq_none.2 fun k hk => by simp [h k hk]
  unfold takeHeld
  rw [hf]

theorem takeHeld_some {s : State} {k : Packet} (h : s.heldPackets.find? s.packetFits = some k) :
    s.takeHeld = ({ s with heldPackets := removeFirst s.packetFits s.heldPackets } : State).takePacket k := by
  unfold takeHeld
  rw [h]

/-! ### Packets counted, and the signal word applied -/

/-- With one entry, that of a packet counted in it. -/
theorem map_counted (g : Guard) :
    [g].map (fun x => if x.die = g.die ∧ x.tag = g.tag then { x with written := x.written + 1 } else x) =
    [{ g with written := g.written + 1 }] := by simp

section

variable {s : State} {k : Packet} {g : Guard} {i : Nat}

/-- The state in which packet `i` has been counted in the one entry there is (R220). -/
def oneMore (s : State) (i : Nat) (g : Guard) : State :=
  { s with packets := s.packets.eraseIdx i, guards := [{ g with written := g.written + 1 }] }

/-- A packet written and verified is counted, and its entry settled (R220). -/
theorem packetWritten_counts (hi : s.packets[i]? = some k) (hs : k.stored = true) (hv : k.verified = true)
    (hw : k.waits = false) (hf : k.failed = false) (hg : s.guards = [g]) (hd : s.portDie k.port = g.die) (ht : k.tag = g.tag) :
    s.packetWritten i = (s.oneMore i g).settleGuard g.die g.tag := by
  have hmap := map_counted g
  have hset : (s.packets.set i k).eraseIdx i = s.packets.eraseIdx i := List.eraseIdx_set_eq
  unfold packetWritten oneMore
  rw [hi]
  dsimp only
  rw [hw]
  simp only [Bool.false_eq_true, if_false, mirrorFailed, hf, Bool.false_and, hs, hv, Bool.and_self, Bool.not_true, hset, hg]
  rw [← hmap, ← hd, ← ht]

theorem guardOf_oneMore : (s.oneMore i g).guardOf g.die g.tag = some { g with written := g.written + 1 } := by
  simp [guardOf, oneMore]

theorem settleGuard_oneMore_waits (h : g.sig = none ∨ g.written + 1 ≠ g.count) :
    (s.oneMore i g).settleGuard g.die g.tag = s.oneMore i g := by
  unfold settleGuard
  rw [guardOf_oneMore]
  dsimp only
  rcases h with h | h
  · rw [h]
  · split
    · rfl
    · exact if_neg h

theorem settleGuard_oneMore_applies {w : Nat} (hw : g.sig = some w) (h : g.written + 1 = g.count) :
    (s.oneMore i g).settleGuard g.die g.tag = ((s.oneMore i g).closeGuard g.die g.tag).postHere w (.guard g.tag) := by
  unfold settleGuard
  rw [guardOf_oneMore]
  dsimp only
  rw [hw]
  exact if_pos h

theorem guards_closeGuard_oneMore : ((s.oneMore i g).closeGuard g.die g.tag).guards = [] := by
  simp [closeGuard, oneMore]

end

theorem kept_of_noTraffic {s u : State} (h : u.noTraffic = s.noTraffic) : u.pending = s.pending ∧ u.fuses = s.fuses := by
  have hpend := congrArg State.pending h
  have hfuse := congrArg State.fuses h
  exact ⟨hpend, hfuse⟩

theorem noTraffic_postHere (s : State) (w : Nat) (src : SigSrc) : (s.postHere w src).noTraffic = s.noTraffic := by
  unfold postHere
  split
  · exact noTraffic_report _ _
  · exact noTraffic_launch _ _

/-! ### The limit of an entry -/

theorem exec_guardTimeout {s : State} {die : Nat} (h : s.hasDie die = true) (tag : Nat) :
    exec (.guardTimeout die tag) s = answer s (s.guardTimeout die tag) := answerIf_true h

theorem guardTimeout_some {s : State} {die tag : Nat} {g : Guard} (h : s.guardOf die tag = some g) :
    s.guardTimeout die tag = (s.closeGuard die tag).guardErr g 0 := by
  unfold guardTimeout
  rw [h]

end State

end Sys2Proof.Machine

namespace Sys2Proof

open Machine Machine.State Claims

section

variable {s : State} {k : Packet}

/-- The first packet of a tag that finds room in the die's table opens an entry and is written (R220). -/
theorem firstPacketOpens {v : State} (hp : k.port < 32) (hno : s.guardOf (s.portDie k.port) k.tag = none)
    (hroom : (s.guards.filter fun g => g.die == s.portDie k.port).length < 256) (hpos : 0 < k.count)
    (hfirst : ∀ x ∈ s.packets, ¬(s.portDie x.port = s.portDie k.port ∧ x.tag = k.tag)) (hc : k.cls ≠ cMirror)
    (hs : s.stalled k.addr k.data.length = false)
    (hw : (s.withEntry k).writeSpan { num := 0, waiterKind := 3, waiter := bits k.tag 31 22 } k.addr k.data = (v, none)) :
    ∃ u, exec (.guardPacketArrive k) s = .next u ∧
      u.guardOf (s.portDie k.port) k.tag = some (k.entry (s.portDie k.port)) ∧ u.mem = v.mem ∧
      u.packets = v.packets ++ [{ k with stored := true, verified := false, waits := false, failed := false }] := by
  have hrest : v.noData = (s.withEntry k).noData := by
    have h := noData_writeSpan (s.withEntry k) { num := 0, waiterKind := 3, waiter := bits k.tag 31 22 } k.addr k.data
    rwa [hw] at h
  have hguards : v.guards = (s.withEntry k).guards := by have h := congrArg State.guards hrest; exact h
  have hpend : v.pending = s.pending := by have h := congrArg State.pending hrest; exact h
  have hfuse : v.fuses = s.fuses := by have h := congrArg State.fuses hrest; exact h
  have htake := takePacket_first (k := k.arriving) hno hroom hpos hfirst hc hs hw
  have hfound := guardOf_append hno (g := k.entry (s.portDie k.port)) rfl rfl
  rw [exec_guardPacketArrive hp, htake]
  refine ⟨_, answer_eq hpend hfuse, ?_, rfl, rfl⟩
  unfold guardOf at hfound ⊢
  dsimp only
  rw [hguards]
  exact hfound

/-- A packet of a new tag is held while the die's table is full (R221). -/
theorem packetHeld (hp : k.port < 32) (hno : s.guardOf (s.portDie k.port) k.tag = none)
    (hfull : 256 ≤ (s.guards.filter fun g => g.die == s.portDie k.port).length) :
    exec (.guardPacketArrive k) s = .next { s with heldPackets := s.heldPackets ++ [k.arriving] } := by
  rw [exec_guardPacketArrive hp, takePacket_held (k := k.arriving) hno hfull]
  rfl

/-- A packet of another COUNT fails its entry (R221). -/
theorem misfitFails {g : Guard} (hp : k.port < 32) (hg : s.guardOf (s.portDie k.port) k.tag = some g) (hne : k.count ≠ g.count) :
    exec (.guardPacketArrive k) s = answer s ((s.closeGuard (s.portDie k.port) k.tag).guardErr g k.count) := by
  rw [exec_guardPacketArrive hp, takePacket_known (k := k.arriving) hg, addPacket_misfit (k := k.arriving) hg hne]
  rfl

/-- The first held packet that can be taken arrives (R221). -/
theorem heldPacketTaken (hk : s.heldPackets.find? s.packetFits = some k) (hp : k.port < 32) (hs : k.stored = false)
    (hv : k.verified = false) (hw : k.waits = false) (hf : k.failed = false) : exec .guardHeldPacketAccept s =
      exec (.guardPacketArrive k) { s with heldPackets := removeFirst s.packetFits s.heldPackets } := by
  have hself := Packet.arriving_self hs hv hw hf
  have htake := takeHeld_some hk
  rw [exec_guardPacketArrive hp, hself, ← htake]
  rfl

/-- A packet written and verified counts in its entry (R220). -/
theorem packetCounted {g : Guard} {i : Nat} (hi : s.packets[i]? = some k) (hs : k.stored = true) (hv : k.verified = true)
    (hw : k.waits = false) (hf : k.failed = false) (hg : s.guards = [g]) (hd : s.portDie k.port = g.die) (ht : k.tag = g.tag) :
    exec (.guardPacketWritten i) s = answer s ((s.oneMore i g).settleGuard g.die g.tag) :=
  congrArg (answer s) (packetWritten_counts hi hs hv hw hf hg hd ht)

theorem answer_oneMore (s : State) (i : Nat) (g : Guard) : answer s (s.oneMore i g) = .next (s.oneMore i g) := rfl

/-- Posting a word keeps the queue of commands and the fuses. -/
theorem answer_postHere {s u : State} (w : Nat) (src : SigSrc) (hp : u.pending = s.pending) (hf : u.fuses = s.fuses) :
    answer s (u.postHere w src) = .next (u.postHere w src) :=
  have hkept := kept_of_noTraffic (noTraffic_postHere u w src)
  answer_eq (hkept.1.trans hp) (hkept.2.trans hf)

end

/-- Settles O29: a packet opens its entry, is held, or fails an entry that it does not fit; a counted packet leaves its entry
waiting or lets its signal word be applied. -/
theorem guardedTransfers : Obligations.GuardedTransfers := by
  unfold Obligations.GuardedTransfers
  intro s
  refine ⟨fun k hp => ⟨fun v hno hroom hpos hfirst hc hs hw => firstPacketOpens hp hno hroom hpos hfirst hc hs hw,
      fun hno hfull => packetHeld hp hno hfull, fun g hg hne => ?_⟩,
    fun h => ?_, fun k hk hp hs hv hw hf => heldPacketTaken hk hp hs hv hw hf,
    fun i k g hi hs hv hw hf hg hd ht => ⟨fun h => ?_, fun w hsig hall => ?_⟩,
    fun die tag g hd hg => ?_⟩
  · obtain ⟨hnone, hflights, hvoid, hbit, hmem, hnext⟩ := guardErr_closeGuard s (s.portDie k.port) k.tag g k.count
    exact ⟨_, (misfitFails hp hg hne).trans hnext, hnone, hflights, hvoid, hbit, hmem⟩
  · exact (congrArg (answer s) (takeHeld_none h)).trans (answer_self s)
  · refine ⟨s.oneMore i g, ?_, rfl, rfl, rfl⟩
    rw [packetCounted hi hs hv hw hf hg hd ht, settleGuard_oneMore_waits h, answer_oneMore]
  · refine ⟨_, (s.oneMore i g).closeGuard g.die g.tag, ?_, guards_closeGuard_oneMore, rfl, rfl, rfl⟩
    rw [packetCounted hi hs hv hw hf hg hd ht, settleGuard_oneMore_applies hsig hall]
    exact answer_postHere w _ rfl rfl
  · obtain ⟨hnone, hflights, hvoid, hbit, -, hnext⟩ := guardErr_closeGuard s die tag g 0
    rw [exec_guardTimeout hd, guardTimeout_some hg]
    exact ⟨_, hnext, hnone, hflights, hvoid, hbit⟩

end Sys2Proof

/-! SUPPORT. Messages of the SIGNAL class: their way to what the barriers do, and each message judged and applied (R218, R223 to
R230). -/
namespace Sys2Proof.Machine.State

open Sys2Proof.Claims

/-! ### From the command to the message -/

/-- The types of the SIGNAL class that are not the tide's (R229). -/
def signalType (ws : List Nat) : Prop := Msg.type ws = 0x10 ∨ Msg.type ws = 0x11 ∨ Msg.type ws = 0x12

/-- The command of such a message. -/
def messageInstr (ws : List Nat) : Instr :=
  if Msg.type ws = 0x10 then .signal ws else if Msg.type ws = 0x11 then .barArriveMsg ws else .barReleaseMsg ws

section

variable {s : State} {ws : List Nat}

theorem exec_messageInstr (h : signalType ws) : exec (messageInstr ws) s = answer s (s.takeMessage ws) := by
  unfold messageInstr
  rcases h with h | h | h
  · have hsig : s.signalMessage ws = s.takeMessage ws := by unfold signalMessage; simp [h]
    rw [if_pos h]
    exact congrArg (answer s) hsig
  · rw [if_neg (by omega), if_pos h]
    exact congrArg (answer s) (if_pos h)
  · rw [if_neg (by omega), if_neg (by omega)]
    exact congrArg (answer s) (if_pos h)

theorem messageTypes_of_signalType (h : signalType ws) : messageTypes.contains (Msg.type ws) = true := by
  rcases h with h | h | h <;> rw [h] <;> decide

theorem takeMessage_wrong (hc : Msg.checkOk ws = false) : s.takeMessage ws = s.badMessage ws :=
  if_pos (.inl (by simp [hc]))

theorem takeMessage_sound (ht : signalType ws) (hc : Msg.checkOk ws = true) : s.takeMessage ws =
    if Msg.dest ws ≠ s.pkn then s.sendMessage (Msg.dest ws) ws
    else if Msg.tidemark ws = (s.tidemark + 1) % 2 ^ 64 ∧ 64 ≤ s.holdQueue.length then s
    else s.barDo (.message ws) := by
  unfold takeMessage
  rw [if_neg (by simp only [hc, messageTypes_of_signalType ht]; decide)]

theorem takeMessage_elsewhere (ht : signalType ws) (hc : Msg.checkOk ws = true) (hd : Msg.dest ws ≠ s.pkn) :
    s.takeMessage ws = s.sendMessage (Msg.dest ws) ws := by
  rw [takeMessage_sound ht hc, if_pos hd]

/-- A message for this package is judged, unless it is one of the next step that finds the hold queue full (R230). -/
theorem takeMessage_here (ht : signalType ws) (hc : Msg.checkOk ws = true) (hd : Msg.dest ws = s.pkn)
    (hn : Msg.tidemark ws = (s.tidemark + 1) % 2 ^ 64 → s.holdQueue.length < 64) :
    s.takeMessage ws = s.barDo (.message ws) := by
  rw [takeMessage_sound ht hc, if_neg (not_not.2 hd), if_neg fun h => Nat.not_le.2 (hn h.1) h.2]

end

theorem answer_barErr (s : State) (b kind who gen : Nat) :
    ∃ u, answer s (s.barErr b kind who gen) = .next u ∧ reports s u 0x0A 5 0xFFFF true :=
  ⟨_, next_of_noTideRec (noTideRec_report s _), _, rfl, rfl, rfl, rfl, rfl⟩

/-! ### What the barriers do with it -/

/-- The barriers have at least three things in hand before they stop. -/
theorem barDo_eq (s : State) (e : BarEvent) : s.barDo e = s.barRun (16 * s.holdQueue.length + 29 + 3) [e] := by
  unfold barDo
  congr 1

theorem barRun_nil (s : State) (n : Nat) : s.barRun n [] = s := by cases n <;> rfl

theorem barRun_cons {s u : State} {n : Nat} {e : BarEvent} {more es : List BarEvent} (h : s.barHandle e = (u, more)) :
    s.barRun (n + 1) (e :: es) = u.barRun n (more ++ es) := by
  rw [barRun, h]

/-- A thing done that nothing follows from. -/
theorem barDo_one {s u : State} {e : BarEvent} (h : s.barHandle e = (u, [])) : s.barDo e = u := by
  rw [barDo_eq, barRun_cons h]
  exact barRun_nil u _

/-- A thing from which one other follows. -/
theorem barDo_two {s u v : State} {e e' : BarEvent} (h : s.barHandle e = (u, [e'])) (h' : u.barHandle e' = (v, [])) :
    s.barDo e = v := by
  rw [barDo_eq, barRun_cons h, List.append_nil, barRun_cons h']
  exact barRun_nil v _

/-! ### Messages judged -/

section

variable {s : State} {ws : List Nat}

/-- The tidemark of the next step is another one, whatever the tidemark holds. -/
theorem tidemark_ne_next (s : State) : s.tidemark ≠ (s.tidemark + 1) % 2 ^ 64 := by omega

theorem judgeMessage_now (ht : Msg.tidemark ws = s.tidemark) (ha : Msg.attempt ws = s.attempt) :
    s.judgeMessage ws = s.applyMessage ws := by
  unfold judgeMessage
  rw [if_pos ht, if_pos ha]

theorem judgeMessage_stale (ht : Msg.tidemark ws = s.tidemark) (ha : Msg.attempt ws ≠ s.attempt) :
    s.judgeMessage ws = (s.bump .SIG_STALE_COUNT 0 0 1, []) := by
  unfold judgeMessage
  rw [if_pos ht, if_neg ha]

theorem judgeMessage_next (ht : Msg.tidemark ws = (s.tidemark + 1) % 2 ^ 64) :
    s.judgeMessage ws = ({ s with holdQueue := s.holdQueue ++ [ws] }, []) := by
  unfold judgeMessage
  rw [if_neg fun e => tidemark_ne_next s (e.symm.trans ht), if_pos ht]

theorem judgeMessage_other (ht : Msg.tidemark ws ≠ s.tidemark) (hn : Msg.tidemark ws ≠ (s.tidemark + 1) % 2 ^ 64) :
    s.judgeMessage ws = (s.badMessage ws, []) := by
  unfold judgeMessage
  rw [if_neg ht, if_neg hn]

theorem applyMessage_signal (h : Msg.type ws = 0x10) :
    s.applyMessage ws = (s.post (hw ws 1) none (.message (Msg.src ws)), []) := if_pos h

theorem applyMessage_arrive (h : Msg.type ws = 0x11) : s.applyMessage ws =
    (s, [.arrival (Msg.barrier ws) (Msg.src ws) (bits (hw ws 1) 31 0) (hasBit (hw ws 1) 32)]) := by
  unfold applyMessage
  rw [if_neg (by omega), if_pos h]

theorem applyMessage_release (h : Msg.type ws = 0x12) : s.applyMessage ws =
    if s.barValid (Msg.barrier ws) = true then (s, [.release (Msg.barrier ws) (hasBit (hw ws 1) 32)])
    else (s.barErr (Msg.barrier ws) 3 (Msg.src ws) (bits (hw ws 1) 31 0), []) := by
  unfold applyMessage
  rw [if_neg (by omega), if_neg (by omega)]
  cases s.barValid (Msg.barrier ws) <;> rfl

/-! ### Arrivals at the root -/

/-- May package `src` arrive at barrier `b` here, with that GEN (R227)? -/
def isMember (s : State) (b src gen : Nat) : Prop :=
  s.barValid b = true ∧ s.pkn = s.barRoot b ∧ s.barRoot b ≤ src ∧ src < s.barRoot b + s.barPkgs b ∧ gen = s.barGen b

theorem barArrival_refused {b src gen : Nat} (err : Bool) (h : ¬s.isMember b src gen) :
    s.barArrival b src gen err = (s.barErr b 3 src gen, []) := by
  have hcond : !s.barValid b ∨ s.pkn ≠ s.barRoot b ∨ src < s.barRoot b ∨ s.barRoot b + s.barPkgs b ≤ src ∨
      gen ≠ s.barGen b := by
    unfold isMember at h
    rw [Bool.not_eq_true']
    by_contra hno
    simp only [not_or, Bool.not_eq_false, not_not, not_lt, not_le] at hno
    exact h hno
  exact if_pos hcond

/-- A barrier object with one more member arrived (R225). -/
def memberArrived (s : State) (b src : Nat) (err : Bool) : BarPhase :=
  { s.bar b with mask := setBit (s.bar b).mask (src - s.barRoot b), flag := (s.bar b).flag || err }

theorem barArrival_counts {b src gen : Nat} (err : Bool) (h : s.isMember b src gen)
    (hm : setBit (s.bar b).mask (src - s.barRoot b) ≠ 2 ^ s.barPkgs b - 1) :
    s.barArrival b src gen err = (s.setBar b (s.memberArrived b src err), []) := by
  obtain ⟨hv, hp, hlo, hhi, hg⟩ := h
  have hcond : ¬(!s.barValid b ∨ s.pkn ≠ s.barRoot b ∨ src < s.barRoot b ∨ s.barRoot b + s.barPkgs b ≤ src ∨
      gen ≠ s.barGen b) := by
    simp only [hv, hp, hg, not_or, not_lt, not_le]
    exact ⟨by decide, not_not.2 rfl, hlo, hhi, not_not.2 rfl⟩
  unfold barArrival
  dsimp only
  rw [if_neg hcond, if_neg hm]
  rfl

end

/-! ### Releases -/

/-- A barrier object released, before the sense goes to the tiles (R225). -/
def released (s : State) (b : Nat) (flag : Bool) : State :=
  let u := (s.wr .SIG_BAR_STATE_LAST_ERR 0 b (b2n flag)).wr .SIG_BAR_STATE_SENSE 0 b (1 - s.rd .SIG_BAR_STATE_SENSE 0 b)
  (((u.count .SIG_BAR_STATE_GEN 0 b 1).wr .SIG_BAR_STATE_ARRIVED 0 b 0).wr .SIG_BAR_STATE_ERR 0 b 0).setBar b BarPhase.init

/-- The fields of a barrier object that has been released. -/
def releasedFields (s : State) (b : Nat) (flag : Bool) : List (Fd × Nat × Nat × Nat) :=
  [(.SIG_BAR_STATE_LAST_ERR, 0, b, b2n flag), (.SIG_BAR_STATE_SENSE, 0, b, 1 - s.rd .SIG_BAR_STATE_SENSE 0 b),
   (.SIG_BAR_STATE_GEN, 0, b, s.barGen b + 1), (.SIG_BAR_STATE_ARRIVED, 0, b, 0), (.SIG_BAR_STATE_ERR, 0, b, 0)]

theorem rd_setBar (s : State) (b : Nat) (y : BarPhase) (f : Fd) (i x : Nat) : (s.setBar b y).rd f i x = s.rd f i x := rfl

theorem noRegs_setBar {s u : State} {b : Nat} {y : BarPhase} (h : u.noRegs = s.noRegs) :
    (u.setBar b y).noRegs = (s.setBar b y).noRegs := by
  have h := congrArg (fun v : State => v.setBar b y) h
  exact h

section

variable (s : State) (b : Nat) (flag : Bool)

theorem puts_released : puts s (s.released b flag) (s.releasedFields b flag) := by
  have hgen : ((s.wr .SIG_BAR_STATE_LAST_ERR 0 b (b2n flag)).wr .SIG_BAR_STATE_SENSE 0 b
      (1 - s.rd .SIG_BAR_STATE_SENSE 0 b)).rd .SIG_BAR_STATE_GEN 0 b = s.barGen b := by
    rw [rd_wr_ne _ _ (by decide) (by simp), rd_wr_ne _ _ (by decide) (by simp)]
    rfl
  have h := puts_wr (puts_wr (puts_wr (puts_wr (puts_wr (puts_nil s)
    (f := .SIG_BAR_STATE_LAST_ERR) 0 b (b2n flag) (by decide))
    (f := .SIG_BAR_STATE_SENSE) 0 b (1 - s.rd .SIG_BAR_STATE_SENSE 0 b) (by decide))
    (f := .SIG_BAR_STATE_GEN) 0 b (s.barGen b + 1) (by decide))
    (f := .SIG_BAR_STATE_ARRIVED) 0 b 0 (by decide)) (f := .SIG_BAR_STATE_ERR) 0 b 0 (by decide)
  refine puts_of_rd (puts_of_perm h ?_) fun f i x => ?_
  · simpa [releasedFields, cut] using List.reverse_perm ((s.releasedFields b flag).map cut)
  · unfold released count
    dsimp only
    rw [hgen, rd_setBar]

theorem rd_released {f : Fd} (i x : Nat) (hf : f.spec.reg ≠ .SIG_BAR_STATE) : (s.released b flag).rd f i x = s.rd f i x := by
  have hreg : ∀ w ∈ s.releasedFields b flag, w.1.spec.reg = .SIG_BAR_STATE := by
    simp only [releasedFields, List.forall_mem_cons]
    exact ⟨rfl, rfl, rfl, rfl, rfl, by simp⟩
  refine (puts_released s b flag).2 f i x fun w hw he => hf ?_
  have hfd : f = w.1 := congrArg Prod.fst he
  rw [hfd, hreg w hw]

end

section

variable {s : State} {b : Nat} {flag : Bool}

theorem barRelease_plain (hs : (s.released b flag).barStep b = false) (hr : b ≠ ((s.released b flag).broadcast b).replayBar) :
    s.barRelease b flag = ((s.released b flag).broadcast b, []) := by
  unfold released at hs hr ⊢
  unfold barRelease
  dsimp only at hs hr ⊢
  exact (if_neg (by simp [hs])).trans (if_neg hr)

theorem barRelease_step {v : State} {es : List BarEvent} (hs : (s.released b flag).barStep b = true)
    (h : (s.released b flag).stepRelease flag = (v, false, es)) : s.barRelease b flag = (v.broadcast b, es) := by
  unfold released at hs h
  unfold barRelease
  dsimp only at hs h ⊢
  refine (if_pos hs).trans ?_
  rw [h]
  rfl

/-- Nothing but registers and the phase of the barrier has changed before the sense goes to the tiles. -/
theorem noRegs_released (s : State) (b : Nat) (flag : Bool) : (s.released b flag).noRegs = (s.setBar b BarPhase.init).noRegs := by
  unfold released count
  dsimp only
  refine noRegs_setBar ?_
  simp only [noRegs_wr]

theorem bar_setBar_self (s : State) (b : Nat) (x : BarPhase) : (s.setBar b x).bar b = x := SMap.get_set_self _ _ _ _

theorem bar_released (s : State) (b : Nat) (flag : Bool) : (s.released b flag).bar b = BarPhase.init := bar_setBar_self _ b _

theorem ctx_released (s : State) (b : Nat) (flag : Bool) (t c : Nat) : (s.released b flag).ctx t c = s.ctx t c := by
  have h := congrArg (fun v : State => v.ctx t c) (noRegs_released s b flag)
  exact h

theorem sense_released (h : s.rd .SIG_BAR_STATE_SENSE 0 b < 2) :
    (s.released b flag).rd .SIG_BAR_STATE_SENSE 0 b = 1 - s.rd .SIG_BAR_STATE_SENSE 0 b := by
  have hput := (puts_released s b flag).1 (.SIG_BAR_STATE_SENSE, 0, b, 1 - s.rd .SIG_BAR_STATE_SENSE 0 b)
    (by simp [releasedFields])
  exact hput.trans (Nat.mod_eq_of_lt (show 1 - s.rd .SIG_BAR_STATE_SENSE 0 b < 2 by omega))

theorem gen_released (s : State) (b : Nat) (flag : Bool) : (s.released b flag).barGen b = (s.barGen b + 1) % 2 ^ 32 :=
  (puts_released s b flag).1 (.SIG_BAR_STATE_GEN, 0, b, s.barGen b + 1) (by simp [releasedFields])

theorem barStep_released (s : State) (b : Nat) (flag : Bool) : (s.released b flag).barStep b = s.barStep b :=
  congrArg (· != 0) (rd_released s b flag 0 b (by decide))

/-! ### The sense to the tiles -/

/-- A broadcast leaves the queue of commands, the fuses and the barrier objects. -/
theorem kept_broadcast (u : State) (b : Nat) :
    (u.broadcast b).pending = u.pending ∧ (u.broadcast b).fuses = u.fuses ∧ (u.broadcast b).bar b = u.bar b := by
  have h := noCtx_broadcast u b
  have hpend := congrArg State.pending h
  have hfuse := congrArg State.fuses h
  have hbar := congrArg (fun v : State => v.bar b) h
  exact ⟨hpend, hfuse, hbar⟩

/-- A released barrier's sense stands in every tile's copy once it has been broadcast (R225). -/
theorem tileSense_broadcast_of {u : State} {v : Nat} (h : u.rd .SIG_BAR_STATE_SENSE 0 b = v) (hv : v < 2) (t : Nat) :
    (u.broadcast b).tileSense t b = v := by
  rw [tileSense_broadcast, h]
  exact Nat.mod_eq_of_lt hv

/-! ### A barrier that is no step barrier -/

theorem barRelease_other (hs : s.barStep b = false) (hr : b ≠ s.replayBar) :
    s.barRelease b flag = ((s.released b flag).broadcast b, []) := by
  refine barRelease_plain ((barStep_released s b flag).trans hs) ?_
  have hreplay : ((s.released b flag).broadcast b).replayBar = s.replayBar :=
    (rd_broadcast _ b _ 0 0).trans (rd_released s b flag 0 0 (by decide))
  rw [hreplay]
  exact hr

/-! ### The step barrier with flag 1 -/

/-- The state of the package after a release with flag 1 that no sequencer takes up (R226). -/
def stepVoided (s : State) : State := (s.wr .SIG_STATUS_STEP_VOID 0 0 1).bump .GLB_VOID_COUNT_COUNT 0 0 1

theorem stepRelease_void {u : State} (hs : u.stepVoided.seqState = 0) (ha : u.stepVoided.seqArmed = false) :
    u.stepRelease true = (u.stepVoided, false, []) := by
  unfold stepVoided at hs ha ⊢
  unfold stepRelease
  dsimp only
  rw [if_neg (by decide), if_pos ⟨hs, by simp [ha]⟩]

theorem puts_stepVoided (s : State) (b : Nat) (flag : Bool) : puts s (s.released b flag).stepVoided
    ([(.SIG_STATUS_STEP_VOID, 0, 0, 1), (.GLB_VOID_COUNT_COUNT, 0, 0,
      min (s.rd .GLB_VOID_COUNT_COUNT + 1) (2 ^ Fd.GLB_VOID_COUNT_COUNT.width - 1))] ++ s.releasedFields b flag) := by
  have hcount : ((s.released b flag).wr .SIG_STATUS_STEP_VOID 0 0 1).rd .GLB_VOID_COUNT_COUNT = s.rd .GLB_VOID_COUNT_COUNT := by
    rw [rd_wr_out _ _ _ _ _ _ (by decide) (by decide)]
    exact rd_released s b flag 0 0 (by decide)
  have h := puts_wr (puts_wr (puts_released s b flag) (f := .SIG_STATUS_STEP_VOID) 0 0 1 (by decide))
    (f := .GLB_VOID_COUNT_COUNT) 0 0 (satNat Fd.GLB_VOID_COUNT_COUNT.width (s.rd .GLB_VOID_COUNT_COUNT + 1)) (by decide)
  unfold stepVoided bump
  rw [hcount]
  refine puts_of_perm h ?_
  simp [releasedFields, cut, satNat, List.Perm.swap]

/-- The registers that say whether the sequencer acts (R374). -/
theorem seqArmed_congr {u : State}
    (h : ∀ f i x, f.spec.reg ∈ [Reg.HST_STATUS, .GLB_VOID_CTRL, .SIG_BAR_CFG] → u.rd f i x = s.rd f i x) :
    u.seqArmed = s.seqArmed := by
  have hjob : u.jobState = s.jobState := h _ _ _ (by decide)
  have hstep : u.stepBar = s.stepBar := h _ _ _ (by decide)
  have hreplay : u.replayBar = s.replayBar := h _ _ _ (by decide)
  have hroot : ∀ c, u.barRoot c = s.barRoot c := fun c => h _ _ _ (by decide)
  have hpkgs : ∀ c, u.barPkgs c = s.barPkgs c := fun c => h _ _ _ (by decide)
  have hflag : ∀ f i x, f.spec.reg ∈ [Reg.HST_STATUS, .GLB_VOID_CTRL, .SIG_BAR_CFG] → u.flag f i x = s.flag f i x :=
    fun f i x hf => congrArg (· != 0) (h f i x hf)
  have hen : u.flag .GLB_VOID_CTRL_EN = s.flag .GLB_VOID_CTRL_EN := hflag _ _ _ (by decide)
  have hvalid : ∀ c, u.barValid c = s.barValid c := fun c => hflag _ _ _ (by decide)
  have hkind : ∀ c, u.barStep c = s.barStep c := fun c => hflag _ _ _ (by decide)
  unfold seqArmed
  rw [hjob, hstep, hreplay, hen]
  simp only [hvalid, hkind, hroot, hpkgs]

/-- A release writes no register of the sequencer's state and conditions. -/
theorem rd_stepVoided (s : State) (b : Nat) (flag : Bool) (f : Fd) (i x : Nat)
    (hf : f.spec.reg ∉ [Reg.SIG_BAR_STATE, .SIG_STATUS, .GLB_VOID_COUNT]) :
    (s.released b flag).stepVoided.rd f i x = s.rd f i x := by
  simp only [List.mem_cons, List.not_mem_nil, or_false, not_or] at hf
  unfold stepVoided bump
  rw [rd_wr_out _ _ _ _ _ _ hf.2.2 (by decide), rd_wr_out _ _ _ _ _ _ hf.2.1 (by decide)]
  exact rd_released s b flag i x hf.1

theorem kept_stepVoided (u : State) : u.stepVoided.pending = u.pending ∧ u.stepVoided.fuses = u.fuses := ⟨rfl, rfl⟩

theorem sense_stepVoided (h : s.rd .SIG_BAR_STATE_SENSE 0 b < 2) :
    (s.released b flag).stepVoided.rd .SIG_BAR_STATE_SENSE 0 b = 1 - s.rd .SIG_BAR_STATE_SENSE 0 b := by
  have hput := (puts_stepVoided s b flag).1 (.SIG_BAR_STATE_SENSE, 0, b, 1 - s.rd .SIG_BAR_STATE_SENSE 0 b)
    (by simp [releasedFields])
  exact hput.trans (Nat.mod_eq_of_lt (show 1 - s.rd .SIG_BAR_STATE_SENSE 0 b < 2 by omega))

theorem barRelease_void (hs : s.barStep b = true) (hq : s.seqState = 0) (ha : s.seqArmed = false) :
    s.barRelease b true = ((s.released b true).stepVoided.broadcast b, []) := by
  refine barRelease_step ((barStep_released s b true).trans hs) (stepRelease_void ?_ ?_)
  · exact (rd_stepVoided s b true _ _ _ (by decide)).trans hq
  · refine (seqArmed_congr fun f i x hf => rd_stepVoided s b true f i x ?_).trans ha
    intro h
    simp only [List.mem_cons, List.not_mem_nil, or_false] at hf h
    rcases hf with e | e | e <;> rw [e] at h <;> revert h <;> decide

end

/-! ### The next step begins -/

/-- Without what the begin of a step changes where no guard entry, no message and no unit is held (R21, R39, R226, R377, R378). -/
def noStep (s : State) : State :=
  { s with regs := [], tctxs := [], dcache := [], entry := [], packets := [], nonces := [], xferSeqs := [] }

/-- The registers of the tide engines that the begin of a step writes. -/
def walkerRegs : List Reg := [.TIDE_WANT, .TIDE_SD_MARKS, .TIDE_SD_WANT_MARK, .TIDE_SD_INJ]

/-- `u` differs from `s` in what the begin of a step changes, and there in the registers `rs` alone. -/
abbrev Begins (rs : List Reg) : State → State → Prop := Keeps noStep fun f => f.spec.reg ∈ rs

/-- No segment is held for the next step. -/
def noneHeld (s : State) : Prop := ∀ d c, (s.tctx d c).held = []

theorem begins_wr {rs : List Reg} (s : State) {f : Fd} (i x v : Nat) (hf : f.spec.reg ∈ rs) (hr : f ≠ .GLB_TILE_RANK_ORDER) :
    Begins rs s (s.wr f i x v) := .wr i x v rfl hf hr

theorem begins_setTctx {rs : List Reg} (s : State) (d c : Nat) (y : TideCtx) : Begins rs s (s.setTctx d c y) :=
  .of_rd rfl (rd_setTctx s d c y)

section

variable {rs : List Reg} {s u : State}

theorem Keeps.guards (h : Begins rs s u) : u.guards = s.guards := by have h := congrArg State.guards h.rest; exact h

theorem Keeps.messages (h : Begins rs s u) : u.holdQueue = s.holdQueue := by
  have h := congrArg State.holdQueue h.rest
  exact h

theorem Keeps.link (h : Begins rs s u) (p : Nat) : u.link p = s.link p := by
  have h := congrArg (fun v : State => v.link p) h.rest
  exact h

end

/-- The want table and the directory caches emptied. -/
def wantsGone (s : State) : State :=
  { s with dcache := [], regs := SMap.drop s.regs fun k => k.a == Fd.TIDE_WANT_WANT.ctorIdx }

theorem begins_wantsGone (s : State) : Begins walkerRegs s s.wantsGone :=
  ⟨rfl, fun _ i x hf => rd_clearTide s 0 i x fun e => hf (by rw [e]; decide)⟩

/-- The attempt counts of the four engines at 0. -/
def attemptsZero (s : State) : State := (List.range 4).foldl (fun s d => s.wr .TIDE_ATTEMPT_ATTEMPT d 0 0) s

theorem begins_attemptsZero (s : State) : Begins [.TIDE_ATTEMPT] s s.attemptsZero :=
  .foldl (fun u d => begins_wr u d 0 0 (by decide) (by decide)) _ s

theorem attempt_attemptsZero (s : State) : s.attemptsZero.attempt = 0 := by
  refine foldl_of_mem (fun (u : State) d => u.rd .TIDE_ATTEMPT_ATTEMPT d = 0) (fun u d => ?_) (fun u a b h => ?_)
    (List.mem_range.2 (show 0 < 4 by decide)) s
  · exact rd_wr_self u _ d 0 0
  · rw [rd_wr _ _ _ _ _ _ _ _ (by decide), h]
    exact ite_self _

theorem begins_newStepCtx (s : State) (d c : Nat) : Begins walkerRegs s (s.newStepCtx d c) := by
  unfold newStepCtx
  dsimp only
  exact ((((begins_setTctx s d c _).trans (begins_wr _ d c _ (by decide) (by decide))).trans
    (begins_wr _ d c _ (by decide) (by decide))).trans (begins_wr _ d c _ (by decide) (by decide))).trans
    (begins_wr _ d c _ (by decide) (by decide))

/-- The contexts keep what they hold for the step until it has begun (R52). -/
theorem noneHeld_newStepCtx {s : State} (h : s.noneHeld) (d c : Nat) : (s.newStepCtx d c).noneHeld := by
  intro d' c'
  have ht : (s.newStepCtx d c).tctx d' c' =
      (s.setTctx d c { TideCtx.init with held := (s.tctx d c).held }).tctx d' c' := rfl
  rw [ht, tctx_setTctx]
  split
  · exact h d c
  · exact h d' c'

theorem rejudgeSegments_none {s : State} (h : s.noneHeld) (d c : Nat) :
    s.rejudgeSegments d c = s.setTctx d c { s.tctx d c with held := [] } := by
  unfold rejudgeSegments
  dsimp only
  rw [h d c]
  rfl

/-- With nothing held, judging the segments held again changes contexts alone. -/
theorem begins_rejudge {rs : List Reg} (l : List (Nat × Nat)) {s : State} (h : s.noneHeld) :
    Begins rs s (l.foldl (fun s x => s.rejudgeSegments x.1 x.2) s) := by
  induction l generalizing s with
  | nil => exact .refl s
  | cons x l ih =>
    rw [List.foldl_cons, rejudgeSegments_none h]
    refine (begins_setTctx s x.1 x.2 _).trans (ih fun d c => ?_)
    rw [tctx_setTctx]
    split
    · rfl
    · exact h d c

theorem noneHeld_foldl (l : List (Nat × Nat)) {s : State} (h : s.noneHeld) :
    (l.foldl (fun s x => s.newStepCtx x.1 x.2) s).noneHeld := by
  induction l generalizing s with
  | nil => exact h
  | cons x l ih => exact ih (noneHeld_newStepCtx h x.1 x.2)

theorem tideNewStep_eq (s : State) : s.tideNewStep = tideAll.foldl (fun s x => s.rejudgeSegments x.1 x.2)
    (tideAll.foldl (fun s x => s.newStepCtx x.1 x.2) s.wantsGone.attemptsZero) := rfl

theorem tctx_attemptsZero (s : State) (d c : Nat) : s.attemptsZero.tctx d c = s.tctx d c :=
  foldl_keeps (f := fun (u : State) e => u.wr .TIDE_ATTEMPT_ATTEMPT e 0 0) (fun u : State => u.tctx d c) (fun _ _ => rfl) _ s

theorem begins_walkers (l : List (Nat × Nat)) (s : State) :
    Begins walkerRegs s (l.foldl (fun s x => s.newStepCtx x.1 x.2) s) := by
  have hone : ∀ (u : State) (x : Nat × Nat), Begins walkerRegs u (u.newStepCtx x.1 x.2) :=
    fun u x => begins_newStepCtx u x.1 x.2
  exact .foldl hone l s

theorem begins_tideNewStep {s : State} (h : s.noneHeld) :
    Begins walkerRegs s.wantsGone.attemptsZero s.tideNewStep := by
  have hheld : s.wantsGone.attemptsZero.noneHeld := fun d c => by
    rw [tctx_attemptsZero]
    exact h d c
  rw [tideNewStep_eq]
  exact (begins_walkers tideAll _).trans (begins_rejudge tideAll (noneHeld_foldl tideAll hheld))

/-! ### Held units -/

theorem judgeHeld_none {s : State} (h : ∀ p, (s.link p).held = []) : s.judgeHeld = s := by
  unfold judgeHeld
  generalize List.range 32 = l
  induction l with
  | nil => rfl
  | cons p l ih =>
    rw [List.foldl_cons, h p]
    exact ih

theorem failGuards_none {s : State} (h : s.guards = []) : s.failGuards = { s with packets := [] } := by
  unfold failGuards
  dsimp only
  rw [h]
  rfl

/-- What was held for the step that has begun, judged: guard entries, nonces and units (R222, R281, R282). -/
def heldJudged (s : State) : State := s.failGuards.restartNonces.judgeHeld

/-- The messages held are taken from the hold queue (R230). -/
def queueTaken (s : State) : State := { s with holdQueue := [] }

/-- With nothing held, what is judged is nothing. -/
theorem heldJudged_none {s : State} (hg : s.guards = []) (hl : ∀ p, (s.link p).held = []) :
    s.heldJudged = ({ s with packets := [] } : State).restartNonces := by
  unfold heldJudged
  rw [failGuards_none hg]
  exact judgeHeld_none hl

theorem begins_heldJudged {rs : List Reg} {s : State} (hg : s.guards = []) (hl : ∀ p, (s.link p).held = []) :
    Begins rs s s.heldJudged := by
  rw [heldJudged_none hg hl]
  exact .of_rd rfl fun _ _ _ => rfl

theorem queueTaken_self {s : State} (hq : s.holdQueue = []) : s.queueTaken = s := by
  cases s
  cases hq
  rfl

/-! ### The step barrier with flag 0 -/

/-- The state of the package whose tidemark has moved on, before its tide engines follow (R21, R377, R378). -/
def tidemarkOn (s : State) : State := ((s.count .SIG_TIDEMARK_TIDEMARK 0 0 1).setAttempt 0).takeEntry

theorem begins_setAttempt {rs : List Reg} (s : State) (v : Nat) (h : .TIDE_ATTEMPT ∈ rs) : Begins rs s (s.setAttempt v) :=
  .foldl (fun u d => begins_wr u d 0 v h (by decide)) _ s

theorem begins_takeEntry {rs : List Reg} (s : State) : Begins rs s s.takeEntry := .of_rd rfl fun _ _ _ => rfl

theorem begins_tidemarkOn (s : State) : Begins [.SIG_TIDEMARK, .TIDE_ATTEMPT] s s.tidemarkOn := by
  have hcount : Begins [.SIG_TIDEMARK, .TIDE_ATTEMPT] s (s.count .SIG_TIDEMARK_TIDEMARK 0 0 1) :=
    begins_wr s 0 0 _ (by decide) (by decide)
  unfold tidemarkOn
  exact (hcount.trans (begins_setAttempt _ 0 (by decide))).trans (begins_takeEntry _)

theorem tidemark_tidemarkOn (s : State) : s.tidemarkOn.tidemark = (s.tidemark + 1) % 2 ^ 64 := by
  have hrest : Begins [.TIDE_ATTEMPT] (s.count .SIG_TIDEMARK_TIDEMARK 0 0 1) s.tidemarkOn := by
    unfold tidemarkOn
    exact (begins_setAttempt _ 0 (by decide)).trans (begins_takeEntry _)
  have hkeep := hrest.rd .SIG_TIDEMARK_TIDEMARK 0 0 (by decide)
  have hself := rd_wr_self s .SIG_TIDEMARK_TIDEMARK 0 0 (s.tidemark + 1)
  exact hkeep.trans hself

theorem tctx_setAttempt (s : State) (v d c : Nat) : (s.setAttempt v).tctx d c = s.tctx d c :=
  foldl_keeps (f := fun (u : State) e => u.wr .TIDE_ATTEMPT_ATTEMPT e 0 v) (fun u : State => u.tctx d c) (fun _ _ => rfl) _ s

theorem tctx_takeEntry (s : State) (d c : Nat) : s.takeEntry.tctx d c = s.tctx d c := rfl

theorem tctx_tidemarkOn (s : State) (d c : Nat) : s.tidemarkOn.tctx d c = s.tctx d c := by
  unfold tidemarkOn count
  rw [tctx_takeEntry, tctx_setAttempt, tctx_wr]

/-- Nothing is held for the next step: no segment, unit, message or guarded transfer. -/
structure NothingHeld (s : State) : Prop where
  segments : s.noneHeld
  units : ∀ p, (s.link p).held = []
  messages : s.holdQueue = []
  guards : s.guards = []

/-- The registers that the begin of a step writes. -/
def stepRegs : List Reg := [.SIG_TIDEMARK, .TIDE_ATTEMPT] ++ walkerRegs

theorem newStep_eq (s : State) : s.newStep = (s.tidemarkOn.tideNewStep.heldJudged.queueTaken,
    s.tidemarkOn.tideNewStep.heldJudged.holdQueue.map .message) := rfl

/-- A step that begins with nothing held: the tidemark is the next, the attempt is 0, and nothing follows (R21, R39, R377). -/
theorem newStep_begins {s : State} (h : s.NothingHeld) : ∃ v, s.newStep = (v, []) ∧ Begins stepRegs s v ∧
    v.tidemark = (s.tidemark + 1) % 2 ^ 64 ∧ v.attempt = 0 := by
  have hon := begins_tidemarkOn s
  have htide : Begins walkerRegs s.tidemarkOn.wantsGone.attemptsZero s.tidemarkOn.tideNewStep :=
    begins_tideNewStep fun d c => by rw [tctx_tidemarkOn]; exact h.segments d c
  have hsub : ∀ {rs : List Reg} {u v : State}, (∀ r ∈ rs, r ∈ stepRegs) → Begins rs u v → Begins stepRegs u v :=
    fun hr hb => hb.mono fun f hf => hr _ hf
  have hzero : Begins stepRegs s.tidemarkOn s.tidemarkOn.wantsGone.attemptsZero :=
    (hsub (by decide) (begins_wantsGone _)).trans (hsub (by decide) (begins_attemptsZero _))
  have hall : Begins stepRegs s s.tidemarkOn.tideNewStep :=
    ((hsub (by decide) hon).trans hzero).trans (hsub (by decide) htide)
  have hjudged : Begins [] s.tidemarkOn.tideNewStep s.tidemarkOn.tideNewStep.heldJudged :=
    begins_heldJudged (hall.guards.trans h.guards) fun p => (congrArg Link.held (hall.link p)).trans (h.units p)
  have hqueue := (hjudged.messages.trans hall.messages).trans h.messages
  refine ⟨s.tidemarkOn.tideNewStep.heldJudged, ?_, hall.trans (hsub (by decide) hjudged), ?_, ?_⟩
  · rw [newStep_eq, queueTaken_self hqueue, hqueue]
    rfl
  · calc s.tidemarkOn.tideNewStep.heldJudged.tidemark = s.tidemarkOn.tideNewStep.tidemark := hjudged.rd _ _ _ (by decide)
      _ = s.tidemarkOn.wantsGone.attemptsZero.tidemark := htide.rd _ _ _ (by decide)
      _ = s.tidemarkOn.wantsGone.tidemark := (begins_attemptsZero _).rd _ _ _ (by decide)
      _ = s.tidemarkOn.tidemark := (begins_wantsGone _).rd _ _ _ (by decide)
      _ = (s.tidemark + 1) % 2 ^ 64 := tidemark_tidemarkOn s
  · calc s.tidemarkOn.tideNewStep.heldJudged.attempt = s.tidemarkOn.tideNewStep.attempt := hjudged.rd _ _ _ (by decide)
      _ = s.tidemarkOn.wantsGone.attemptsZero.attempt := htide.rd _ _ _ (by decide)
      _ = 0 := attempt_attemptsZero _

/-- A release with flag 0 that does not halt the package goes to the tiles (R225, R384). -/
theorem stepRelease_next {s v : State} (h : s.newStep = (v, [])) (hh : v.flag .GLB_HALT_CTRL_EN = false) (hq : v.seqState = 0) :
    s.stepRelease false = (v, false, []) := by
  have hhalt : v.haltHere = false := by
    unfold haltHere
    rw [hh]
    rfl
  have hidle : (v.seqState != vIdle) = false := by rw [hq]; rfl
  have harrive : ¬v.seqState = vArrive := by rw [hq]; decide
  unfold stepRelease
  rw [if_pos (by decide), h]
  dsimp only
  rw [hhalt]
  simp only [Bool.false_eq_true, if_false, hidle, Bool.or_self, if_neg harrive, List.append_nil]

theorem NothingHeld.of_noRegs {s u : State} (h : s.NothingHeld) (hr : u.noRegs = s.noRegs) : u.NothingHeld := by
  have hsegments := fun d c => congrArg (fun v : State => (v.tctx d c).held) hr
  have hunits := fun p => congrArg (fun v : State => (v.link p).held) hr
  have hmessages := congrArg State.holdQueue hr
  have hguards := congrArg State.guards hr
  exact ⟨fun d c => (hsegments d c).trans (h.segments d c), fun p => (hunits p).trans (h.units p), hmessages.trans h.messages,
    hguards.trans h.guards⟩

theorem nothingHeld_setBar {s : State} (h : s.NothingHeld) (b : Nat) (x : BarPhase) : (s.setBar b x).NothingHeld :=
  ⟨h.segments, h.units, h.messages, h.guards⟩

theorem nothingHeld_released {s : State} (h : s.NothingHeld) (b : Nat) (flag : Bool) : (s.released b flag).NothingHeld :=
  (nothingHeld_setBar h b BarPhase.init).of_noRegs (noRegs_released s b flag)

theorem Keeps.kept {rs : List Reg} {s u : State} (h : Begins rs s u) : u.pending = s.pending ∧ u.fuses = s.fuses := by
  have hpend := congrArg State.pending h.rest
  have hfuse := congrArg State.fuses h.rest
  exact ⟨hpend, hfuse⟩

theorem kept_of_noRegs {s u : State} (hr : u.noRegs = s.noRegs) : u.pending = s.pending ∧ u.fuses = s.fuses := by
  have hpend := congrArg State.pending hr
  have hfuse := congrArg State.fuses hr
  exact ⟨hpend, hfuse⟩

theorem kept_released (s : State) (b : Nat) (flag : Bool) :
    (s.released b flag).pending = s.pending ∧ (s.released b flag).fuses = s.fuses :=
  kept_of_noRegs (u := s.released b flag) (s := s.setBar b BarPhase.init) (noRegs_released s b flag)

/-- The step barrier released with flag 0, with nothing held for the next step: it begins, and the sense goes to the tiles (R21,
R225, R377). -/
theorem barRelease_next {s : State} {b : Nat} (hs : s.barStep b = true) (hq : s.seqState = 0)
    (hh : s.flag .GLB_HALT_CTRL_EN = false) (h : s.NothingHeld) :
    ∃ v, s.barRelease b false = (v.broadcast b, []) ∧ Begins stepRegs (s.released b false) v ∧
      v.tidemark = (s.tidemark + 1) % 2 ^ 64 ∧ v.attempt = 0 := by
  obtain ⟨v, hv, hbegins, htide, hattempt⟩ := newStep_begins (nothingHeld_released h b false)
  have htm : (s.released b false).tidemark = s.tidemark := rd_released s b false 0 0 (by decide)
  have hkeep : ∀ {f : Fd} (i x : Nat), f.spec.reg ∉ .SIG_BAR_STATE :: stepRegs → v.rd f i x = s.rd f i x := fun i x hf => by
    obtain ⟨hbar, hstep⟩ := not_or.1 (List.mem_cons.not.1 hf)
    exact (hbegins.rd _ i x hstep).trans (rd_released s b false i x hbar)
  have hen : v.flag .GLB_HALT_CTRL_EN = false := (congrArg (· != 0) (hkeep 0 0 (by decide))).trans hh
  have hidle : v.seqState = 0 := (hkeep 0 0 (by decide)).trans hq
  exact ⟨v, barRelease_step ((barStep_released s b false).trans hs) (stepRelease_next hv hen hidle), hbegins, htm ▸ htide, hattempt⟩

end Sys2Proof.Machine.State

namespace Sys2Proof

open Machine Machine.State Claims

section

variable {s : State} {ws : List Nat}

theorem exec_wrong (ht : signalType ws) (hc : Msg.checkOk ws = false) :
    ∃ u, exec (messageInstr ws) s = .next u ∧ reports s u 0x0A 6 0xFFFF true := by
  rw [exec_messageInstr ht, takeMessage_wrong hc]
  exact answer_badMessage s ws

/-- A message for another package goes on, or is wrong where no route takes it (R218). -/
theorem exec_elsewhere (ht : signalType ws) (hc : Msg.checkOk ws = true) (hd : Msg.dest ws ≠ s.pkn) :
    exec (messageInstr ws) s = .next (s.sendMessage (Msg.dest ws) ws) := by
  have hkept := kept_of_noTraffic (noTraffic_sendMessage s (Msg.dest ws) ws .nobody)
  rw [exec_messageInstr ht, takeMessage_elsewhere ht hc hd]
  exact answer_eq hkept.1 hkept.2

/-- A message for this package that is judged alone. -/
theorem exec_judged {u : State} (ht : signalType ws) (hc : Msg.checkOk ws = true) (hd : Msg.dest ws = s.pkn)
    (hn : Msg.tidemark ws = (s.tidemark + 1) % 2 ^ 64 → s.holdQueue.length < 64) (hj : s.judgeMessage ws = (u, [])) :
    exec (messageInstr ws) s = answer s u := by
  rw [exec_messageInstr ht, takeMessage_here ht hc hd hn, barDo_one (e := .message ws) hj]

/-- A message of this step and attempt, and the one thing that follows from it. -/
theorem exec_now {u : State} {e : BarEvent} (ht : signalType ws) (hc : Msg.checkOk ws = true) (hd : Msg.dest ws = s.pkn)
    (htm : Msg.tidemark ws = s.tidemark) (ha : Msg.attempt ws = s.attempt) (h : s.applyMessage ws = (s, [e]))
    (he : s.barHandle e = (u, [])) : exec (messageInstr ws) s = answer s u := by
  have hj : s.barHandle (.message ws) = (s, [e]) := (judgeMessage_now htm ha).trans h
  rw [exec_messageInstr ht, takeMessage_here ht hc hd fun hn => absurd (htm.symm.trans hn) (tidemark_ne_next s),
    barDo_two hj he]

end

section

variable {s : State} {ws : List Nat} (ht : signalType ws) (hc : Msg.checkOk ws = true) (hd : Msg.dest ws = s.pkn)

include ht hc hd

/-- A message of this step and another attempt is counted as stale (R230). -/
theorem exec_stale (htm : Msg.tidemark ws = s.tidemark) (ha : Msg.attempt ws ≠ s.attempt) :
    ∃ u, exec (messageInstr ws) s = .next u ∧
      onlyPuts s u [(.SIG_STALE_COUNT, 0, 0, min (s.rd .SIG_STALE_COUNT + 1) (2 ^ 32 - 1))] := by
  have hput := onlyPuts_bump s (f := .SIG_STALE_COUNT) 0 0 (by decide) rfl
  have hj := judgeMessage_stale htm ha
  exact ⟨_, (exec_judged ht hc hd (fun hn => absurd (htm.symm.trans hn) (tidemark_ne_next s)) hj).trans
    (answer_of_onlyPuts hput), hput⟩

/-- A message of the next step is held (R230). -/
theorem exec_early (htm : Msg.tidemark ws = (s.tidemark + 1) % 2 ^ 64) (hroom : s.holdQueue.length < 64) :
    exec (messageInstr ws) s = .next { s with holdQueue := s.holdQueue ++ [ws] } :=
  exec_judged ht hc hd (fun _ => hroom) (judgeMessage_next htm)

/-- A message of any other step is wrong (R230). -/
theorem exec_otherStep (htm : Msg.tidemark ws ≠ s.tidemark) (hn : Msg.tidemark ws ≠ (s.tidemark + 1) % 2 ^ 64) :
    ∃ u, exec (messageInstr ws) s = .next u ∧ reports s u 0x0A 6 0xFFFF true := by
  rw [exec_judged ht hc hd (fun h => absurd h hn) (judgeMessage_other htm hn)]
  exact answer_badMessage s ws

end

section

variable {s : State} {ws : List Nat} (hc : Msg.checkOk ws = true) (hd : Msg.dest ws = s.pkn)
  (htm : Msg.tidemark ws = s.tidemark) (ha : Msg.attempt ws = s.attempt)

include hc hd htm ha

/-- A SIGNAL posts its word (R218). -/
theorem exec_signal (ht : Msg.type ws = 0x10) :
    exec (messageInstr ws) s = .next (s.post (hw ws 1) none (.message (Msg.src ws))) := by
  have hkept := kept_of_noTraffic (noTraffic_post s (hw ws 1) none (.message (Msg.src ws)))
  have hj := (judgeMessage_now htm ha).trans (applyMessage_signal ht)
  rw [exec_judged (.inl ht) hc hd (fun hn => absurd (htm.symm.trans hn) (tidemark_ne_next s)) hj]
  exact answer_eq hkept.1 hkept.2

/-- A BAR_ARRIVE that R227 refuses is ERR_SIG_BARRIER. -/
theorem exec_arrive_refused (ht : Msg.type ws = 0x11)
    (hm : ¬s.isMember (Msg.barrier ws) (Msg.src ws) (bits (hw ws 1) 31 0)) :
    ∃ u, exec (messageInstr ws) s = .next u ∧ reports s u 0x0A 5 0xFFFF true := by
  rw [exec_now (.inr (.inl ht)) hc hd htm ha (applyMessage_arrive ht) (barArrival_refused _ hm)]
  exact answer_barErr s _ _ _ _

/-- A BAR_ARRIVE that does not complete the mask is counted in it (R225). -/
theorem exec_arrive_counts (ht : Msg.type ws = 0x11)
    (hm : s.isMember (Msg.barrier ws) (Msg.src ws) (bits (hw ws 1) 31 0))
    (hmask : setBit (s.bar (Msg.barrier ws)).mask (Msg.src ws - s.barRoot (Msg.barrier ws)) ≠
      2 ^ s.barPkgs (Msg.barrier ws) - 1) :
    exec (messageInstr ws) s =
      .next (s.setBar (Msg.barrier ws) (s.memberArrived (Msg.barrier ws) (Msg.src ws) (hasBit (hw ws 1) 32))) :=
  exec_now (.inr (.inl ht)) hc hd htm ha (applyMessage_arrive ht) (barArrival_counts _ hm hmask)

end

section

variable {s : State} {ws : List Nat} (ht : Msg.type ws = 0x12) (hc : Msg.checkOk ws = true) (hd : Msg.dest ws = s.pkn)
  (htm : Msg.tidemark ws = s.tidemark) (ha : Msg.attempt ws = s.attempt)

include ht hc hd htm ha

/-- A release for a barrier that is not valid is ERR_SIG_BARRIER (R227). -/
theorem exec_release_invalid (hv : s.barValid (Msg.barrier ws) = false) :
    ∃ u, exec (messageInstr ws) s = .next u ∧ reports s u 0x0A 5 0xFFFF true := by
  have hj : s.judgeMessage ws = (s.barErr (Msg.barrier ws) 3 (Msg.src ws) (bits (hw ws 1) 31 0), []) := by
    rw [judgeMessage_now htm ha, applyMessage_release ht, if_neg (by simp [hv])]
  rw [exec_judged (.inr (.inr ht)) hc hd (fun hn => absurd (htm.symm.trans hn) (tidemark_ne_next s)) hj]
  exact answer_barErr s _ _ _ _

/-- The release of a valid barrier ends in the broadcast of its sense (R225). -/
theorem exec_release {u : State} (hv : s.barValid (Msg.barrier ws) = true)
    (hr : s.barRelease (Msg.barrier ws) (hasBit (hw ws 1) 32) = (u.broadcast (Msg.barrier ws), []))
    (hp : u.pending = s.pending) (hf : u.fuses = s.fuses) :
    exec (messageInstr ws) s = .next (u.broadcast (Msg.barrier ws)) := by
  have happly : s.applyMessage ws = (s, [.release (Msg.barrier ws) (hasBit (hw ws 1) 32)]) := by
    rw [applyMessage_release ht, if_pos hv]
  obtain ⟨hpend, hfuse, -⟩ := kept_broadcast u (Msg.barrier ws)
  rw [exec_now (.inr (.inr ht)) hc hd htm ha happly hr]
  exact answer_eq (hpend.trans hp) (hfuse.trans hf)

section

variable (hv : s.barValid (Msg.barrier ws) = true) (hsense : s.rd .SIG_BAR_STATE_SENSE 0 (Msg.barrier ws) < 2)

include hv hsense

/-- A barrier that is neither a step barrier nor the replay barrier is released, and those that wait for its sense are served
(R224, R225). -/
theorem exec_release_other (hs : s.barStep (Msg.barrier ws) = false) (hb : Msg.barrier ws ≠ s.replayBar) :
    ∃ u, exec (messageInstr ws) s = .next u ∧ puts s u (s.releasedFields (Msg.barrier ws) (hasBit (hw ws 1) 32)) ∧
      u.bar (Msg.barrier ws) = BarPhase.init ∧
      (∀ t, u.tileSense t (Msg.barrier ws) = 1 - s.rd .SIG_BAR_STATE_SENSE 0 (Msg.barrier ws)) ∧
      ∀ t x y, (s.ctx t x).wait = .barrier (Msg.barrier ws) (1 - s.rd .SIG_BAR_STATE_SENSE 0 (Msg.barrier ws)) y →
        (u.ctx t x).wait = .served 0 0 := by
  obtain ⟨hpend, hfuse⟩ := kept_released s (Msg.barrier ws) (hasBit (hw ws 1) 32)
  have hone := sense_released (flag := hasBit (hw ws 1) 32) hsense
  have hbar := (kept_broadcast (s.released (Msg.barrier ws) (hasBit (hw ws 1) 32)) (Msg.barrier ws)).2.2
  have hlt : 1 - s.rd .SIG_BAR_STATE_SENSE 0 (Msg.barrier ws) < 2 := by omega
  refine ⟨_, exec_release ht hc hd htm ha hv (barRelease_other hs hb) hpend hfuse,
    puts_of_rd (puts_released s _ _) (rd_broadcast _ _), hbar.trans (bar_released s _ _), tileSense_broadcast_of hone hlt,
    fun t x y hw => ?_⟩
  refine broadcast_served (y := y) ?_
  rw [ctx_released, hone, Nat.mod_eq_of_lt hlt]
  exact hw

/-- The step barrier released with flag 1, where no sequencer takes it up (R226). -/
theorem exec_release_void (hs : s.barStep (Msg.barrier ws) = true) (hf : hasBit (hw ws 1) 32 = true) (hq : s.seqState = 0)
    (harm : s.seqArmed = false) :
    ∃ u, exec (messageInstr ws) s = .next u ∧
      puts s u ([(.SIG_STATUS_STEP_VOID, 0, 0, 1), (.GLB_VOID_COUNT_COUNT, 0, 0,
        min (s.rd .GLB_VOID_COUNT_COUNT + 1) (2 ^ Fd.GLB_VOID_COUNT_COUNT.width - 1))] ++
        s.releasedFields (Msg.barrier ws) (hasBit (hw ws 1) 32)) ∧
      ∀ t, u.tileSense t (Msg.barrier ws) = 1 - s.rd .SIG_BAR_STATE_SENSE 0 (Msg.barrier ws) := by
  obtain ⟨hpend, hfuse⟩ := kept_released s (Msg.barrier ws) true
  obtain ⟨hpend', hfuse'⟩ := kept_stepVoided (s.released (Msg.barrier ws) true)
  have hrel := barRelease_void hs hq harm
  rw [← hf] at hrel hpend hpend' hfuse hfuse'
  exact ⟨_, exec_release ht hc hd htm ha hv hrel (hpend'.trans hpend) (hfuse'.trans hfuse),
    puts_of_rd (puts_stepVoided s _ _) (rd_broadcast _ _), tileSense_broadcast_of (sense_stepVoided hsense) (by omega)⟩

/-- The step barrier released with flag 0, with nothing held for the next step: it begins (R21, R225, R377). -/
theorem exec_release_next (hs : s.barStep (Msg.barrier ws) = true) (hf : hasBit (hw ws 1) 32 = false) (hq : s.seqState = 0)
    (hh : s.flag .GLB_HALT_CTRL_EN = false) (hnone : s.NothingHeld) :
    ∃ u, exec (messageInstr ws) s = .next u ∧ u.tidemark = (s.tidemark + 1) % 2 ^ 64 ∧ u.attempt = 0 ∧
      u.barGen (Msg.barrier ws) = (s.barGen (Msg.barrier ws) + 1) % 2 ^ 32 ∧
      u.rd .SIG_BAR_STATE_SENSE 0 (Msg.barrier ws) = 1 - s.rd .SIG_BAR_STATE_SENSE 0 (Msg.barrier ws) ∧
      ∀ t, u.tileSense t (Msg.barrier ws) = 1 - s.rd .SIG_BAR_STATE_SENSE 0 (Msg.barrier ws) := by
  obtain ⟨v, hrel, hbegins, htide, hattempt⟩ := barRelease_next hs hq hh hnone
  obtain ⟨hpend, hfuse⟩ := kept_released s (Msg.barrier ws) false
  obtain ⟨hpend', hfuse'⟩ := Keeps.kept hbegins
  have hone : v.rd .SIG_BAR_STATE_SENSE 0 (Msg.barrier ws) = 1 - s.rd .SIG_BAR_STATE_SENSE 0 (Msg.barrier ws) :=
    (hbegins.rd _ _ _ (by decide)).trans (sense_released hsense)
  have hgen : v.barGen (Msg.barrier ws) = (s.barGen (Msg.barrier ws) + 1) % 2 ^ 32 :=
    (hbegins.rd _ _ _ (by decide)).trans (gen_released s _ false)
  have hkeep := rd_broadcast v (Msg.barrier ws)
  rw [← hf] at hrel
  exact ⟨_, exec_release ht hc hd htm ha hv hrel (hpend'.trans hpend) (hfuse'.trans hfuse), (hkeep _ _ _).trans htide,
    (hkeep _ _ _).trans hattempt, (hkeep _ _ _).trans hgen, (hkeep _ _ _).trans hone, tileSense_broadcast_of hone (by omega)⟩

end

end

/-- Settles O27: a message is wrong, goes on, or is judged; what it does here is the rule of its type, and a release ends in the
broadcast of the sense. -/
theorem barrierMessages : Obligations.BarrierMessages := by
  unfold Obligations.BarrierMessages
  intro s ws ht
  refine ⟨fun hc => exec_wrong ht hc, fun hc hd hr => ?_, fun hc hd hr => ?_,
    fun ⟨hc, hd⟩ htm ha => exec_stale ht hc hd htm ha,
    fun ⟨hc, hd⟩ hlt htm hroom => exec_early ht hc hd (by omega) hroom,
    fun ⟨hc, hd⟩ htm hn => exec_otherStep ht hc hd htm hn,
    fun ⟨⟨hc, hd⟩, htm, ha⟩ hty => exec_signal hc hd htm ha hty,
    fun ⟨⟨hc, hd⟩, htm, ha⟩ hty => ⟨fun hm => exec_arrive_refused hc hd htm ha hty hm,
      fun hm hmask => exec_arrive_counts hc hd htm ha hty hm hmask⟩,
    fun ⟨⟨hc, hd⟩, htm, ha⟩ hty => ⟨fun hv => exec_release_invalid hty hc hd htm ha hv,
      fun hv hs hb hsense => exec_release_other hty hc hd htm ha hv hsense hs hb,
      fun hv hs hf hq harm hsense => exec_release_void hty hc hd htm ha hv hsense hs hf hq harm,
      fun hv hs hf hq hh hqueue hg hsense hseg hunit =>
        exec_release_next hty hc hd htm ha hv hsense hs hf hq hh ⟨hseg, hunit, hqueue, hg⟩⟩⟩
  · refine (exec_elsewhere ht hc hd).trans ?_
    unfold sendMessage
    rw [if_pos hr]
  · refine ⟨_, exec_elsewhere ht hc hd, ?_⟩
    unfold sendMessage
    rw [if_neg (by simp [hr])]
    exact ⟨_, rfl, rfl, rfl, rfl, rfl⟩

end Sys2Proof
